-- ==== Sys2Proof/Word.lean ====
section
/-! DEFINITION. Word types of the SG6416 model and their plainest arithmetic (00 Numbers and units, R4). -/

namespace Sys2Proof

abbrev Byte := BitVec 8
abbrev W16 := BitVec 16
abbrev W24 := BitVec 24
abbrev W32 := BitVec 32
abbrev W48 := BitVec 48
abbrev W64 := BitVec 64

/-- A byte string: an octet string of R4, a Parax payload, a frame. -/
abbrev Bytes := List Byte

/-- Bits in line order. -/
abbrev Bits := List Bool

/-- The saturating increment of a counter held as a bit vector. -/
def satAdd {w : Nat} (a : BitVec w) (n : Nat) : BitVec w :=
  if a.toNat + n < 2 ^ w then a + BitVec.ofNat w n else BitVec.allOnes w

/-- The wrapping increment of a counter by a natural number. -/
def wrapAdd {w : Nat} (a : BitVec w) (n : Nat) : BitVec w := a + BitVec.ofNat w n

/-- A flag as a byte. -/
def boolByte (b : Bool) : Byte := if b then 1 else 0

end Sys2Proof
end

