-- ==== Sys2Proof/Types.lean ====
section
/-! DEFINITION. Records that the commands carry as operands: frames, measurements and images (their rules are
cited at each). They are data of the outside world (the line, the host switch, the analogue stages). -/

namespace Sys2Proof

/-- A non-negative rational number that a measurement gives; `den` 0 stands for no number. -/
structure Ratio where
  num : Nat := 0
  den : Nat := 1
  deriving DecidableEq, Repr

/-- The increments that the inner decoder made in one received multiframe (R145). -/
structure InnerCounts where
  innerCorr : Nat := 0
  innerFail : Nat := 0
  innerBits : Nat := 0
  deriving DecidableEq, Repr

/-- The increments that the RS decoder made in one received multiframe (R145). -/
structure RsCounts where
  /-- RS codewords decoded with exactly n symbols corrected, n = 0 to 15 -/
  rsHist    : List Nat := []
  rsUncorr  : Nat := 0
  rsSym     : Nat := 0
  rsBits    : Nat := 0
  deriving DecidableEq, Repr

/-- Consecutive uncorrectable codewords of one received multiframe: at its start, at its end, and the longest run (R143). -/
structure UncorrRuns where
  runHead   : Nat := 0
  runTail   : Nat := 0
  runMax    : Nat := 0
  deriving DecidableEq, Repr

/-- What the decoders make of one received multiframe (R143, R145). -/
structure FecCounts extends InnerCounts, RsCounts, UncorrRuns where
  deriving DecidableEq, Repr

/-- The analogue and decision statistics of one quality period, R60 and R61 (and R117 in Stretch mode). -/
structure QualityMeas where
  /-- σ² of the lower, the middle and the upper eye (R61) -/
  eyeLower : Ratio := {}
  eyeMid   : Ratio := {}
  eyeUpper : Ratio := {}
  freq     : W16 := 0
  /-- overrange samples of the period (R30) and samples of the period -/
  adcOver  : Nat := 0
  adcTotal : Nat := 0
  /-- mean square of the ADC's codes over the period (R29) -/
  meanSquare : Ratio := {}
  /-- echoes found by the 64 delays examined in the period: (delay, magnitude in dB) (R38) -/
  echoes   : List (Nat × Int) := []
  /-- signal to noise of subcarriers 1 to 255 as received: of the FEQ decisions, or of the pilots where b(n) = 0 (R103);
  empty in PAM4 -/
  snr      : List Ratio := []
  /-- mean error of each of the 64 patterns of R73, 1/1,024, and whether it rests on at least 1,024 samples (R258) -/
  pdMean   : List W16 := []
  pdOk     : List Bool := []
  deriving DecidableEq, Repr

/-- One window of an Icing searcher (R242, R243, R246): the largest bin, its energy, the energy of all other bins, and the
mean power of the run's up-chirps so far as the IADC sees it, in 1/16 dB. -/
structure IcWin where
  bin   : Nat := 0
  peak  : Nat := 0
  rest  : Nat := 0
  power : Int := 0
  deriving DecidableEq, Repr

/-- What a host receiver's millisecond gives beside its FEC (R216, R232): whether the lane is acquired, σ² of its eye, and
where the CTLE and the FFE have adapted to. -/
structure HostMeas where
  lock  : Bool := true
  eye   : Ratio := {}
  ctle  : Byte := 0
  ffe   : List Int := []
  deriving DecidableEq, Repr

/-- What a probe gives of one subcarrier over its pilot symbols (R103): the sums of the quotients' real and imaginary
parts, and of their squared magnitudes. -/
structure ProbeSums where
  re : Int := 0
  im : Int := 0
  sq : Nat := 0
  deriving DecidableEq, Repr

/-- What a probe gives (R103): how many pilot symbols it measured, and the sums of every subcarrier. -/
structure ProbeMeas where
  symbols : Nat := 0
  sums    : List ProbeSums := []
  deriving DecidableEq, Repr

/-- What declares a loss of lock (R58): 0 LOS, 1 TIMING, 2 FRAME, with the frequency estimate and the run that the
condition tests. -/
structure LossSeen where
  cause : BitVec 2 := 0
  freq  : W16 := 0
  run   : Nat := 0
  deriving DecidableEq, Repr

/-- What the framer has found in ALIGN (R140): of the 256 codewords of an inner window those that qualify, and the symbols in
error of the 4 RS codewords of a phase, with none for one that does not decode. -/
structure AlignSeen where
  lane   : BitVec 4 := 0
  near   : Nat := 0
  errors : List (Option Nat) := []
  deriving DecidableEq, Repr

/-- What the framer has found in MF_SEARCH (R142): the header at a candidate start and the one `apart` RS codewords later, whether
no bit of the latter lies in an uncorrectable codeword, and in Stretch mode the codewords from the start that the sync word
gives to the candidate. -/
structure StartSeen where
  first    : Bytes := []
  second   : Bytes := []
  apart    : Nat := 0
  ok       : Bool := false
  fromSync : Nat := 0
  deriving DecidableEq, Repr

/-- What a pattern checker has seen (R90): whether its lock is gained or lost, the run of matching symbols up to now, and the
mismatching ones among the latest 65,536. -/
structure LockSeen where
  locked : Bool := false
  run    : Nat := 0
  bad    : Nat := 0
  deriving DecidableEq, Repr

/-- A FAULT input (R84): whether it stays asserted afterwards, and how many frames of a burst had been sent whole. -/
structure FaultSeen where
  stays : Bool := false
  sent  : BitVec 2 := 0
  deriving DecidableEq, Repr

/-- What a host port lost (R218): the port, the lanes that lost marker lock, and whether 1 ms of local fault is the cause. -/
structure LinkLost where
  port       : BitVec 4 := 0
  lanes      : Byte := 0
  localFault : Bool := false
  deriving DecidableEq, Repr

/-- A client frame, R172, R188, R221: octets from destination MAC through FCS. -/
structure Frame where
  octets  : Bytes
  /-- PCS or block error indication carried with the frame (R141, R223 step 1) -/
  errored : Bool := false
  deriving DecidableEq, Repr

/-- The result of one part of a calibration run: new trim values by trim index, and the figures of R335. -/
structure CalPart where
  trims   : List (Nat × Byte) := []
  spur    : W16 := 0
  eyeW    : W16 := 0
  adcResid : W16 := 0
  dacInl  : W16 := 0
  biasResid : W16 := 0
  temp    : W16 := 0
  deriving DecidableEq, Repr

end Sys2Proof
end

