-- ==== Sys2Proof/Syntax.lean ====
section
/-! DEFINITION. The commands of the SG6416 block: one constructor per row of spec/opcode_table.json, in the table's
order, with the row's operands. No row has bits of its own. Parax rows carry the request fields of chapter 15 in
layout order; pin, clock and line rows carry what the outside world supplies with the event. -/

namespace Sys2Proof

inductive Instr where
  -- resets, supplies, clocks, bring-up
  | resetNFall
  | resetNRise (addr : BitVec 6) (boot : BitVec 2)
  | vddAonPowerOnReset
  | vddAonRestart (addr : BitVec 6) (boot : BitVec 2) (conditionsMet : Bool)
  | vddCoreRetentionLoss
  | rsynLock
  | rsynLoss
  | tier0Reached
  | flashImageLoaded (answered : Bool) (image : Bytes)
  | firmwareStart
  | mcpWatchdogExpiry
  | mcpException
  -- SPI port and directly mapped registers
  | spiRead (dev : BitVec 6) (addr : W24) (len : Byte) (wordsBegun : Nat)
  | spiWrite (dev : BitVec 6) (addr : W24) (len : Byte) (tail : Bytes)
  | spiBroadcastWrite (addr : W24) (len : Byte) (tail : Bytes)
  | spiReservedOp (dev : BitVec 6)
  | spiHeaderCrcFail (dev : BitVec 6)
  | gctlSpiStatErrorsRead
  | gctlEccCorrRead
  | gctlTimeLoRead
  | sramWindowRead (addr : W24)
  | sramWindowWrite (addr : W24) (value : W32)
  | mbxDoorbell (tail : BitVec 6)
  | mbxD2hHeadWrite (head : BitVec 6)
  | mbxCommandTake
  | eventWrite
  | pwrCtrlWake
  | pwrCtrlRecClr
  | pwrCtrlFioPin (value : Bool)
  | pwrCtrlHoldEn (value : Bool)
  | qrySelWrite (n : BitVec 4) (value : W32)
  | qryResult (n : BitVec 4)
  | qryResRead (n : BitVec 4)
  -- Parax system group
  | sysIdentity
  | sysStatus
  | paraxResync
  | tierSet (target : Byte) (force : Byte) (lanes : W16)
  | tierReply (face : Byte) (mseq : Byte) (lanes : Byte)
  | fwLoadBegin (length : W32)
  | fwLoadSeg (offset : W32) (segLen : W32)
  | fwLoadEnd
  -- line receive
  | laneConfig (lane : Byte) (mask : W16) (cls precode sdLevel agcTarget echoThresh softShift : Byte)
      (eqfLow : W16) (kp ki upd irej : Byte)
  | laneStart (lane : Byte)
  | laneStop (lane : Byte)
  | laneStatus (lane : Byte)
  | laneQuality (lane : Byte)
  | laneAdapt (lane freeze setExp : Byte) (expAcq expTrk : Bytes)
  | laneCoefRead (lane first count : Byte) (buf : W32)
  | laneCoefWrite (lane first count : Byte) (buf : W32) (data : Bytes)
  | laneCoefCopy (src dst : Byte)
  | laneEchoSearch (lane : Byte)
  | laneCaptureArm (lane source mode : Byte) (stride : W32) (trigger pre : Byte)
  | laneCaptureFetch (lane dma : Byte) (addr : W32)
  | signalDetectAssert (lane : BitVec 4)
  | signalDetectDeassert (lane : BitVec 4)
  | agcWindowEnd (lane : BitVec 4) (meanSquare : Ratio)
  | timingLock (lane : BitVec 4) (freq : W16)
  | adaptUpdate (lane : BitVec 4) (ffe canc : List Int) (alpha : Int)
  | echoGroupRelocate (lane : BitVec 4) (group : BitVec 2)
  | ffeAdaptDone (lane : BitVec 4)
  | echoSearchPassEnd (lane : BitVec 4) (echoes : List (Nat × Int))
  | echoPlacementDone (lane : BitVec 4)
  | mlsdTrainDone (lane : BitVec 4)
  | precodeTrialTimeout (lane : BitVec 4)
  | alignmentFound (seen : AlignSeen)
  | mfLock (lane : BitVec 4) (start : StartSeen)
  | warmCrumbCheckDone (lane : BitVec 4)
  | warmMseVerifyDone (lane : BitVec 4) (mse : W32) (pilotIds : List Byte)
  | seededAdaptDone (lane : BitVec 4)
  | acqStateTimeout (lane : BitVec 4)
  | retryBackoffEnd (lane : BitVec 4)
  | lockLossDeclare (lane : BitVec 4) (loss : LossSeen)
  | lockLossCauseSettle (lane : BitVec 4)
  | rxMultiframeBoundary (lane : BitVec 4) (mse : W32) (syncBad : Bool) (pilotId : Byte)
      (inner : InnerCounts) (rs : RsCounts) (runs : UncorrRuns)
  | qualityPeriodEnd (lane : BitVec 4) (q : QualityMeas)
  | snapshotWriteDone (lane : BitVec 4)
  | captureTrigger (lane : BitVec 4) (trigger : Byte)
  | captureComplete (lane : BitVec 4)
  -- line transmit and test
  | txConfig (lane mask precode level : Byte)
  | txEnable (lane mode : Byte)
  | txSquelch (lane flags : Byte)
  | txFirSet (lane : Byte) (taps : Bytes)
  | txPdWrite (lane : Byte) (table : Bytes)
  | txPdRead (lane : Byte)
  | txPdTrain (lane iter step : Byte)
  | txSwing (lane swing : Byte)
  | txSkew (lane mask coarse fine : Byte)
  | txStatus (lane : Byte)
  | testGen (target action pattern precodeOverride stopState : Byte)
  | testCheck (target action pattern : Byte)
  | testCheckRead (target flags : Byte)
  | loopbackSet (lane point : Byte)
  | patternLockChange (target : Byte) (seen : LockSeen) (bits errBits errSymbols : Nat)
  | lineFarSlip (target : Byte) (fill : Nat)
  | txMultiframeBoundary (face : BitVec 1)
  | txQualityPeriodEnd (lane : BitVec 4) (clips : W32)
  | txDomainStartupDone (lane : BitVec 4)
  | faultInputAssert (face : BitVec 1) (fault : FaultSeen)
  | pdFbReqReceive (face : BitVec 1) (src : W16) (payload : Bytes)
  | pdFbReceive (face : BitVec 1) (src : W16) (payload : Bytes)
  | pdFeedbackTimeout (lane : BitVec 4)
  -- Stretch mode
  | stretchConfig (lane mask margin marginMin probeCount rms capHoldoff flags : Byte)
  | stretchEnter (lane : Byte)
  | stretchExit (lane : Byte)
  | stretchReload (lane : Byte)
  | stretchStatus (lane : Byte)
  | stretchTableRead (lane : Byte) (buf : W32)
  | stretchTableWrite (lane slots : Byte) (buf : W32) (data : Bytes)
  | stretchSnrRead (lane : Byte) (buf : W32)
  | stretchReply (lane mseq accept : Byte)
  | probeMeasureDone (lane : BitVec 4) (probe : ProbeMeas)
  | bitTableReceive (face : BitVec 1) (src : W16) (record : Bytes)
  | segmentPartnerTimeout (lane : BitVec 4)
  | tableAckReceive (face : BitVec 1) (tableId txLane : Byte)
  | tableNakReceive (face : BitVec 1) (tableId txLane check : Byte)
  | tableAckTimeout (lane : BitVec 4)
  | countdownWaitTimeout (lane : BitVec 4)
  | countdownStart (lane : BitVec 4)
  | countdownDetect (lane : BitVec 4) (variant : BitVec 2)
  | stretchTableSwitch (lane : BitVec 4) (transmit : Bool)
  | modeReqReceive (face : BitVec 1) (src : W16) (payload : Bytes)
  | modeAckReceive (face : BitVec 1) (src : W16) (payload : Bytes)
  | modeCancelReceive (face : BitVec 1) (src : W16) (payload : Bytes)
  | icingReqResendTimeout (face : BitVec 1) (mseq : Byte)
  | modeAckTimeout (lane : BitVec 4)
  | hostReplyTimeout (face : BitVec 1) (mseq : Byte)
  | modeSwitchBoundary (lane : BitVec 4)
  -- FEC and framing
  | fecConfig (lane sym : Byte) (count : W16)
  | fecCountersRead (lane flags : Byte)
  | frameStatus (lane : Byte)
  | frameIdExpect (lane mode flags : Byte) (nodeAddr : W16) (srcLane : Byte)
  | frameTraceSet (face : Byte) (trace : Bytes)
  | frameGccSend (lane len : Byte) (data : Bytes)
  | frameGccRead (lane max : Byte) (buf : W32)
  | overheadHeaderReceive (lane : BitVec 4) (header : Bytes) (codewordsOk : Bool)
  | gccMessageReceive (lane : BitVec 4) (section_ : Bytes) (codewordsOk : Bool)
  -- calendar and clients
  | calWrite (face : Byte) (count : W16) (buf : W32) (data : Bytes)
  | calRead (face copy : Byte) (first count : W16) (buf : W32)
  | calCopy (face : Byte)
  | calCommit (face flags atMfc : Byte)
  | calCancel (face : Byte)
  | calStatusCalendar (face : Byte) (buf : W32)
  | calRouteRead (face : Byte) (first count : W16) (buf : W32)
  | calendarSwitch (face : BitVec 1)
  | joinGuardEnd (face : BitVec 1) (client : BitVec 10)
  | receiveSlotRoute (slot : BitVec 10) (entry : Bytes) (codewordsOk : Bool)
  | clientSet (client : W16) (entry : Bytes)
  | clientGet (client : W16)
  | clientStatus (client : W16) (buf : W32)
  | clientCountersRead (client : W16) (flags : Byte)
  | throughStatus (slot : W16) (flags : Byte)
  | addFrameArrive (client : BitVec 10) (face : Option (BitVec 1)) (stream : Option (BitVec 18)) (frame : Frame)
  | dropFrameComplete (slot : BitVec 10) (frame : Frame)
  | regenBlockStart (slot : BitVec 10)
  | regenSlip (slot : BitVec 10)
  -- stream engine
  | streamConfig (mask dropKey : Byte) (ledPeriod : W16)
  | streamProfileSet (prof histLen : Byte) (resetMs ledDiff : W16)
  | streamProfileGet (prof : Byte)
  | streamAdd (index : W32) (context : Bytes)
  | streamDelete (index : W32)
  | streamBulkLoad (dma : Byte) (addr count : W32)
  | bulkLoadComplete
  | streamRead (index : W32)
  | streamWrite (index : W32) (fields : W16) (context : Bytes)
  | streamFind (key : Bytes)
  | streamTakeAny (index : W32)
  | streamRekey (bank : Byte) (bucket : W16)
  | streamCountersRead (index : W32) (flags : Byte)
  | streamLedList (first buf : W32)
  | streamEngineStatus
  | addStreamFrame (client : BitVec 10) (idType : BitVec 2) (ident : BitVec 18) (frame : Frame)
  | dropStreamFrame (client : BitVec 10) (face : BitVec 1) (frame : Frame)
  | streamMsSweep
  | streamResetTimerExpiry (index : BitVec 18)
  | streamWakeSweepDone
  | ledPeriodEnd
  | streamScrub (bank : BitVec 2) (word : BitVec 19) (upsets : List (BitVec 2 × BitVec 19 × Bool))
  | streamTableClearDone
  -- host interface
  | hostConfig (etype : W16)
  | hostPortConfig (port enable width tagMode polTx polRx : Byte)
  | hostLaneEq (hlane mask : Byte) (taps : Bytes) (hswing ctle ffeFreeze : Byte)
  | hostPortStatus (port : Byte)
  | hostLoopbackSet (hlane point : Byte)
  | hostCountersRead (port flags : Byte) (buf : W32)
  | hostFrameReceive (port : BitVec 4) (frame : Frame)
  | hostFrameTransmit (port : BitVec 4)
  | hostPortAligned (port : BitVec 4)
  | hostRemoteFault (port : BitVec 4)
  | hostPortLinkLoss (lost : LinkLost)
  | hostFaultClear (port : BitVec 4)
  -- Icing channel
  | icingConfig (face : Byte) (mask : W32) (nodeAddr : W16) (netId rxEnable rxGrades gradeTx gradeMargin discGrade
      discPeriod : Byte) (reportPeriod : W16) (icingLane access rampUs detThresh captureThresh : Byte) (tapCal : W16)
      (watchGrade accept : Byte)
  | icingStatus (face : Byte)
  | icingNeighbours (face : Byte)
  | icingPin (face : Byte) (addr : W16)
  | icingLaneMap (face lane farLane : Byte)
  | icingLevelQuery (face : Byte) (dst : W16)
  | icingMsgSend (face : Byte) (dst : W16) (flags len : Byte) (data : Bytes)
  | icingMsgRead (face max : Byte) (buf : W32)
  | icingWakeSend (face : Byte) (dst : W16) (grade : Byte) (wakeMs : W16) (reason : Byte)
  | icingCountersRead (face flags : Byte)
  | icingAgcWindow (face : BitVec 1) (off : Int)
  | icingSearchDetect (face : BitVec 1) (grades : List (BitVec 4)) (wins : List (List IcWin))
  | icingDetectWindow (face : BitVec 1) (win : IcWin) (second : Option (BitVec 4 × IcWin))
  | icingCapture (face : BitVec 1) (grade : BitVec 4) (wins : List IcWin) (last : IcWin) (chips : Int)
  | icingHeaderDecode (face : BitVec 1) (firstOk : Bool) (len : Byte) (mtypeHigh : BitVec 4)
  | icingFrameEnd (face : BitVec 1) (info : Bytes) (peak rest : Nat)
  | discoveryReceive (face : BitVec 1) (src : W16) (payload : Bytes) (rssi snr : W16)
  | neighbourTimeout (face : BitVec 1) (addr : W16)
  | discoveryPeriod (face : BitVec 1)
  | reportPeriod (face : BitVec 1)
  | levelQueryReceive (face : BitVec 1) (src : W16) (qseq : Byte)
  | levelReportReceive (face : BitVec 1) (src : W16) (payload : Bytes)
  | tierReqReceive (face : BitVec 1) (src : W16) (payload : Bytes)
  | tierAckReceive (face : BitVec 1) (src : W16) (payload : Bytes)
  | genMsgReceive (face : BitVec 1) (src : W16) (payload : Bytes) (grade : Byte) (rssi snr : W16) (broadcast : Bool)
  | genAckReceive (face : BitVec 1) (src : W16) (gseq : Byte)
  | genMsgRetryTimeout (face : BitVec 1) (gseq : Byte)
  | wakeReceive (face : BitVec 1) (dst : W16) (reason : Byte)
  | icingBurstStart (face : BitVec 1)
  | icingBackoffEnd (face : BitVec 1)
  | icingBurstEnd (face : BitVec 1)
  | icingBurstAbort (face : BitVec 1) (done : BitVec 2)
  | icingTxUnavailable (face : BitVec 1)
  -- optics control engine
  | loopTemplateApply (loop output : Byte)
  | loopWrite (loop flags first count : Byte) (buf : W32) (data : Bytes)
  | loopRead (loop : Byte)
  | loopMode (loop mode flags : Byte) (spTarget vmax amax jmax : W32)
  | loopTarget (loop flags : Byte) (spTarget : W32)
  | loopStatus (loop flags : Byte)
  | loopTestStart (loop action point signal : Byte) (ampl inc : W32) (hold pre length : W16)
  | loopTestFetch (core dma : Byte) (addr : W32)
  | loopEngineStatus
  | controlFrame (core : BitVec 2)
  | handoverForce (loop : Byte)
  | autoSwapDue (loop : Byte)
  | loopErrLimitFault (loop : Byte)
  | loopStaleFault (loop : Byte)
  | loopMissRunFault (loop : Byte)
  | lockinPeriodEnd (loop : Byte)
  -- bias outputs and monitors
  | biasConfig (out mask : Byte) (record : Bytes) (target : W16)
  | biasEnable (out flags : Byte) (code : W16)
  | biasDisable (out : Byte)
  | biasCode (out : Byte) (code : W16)
  | biasSafe (scope index : Byte)
  | biasRelease (scope index : Byte)
  | biasStatus (out flags : Byte)
  | biasTick (lane : BitVec 4) (tick : BitVec 2)
  | rangeHizIntervalEnd (out : Byte)
  | biasFaultDetect (out cause : Byte)
  | monScanConfig (madc : Byte) (mask : W64) (windows compat : Byte)
  | monRefbuf (madc enable : Byte)
  | monFilterSet (input : Byte) (record : Bytes)
  | monFilterGet (input : Byte)
  | monFilterSync (input : Byte)
  | monRead (first count : Byte) (buf : W32)
  | monStatus (input flags : Byte)
  | madcConversion (input : Byte) (code : BitVec 14) (refbufSettled : Bool)
  | filterOutputSample (input : Byte) (newConfig : Bool)
  | filterSettled (input : Byte)
  | crossFadeEnd (input : Byte)
  -- calibration
  | calRun (kind mode action : Byte) (set : Bytes) (ranges : Byte)
  | calApply (kinds flags : Byte)
  | calDiscard (kinds : Byte)
  | calStatusCalibration (buf : W32)
  | calLoad
  | calStore (confirmCount : W16) (confirmId : W32) (flags : Byte) (label : Bytes)
  | calImageWrite (confirmCount : W16) (confirmId : W32) (flags : Byte) (addr : W32)
  | calImageExport (dma : Byte) (addr : W32)
  | calRunPartEnd (kind : BitVec 2) (result : CalPart)
  | calStrobeCommit
  | calApplyStrobe
  | calStrobeFreezeEnd
  | nvmStoreComplete
  -- power
  | pwrEnter (target : Byte)
  | pwrWatchConfig (interval : W16) (flags watchMadc : Byte) (wakeAfter : W32) (compares : Bytes)
  | pwrLanePark (lane flags : Byte)
  | pwrLaneUnpark (lane : Byte)
  | pwrStatus
  | pwrWakeRecord (flags : Byte)
  | handshakeStepAnswer (agree : Bool) (block : Byte)
  | handshakeTimeout (block : Byte)
  | handshakeRestartDone
  | sleepEntered
  | holdNFall
  | holdReached
  | holdNRise
  | wakeRsynLocked (fast : Bool)
  | wakeDomainsUp
  | toffeeWatchTick (codes : List (Byte × List (BitVec 14)))
  | watchCompareTrip (compare : BitVec 4)
  | watchWakeAfter
  -- architecture: neighbour limits
  | neighbourLimitEval
  | fifoWander (region : Byte) (wander : BitVec 3)
  -- Tier procedure
  | tierLaneTurnStart
  | tierAckTimeout (lane : BitVec 4)
  | tierRateSwitch (lane : BitVec 4)
  | tierAwaitEnd (lane : BitVec 4)
  | tierTurnEnd (lane : BitVec 4)
  -- DMA, timers, counters
  | dmaStart (ch : BitVec 4)
  | dmaAbort (ch : BitVec 4)
  | dmaTrigger (ch : BitVec 4)
  | dmaDescriptorComplete (ch : BitVec 4)
  | dmaFenceRead
  | dmaCommandTransferDone (ch : BitVec 4)
  | timerStart (t : BitVec 3)
  | timerTick (t : BitVec 3)
  | cntAssign (cnt source index : W16) (flags : Byte)
  | cntWindowConfig (kind : Byte) (index windowMs : W16)
  | cntWindowRead (kind : Byte) (index : W16)
  | cntValWrite (cnt : BitVec 12) (value : W32) (lost : Bool)
  | counterWrap (cnt : BitVec 12)
  | counterWindowEnd (kind : BitVec 1) (index : BitVec 10)
  -- block by block
  | receiveMapBlock (slot : BitVec 10) (octets : Bytes) (errored : Bool)
  | addSlotBlock (slot : BitVec 10)
  | hostLaneEqfUpdate (hlane : BitVec 5) (meas : HostMeas) (fec : List Nat)
  | icingAvgLevelUpdate (face : BitVec 1) (level : Int)
  deriving DecidableEq, Repr

end Sys2Proof
end

