-- ==== Sys2Proof/Config.lean ====
section
/-! DEFINITION. What one implementation fixes (the fuses) and the free values: constants with no body, of which
nothing can be evaluated or proved. Each is named in the assumption log. -/

namespace Sys2Proof

/-- The die's fused identity, DIE_ID of R324 and R429 (fuse). -/
opaque Config.dieId : W64

/-- The key hash in fuses, R376 check 3: 32 octets. -/
opaque Config.keyHash : Bytes

/-- Fuse GRADE of R373: true for SG6416-C, false for SG6416-T. -/
opaque Config.gradeC : Bool

/-- The free value of a draw that the spec leaves open, applied to a counter of State that every draw advances
(log entry 3): the back-off draw of R248, the discovery offset of R254. -/
opaque Config.draw : Nat → Nat

/-- The core temperature sensor of M216 to M219 (0 to 3) nearest to a lane (0 to 15) or a host quad (16 to 23): the
table of neighbour pairs names it by "nearest" alone (R17). -/
opaque Config.nearCore : Nat → Nat

/-- What management SRAM and the retained registers without a stated failure value hold after a loss of retention
(R339, R362), applied to the draw and a place. -/
opaque Config.lostByte : Nat → Nat → Byte

/-- A byte read from a stream context word with an uncorrectable error (R195), applied to the draw and the byte. -/
opaque Config.eccByte : Nat → Nat → Byte

/-- The sequence of the 16-bit LFSR that R191 uses to choose an entry to displace: the spec gives no polynomial
and no seed; applied to the number of steps made. -/
opaque Config.lfsr : Nat → W16

/-- The bits of the alignment marker of a PCS lane and of the pad behind the markers, for a port of this many host lanes, by
lane or place and bit (R214: IEEE 802.3 gives them, the spec does not). -/
opaque Config.markerBit : (width lane bit : Nat) → Bool
opaque Config.markerPad : (width bit : Nat) → Bool

/-- The samples a capture memory holds after a capture (R63, R288): the line's, applied to lane and byte. -/
opaque Config.captureByte : Nat → Nat → Byte

/-- One output sample of ROM response `entry` (R314: its coefficients are not given): from its inner state and its
input, the next state and the output in 1/256 code. -/
opaque Config.romStep : (entry state : Nat) → (input : Int) → Nat × Int

/-- The fraction bits of the result of receive stage n, and the power of two at which it saturates (R26: the widths of the
stages are not given). -/
opaque Config.stageFraction : Nat → Nat
opaque Config.stageRange : Nat → Nat

/-- The Icing rejection filter over a run of ADC codes (R31: its coefficients are not given). -/
opaque Config.icingReject : List Int → List Int

/-- ADC codes, less 1, that make half the spacing of adjacent levels at the FFE input. -/
opaque Config.unitCodes : Nat

/-- The unit of the MLSD's path metrics against which SOFT_SHIFT shifts (R40), less 1, and the end of their range (R26). -/
opaque Config.metricUnit : Nat
opaque Config.metricMax : Nat

/-- The seeds of PRBS13Q and PRBS31Q in a generator (R88 gives none). -/
opaque Config.patternSeed : Nat → Nat

/-- The 65,535 level indices of SSPRQ (R88: IEEE 802.3's, not printed). -/
opaque Config.ssprq : Nat → Nat

/-- Decoder counts of the part of a multiframe that a loss of lock cuts short (R145), applied to the draw and the count's
place. -/
opaque Config.cutShort : Nat → Nat → Nat

end Sys2Proof
end

