-- ==== Sys2Proof/Machine/Tab.lean ====
section
/-! DEFINITION. Sparse tables: state kept per index (lanes, slots, clients, streams, counters) and memories kept
per byte are lists of (index, value) pairs in one canonical form: indices strictly rising, and no entry equal to
what an unlisted index reads as, which is the table's default `d`. -/

namespace Sys2Proof.Machine

/-- A sparse table of `α` by natural index. -/
abbrev Tab (α : Type) := List (Nat × α)

/-- The value at index `i`; `d` where nothing is listed. -/
def Tab.get {α : Type} (d : α) : Tab α → Nat → α
  | [], _ => d
  | (k, v) :: r, i => if k = i then v else Tab.get d r i

/-- The table without an entry for index `i`. -/
def Tab.erase {α : Type} (t : Tab α) (i : Nat) : Tab α := t.filter (fun p => p.1 != i)

/-- Enter `v` for index `i`, which the table does not list, at its place. -/
def Tab.put {α : Type} : Tab α → Nat → α → Tab α
  | [], i, v => [(i, v)]
  | (k, w) :: r, i, v => if i < k then (i, v) :: (k, w) :: r else (k, w) :: Tab.put r i v

/-- Write `v` at index `i`, keeping the canonical form. -/
def Tab.set {α : Type} [DecidableEq α] (d : α) (t : Tab α) (i : Nat) (v : α) : Tab α :=
  if v = d then Tab.erase t i else Tab.put (Tab.erase t i) i v

/-- Every key of the table lies above `b`, keys rise strictly, and no entry is the default. -/
def Tab.wfAbove {α : Type} [DecidableEq α] (d : α) : Nat → Tab α → Bool
  | _, [] => true
  | b, (k, v) :: r => decide (b ≤ k) && decide (v ≠ d) && Tab.wfAbove d (k + 1) r

/-- The canonical form of a table. -/
def Tab.wf {α : Type} [DecidableEq α] (d : α) (t : Tab α) : Bool := Tab.wfAbove d 0 t

/-- Change the value at index `i` by `f`. -/
def Tab.upd {α : Type} [DecidableEq α] (d : α) (t : Tab α) (i : Nat) (f : α → α) : Tab α :=
  Tab.set d t i (f (Tab.get d t i))

/-- Consecutive values from index `i`. -/
def Tab.read {α : Type} (d : α) (t : Tab α) : Nat → Nat → List α
  | _, 0 => []
  | i, n + 1 => Tab.get d t i :: Tab.read d t (i + 1) n

/-- Write consecutive values from index `i`. -/
def Tab.write {α : Type} [DecidableEq α] (d : α) (t : Tab α) : Nat → List α → Tab α
  | _, [] => t
  | i, v :: r => Tab.write d (Tab.set d t i v) (i + 1) r

/-- The table that holds the values of a list from index `i`. -/
def Tab.ofList {α : Type} [DecidableEq α] (d : α) : Nat → List α → Tab α
  | _, [] => []
  | i, v :: r => if v = d then Tab.ofList d (i + 1) r else (i, v) :: Tab.ofList d (i + 1) r

/-- Memory of bytes: an unlisted address reads 0 (log entry 2). -/
abbrev Memory := Tab Byte

/-- The canonical form of a memory of bytes. -/
def Memory.wf (m : Memory) : Bool := Tab.wf (0 : Byte) m

end Sys2Proof.Machine
end

