-- ==== Sys2Proof/Machine/Bytes.lean ====
section
/-! DEFINITION. Byte order, bit fields and the three checks of the management port and the crumbs: little-endian
fields (R4), CRC-16 (R20), CRC-8 (R172, R368). -/

namespace Sys2Proof.Machine

/-- The `n` bytes of `v`, least significant first (R4). -/
def leN : Nat → Nat → Bytes
  | 0, _ => []
  | n + 1, v => BitVec.ofNat 8 v :: leN n (v / 256)

def le16 (v : W16) : Bytes := leN 2 v.toNat
def le32 (v : W32) : Bytes := leN 4 v.toNat
def le64 (v : W64) : Bytes := leN 8 v.toNat

/-- The signed value `v` in `n` bytes, two's complement. -/
def leInt (n : Nat) (v : Int) : Bytes := leN n (v % (256 ^ n : Nat)).toNat

/-- The natural number of little-endian bytes (R4). -/
def ofLe : Bytes → Nat
  | [] => 0
  | b :: r => b.toNat + 256 * ofLe r

/-- The natural number of big-endian octets (fields serial on the fibre or in an octet string). -/
def ofBe (b : Bytes) : Nat := b.foldl (fun a x => 256 * a + x.toNat) 0

/-- The `n` octets of `v`, most significant first. -/
def beN (n v : Nat) : Bytes := (leN n v).reverse

/-- The bytes [off, off + n) of `b`, zero-filled where `b` is shorter. -/
def slice (b : Bytes) (off n : Nat) : Bytes :=
  let r := (b.drop off).take n
  r ++ List.replicate (n - r.length) 0

/-- The byte at `off`; 0 beyond the end. -/
def byteAt (b : Bytes) (off : Nat) : Byte := b.getD off 0

/-- A little-endian field of `n` bytes at `off`. -/
def leAt (b : Bytes) (off n : Nat) : Nat := ofLe (slice b off n)

def w16At (b : Bytes) (off : Nat) : W16 := BitVec.ofNat 16 (leAt b off 2)
def w32At (b : Bytes) (off : Nat) : W32 := BitVec.ofNat 32 (leAt b off 4)
def w64At (b : Bytes) (off : Nat) : W64 := BitVec.ofNat 64 (leAt b off 8)

/-- A 16-bit field sent most significant byte first. -/
def w16Be (b : Bytes) (off : Nat) : W16 := BitVec.ofNat 16 (ofBe (slice b off 2))

/-- `b` with the bytes `v` put at `off`. -/
def putAt (b : Bytes) (off : Nat) (v : Bytes) : Bytes := b.take off ++ v ++ b.drop (off + v.length)

/-- Bit `i` of a byte, word or mask. -/
def bitOf {w : Nat} (v : BitVec w) (i : Nat) : Bool := v.getLsbD i

/-- `v` with bit `i` set to `b`. -/
def setBit {w : Nat} (v : BitVec w) (i : Nat) (b : Bool) : BitVec w :=
  if b then v ||| (1#w <<< i) else v &&& ~~~(1#w <<< i)

/-- A field value placed at bit `lo` of a 32-bit register. -/
def fieldAt {w : Nat} (lo : Nat) (v : BitVec w) : W32 := v.setWidth 32 <<< lo

/-- A flag placed at bit `i` of a 32-bit register. -/
def flagAt (i : Nat) (b : Bool) : W32 := if b then 1#32 <<< i else 0

/-- The field of `w` bits at `lo`. -/
def getField {n : Nat} (v : BitVec n) (lo w : Nat) : BitVec w := v.extractLsb' lo w

/-- Pack flags from bit 0 upward. -/
def packBits : List Bool → Nat
  | [] => 0
  | b :: r => (if b then 1 else 0) + 2 * packBits r

/-- One byte through the CRC-16 with polynomial 0x1021, most significant bit first (R20). -/
def crc16Byte (c : W16) (b : Byte) : W16 :=
  (List.range 8).foldl
    (fun a _ => if bitOf a 15 then (a <<< 1) ^^^ 0x1021 else a <<< 1) (c ^^^ (b.setWidth 16 <<< 8))

/-- The CRC of R20 over `b` from an initial value (R187). -/
def crc16From (init : W16) (b : Bytes) : W16 := b.foldl crc16Byte init

/-- The CRC-16 of R20: initial value 0xFFFF, no reflection, no final XOR. -/
def crc16 (b : Bytes) : W16 := crc16From 0xFFFF b

/-- One byte through the CRC-8 with polynomial 0x07, most significant bit first (R172). -/
def crc8Byte (c : Byte) (b : Byte) : Byte :=
  (List.range 8).foldl (fun a _ => if bitOf a 7 then (a <<< 1) ^^^ 0x07 else a <<< 1) (c ^^^ b)

/-- The CRC-8 of R172: initial value 0, no reflection, final XOR 0x55. -/
def crc8 (b : Bytes) : Byte := b.foldl crc8Byte 0 ^^^ 0x55

/-- Round a quotient to the nearest, ties to even (convergent rounding), for a positive divisor. -/
def roundEven (a : Int) (d : Nat) : Int :=
  let q := a / d
  let r := a % d
  if 2 * r < d then q else if 2 * r > d then q + 1 else if q % 2 = 0 then q else q + 1

/-- Clamp to a range. -/
def clampInt (lo hi x : Int) : Int := max lo (min hi x)

end Sys2Proof.Machine
end

