-- ==== Sys2Proof/Blocks/Mgmt.lean ====
section
/-! DEFINITION. State of the management port, mailbox, bring-up and power controller (chapters 13, 14 and 17) and
of the neighbour limits and crumbs (chapter 01). Defaults are the reset values. -/

namespace Sys2Proof.Machine

/-- MBX_STATE.STATE, R385. -/
inductive MbxMode where
  | down | rom | fw
  deriving DecidableEq, Repr

/-- A host firmware load in progress, R377: LENGTH of FW_LOAD_BEGIN and the bytes of the segments so far. -/
structure FwLoad where
  length : W32
  got    : Bytes
  deriving DecidableEq, Repr

/-- Bring-up and the global registers, R368 to R383, R429. -/
structure Sys where
  /-- RESET_N is low, or VDD_AON is below its threshold: the device is in reset (R448, R339) -/
  inReset   : Bool := false
  /-- VDD_AON is below its power-on threshold and has not risen again (R339, R443) -/
  aonDown   : Bool := false
  /-- the RESET_N pin is low (R448) -/
  resetLow  : Bool := false
  /-- straps as sampled when RESET_N rose, R369, R373 -/
  addr      : BitVec 6 := 0
  boot      : BitVec 2 := 0
  rsynLock  : Bool := false
  /-- GCTL_BOOT_STAT.FIO: the management clock is FIO -/
  fio       : Bool := true
  mcpRestart : Bool := false
  bootErr   : Byte := 0
  fwSrc     : BitVec 4 := 0
  fwRun     : Bool := false
  /-- firmware has run since RESET_N rose (R354) -/
  fwEver    : Bool := false
  tier      : BitVec 2 := 0
  /-- Tier 0 has been reached since RESET_N rose or since a wake that repeats the start (R372, R354) -/
  tier0     : Bool := false
  holdAtT0  : Bool := false
  /-- HOLD_AT_T0 as read when the firmware started, R373, R379 -/
  heldAtT0  : Bool := false
  fwVer     : W32 := 0
  /-- the next flash image to try: 0, 1, or 2 when flash is exhausted (R374) -/
  flashNext : Nat := 0
  fwLoad    : Option FwLoad := none
  /-- the header, with SIG as zeros, and the digest of the running firmware (R376, R362) -/
  fwHeader  : Bytes := []
  fwDigest  : Bytes := []
  /-- the MCP restarted and its firmware is loaded again: the mailbox is initialised when that ends, R398 -/
  restartDue : Bool := false
  /-- timestamp of an RSYN loss to be reported once the MCP runs, R399 -/
  rsynLost  : Option W64 := none
  scratch   : W32 := 0
  /-- GCTL_TIME_HI, R430 -/
  timeHi    : W32 := 0
  eccCorr   : W16 := 0
  eccFatal  : Bool := false
  eccAddr   : BitVec 17 := 0
  /-- the cause of the next SYS_READY, R391 -/
  readyCause : Byte := 0
  deriving DecidableEq, Repr

/-- The SPI front end, R367 to R371; `miso` holds the bytes of the latest read that the device drove and `rdata`
the word of the latest register read row. -/
structure Spi where
  errors  : W16 := 0
  opErr   : Bool := false
  lenErr  : Bool := false
  dcrcErr : Bool := false
  hcrcErr : Bool := false
  prevFail : Bool := false
  miso    : Bytes := []
  rdata   : W32 := 0
  deriving DecidableEq, Repr

/-- The latched bits of IRQ_STAT (RW1C) and IRQ_MASK, R397. -/
structure Irq where
  fatal    : Bool := false
  spi      : Bool := false
  boot     : Bool := false
  cnt      : Bool := false
  dma      : Bool := false
  qry      : Bool := false
  h2dSpace : Bool := false
  mask     : BitVec 9 := 0b110100001
  deriving DecidableEq, Repr

/-- An event waiting for the device-to-host ring, R390. -/
structure Ev where
  op    : W16
  bytes : Bytes
  deriving DecidableEq, Repr

/-- A stored response of the repeat history, R389. -/
structure Hist where
  hseq    : W16
  opcode  : W16
  status  : Byte
  payload : Bytes
  deriving DecidableEq, Repr

/-- A command in execution whose transfer runs on a DMA channel (R385, R387, R418): its HSEQ where it came by the ring, and
what it answers when the data has arrived. -/
structure Exec where
  op      : W16
  hseq    : Option W16 := none
  ch      : Nat
  payload : Bytes
  deriving DecidableEq, Repr

/-- The mailbox, R384 to R392. -/
structure Mbx where
  h2dTail : BitVec 6 := 0
  h2dHead : BitVec 6 := 0
  d2hTail : BitVec 6 := 0
  d2hHead : BitVec 6 := 0
  epoch   : W16 := 0
  mode    : MbxMode := .down
  sync    : Bool := false
  nextHseq : W16 := 0
  nextDseq : W16 := 0
  /-- the HSEQ of the latest command executed, R386 -/
  lastHseq : W16 := 0
  /-- events queued and not yet written, oldest first, at most 256 -/
  evq     : List Ev := []
  evDropped : W16 := 0
  /-- an event was dropped since the last event written, R390 -/
  dropped : Bool := false
  /-- the last 16 commands executed, latest first -/
  history : List Hist := []
  /-- the command in execution; between rows only one that waits for its data, BUSY of R385 -/
  exec    : Option Exec := none
  deriving DecidableEq, Repr

/-- A quick-query channel, R395. -/
structure Qry where
  sel    : W32 := 0
  ready  : Bool := false
  repeat_ : Bool := false
  bad    : Bool := false
  seq    : BitVec 5 := 0
  value  : W24 := 0
  /-- a ONE_SHOT result has still to be made -/
  armed  : Bool := false
  deriving DecidableEq, Repr

/-- A compare of Toffee watch, R357. -/
structure Compare where
  input   : Byte := 0
  low     : W16 := 0
  high    : W16 := 0
  en      : Bool := false
  sense   : Bool := false
  persist : BitVec 4 := 0
  avg     : Byte := 0
  deriving DecidableEq, Repr

/-- Toffee watch parameters, R357. -/
structure Watch where
  interval  : W16 := 100
  streamRet : Bool := true
  icingE    : Bool := true
  icingW    : Bool := true
  resume    : Bool := false
  madc      : Byte := 3
  wakeAfter : W32 := 0
  compares  : Tab Compare := []
  deriving DecidableEq, Repr

/-- The wake record, PWR_WAKE_REC0 to PWR_WAKE_REC7, R363. -/
structure WakeRec where
  valid      : Bool := false
  shedReturn : Bool := false
  slowClk    : Bool := false
  fwReload   : Bool := false
  retLost    : Bool := false
  streamLost : Bool := false
  origin     : BitVec 2 := 0
  reason     : Byte := 0
  compare    : BitVec 4 := 0
  face       : BitVec 1 := 0
  source     : BitVec 4 := 0
  wakeTime   : W64 := 0
  cycles     : W32 := 0
  txDefault  : W16 := 0
  laneCold   : W16 := 0
  loopFail   : Byte := 0
  clientFail : Byte := 0
  calFail    : BitVec 2 := 0
  entryTime  : W64 := 0
  deriving DecidableEq, Repr

/-- A refusal of a handshake, R344: STEP, CAUSE and BLOCK. -/
structure HsRefusal where
  step  : Byte := 0
  cause : Byte := 0
  block : Byte := 0
  deriving DecidableEq, Repr

/-- The power controller, R336 to R366. -/
structure Pwr where
  /-- PWR_STATE: CUR, PREV, TARGET, STEP (R340) -/
  cur     : BitVec 4 := 1
  prev    : BitVec 4 := 0
  target  : BitVec 4 := 0
  step    : BitVec 4 := 0
  fioPin  : Bool := false
  holdEn  : Bool := true
  holdResume : Bool := true
  /-- PD k powered at bit k (R342) -/
  domains : BitVec 88 := 0xC00000#88 <<< 64
  /-- the always-on timestamp in LPO counts (R336) -/
  time    : W64 := 0
  /-- the HOLD_N pin is low -/
  holdLow : Bool := false
  /-- HOLD_N rose again while the device was shedding, R351 -/
  roseInShed : Bool := false
  /-- bring-up waits in PD 87 for HOLD_N (R354) -/
  bringUpWaits : Bool := false
  /-- the supplies have kept the order of R442 since RESET_N was last held low -/
  supplyOk : Bool := true
  /-- retention of VDD_CORE lost in this sleep, R339 -/
  retLost : Bool := false
  /-- the stream banks have lost their contents in a Toffee watch without retention, and are still to be cleared (R206) -/
  streamsOut : Bool := false
  /-- the lanes whose retained transmit shadow and counters fail their CRC (R362) -/
  shadowBad : W16 := 0
  /-- the refused handshake of PWR_STATUS.HANDSHAKE, R344 -/
  refusal : HsRefusal := {}
  /-- a step has refused: the blocks that stopped are being restarted, R345 -/
  restarting : Bool := false
  watch   : Watch := {}
  /-- a watch tick is in progress: its domains are powered and RSYN is locked (R358) -/
  tick    : Bool := false
  /-- ticks made since TOFFEE was entered, compare run counts and the watch log (R358, R359) -/
  ticks   : W32 := 0
  runs    : Tab Nat := []
  log     : Tab W16 := []
  wakeRec : WakeRec := {}
  /-- entry to the sleep reached at this time (R363 ENTRY_TIME) -/
  entryTime : W64 := 0
  /-- domains powered before the sleep, lanes started, the state code of each transmitter and those with a pattern
  running, before they were stopped (R345, R352); after a wake `laneOn` holds the lanes whose bank has not yet been
  taken into use again (R362) -/
  domBefore : BitVec 88 := 0
  laneOn    : W16 := 0
  txWas     : Tab Byte := []
  patOn     : W16 := 0
  /-- the wake in progress is a resume wake (R352) -/
  resuming  : Bool := false
  /-- PWR_WAKE is due once firmware runs (R354, R399) -/
  wakeDue   : Bool := false
  deriving DecidableEq, Repr

/-- GCTL_SKEW_STAT and the crossing FIFOs, R18 and R19: latched bits, and the condition that still holds. -/
structure Skew where
  active : Bool := false
  phase  : Bool := false
  supply : Bool := false
  temp   : Bool := false
  quads  : Byte := 0
  lanes  : W16 := 0
  /-- what the latest evaluation found beyond a limit: the conditions, and the tiles of the pairs concerned -/
  liveSupply : Bool := false
  liveTemp   : Bool := false
  pairQuads  : Byte := 0
  pairLanes  : W16 := 0
  /-- wander of the crossing FIFO of each region 0 to 24 (lanes, quads, core) from its centre -/
  fifo   : Tab Nat := []
  /-- lanes (receive and transmit direction) and host quads whose blocks that cross in the current multiframe are
  errored after a slip -/
  errLanes : W16 := 0
  errTx    : W16 := 0
  errQuads : Byte := 0
  /-- whole evaluations of 1,024 control frames since the last slip; 1 once one has passed -/
  cleanEvals : Nat := 1
  deriving DecidableEq, Repr

/-- The check word of a crumb of 256 zero bytes, R20: what an unlisted crumb's check word reads as. -/
def zeroCrumbCheck : W16 := 0x41E8

/-- A memory of crumbs, R20 to R22: bytes, check words held beside them, and the crumbs rejected until a
whole-crumb write. -/
structure CrumbMem where
  bytes    : Memory := []
  checks   : Tab W16 := []
  rejected : List Nat := []
  deriving DecidableEq, Repr

/-- The result of the latest Parax command row: what the device answers (R386, R404). -/
structure Resp where
  opcode  : W16 := 0
  status  : Byte := 0
  payload : Bytes := []
  deriving DecidableEq, Repr

end Sys2Proof.Machine
end

