-- ==== Sys2Proof/Blocks/Rx.lean ====
section
/-! DEFINITION. State of one lane receiver (chapter 02). Defaults are the reset values; the coefficients before any
acquisition are the ROM default of CLASS 1 (log entry 4). -/

namespace Sys2Proof.Machine

/-- Lane receive states, R53. -/
inductive RxSt where
  | off | waitSignal | agc | timing | ffeAdapt | echoSearch | mlsdTrain | align | mfSearch | locked | warmVerify
  | seededAdapt | parked
  deriving DecidableEq, Repr

/-- The path of an acquisition, R54. -/
inductive RxPath where
  | cold | warm | seeded
  deriving DecidableEq, Repr

/-- The settings of LANE_CONFIG, R27 to R62; ECHO_THRESH 0 is CLASS_DEFAULT (R36); SD_LEVEL in steps of 25 mV. -/
structure RxCfg where
  cls        : Byte := 1
  precode    : Byte := 0
  sdLevel    : Byte := 2
  agcTarget  : Byte := 32
  echoThresh : Byte := 0
  softShift  : Byte := 4
  eqfLow     : W16 := 4352
  kp         : Byte := 7
  ki         : Byte := 15
  upd        : Byte := 2
  irej       : Bool := true
  deriving DecidableEq, Repr

/-- A canceller group, R35: delay 0 is unplaced. -/
structure EchoGroup where
  delay : Nat := 0
  taps  : List Int := [0, 0, 0, 0, 0, 0, 0, 0]
  deriving DecidableEq, Repr

/-- The adapted state of a lane: equaliser, canceller, target response, AGC and timing, R28 to R43. -/
structure RxCoef where
  ffe     : List Int :=
    [0, 0, 0, 0, 0, 0, 0, -48, 256, -96, 16] ++ List.replicate 45 0
  groups  : List EchoGroup := [{}, {}, {}, {}]
  alpha   : Nat := 24
  /-- PGA setting 0 = −6 dB to 60 = +24 dB, R60 -/
  pga     : Nat := 0
  /-- digital gain in 1/1,024 of a 0.5 dB step, R29 -/
  digGain : Int := 0
  /-- frequency estimate in 1/64 ppm and phase in 1/64 UI, R32 -/
  freq    : Int := 0
  phase   : Int := 0
  deriving DecidableEq, Repr

/-- The quality record, R60. -/
structure Quality where
  period   : W32 := 0
  eqfLower : W16 := 0
  eqfMid   : W16 := 0
  eqfUpper : W16 := 0
  eqfMin   : W16 := 0
  mse      : W32 := 0
  ber      : W32 := 0
  flipped  : W32 := 0
  rsUncorr : W16 := 0
  freq     : W16 := 0
  agcGain  : Byte := 0
  adcOver  : W32 := 0
  delays   : List W16 := [0, 0, 0, 0]
  flags    : Byte := 0
  deriving DecidableEq, Repr

/-- Parameters of a capture, R63. -/
structure Capture where
  source  : Byte := 0
  strided : Byte := 0
  stride  : W32 := 0
  trigger : Byte := 0
  pre     : Byte := 0
  deriving DecidableEq, Repr

/-- The capture machine of a lane, R63: armed, running, and an arm that waits for a running capture. -/
structure RxCap where
  armed    : Option Capture := none
  running  : Option Capture := none
  deferred : Option Capture := none
  /-- the number of the capture whose samples the memory holds; 0 when it holds none -/
  held     : Nat := 0
  deriving DecidableEq, Repr

/-- The divergence guard, R46 and R47, and the quality period in progress, R48 and R60. -/
structure RxGuard where
  frozen    : Bool := false
  mseRun    : Nat := 0
  satRun    : Nat := 0
  /-- 16 consecutive updates have saturated since the latest multiframe boundary -/
  satHit    : Bool := false
  /-- multiframes since each of the guard's trips within the last 1,024 -/
  trips     : List Nat := []
  /-- of the quality period in progress: multiframes completed, trip, saturation, uncorrectable codewords -/
  mfs       : Nat := 0
  tripped   : Bool := false
  saturated : Bool := false
  uncorr    : Nat := 0
  flipped   : Nat := 0
  /-- codewords of the period with at least FEC_DEG_SYM symbols corrected, R146 -/
  deg       : Nat := 0
  /-- the multiframe MSEs of the period so far, binary32 images, latest first (R350) -/
  mses      : List W32 := []
  /-- the frequency estimate's phase detector run of R58 TIMING is the environment's; EQF runs of R62 -/
  lowRun    : Nat := 0
  highRun   : Nat := 0
  eqfRaised : Bool := false
  deriving DecidableEq, Repr

/-- The echo search, R36 to R39. -/
structure RxEcho where
  /-- passes made in ECHO_SEARCH, or quality periods of the background sweep: 0 to 63 -/
  pass      : Nat := 0
  /-- echoes found in the sweep in progress: (delay, magnitude in dB) -/
  found     : List (Nat × Int) := []
  overflow  : Bool := false
  uncovered : Bool := false
  /-- LANE_ECHO_SEARCH: a new sweep starts in the next quality period -/
  restart   : Bool := false
  /-- groups ramping to zero for relocation: (group, updates left, new delay) -/
  ramps     : List (Nat × Nat × Nat) := []
  placed    : Bool := false
  deriving DecidableEq, Repr

/-- One lane receiver. -/
structure Rx where
  st        : RxSt := .off
  path      : RxPath := .cold
  /-- R59, R48: the capture of what the lane was doing in WARM_VERIFY: the second entry (MSE verification) -/
  verifying : Bool := false
  sigDetect : Bool := false
  /-- MLSD_TRAIN has met its exit condition with the checker on: the lane stays there and tracks, R89 -/
  checkHold : Bool := false
  /-- the first assertion of signal detect after a resume wake, R355 -/
  fastDetect : Bool := false
  cfg       : RxCfg := {}
  use       : RxCfg := {}
  irejUse   : Bool := true
  half      : Bool := true
  stretch   : Bool := false
  coef      : RxCoef := {}
  expAcq    : List Nat := [8, 9, 10]
  expTrk    : List Nat := [14, 15, 16]
  /-- FREEZE bits of LANE_ADAPT: FFE, canceller, ALPHA -/
  freeze    : BitVec 3 := 0
  /-- adaptation frozen since a loss-of-lock condition, R44 -/
  lossFrozen : Bool := false
  agcRun    : Nat := 0
  agcLimit  : Bool := false
  precode   : Bool := false
  negotiated : Bool := false
  otherTried : Bool := false
  guard     : RxGuard := {}
  echo      : RxEcho := {}
  quality   : Quality := {}
  cap       : RxCap := {}
  /-- a snapshot is being written (R48), and what waits for its end -/
  snapBusy  : Bool := false
  defStop   : Bool := false
  defLoss   : Option (BitVec 2) := none
  /-- the mode that a hand-over gives the receive side once the snapshot is whole -/
  defMode   : Option Bool := none
  /-- the cause of the loss being settled, R58: 0 LOS, 1 TIMING, 2 FRAME -/
  loss      : Option (BitVec 2) := none
  retries   : Nat := 0
  backoff   : Bool := false
  lockLoss  : W32 := 0
  acqRetry  : W32 := 0
  warmFail  : W32 := 0
  retrySt   : Byte := 0xFF
  lossCause : Byte := 0xFF
  deriving DecidableEq, Repr

end Sys2Proof.Machine
end

