-- ==== Sys2Proof/Blocks/Tx.lean ====
section
/-! DEFINITION. State of one lane transmitter, its test generator, checker and loopback (chapter 03), of the
test machines of host lanes, of Stretch mode (chapter 04) and of a lane's framer (chapter 05). Defaults are the
reset values. -/

namespace Sys2Proof.Machine

/-- Transmit states, R82. -/
inductive TxSt where
  | hiz | quiet | icingOnly | data | pattern | fault
  deriving DecidableEq, Repr

/-- Predistortion training, R73 and R74. -/
structure Train where
  iter  : Nat := 16
  step  : Nat := 1
  done  : Nat := 0
  small : Nat := 0
  deriving DecidableEq, Repr

/-- A pattern checker, R89 and R90 (line and host lanes). -/
structure Checker where
  on      : Bool := false
  pattern : Byte := 0
  locked  : Bool := false
  bits    : W48 := 0
  errBits : W48 := 0
  errSyms : W48 := 0
  losses  : W32 := 0
  deriving DecidableEq, Repr

/-- A test generator, R88. -/
structure Gen where
  on       : Bool := false
  pattern  : Byte := 0
  override : Byte := 0
  /-- symbols of the pattern sent before the current multiframe -/
  pos      : Nat := 0
  deriving DecidableEq, Repr

/-- The settings a transmitter keeps in its shadow, R337: those in force and those waiting for the next multiframe
boundary (R68, R70, R72, R79). -/
structure TxSet where
  precode  : Bool := false
  precodeP : Option Bool := none
  fir      : List Int := [0, 0, 64, 0, 0, 0, 0, 0, 0]
  firP     : Option (List Int) := none
  pd       : List Int := List.replicate 64 0
  pdP      : Option (List Int) := none
  level    : Int := -18
  levelP   : Option Int := none
  swing    : Nat := 15
  swingT   : Nat := 15
  coarse   : Nat := 0
  fine     : Nat := 0
  fineT    : Nat := 0
  loopback : Byte := 0
  deriving DecidableEq, Repr

/-- One lane transmitter. -/
structure Tx where
  st        : TxSt := .hiz
  /-- a transition that waits for the next multiframe boundary, R83 -/
  next      : Option TxSt := none
  /-- the 20 µs start-up of a powered TX analogue domain runs, R82 -/
  starting  : Bool := false
  /-- the wake sequence returns this transmitter to DATA, R352 -/
  toData    : Bool := false
  latched   : Bool := false
  set       : TxSet := {}
  /-- rate in use, and one waiting for a multiframe boundary, R87 -/
  half      : Bool := true
  halfP     : Option Bool := none
  /-- Stretch mode on the transmit side -/
  stretch   : Bool := false
  pdLimit   : Bool := false
  train     : Option Train := none
  clips     : W32 := 0
  clipPer   : W32 := 0
  /-- codes limited in the quality period in progress that TX_DAC_CLIP holds already -/
  clipNow   : Nat := 0
  clipArmed : Bool := true
  /-- the multiframe at whose start the latest transmit quality period ended, R459 -/
  periodAt  : Nat := 0
  loopSlip  : W32 := 0
  /-- LINE_FAR: the transmit side is reported as DATA with LOOPED, R91 -/
  looped    : Bool := false
  /-- the lane is on its way to HIZ, for a sleep or for a park that completes there (R83, R344, R346) -/
  shed      : Bool := false
  parking   : Bool := false
  /-- LOOPBACK_SET with LINE_FAR is to bring the transmit side to DATA, R91 -/
  loopData  : Bool := false
  fill      : Nat := 2048
  gen       : Gen := {}
  check     : Checker := {}
  /-- the precoder's memory: the last level index sent, R67 -/
  lastSent  : Nat := 0
  deriving DecidableEq, Repr

/-- A bit table of Stretch mode, R104 to R106: bits and gain of the tones 1 to 255, in tone order. -/
structure BitTable where
  id    : Byte := 0
  bits  : List Nat := []
  gains : List Int := []
  slots : Nat := 0
  deriving DecidableEq, Repr

/-- Phases of Stretch mode as STRETCH_STATUS gives them. -/
inductive StPhase where
  | none | probe | loading | exchange | countdown | data
  deriving DecidableEq, Repr

/-- A hand-over of a lane between PAM4 and Stretch, R120 to R122. -/
structure HandOver where
  stretch  : Bool := false
  mseq     : Byte := 0
  /-- this node asked (MODE_REQ sent) or answered -/
  initiator : Bool := true
  /-- the far end's lane named in the request -/
  farLane  : Byte := 0
  resends  : Nat := 0
  /-- MODE_REQ answered or accepted: the switch is scheduled -/
  agreed   : Bool := false
  /-- PRECODE of the request -/
  prec     : Byte := 0
  deriving DecidableEq, Repr

/-- Stretch mode of one lane, chapter 04. -/
structure Stretch where
  margin    : Byte := 12
  marginMin : Byte := 4
  probe     : Byte := 2
  rms       : Byte := 28
  capHold   : Byte := 0
  raiseEn   : Bool := false
  accept    : Bool := false
  phase     : StPhase := .none
  /-- tables in force, receive and transmit, and those waiting for their switch -/
  rxTab     : Option BitTable := none
  txTab     : Option BitTable := none
  rxNext    : Option BitTable := none
  txNext    : Option BitTable := none
  /-- a table accepted while `txNext` is counted down -/
  txLater   : Option BitTable := none
  /-- decoder counts of the latest multiframe whose pilot 0 named another table (R110) -/
  lateFec   : FecCounts := {}
  /-- state of the pilots' PRBS31, never reset (R99) -/
  pilotSt   : Nat := 2 ^ 31 - 1
  nextId    : Byte := 1
  predMargin : Int := 0
  /-- snr(n) of the latest quality period (R117) -/
  snr       : List W16 := []
  /-- the latest SNR values, of a probe or a quality period (R103) -/
  measured  : List W16 := []
  /-- m(n) of R116 -/
  margins   : List Int := []
  /-- sendings of the table (R108), and whether it was acknowledged -/
  sends     : Nat := 0
  /-- the grade at which the pending table was sent last, R251 -/
  sentGrade : Nat := 6
  acked     : Bool := false
  /-- countdown variant last seen, R109 -/
  count     : BitVec 2 := 0
  /-- the segments of an incoming table: (index, record) -/
  segs      : List (Nat × Bytes) := []
  reload    : Bool := false
  /-- subcarriers whose margin was below MARGIN_MIN in the latest period, R116 -/
  lowPrev   : List Nat := []
  raiseRun  : Nat := 0
  sinceChange : Nat := 0
  pilotRun  : Nat := 0
  /-- STRETCH_MARGIN_LOW has been raised in the present run of SWAP periods, R116 -/
  lowRaised : Bool := false
  mismatch  : W32 := 0
  lateSwitch : W32 := 0
  handOver  : Option HandOver := none
  /-- MSEQ of the request that this lane's latest switch was made for, where this end was the recipient, R259 -/
  lastMode  : Option Byte := none
  /-- STRETCH_ENTERED or STRETCH_EXITED is due at the next LOCKED -/
  announce  : Bool := false
  /-- multiframe boundaries until the transmitter's table switch once C3 has been sent, R109 -/
  countTx   : Option Nat := none
  /-- quality periods in a row with uncorrectable codewords, R116 -/
  uncorrRun : Nat := 0
  /-- TEQ taps and FEQ coefficients (real, imaginary by subcarrier), LSB 2^-12, R101, R118 -/
  teq       : List Int := List.replicate 32 0
  feq       : List Int := List.replicate 510 0
  deriving DecidableEq, Repr

/-- FEC and framing counters, R145. -/
structure FecCnt where
  innerCorr : W64 := 0
  innerFail : W64 := 0
  innerBits : W64 := 0
  rsCw      : W64 := 0
  rsHist    : Tab W64 := []
  rsUncorr  : W64 := 0
  rsSym     : W64 := 0
  rsBits    : W64 := 0
  blkErr    : W64 := 0
  ohFail    : W64 := 0
  syncErr   : W64 := 0
  gccOver   : W64 := 0
  deriving DecidableEq, Repr

/-- A message on the general communication channel of a lane, R137. -/
structure Gcc where
  mfc  : Byte := 0
  seq  : Byte := 0
  data : Bytes := []
  deriving DecidableEq, Repr

/-- The framer of one lane, chapter 05. -/
structure Framer where
  degSym   : Byte := 10
  degCount : W16 := 16
  degSet   : Bool := false
  degRun   : Nat := 0
  clearRun : Nat := 0
  lastUncorr : Bool := false
  cnt      : FecCnt := {}
  /-- multiframe lock, R142 -/
  lock     : Bool := false
  /-- bytes 0x04 to 0x23 of the latest valid header, and multiframes since it (R138) -/
  header   : Option Bytes := none
  age      : Nat := 0
  /-- 0 = OFF, 1 = REPORT, 2 = ENFORCE, R139 -/
  idMode   : Byte := 1
  /-- expected sender, R139: none = the default expectation -/
  idExpect : Option (W16 × Byte) := none
  mismatch : Bool := false
  missRun  : Nat := 0
  matchRun : Nat := 0
  syncRun  : Nat := 0
  fmtRun   : Nat := 0
  uncorrRun : Nat := 0
  feRx     : Byte := 0
  slotFe   : Tab Byte := []
  gccTx    : List Gcc := []
  /-- GCC_SEQ of the latest non-empty message sent -/
  gccSeq   : Byte := 0
  /-- the overhead channel of the multiframe being sent, R133 and R144, and the message in it -/
  ohTx     : Bytes := []
  gccNow   : Option Gcc := none
  gccRx    : List Gcc := []
  calSeq   : Byte := 0
  /-- CAL_SEQ has advanced at the boundary at which the present multiframe began (R134) -/
  seqDone  : Bool := false
  /-- uncorrectable codewords and symbols corrected in the last received multiframe: FE_UNCORR, FE_CORR_SYM (R134) -/
  feUncorr : Nat := 0
  feSym    : Nat := 0
  deriving DecidableEq, Repr

end Sys2Proof.Machine
end

