-- ==== Sys2Proof/Blocks/Slots.lean ====
section
/-! DEFINITION. State of the faces, transmit masks, slots and client links (chapter 06). Defaults are the reset
values. -/

namespace Sys2Proof.Machine

/-- The transmit mask of a lane by cause, R159: a slot's mask bit is set while any cause holds it. -/
structure LaneMask where
  stretch : W64 := 0
  tier    : W64 := 0
  down    : W64 := 0
  deriving DecidableEq, Repr

/-- A receive slot, R161 to R163 and R174. -/
structure RxSlot where
  /-- the code that routes the current multiframe -/
  route    : W16 := 0
  /-- NXT2 of the previous multiframe's entry, when it was valid -/
  nxt2     : Option W16 := none
  mismatch : Bool := false
  disagree : W32 := 0
  /-- multiframes since CAL_ROUTE_DISAGREE was last raised, limited to 1,024 -/
  sinceEv  : Nat := 1024
  /-- the receive map is in SYNC; otherwise in HUNT -/
  sync     : Bool := false
  framErr  : W32 := 0
  /-- octets of the frame that the map follows, still to come; header octets gathered -/
  left     : Nat := 0
  hdr      : Bytes := []
  /-- HUNT: octets held while a candidate is followed to its end, with their errored flags -/
  held     : List (Byte × Bool) := []
  /-- an entry has been received since multiframe lock: the slot is routed (R142) -/
  routed   : Bool := false
  /-- an errored block was in the multiframe: SLOT_FE.ERRORED of R135 -/
  feErr    : Bool := false
  /-- the same of the last complete received multiframe -/
  feLast   : Bool := false
  deriving DecidableEq, Repr

/-- A transmit slot: its add queue and frame map (R168 to R173) and its regenerator (R176 to R179). -/
structure TxSlot where
  /-- joining until the start of this multiframe of the face -/
  joinEnd  : Option Nat := none
  leaving  : Bool := false
  /-- frames admitted and not yet begun, oldest first -/
  queue    : List Bytes := []
  /-- octets of the header and frame being sent, still to be sent -/
  sending  : Bytes := []
  /-- fondant octets owed before the next header, R173 -/
  owed     : Nat := 1
  /-- the regenerator's elastic store: octets with their errored flags; an errored octet of value 1 marks where the source
  stopped in mid-frame (R178) -/
  store    : List (Byte × Bool) := []
  started  : Bool := false
  /-- octets of the frame being regenerated still to send, header included -/
  frameLeft : Nat := 0
  /-- the frame's octets as sent so far, for the abort mark -/
  sent     : Bytes := []
  aborting : Bool := false
  /-- the frame being completed is cut: none of its octets are in the store any more -/
  cut      : Bool := false
  /-- source octets of an aborted frame still to be discarded -/
  skip     : Nat := 0
  slipping : Bool := false
  inserted : W32 := 0
  deleted  : W32 := 0
  aborts   : W32 := 0
  slips    : W32 := 0
  sinceSlip : Nat := 1024
  /-- the 32 octets of the block sent last, and whether it crossed in the multiframe of a slip (R18) -/
  block    : Bytes := []
  blockErr : Bool := false
  /-- the blocks of the current multiframe sent so far, in order (R125) -/
  blocks   : List Bytes := []
  deriving DecidableEq, Repr

/-- A client link: the entry in use (R165, R166), its state (R167) and its counters (R181). -/
structure Client where
  entry    : Bytes := List.replicate 16 0
  /-- ACTIVE, DROP_E and DROP_W of CTRL as applied on face East and on face West, R166 -/
  liveE    : Byte := 0
  liveW    : Byte := 0
  up       : Bool := false
  addFrames  : W48 := 0
  addOctets  : W48 := 0
  policed    : W48 := 0
  noSlot     : W48 := 0
  oversize   : W48 := 0
  flushed    : W48 := 0
  dropFrames : W48 := 0
  dropOctets : W48 := 0
  errored    : W48 := 0
  aborted    : W48 := 0
  fcsErr     : W48 := 0
  deriving DecidableEq, Repr

/-- A face: calendar copies, transmit timing, fault input and trace (R154 to R158, R134, R84). -/
structure Face where
  /-- the ACTIVE copy: 0 = A, 1 = B -/
  active   : BitVec 1 := 0
  /-- the multiframe at whose start the other copy becomes ACTIVE, when it is PENDING -/
  pending  : Option Nat := none
  /-- the current transmit multiframe of the face; its MFC is this modulo 256 -/
  mf       : Nat := 0
  /-- Hold or Toffee watch abandoned a switch: CAL_COMMIT_FAIL is due after wake (R158) -/
  abandoned : Bool := false
  switches : W32 := 0
  trace    : Bytes := List.replicate 16 0
  traceP   : Option Bytes := none
  /-- FAULT_E_N or FAULT_W_N is asserted -/
  faultIn  : Bool := false
  /-- lanes whose crumb of the ACTIVE copy failed on wake: in force as PARKED until the next switch (R362) -/
  crumbFail : Byte := 0
  deriving DecidableEq, Repr

end Sys2Proof.Machine
end

