-- ==== Sys2Proof/Blocks/Streams.lean ====
section
/-! DEFINITION. State of the stream redundancy engine (chapter 07) and of the host lanes and ports (chapter 08).
Defaults are the reset values. -/

namespace Sys2Proof.Machine

/-- A member of an add stream, R185: EN, FACE, CLIENT. -/
structure Member where
  en     : Bool := false
  face   : BitVec 1 := 0
  client : BitVec 10 := 0
  deriving DecidableEq, Repr

/-- The configured fields of a stream context, R185. -/
structure CtxCfg where
  dir     : Bool := false
  funcEn  : Bool := false
  alg     : Bool := false
  strip   : Bool := false
  htag    : Bool := false
  ledEn   : Bool := false
  prof    : BitVec 4 := 0
  member0 : Member := {}
  member1 : Member := {}
  ktype   : Bool := false
  client  : BitVec 10 := 0
  dmac    : Bytes := [0, 0, 0, 0, 0, 0]
  vid     : W16 := 0
  altEn   : Bool := false
  altClient : BitVec 10 := 0
  deriving DecidableEq, Repr

/-- A stream context, R185. -/
structure Ctx where
  valid    : Bool := false
  cfg      : CtxCfg := {}
  takeAny  : Bool := false
  genSeq   : W16 := 0
  recovSeq : W16 := 0
  timer    : W16 := 0
  history  : W64 := 0
  ledAcc   : Int := 0
  wrap     : BitVec 5 := 0
  ledSig   : Bool := false
  epoch    : Byte := 0
  passed   : W32 := 0
  discarded : W32 := 0
  outOfOrder : W32 := 0
  rogue    : W32 := 0
  resets   : W32 := 0
  deriving DecidableEq, Repr

/-- A key bucket entry with VALID = 1, R184. -/
structure KeyEnt where
  alt   : Bool := false
  fp    : Byte := 0
  index : BitVec 18 := 0
  deriving DecidableEq, Repr

/-- A stream profile, R186. -/
structure Profile where
  histLen : Byte := 32
  resetMs : W16 := 50
  ledDiff : W16 := 256
  deriving DecidableEq, Repr

/-- A record of a bulk load that the engine is inserting, R193. -/
structure Bulk where
  dma   : Byte
  addr  : W32
  count : W32
  deriving DecidableEq, Repr

/-- Engine counters, R210: per direction (add, drop), device-wide, and per bank. -/
structure EngCnt where
  lookAdd   : W64 := 0
  lookDrop  : W64 := 0
  overAdd   : W48 := 0
  overDrop  : W48 := 0
  noAdd     : W48 := 0
  noDrop    : W48 := 0
  badIndex  : W48 := 0
  tagless   : W48 := 0
  eccDrop   : W48 := 0
  eccCorr   : Tab W32 := []
  eccFatal  : Tab W32 := []
  deriving DecidableEq, Repr

/-- A frame in the add lookup queue, R188, R190: client link, IDTYPE and IDENT of its tag, octets. -/
structure AddReq where
  client : Nat
  idType : Nat
  ident  : Nat
  frame  : Bytes
  deriving DecidableEq, Repr

/-- A frame in the drop lookup queue, R189, R190: the client and face that dropped it, octets. -/
structure DropReq where
  client : Nat
  face   : Nat
  frame  : Bytes
  deriving DecidableEq, Repr

/-- The stream engine. -/
structure Streams where
  /-- the tables are clear and in use, R206 -/
  ready    : Bool := false
  ctxs     : Tab Ctx := []
  /-- key bucket entries: entry 0 or 1 of bucket b in way w at 131,072·w + 2·b + entry, R183, R184 -/
  keys     : Tab (Option KeyEnt) := []
  profiles : Tab Profile := []
  dropKey  : Bool := false
  ledPeriod : W16 := 1000
  epoch    : Byte := 0
  /-- the epoch has increased and no periodic sweep that began after it has completed, R201 -/
  sweepDue : Bool := false
  /-- the wake sweep has still to be made, R201 -/
  wakeSweep : Bool := false
  /-- steps made by the LFSR of R191 -/
  lfsr     : Nat := 0
  bulk     : Option Bulk := none
  /-- key bucket words and context words with an uncorrectable error, reported once each: (bank, word), R195 -/
  failed   : List (Nat × Nat) := []
  /-- words that hold an error which the engine has not read yet: bank, word, and whether it is uncorrectable (R194) -/
  upset    : List ((Nat × Nat) × Bool) := []
  /-- STREAM_TABLE_LOST is due when the tables are clear, R206 -/
  lost     : Bool := false
  cnt      : EngCnt := {}
  /-- frames waiting in the lookup queue of each direction, oldest first, R190 -/
  queueAdd : List AddReq := []
  queueDrop : List DropReq := []
  /-- multiframes since STREAM_LOOKUP_OVERRUN was last raised, limited to 1,024 -/
  sinceOver : Nat := 1024
  deriving DecidableEq, Repr

/-- Host port states, R217. -/
inductive PortSt where
  | disabled | acquire | up | remoteFault
  deriving DecidableEq, Repr

/-- A frame in an egress buffer, R228, with what its transmission needs (R224, R226): its client, the face that
dropped it, its stream and its elimination flags. -/
structure Egress where
  octets : Bytes
  client : Nat
  face   : Nat
  stream : Option Nat
  flags  : BitVec 4
  deriving DecidableEq, Repr

/-- A host port, R213 to R232. -/
structure Port where
  st      : PortSt := .disabled
  width   : Byte := 1
  vlan    : Bool := false
  polTx   : Byte := 0
  polRx   : Byte := 0
  aligned : Bool := false
  egress  : List Egress := []
  /-- the frame sent to the host last, with its tag, and whether it crossed in the multiframe of a slip (R18) -/
  sent    : Bytes := []
  sentErr : Bool := false
  rxFrames : W48 := 0
  rxOctets : W48 := 0
  txFrames : W48 := 0
  txOctets : W48 := 0
  rxErrored : W48 := 0
  fcsErr  : W48 := 0
  lenErr  : W48 := 0
  tagMissing : W48 := 0
  tagBad  : W48 := 0
  clientInactive : W48 := 0
  downDrop : W48 := 0
  egressDrop : W48 := 0
  deriving DecidableEq, Repr

/-- A host lane, R215 to R217, R231, R232. -/
structure HLane where
  taps    : List Int := [0, 0, -8, 56, 0]
  hswing  : Byte := 10
  /-- fixed CTLE peaking, or none = adaptive -/
  ctle    : Option Byte := none
  freeze  : Bool := false
  /-- the CTLE peaking to which the lane has adapted, in steps of 0.5 dB, R216 -/
  ctleNow : Byte := 0
  /-- the 32 taps of the receive FFE, eight of them pre-cursor taps, R216 -/
  ffe     : List Int := List.replicate 32 0
  eqf     : W16 := 0
  /-- the lane has acquired, R216, R217 -/
  lock    : Bool := false
  loopback : Byte := 0
  /-- fill of the loopback's elastic store, and its slips, R92, R231 -/
  fill    : Nat := 2048
  loopSlip : W32 := 0
  gen     : Gen := {}
  check   : Checker := {}
  rsCw    : W48 := 0
  rsCorr  : W48 := 0
  rsUncorr : W48 := 0
  rsSym   : W48 := 0
  deriving DecidableEq, Repr

end Sys2Proof.Machine
end

