-- ==== Sys2Proof/Blocks/Icing.lean ====
section
/-! DEFINITION. State of the Icing channel of one face (chapter 09). Defaults are the reset values. -/

namespace Sys2Proof.Machine

/-- Icing receiver states, R240. -/
inductive IcSt where
  | off | search | detect | header | body | watchSleep
  deriving DecidableEq, Repr

/-- Icing parameters of a face, R252: GRADE_TX 0 = AUTO; DISC_PERIOD and REPORT_PERIOD in 100 ms; RAMP in 8 µs. -/
structure IcCfg where
  rxEnable   : Bool := true
  rxGrades   : BitVec 6 := 0x3F
  gradeTx    : Byte := 0
  gradeMargin : Byte := 6
  discGrade  : Byte := 9
  discPeriod : Byte := 10
  reportPeriod : W16 := 0
  duplex     : Bool := false
  ramp       : Byte := 8
  detThresh  : Byte := 10
  capThresh  : Byte := 6
  tapCal     : Int := 0
  watchGrade : Byte := 9
  modeAccept : Bool := false
  tierAccept : Bool := false
  deriving DecidableEq, Repr

/-- A neighbour table entry, R254: its DISCOVERY payload, when it arrived (LPO counts) and its latest levels. -/
structure Nbr where
  addr  : W16
  found : Bool
  disc  : Bytes
  at_   : W64
  rssi  : W16
  snr   : W16
  deriving DecidableEq, Repr

/-- Levels recorded for a source, R246. -/
structure Heard where
  addr  : W16
  rssi  : W16
  snr   : W16
  grade : Byte
  deriving DecidableEq, Repr

/-- What decides a frame's grade when its burst begins: R251 for a first send, R251 for a resend after a send at a grade, or
the command that sends it (R262). -/
inductive GradePick where
  | first
  | after (g : Nat)
  | given (g : Nat)
  deriving DecidableEq, Repr

/-- A frame waiting for a burst, R247, R251; `up` is WAKE_MS of an extended preamble (R262). -/
structure IcFrame where
  mtype   : Byte
  dst     : W16
  payload : Bytes
  cls     : Nat
  pick    : GradePick
  up      : W16 := 0
  deriving DecidableEq, Repr

/-- A burst on air, R248, R249, R252: its frames and their grade, the lane in the face that carries it, whether it holds
one frame for an SG1608, and ACCESS and RAMP_US as they stood when it began. -/
structure Burst where
  frames : List IcFrame := []
  grade  : Nat := 6
  lane   : Nat := 0
  single : Bool := false
  blanks : Bool := true
  ramp   : Byte := 8
  /-- its lane has left DATA and ICING_ONLY: nothing of it is sent any more (R250) -/
  stopped : Bool := false
  deriving DecidableEq, Repr

/-- A GEN_MSG sent with ACK_REQ and not yet acknowledged, R261. -/
structure GenWait where
  gseq    : Byte
  dst     : W16
  payload : Bytes
  resends : Nat
  grade   : Nat
  deriving DecidableEq, Repr

/-- A general message received, R261. -/
structure GenRx where
  src   : W16
  grade : Byte
  rssi  : W16
  snr   : W16
  gseq  : Byte
  data  : Bytes
  deriving DecidableEq, Repr

/-- A MODE_REQ or TIER_REQ sent and not yet acknowledged: resends so far, R259, R260. -/
structure ReqOut where
  mseq    : Byte
  tier    : Bool
  lane    : Nat
  dst     : W16
  payload : Bytes
  resends : Nat
  /-- the grade of the latest send, R251 -/
  grade   : Nat := 6
  /-- it is a MODE_CANCEL, sent three times -/
  cancel  : Bool := false
  deriving DecidableEq, Repr

/-- A request received: its answer once given (for repeats), or the host is being asked, R259, R260, R383. -/
structure ReqIn where
  mseq    : Byte
  tier    : Bool
  src     : W16
  payload : Bytes
  /-- the answer given: the third byte of the acknowledgement, and the lanes for a Tier request -/
  answer  : Option Bytes
  /-- its acceptance has been acted on: a repeat is acted on once -/
  acted   : Bool := false
  deriving DecidableEq, Repr

/-- A predistortion feedback awaited (R258): local lane and FB_SEQ. -/
structure FbWait where
  lane  : Nat
  fbSeq : Byte
  deriving DecidableEq, Repr

/-- A PD_FB owed (R258): the receiving lane, the requester, its transmitting lane, FB_SEQ, and whether the quality
period measured has begun. -/
structure FbOwed where
  lane   : Nat
  dst    : W16
  txLane : Byte
  fbSeq  : Byte
  armed  : Bool := false
  deriving DecidableEq, Repr

/-- Icing counters, R264. -/
structure IcCnt where
  rxOk : W32 := 0
  crcFail : W32 := 0
  hdrFail : W32 := 0
  falseDetect : W32 := 0
  netMismatch : W32 := 0
  capture : W32 := 0
  secIgnored : W32 := 0
  ownEcho : W32 := 0
  addrFiltered : W32 := 0
  unknownType : W32 := 0
  rxOverflow : W32 := 0
  nbrFull : W32 := 0
  watchIgnored : W32 := 0
  txFrames : W32 := 0
  txDefer : W32 := 0
  txFail : W32 := 0
  txAbort : W32 := 0
  txUnavail : W32 := 0
  deriving DecidableEq, Repr

/-- A run of windows that a searcher counts, R242, R245. -/
structure IcRun where
  grade : Nat
  bin   : Nat
  count : Nat
  deriving DecidableEq, Repr

/-- Receiver of a face, R240 to R246: grade and bin detected, the step of R243, the level of the frame being received, and
its LEN. -/
structure IcRx where
  st     : IcSt := .off
  /-- AGC gain in 1.5 dB steps, 0 to 40 -/
  gain   : Nat := 0
  grade  : Nat := 6
  bin    : Nat := 0
  step   : Nat := 0
  /-- windows of the run of up-chirps followed in DETECT -/
  run    : Nat := 0
  /-- peak energy and that of the other bins in the run's latest window -/
  peak   : Nat := 0
  rest   : Nat := 0
  /-- power of the up-chirps with the AGC gain removed, 1/16 dB -/
  level  : Int := 0
  len    : Byte := 0
  /-- NET_ID, NODE_ADDR and TAP_CAL as they stood when the frame was found: a change acts from the next one (R252) -/
  net    : Byte := 0
  addr   : W16 := 0
  cal    : Int := 0
  /-- what the secondary searcher has counted of another run; in SEARCH, what the primary searcher continues from -/
  second : Option IcRun := none
  avgLevel : W16 := 0
  deriving DecidableEq, Repr

/-- The Icing channel of a face. -/
structure Icing where
  cfg    : IcCfg := {}
  lane   : Nat := 0
  rx     : IcRx := {}
  nbrs   : List Nbr := []
  heard  : List Heard := []
  pin    : W16 := 0
  far    : W16 := 0
  /-- far lane paired with each lane of the face, and the pairs fixed by ICING_LANE_MAP -/
  map    : Tab (Option Byte) := []
  fixed  : Byte := 0
  queue  : List IcFrame := []
  burst  : Option Burst := none
  /-- a ready burst waits to be tried again: its deferrals and the slots drawn last, R249 -/
  waiting : Bool := false
  defers : Nat := 0
  slots  : Nat := 0
  /-- the timestamp up to which the receiver stays blanked after a burst, R249 -/
  blankEnd : W64 := 0
  qseq   : Byte := 0
  gseq   : Byte := 0
  mseq   : Byte := 0
  fbSeq  : Byte := 0
  genRx  : List GenRx := []
  lastGen : List (W16 × Byte) := []
  genWait : List GenWait := []
  reqOut : List ReqOut := []
  reqIn  : List ReqIn := []
  fbWait : List FbWait := []
  fbOwed : List FbOwed := []
  cnt    : IcCnt := {}
  deriving DecidableEq, Repr

end Sys2Proof.Machine
end

