-- ==== Sys2Proof/Blocks/Control.lean ====
section
/-! DEFINITION. State of the optics control engine (chapter 10), bias outputs and monitors (chapter 11), calibration
(chapter 12), DMA engine and counters (chapter 16) and the Tier procedure (R381). Defaults are the reset values. -/

namespace Sys2Proof.Machine

/-- The set-point path of a loop: R, R_VEL, R_ACC and its target, R278, R280. -/
structure SpPath where
  r      : W32 := 0
  vel    : W32 := 0
  acc    : W32 := 0
  target : W32 := 0
  deriving DecidableEq, Repr

/-- A control loop, R265 to R292: the 32 words of its state (R270) and what the engine keeps beside them. -/
structure Loop where
  words    : List W32 := List.replicate 32 0
  swapDue  : Bool := false
  /-- the swap that is due was called by R284 -/
  autoSwap : Bool := false
  /-- HANDOVER: the open-loop path that goes on (R280), and the SP_TARGET of the LOOP_MODE command -/
  openPath : Option SpPath := none
  hoTarget : W32 := 0
  /-- the EVENT flag of the latest LOOP_TARGET, R278 -/
  event    : Bool := false
  missRun  : Nat := 0
  staleRun : Nat := 0
  errRun   : Nat := 0
  /-- frames since LOOP_MISS was last raised, limited to 1,024 -/
  sinceMiss : Nat := 1024
  missCount : W32 := 0
  satFrames : W32 := 0
  liShort  : W32 := 0
  faultCount : W16 := 0
  /-- lock-in: the period in progress, a period about to begin, and a result that has arrived with its VALID -/
  liSamples : List (Nat × W32) := []
  liFrames : Nat := 0
  liInvalid : Bool := false
  liRestart : Bool := true
  liResult : Option (W32 × Bool) := none
  code     : W16 := 0
  /-- after a resume wake, CLOSED waits for the first valid measurement, R352 -/
  resume   : Bool := false
  deriving DecidableEq, Repr

/-- A test on a core, R287. -/
structure Test where
  loop    : Nat
  atOut   : Bool
  signal  : Byte
  ampl    : W32
  inc     : W32
  hold    : Nat
  pre     : Nat
  length  : Nat
  /-- frames done, phase ψ, PRBS9 register and frames its bit has been held -/
  done    : Nat := 0
  psi     : W32 := 0
  prbs    : BitVec 9 := 0x1FF
  held    : Nat := 0
  deriving DecidableEq, Repr

/-- A LOOP_WRITE not yet applied, R274: the crumb that it rewrites whole with ALL, and its words as (loop, word
index, value). -/
structure LoopWrite where
  crumb : Option Nat := none
  words : List (Nat × Nat × W32)
  deriving DecidableEq, Repr

/-- An engine core, R265 to R268, R287, R288; `writes` are applied in the order given, two a frame. -/
structure Core where
  writes  : List LoopWrite := []
  test    : Option Test := none
  records : List (W32 × W32 × W32 × W32) := []
  peak    : W16 := 0
  /-- the first loop that missed in the frame before -/
  missed  : Option Nat := none
  deriving DecidableEq, Repr

/-- Bias output states, R294. -/
inductive BiasSt where
  | hiz | drive | safe | range | fault
  deriving DecidableEq, Repr

/-- The configuration record of a bias output, R304. -/
structure BiasRec where
  range    : BitVec 2 := 0
  slewEn   : Bool := false
  safeHiz  : Bool := true
  slewRate : Byte := 0
  slewStep : W16 := 64
  safeCode : W16 := 0
  damp     : W16 := 0
  dinc     : W32 := 0
  deriving DecidableEq, Repr

/-- The steps of a range change, R300. -/
inductive RangeStep where
  | none | dither | down | hiz | up
  deriving DecidableEq, Repr

/-- A bias output, R293 to R305. -/
structure Bias where
  record   : BiasRec := {}
  st       : BiasSt := .hiz
  cause    : Byte := 0
  /-- entries of the frame in progress still to be presented, and the entry presented last -/
  queue    : List W16 := []
  last     : W16 := 0
  /-- the block written for the next frame, R296 -/
  block    : Option (List W16) := none
  /-- enabled and first driven on the first tick of the next control frame, R295 -/
  starting : Bool := false
  b        : W16 := 0
  t        : Nat := 0
  phi      : W32 := 0
  damp     : W16 := 0
  dinc     : W32 := 0
  /-- a change of dither that waits for a zero crossing, R299 -/
  dither   : Option (W16 × W32) := none
  rangeStep : RangeStep := .none
  /-- the range in force: the record's but for the part of a range change before it switches, R300 -/
  rangeNow : BitVec 2 := 0
  /-- the range in force before the range change in progress, R303 -/
  oldRange : BitVec 2 := 0
  target   : W16 := 0
  hizTicks : Nat := 0
  /-- SAFE was entered by the entry to Hold or Toffee watch, R303, R352 -/
  bySleep  : Bool := false
  /-- the stage is at high impedance, and otherwise drives `out` -/
  highZ    : Bool := true
  out      : W16 := 0
  /-- since the last tick a command took the output out of DRIVE, SAFE or RANGE, or a fault was taken, R301 -/
  left     : Bool := false
  faulted  : Bool := false
  clip     : W32 := 0
  faults   : W16 := 0
  deriving DecidableEq, Repr

/-- An MADC, R307 to R310. -/
structure Madc where
  mask    : W64 := BitVec.allOnes 64
  windows : Byte := 2
  compat  : Bool := false
  refbuf  : Bool := false
  early   : W32 := 0
  earlyRaised : Bool := false
  /-- conversions made in the frame in progress, R307 -/
  conv    : Nat := 0
  /-- MASK, WINDOWS, compatibility mode and REFBUF_EN to take effect at the next frame boundary, R310 -/
  pending : Option (W64 × Byte × Bool) := none
  pendRef : Option Bool := none
  deriving DecidableEq, Repr

/-- A filter configuration record, R311. -/
structure FiltRec where
  fallback : Bool := false
  order    : Byte := 1
  len      : W16 := 1
  decim    : W16 := 1
  notch    : Byte := 0
  sos      : Byte := 0
  fade     : W16 := 64
  deriving DecidableEq, Repr

/-- A running configuration of a filter chain, R312 to R315. -/
structure Chain where
  record : FiltRec := {}
  /-- the last inputs of each moving-average stage, latest first -/
  stages : List (List Nat) := []
  /-- inputs since the last kept one, and their sum (fallback path) -/
  phase  : Nat := 0
  sum    : Nat := 0
  rom    : Nat := 0
  /-- output samples produced since zero state, or since the latest direct load, and how many settle it -/
  outs   : Nat := 0
  need   : Nat := 1
  /-- output samples that the averages still need after zero state, R315 -/
  lead   : Nat := 1
  /-- a kept value, in 1/256 code, that has still to pass the ROM response -/
  due    : Option Int := none
  latest : Int := 0
  deriving DecidableEq, Repr

/-- How a request is being carried out, R317, R318 (the ACTIVE codes of MON_STATUS). -/
inductive FiltReq where
  | none | direct | sync | fade
  deriving DecidableEq, Repr

/-- A request, R316, R317: a new record, or a synchronising reset. -/
inductive FiltAsk where
  | set (r : FiltRec)
  | sync
  deriving DecidableEq, Repr

/-- A monitor input's filter chain, R311 to R320. -/
structure Mon where
  /-- the record that MON_FILTER_SET gave last, R311 -/
  record  : FiltRec := {}
  cur     : Chain := {}
  /-- the new configuration during a cross-fade -/
  new     : Option Chain := none
  req     : FiltReq := .none
  /-- requests that are complete when VALID returns to 1, R318 -/
  waiting : Nat := 0
  /-- a direct load is made at the next output sample -/
  loadDue : Bool := false
  /-- requests that start at the next frame boundary, and one that waits for the cross-fade to end -/
  start   : List FiltAsk := []
  pending : Option FiltAsk := none
  /-- a synchronising reset is due that no request asked for -/
  syncDue : Bool := true
  /-- step 2 of R317 has begun, and its sample j -/
  weighs  : Bool := false
  fadeJ   : Nat := 0
  valid   : Bool := false
  fout    : Int := 0
  /-- the output register as it stood at the latest frame boundary, R320 -/
  shown   : W32 := 0
  replaced : W32 := 0
  deriving DecidableEq, Repr

/-- A pending trim, R323, R331, R333. -/
structure Pend where
  value     : Byte := 0
  limitFail : Bool := false
  /-- it came from an OUT_OF_SERVICE run -/
  oos       : Bool := false
  deriving DecidableEq, Repr

/-- A calibration run of one kind, R330: parts are numbered in its order. -/
structure CalRun where
  background : Bool := false
  set        : BitVec 192 := 0
  ranges     : BitVec 3 := 0
  /-- parts of the set still to be done, in ascending order -/
  parts      : List Nat := []
  /-- results so far: a part and its two-bit code -/
  results    : Tab (BitVec 2) := []
  deriving DecidableEq, Repr

/-- A scheduled apply strobe, R332: S is the start of multiframe `at_` of face East. -/
structure Strobe where
  at_   : Nat
  /-- the multiframe in which CAL_APPLY was accepted -/
  since : Nat
  kinds : BitVec 3
  force : Bool
  committed : Bool := false
  made  : Bool := false
  applied : BitVec 3 := 0
  heldBack : BitVec 3 := 0
  /-- uncorrectable codewords of each lane since the commit -/
  uncorr : Tab Nat := []
  deriving DecidableEq, Repr

/-- The quality figures of one part, R335: what its kind's runs measure, in the order of the table, and its FLAGS. -/
structure PartFigs where
  first    : W16 := 0
  second   : W16 := 0
  partial_ : Bool := false
  limit    : Bool := false
  deriving DecidableEq, Repr

/-- The quality figures of one set of trims, R335: those of each part, and the latest temperature of each lane. A part's
key is its lane for ADC, 16 + its lane for DAC, and 32 + 3n + r for BIAS. -/
structure Figs where
  parts : Tab (Option PartFigs) := []
  temps : Tab W16 := []
  deriving DecidableEq, Repr

/-- The calibration unit, R322 to R335. A trim's index is its image offset minus 0x0040. -/
structure Cal where
  trims    : Tab Byte := []
  pending  : Tab (Option Pend) := []
  /-- the figures of the trims in force, and of the pending ones -/
  qual     : Figs := {}
  qualP    : Figs := {}
  nvm      : Memory := []
  exported : Bool := false
  /-- a store in progress: the image being written, and whether it is a CAL_IMAGE_WRITE -/
  store    : Option (Bytes × Bool) := none
  runs     : Tab (Option CalRun) := []
  strobe   : Option Strobe := none
  /-- the freeze of R333 is in force -/
  frozen   : Bool := false
  deriving DecidableEq, Repr

/-- DMA channel states, R411. -/
inductive DmaSt where
  | idle | armed | running | done | error | cmd
  deriving DecidableEq, Repr

/-- A descriptor fetched, R409. -/
structure Desc where
  ctrl : W32
  src  : W32
  dst  : W32
  len  : W32
  deriving DecidableEq, Repr

/-- What the transfer of a command copies into management SRAM (R63, R288, R327). -/
inductive XferSrc where
  | capture (lane : Nat) | records (core : Nat) | image
  deriving DecidableEq, Repr

/-- The transfer of a command in progress (R418): its source, the window address it goes to, and its length. -/
structure Xfer where
  src  : XferSrc
  addr : Nat
  n    : Nat
  deriving DecidableEq, Repr

/-- A DMA channel, R411 to R418. -/
structure Chan where
  trig    : BitVec 4 := 0
  tsel    : BitVec 4 := 0
  pace    : Bool := false
  irqEn   : Bool := false
  head    : W24 := 0
  st      : DmaSt := .idle
  err     : BitVec 4 := 0
  overrun : Bool := false
  errf    : Bool := false
  donef   : Bool := false
  resid   : W24 := 0
  last    : W24 := 0
  /-- the next descriptor, the one fetched, and a pending trigger -/
  next    : W24 := 0
  desc    : Option Desc := none
  pending : Bool := false
  /-- bytes of the descriptor that whole bursts have moved, R407 -/
  moved   : Nat := 0
  /-- in CMD: the transfer of a command whose response waits for it -/
  xfer    : Option Xfer := none
  deriving DecidableEq, Repr

/-- A timer, R419. -/
structure Timer where
  run     : Bool := false
  oneshot : Bool := false
  period  : W32 := 0
  deriving DecidableEq, Repr

/-- A performance counter, R420 to R425; CARRY is kept at the even counter of a pair. -/
structure Cnt where
  val    : W32 := 0
  ovf    : Bool := false
  lost   : Bool := false
  carry  : Bool := false
  source : BitVec 15 := 0
  index  : W16 := 0
  chain  : Bool := false
  deriving DecidableEq, Repr

/-- A bandwidth window, R426. -/
structure Window where
  ms     : W16 := 0
  octets : W64 := 0
  frames : W64 := 0
  resOctets : W64 := 0
  resFrames : W64 := 0
  seq    : W32 := 0
  notify : Bool := false
  deriving DecidableEq, Repr

/-- DMA, timers, counters. -/
structure Dma where
  chans  : Tab Chan := []
  /-- the channel whose turn it is to take a burst, R407 -/
  turn   : BitVec 4 := 0
  timers : Tab Timer := []
  cnts   : Tab Cnt := []
  winIe  : Bool := false
  ovfIe  : Bool := false
  wins   : Tab Window := []
  deriving DecidableEq, Repr

/-- What a lane is doing in the Tier procedure of R381. -/
inductive TurnSt where
  | none | waiting | requested | switching | settling
  deriving DecidableEq, Repr

/-- The Tier procedure of one lane, R381: its turn, its result (0xFF = not reported), and the receiver's await. -/
structure TierLane where
  st      : TurnSt := .none
  result  : Byte := 0xFF
  mseq    : Byte := 0
  /-- the receiver awaits the far transmitter's change -/
  await   : Bool := false
  /-- the rate agreed: true = half -/
  half    : Bool := false
  /-- this end's transmitter has still to change rate, R381 step 4 -/
  due     : Bool := false
  /-- PRECODE of the request that was agreed, R260 -/
  prec    : Byte := 0
  /-- multiframe boundaries up to the one at which the transmitter changes rate (R260) -/
  left    : Nat := 0
  /-- the transmitter's rate when it was agreed: true = half (R259, R260 cancellation) -/
  old     : Bool := false
  deriving DecidableEq, Repr

/-- The Tier procedure, R380, R381. -/
structure TierProc where
  lanes   : Tab TierLane := []
  mask    : W16 := 0
  /-- TIER_DONE of the latest TIER_SET has been raised; later turns report alone -/
  doneRaised : Bool := true
  deriving DecidableEq, Repr

end Sys2Proof.Machine
end

