-- ==== Sys2Proof/Machine/State.lean ====
section
/-! DEFINITION. The state of the block, its faults and refusals, and the state after reset. Every block of the spec
has its structure under Sys2Proof/Blocks; what is kept per index is a canonical sparse table whose default is the
reset record, read through the accessors of Machine/Ops.lean. -/

namespace Sys2Proof.Machine

/-- What stops the machine. -/
inductive Fault where
  /-- A command after a VDD_AON_RESTART with a rail, REFCLK or strap outside R372: the device's behaviour is undefined
  until RESET_N has been held low (R339, R442). Raised by every command that acts through the frames of events, pins and
  Parax commands (`State.still`). Safe: nothing is claimed of what follows. -/
  | supplyOrder
  deriving DecidableEq, Repr

/-- What the model does not model. -/
inductive Refusal where
  /-- An arm of Dispatch whose command has no meaning yet. Safe: nothing is claimed of the command. -/
  | notModelled (mnemonic : String)
  deriving DecidableEq, Repr

/-- The state of the SG6416. -/
structure State where
  sys      : Sys := {}
  spi      : Spi := {}
  irq      : Irq := {}
  mbx      : Mbx := {}
  qry      : Tab Qry := []
  pwr      : Pwr := {}
  skew     : Skew := {}
  /-- management SRAM by SRAM address, and the 64-bit words with an uncorrectable error (R431) -/
  sram     : Memory := []
  sramBad  : List Nat := []
  /-- the 64-bit words with a single-bit error, which a read corrects (R429) -/
  sramSoft : List Nat := []
  /-- coefficient banks (crumb 32·L + c), calendars (16·c + 8·f + k), client table, R20 -/
  bank     : CrumbMem := {}
  calMem   : CrumbMem := {}
  cliMem   : CrumbMem := {}
  /-- loop-state crumbs rejected until rewritten, R22, R290 -/
  loopRej  : List Nat := []
  /-- the stored check word of each loop-state crumb, held as its difference (exclusive or) from the CRC of what the
  crumb holds: 0 = they agree (R21, log entry 121) -/
  loopSyn  : Tab W16 := []
  rx       : Tab Rx := []
  tx       : Tab Tx := []
  stretch  : Tab Stretch := []
  framer   : Tab Framer := []
  mask     : Tab LaneMask := []
  face     : Tab Face := []
  rxSlot   : Tab RxSlot := []
  txSlot   : Tab TxSlot := []
  client   : Tab Client := []
  streams  : Streams := {}
  /-- HTAG_ETYPE, R222 -/
  etype    : W16 := 0x88B5
  port     : Tab Port := []
  hlane    : Tab HLane := []
  /-- NODE_ADDR and NET_ID, R252 -/
  nodeAddr : W16 := 0
  netId    : Byte := 0x4D
  icing    : Tab Icing := []
  loop     : Tab Loop := []
  core     : Tab Core := []
  bias     : Tab Bias := []
  /-- VDD_BIAS is below its monitor threshold, R301, R443 -/
  biasLow  : Bool := false
  madc     : Tab Madc := []
  mon      : Tab Mon := []
  cal      : Cal := {}
  dma      : Dma := {}
  tierp    : TierProc := {}
  /-- what the latest Parax command answered -/
  resp     : Resp := {}
  /-- the model's own: draws of free values made so far (log entry 3) -/
  free     : Nat := 0
  /-- the commands that wait, first in, first out -/
  pending  : List Instr := []
  deriving DecidableEq, Repr

/-- The state right after RESET_N has risen for the first time since VDD_AON came up, with straps 0 (log entry 1):
every field has the reset value its rule states, PD 86 and PD 87 are powered, and no command waits. -/
def State.reset : State := {}

end Sys2Proof.Machine
end

