-- ==== Sys2Proof/Machine/Ops.lean ====
section
/-! DEFINITION. The named operations that the commands share: access to the tables of State, power domains, free
draws, events and interrupts (R390, R397), management SRAM (R384, R431), crumbs (R20 to R22), counters (R420 to R426)
and the frame of a Parax command (R404, R378). -/

namespace Sys2Proof.Machine

abbrev Result := Host.Outcome State Fault Refusal

/-! ### Tables -/

/-- Read lane receiver. -/
def State.rxAt (s : State) (i : Nat) : Rx := Tab.get {} s.rx i
/-- Change lane receiver by `f`. -/
def State.rxMod (s : State) (i : Nat) (f : Rx → Rx) : State :=
  { s with rx := Tab.upd {} s.rx i f }

/-- Read lane transmitter. -/
def State.txAt (s : State) (i : Nat) : Tx := Tab.get {} s.tx i
/-- Change lane transmitter by `f`. -/
def State.txMod (s : State) (i : Nat) (f : Tx → Tx) : State :=
  { s with tx := Tab.upd {} s.tx i f }

/-- Read a lane's Stretch mode. -/
def State.stretchAt (s : State) (i : Nat) : Stretch := Tab.get {} s.stretch i
/-- Change a lane's Stretch mode by `f`. -/
def State.stretchMod (s : State) (i : Nat) (f : Stretch → Stretch) : State :=
  { s with stretch := Tab.upd {} s.stretch i f }

/-- Read a lane's framer. -/
def State.framerAt (s : State) (i : Nat) : Framer := Tab.get {} s.framer i
/-- Change a lane's framer by `f`. -/
def State.framerMod (s : State) (i : Nat) (f : Framer → Framer) : State :=
  { s with framer := Tab.upd {} s.framer i f }

/-- Read a lane's transmit mask. -/
def State.maskAt (s : State) (i : Nat) : LaneMask := Tab.get {} s.mask i
/-- Change a lane's transmit mask by `f`. -/
def State.maskMod (s : State) (i : Nat) (f : LaneMask → LaneMask) : State :=
  { s with mask := Tab.upd {} s.mask i f }

/-- Read a face. -/
def State.faceAt (s : State) (i : Nat) : Face := Tab.get {} s.face i
/-- Change a face by `f`. -/
def State.faceMod (s : State) (i : Nat) (f : Face → Face) : State :=
  { s with face := Tab.upd {} s.face i f }

/-- Read a receive slot. -/
def State.rxSlotAt (s : State) (i : Nat) : RxSlot := Tab.get {} s.rxSlot i
/-- Change a receive slot by `f`. -/
def State.rxSlotMod (s : State) (i : Nat) (f : RxSlot → RxSlot) : State :=
  { s with rxSlot := Tab.upd {} s.rxSlot i f }

/-- Read a transmit slot. -/
def State.txSlotAt (s : State) (i : Nat) : TxSlot := Tab.get {} s.txSlot i
/-- Change a transmit slot by `f`. -/
def State.txSlotMod (s : State) (i : Nat) (f : TxSlot → TxSlot) : State :=
  { s with txSlot := Tab.upd {} s.txSlot i f }

/-- Read a client link. -/
def State.clientAt (s : State) (i : Nat) : Client := Tab.get {} s.client i
/-- Change a client link by `f`. -/
def State.clientMod (s : State) (i : Nat) (f : Client → Client) : State :=
  { s with client := Tab.upd {} s.client i f }

/-- Read a host port. -/
def State.portAt (s : State) (i : Nat) : Port := Tab.get {} s.port i
/-- Change a host port by `f`. -/
def State.portMod (s : State) (i : Nat) (f : Port → Port) : State :=
  { s with port := Tab.upd {} s.port i f }

/-- Read a host lane. -/
def State.hlaneAt (s : State) (i : Nat) : HLane := Tab.get {} s.hlane i
/-- Change a host lane by `f`. -/
def State.hlaneMod (s : State) (i : Nat) (f : HLane → HLane) : State :=
  { s with hlane := Tab.upd {} s.hlane i f }

/-- Read a face's Icing channel. -/
def State.icingAt (s : State) (i : Nat) : Icing := Tab.get {} s.icing i
/-- Change a face's Icing channel by `f`. -/
def State.icingMod (s : State) (i : Nat) (f : Icing → Icing) : State :=
  { s with icing := Tab.upd {} s.icing i f }

/-- Read a control loop. -/
def State.loopAt (s : State) (i : Nat) : Loop := Tab.get {} s.loop i
/-- Change a control loop by `f`. -/
def State.loopMod (s : State) (i : Nat) (f : Loop → Loop) : State :=
  { s with loop := Tab.upd {} s.loop i f }

/-- Read an engine core. -/
def State.coreAt (s : State) (i : Nat) : Core := Tab.get {} s.core i
/-- Change an engine core by `f`. -/
def State.coreMod (s : State) (i : Nat) (f : Core → Core) : State :=
  { s with core := Tab.upd {} s.core i f }

/-- Read a bias output. -/
def State.biasAt (s : State) (i : Nat) : Bias := Tab.get {} s.bias i
/-- Change a bias output by `f`. -/
def State.biasMod (s : State) (i : Nat) (f : Bias → Bias) : State :=
  { s with bias := Tab.upd {} s.bias i f }

/-- Read an MADC. -/
def State.madcAt (s : State) (i : Nat) : Madc := Tab.get {} s.madc i
/-- Change an MADC by `f`. -/
def State.madcMod (s : State) (i : Nat) (f : Madc → Madc) : State :=
  { s with madc := Tab.upd {} s.madc i f }

/-- Read a monitor input. -/
def State.monAt (s : State) (i : Nat) : Mon := Tab.get {} s.mon i
/-- Change a monitor input by `f`. -/
def State.monMod (s : State) (i : Nat) (f : Mon → Mon) : State :=
  { s with mon := Tab.upd {} s.mon i f }

/-- Read a quick-query channel. -/
def State.qryAt (s : State) (i : Nat) : Qry := Tab.get {} s.qry i
/-- Change a quick-query channel by `f`. -/
def State.qryMod (s : State) (i : Nat) (f : Qry → Qry) : State :=
  { s with qry := Tab.upd {} s.qry i f }

/-- Read a DMA channel. -/
def State.chanAt (s : State) (i : Nat) : Chan := Tab.get {} s.dma.chans i
/-- Change a DMA channel by `f`. -/
def State.chanMod (s : State) (i : Nat) (f : Chan → Chan) : State :=
  { s with dma := { s.dma with chans := Tab.upd {} s.dma.chans i f } }
/-- Read a timer. -/
def State.timerAt (s : State) (i : Nat) : Timer := Tab.get {} s.dma.timers i
/-- Change a timer by `f`. -/
def State.timerMod (s : State) (i : Nat) (f : Timer → Timer) : State :=
  { s with dma := { s.dma with timers := Tab.upd {} s.dma.timers i f } }
/-- Read a performance counter. -/
def State.cntAt (s : State) (i : Nat) : Cnt := Tab.get {} s.dma.cnts i
/-- Change a performance counter by `f`. -/
def State.cntMod (s : State) (i : Nat) (f : Cnt → Cnt) : State :=
  { s with dma := { s.dma with cnts := Tab.upd {} s.dma.cnts i f } }
/-- The index of a window: kind 0 = client, 1 = host port (R426). -/
def winIndex (kind index : Nat) : Nat := 1024 * kind + index
/-- Read a bandwidth window. -/
def State.winAt (s : State) (i : Nat) : Window := Tab.get {} s.dma.wins i
/-- Change a bandwidth window by `f`. -/
def State.winMod (s : State) (i : Nat) (f : Window → Window) : State :=
  { s with dma := { s.dma with wins := Tab.upd {} s.dma.wins i f } }
/-- Read a lane's part in the Tier procedure. -/
def State.turnAt (s : State) (i : Nat) : TierLane := Tab.get {} s.tierp.lanes i
/-- Change a lane's part in the Tier procedure by `f`. -/
def State.turnMod (s : State) (i : Nat) (f : TierLane → TierLane) : State :=
  { s with tierp := { s.tierp with lanes := Tab.upd {} s.tierp.lanes i f } }
/-- Read a stream context. -/
def State.ctxAt (s : State) (i : Nat) : Ctx := Tab.get {} s.streams.ctxs i
/-- Change a stream context by `f`. -/
def State.ctxMod (s : State) (i : Nat) (f : Ctx → Ctx) : State :=
  { s with streams := { s.streams with ctxs := Tab.upd {} s.streams.ctxs i f } }
/-- Read a stream profile. -/
def State.profAt (s : State) (i : Nat) : Profile := Tab.get {} s.streams.profiles i

/-- Apply `f` to each index of a list in order. -/
def forEach {α : Type} (l : List α) (f : α → State → State) (s : State) : State := l.foldl (fun s a => f a s) s

/-- The face of a lane (R7): East = lanes 0 to 7. -/
def faceOf (lane : Nat) : Nat := lane / 8
/-- The lanes of a face. -/
def lanesOf (face : Nat) : List Nat := (List.range 8).map (8 * face + ·)
/-- The slots of a lane: device-wide slot of lane slot j (R7, R153). -/
def slotOf (lane j : Nat) : Nat := 64 * lane + j
/-- The lane of a device-wide slot. -/
def laneOfSlot (slot : Nat) : Nat := slot / 64

/-! ### Power domains, R336, R342: what is clocked from RSYN runs only while RSYN is locked (R16) -/

/-- PD `k` is powered. -/
def State.pd (s : State) (k : Nat) : Bool := bitOf s.pwr.domains k
/-- The region whose start a domain's power is: a lane's receive DSP, a host quad (R18). -/
def regionOfPd (k : Nat) : Option Nat :=
  if k < 64 then (if k % 4 = 1 then some (k / 4) else none) else if k < 72 then some (16 + (k - 64)) else none
/-- The regions that start when the domains of a list are powered. -/
def State.starts (s : State) (ks : List Nat) : List Nat := (ks.filter (fun k => !s.pd k)).filterMap regionOfPd
/-- The crossing FIFOs of regions that start are centred (R18). -/
def Skew.centre (k : Skew) (rs : List Nat) : Skew := { k with fifo := k.fifo.filter (fun p => !rs.contains p.1) }
/-- Power the domains of a list up or down; a region that starts has its crossing FIFO centred. DESIGN CHOICE (log entry
134): the wander that the FIFO of a region last had stays, and with it a condition of GCTL_SKEW_STAT, while the region is
stopped. -/
def State.setPd (s : State) (ks : List Nat) (on : Bool) : State :=
  { s with
    pwr := { s.pwr with domains := ks.foldl (fun d k => setBit d k on) s.pwr.domains }
    skew := if on then s.skew.centre (s.starts ks) else s.skew }
/-- The four domains of a lane. -/
def laneDomains (lane : Nat) : List Nat := [4 * lane, 4 * lane + 1, 4 * lane + 2, 4 * lane + 3]
/-- The block of step `k` of the sleep handshake has stopped (R344), or the device sheds for Hold (R349). -/
def State.stopped (s : State) (k : Nat) : Bool :=
  s.pwr.cur == 2 && (s.pwr.target == 3 || s.pwr.step == 0 || decide (k < s.pwr.step.toNat))
/-- The RX domains of a lane are powered, and the lanes have not been stopped for a sleep (step 4 of R344). -/
def State.rxOn (s : State) (lane : Nat) : Bool := s.pd (4 * lane) && s.pd (4 * lane + 1) && !s.stopped 4
/-- The TX domains of a lane are powered. -/
def State.txOn (s : State) (lane : Nat) : Bool := s.pd (4 * lane + 2) && s.pd (4 * lane + 3)
/-- The calendar, cross-connect and client domain of a face is powered. -/
def State.calOn (s : State) (face : Nat) : Bool := s.pd (72 + face)
/-- The four stream bank domains are powered. -/
def State.streamsOn (s : State) : Bool := s.pd 74 && s.pd 75 && s.pd 76 && s.pd 77
/-- The Icing domain of a face is powered. -/
def State.icingOn (s : State) (face : Nat) : Bool := s.sys.rsynLock && s.pd (78 + face)
/-- The domain of a control core is powered, and the cores have not been stopped for a sleep (step 6). -/
def State.coreOn (s : State) (q : Nat) : Bool := s.sys.rsynLock && s.pd (80 + q) && !s.stopped 6
/-- The domain of an MADC's pair is powered, and the MADCs have not been stopped for a sleep (step 7). -/
def State.madcOn (s : State) (m : Nat) : Bool := s.sys.rsynLock && s.pd (84 + m / 2) && !s.stopped 7
/-- A host quad is powered, and the host quads have not been stopped for a sleep (step 5). -/
def State.quadOn (s : State) (q : Nat) : Bool := s.sys.rsynLock && s.pd (64 + q) && !s.stopped 5
/-- A host port runs: the quad of its first lane is on, and the Tier is 1 or 2 (R211). -/
def State.portLive (s : State) (p : Nat) : Bool := s.quadOn (p / 2) && s.sys.tier != 0

/-! ### Free draws (log entry 3) -/

/-- A free value below `n` (0 when `n` is 0), and the state with its draw counted. -/
def State.drawBelow (s : State) (n : Nat) : Nat × State :=
  (Config.draw s.free % n, { s with free := s.free + 1 })

/-! ### The frame of an event command -/

/-- Nothing happens; after a breach of the supply order the behaviour is undefined until RESET_N is held low (R339, R442). -/
def State.still (s : State) : Result := if s.pwr.supplyOk then .next s else .fault .supplyOrder

/-- A device event: while the device is in reset nothing happens (R448). -/
def event (f : State → State) (s : State) : Result :=
  if s.sys.inReset then s.still else .next (f s)

/-- A change of a pin's or a supply's level: in reset the level alone is noted, by `g` (R443, R448). -/
def pinEvent (g f : State → State) (s : State) : Result :=
  if s.sys.inReset then (if s.pwr.supplyOk then .next (g s) else s.still) else .next (f s)

/-- An event that arises only where `g` holds of the state; elsewhere the state stays (log entry 5). -/
def eventIf (g : Bool) (f : State → State) (s : State) : Result :=
  if s.sys.inReset then s.still else if g then .next (f s) else .next s

/-! ### Events and interrupts, R390, R391, R397, R399 -/

/-- Queue an event; while MBX_STATE.STATE is DOWN it is discarded (R391), and at 256 it is dropped and counted. -/
def raise (op : Nat) (payload : Bytes) (s : State) : State :=
  if s.mbx.mode = .down then s
  else if 256 ≤ s.mbx.evq.length then
    { s with mbx := { s.mbx with evDropped := satAdd s.mbx.evDropped 1, dropped := true } }
  else { s with mbx := { s.mbx with evq := s.mbx.evq ++ [{ op := BitVec.ofNat 16 op, bytes := payload }] } }

/-- One byte of a payload from a natural number. -/
def u8 (n : Nat) : Byte := BitVec.ofNat 8 n

/-- Set IRQ_STAT.CNT. -/
def irqCnt (s : State) : State := { s with irq := { s.irq with cnt := true } }

/-! ### Management SRAM, R384, R431 -/

/-- The byte of management SRAM at an SRAM address. -/
def State.sramByte (s : State) (a : Nat) : Byte := Tab.get 0 s.sram a
/-- `n` bytes of management SRAM from an SRAM address. -/
def State.sramRead (s : State) (a n : Nat) : Bytes := Tab.read 0 s.sram a n
/-- The 64-bit words touched by `n` bytes from `a` that have an uncorrectable error. -/
def State.sramBadIn (s : State) (a n : Nat) : List Nat :=
  s.sramBad.filter (fun w => decide (a / 8 ≤ w) && decide (w ≤ (a + n - 1) / 8))
/-- Record a read of uncorrectable words: FATAL and ADDR (R429, R431). -/
def State.eccFound (s : State) (ws : List Nat) : State :=
  match ws.getLast? with
  | none => s
  | some w => { s with sys := { s.sys with eccFatal := true, eccAddr := BitVec.ofNat 17 w } }
/-- The words with a single-bit error among `n` bytes from `a`. -/
def State.sramSoftIn (s : State) (a n : Nat) : List Nat :=
  s.sramSoft.filter (fun w => decide (a / 8 ≤ w) && decide (w ≤ (a + n - 1) / 8))
/-- A read of `n` bytes from `a` corrects single-bit errors, which CORR counts (R429), and finds the uncorrectable words;
where both are found both are recorded (R431). -/
def State.sramSeen (s : State) (a n : Nat) : State :=
  let soft := s.sramSoftIn a n
  let t := if n = 0 ∨ soft = [] then s
    else { s with
      sys := { s.sys with eccCorr := satAdd s.sys.eccCorr soft.length }
      sramSoft := s.sramSoft.filter (fun w => !soft.contains w) }
  if n = 0 then t else t.eccFound (s.sramBadIn a n)
/-- What DMA reads: an uncorrectable word reads 0 (R431). -/
def State.eccRead (s : State) (a n : Nat) : Bytes :=
  (List.range n).map (fun i => if s.sramBad.contains ((a + i) / 8) then 0 else s.sramByte (a + i))
/-- What the MCP reads: the bytes of an uncorrectable word are free values (log entry 3). -/
def State.mcpRead (s : State) (a n : Nat) : Bytes :=
  (List.range n).map (fun i =>
    if s.sramBad.contains ((a + i) / 8) then Config.eccByte s.free (a + i) else s.sramByte (a + i))
/-- The state after that read (R429). -/
def State.afterRead (s : State) (a n : Nat) : State :=
  let t := s.sramSeen a n
  if n = 0 ∨ s.sramBadIn a n = [] then t else { t with free := t.free + 1 }
/-- Write bytes into management SRAM; a word with an uncorrectable error that is written takes the bytes given and
reads 0 elsewhere, and is correctable again (R431); a word written has new check bits. -/
def State.sramWrite (s : State) (a : Nat) (b : Bytes) : State :=
  let bad := if b.isEmpty then [] else s.sramBadIn a b.length
  let cleared := bad.foldl (fun m w => Tab.write 0 m (8 * w) (List.replicate 8 0)) s.sram
  { s with sram := Tab.write 0 cleared a b, sramBad := s.sramBad.filter (fun w => !bad.contains w)
           sramSoft := if b.isEmpty then s.sramSoft else s.sramSoft.filter (fun w => !(s.sramSoftIn a b.length).contains w) }
/-- The SRAM address of a window address (R384). -/
def winToSram (a : Nat) : Nat := a - 0x100000

/-! ### Crumbs, R20 to R22 -/

/-- The 256 bytes of a crumb. -/
def CrumbMem.read (m : CrumbMem) (i : Nat) : Bytes := Tab.read 0 m.bytes (256 * i) 256
/-- The check word held beside a crumb. -/
def CrumbMem.check (m : CrumbMem) (i : Nat) : W16 := Tab.get zeroCrumbCheck m.checks i
/-- The check of a crumb taken into use: the CRC of its bytes against its check word, and not rejected. -/
def CrumbMem.ok (m : CrumbMem) (i : Nat) : Bool :=
  !m.rejected.contains i && decide (crc16 (m.read i) = m.check i)
/-- A whole-crumb write with a new check word that the device makes (R21): a rejected crumb stays rejected (R22, R52). -/
def CrumbMem.store (m : CrumbMem) (i : Nat) (b : Bytes) : CrumbMem :=
  let b := slice b 0 256
  { m with bytes := Tab.write 0 m.bytes (256 * i) b, checks := Tab.set zeroCrumbCheck m.checks i (crc16 b) }
/-- A whole-crumb write of what the host has supplied or chosen: the crumb is valid again (R22, R52). -/
def CrumbMem.write (m : CrumbMem) (i : Nat) (b : Bytes) : CrumbMem :=
  { m.store i b with rejected := m.rejected.filter (· != i) }
/-- Replace `b` from offset `off` of a crumb, as a whole-crumb rewrite. -/
def CrumbMem.patch (m : CrumbMem) (i off : Nat) (b : Bytes) : CrumbMem := m.write i (putAt (m.read i) off b)
/-- Reject a crumb until it is rewritten whole. -/
def CrumbMem.reject (m : CrumbMem) (i : Nat) : CrumbMem :=
  if m.rejected.contains i then m else { m with rejected := m.rejected ++ [i] }
/-- The CRUMB_ERROR event of R22. -/
def crumbError (memory owner crumb : Nat) (s : State) : State :=
  raise 0x800B ([u8 memory, u8 owner] ++ leN 2 crumb) s

/-! ### Performance counters, R420 to R426 -/

/-- Count on a lane's FEC and framing counters. -/
def fecCount (lane : Nat) (g : FecCnt → FecCnt) (s : State) : State := s.framerMod lane (fun f => { f with cnt := g f.cnt })

/-- Set OVF of a counter and, with OVF_IE, IRQ_STAT.CNT (R421, R425). -/
def cntOverflow (i : Nat) (s : State) : State :=
  let t := s.cntMod i (fun c => { c with ovf := true })
  if s.dma.ovfIe then irqCnt t else t

/-- Add an amount to counter `i`: a wrap sets OVF, or carries into the odd partner of a chained pair (R423, R425). -/
def cntAdd (i n : Nat) (s : State) : State :=
  let c := s.cntAt i
  let t := s.cntMod i (fun c => { c with val := wrapAdd c.val n })
  if c.val.toNat + n < 2 ^ 32 then t
  else if c.chain then
    let u := t.cntMod i (fun c => { c with carry := true })
    let odd := u.cntAt (i + 1)
    let v := u.cntMod (i + 1) (fun c => { c with val := c.val + 1 })
    if odd.val = BitVec.allOnes 32 then cntOverflow (i + 1) v else v
  else cntOverflow i t

/-- An event of source `src` and index `idx` adds `n` to every counter assigned to it (R420); no counter counts while
the device sleeps (R427). -/
def countSource (src idx n : Nat) (s : State) : State :=
  if s.pwr.cur == 3 || s.pwr.cur == 4 then s
  else (s.dma.cnts.filter (fun p => p.2.source.toNat == src && p.2.index.toNat == idx)).foldl
    (fun s p => cntAdd p.1 n s) s

/-- A window counts a frame and its octets while it runs (R426). -/
def countWindow (kind idx octets : Nat) (s : State) : State :=
  let i := winIndex kind idx
  if (s.winAt i).ms = 0 then s
  else s.winMod i (fun w => { w with octets := wrapAdd w.octets octets, frames := wrapAdd w.frames 1 })

/-! ### Parax commands, R378, R404, R405 -/

/-- Status codes, R405. -/
inductive Status where
  | ok | busy | range | notReady | notSupported | full | badOpcode | badLength | stale | interrupted | tooLate | crumb
  | notFound | exists_ | keyExists | tableFull | dupSource | clientInactive | clientSlots | hold | vlanConflict
  | faultActive | supply | confirm | notExported | worn | image | bootFail
  deriving DecidableEq, Repr

/-- The code of a status, R405. -/
def Status.code : Status → Byte
  | .ok => 0x00 | .busy => 0x01 | .range => 0x02 | .notReady => 0x03 | .notSupported => 0x04 | .full => 0x05
  | .badOpcode => 0x06 | .badLength => 0x07 | .stale => 0x08 | .interrupted => 0x09 | .tooLate => 0x0A
  | .crumb => 0x0B | .notFound => 0x0C | .exists_ => 0x10 | .keyExists => 0x11 | .tableFull => 0x12
  | .dupSource => 0x18 | .clientInactive => 0x19 | .clientSlots => 0x1A | .hold => 0x1B | .vlanConflict => 0x1C
  | .faultActive => 0x20 | .supply => 0x21 | .confirm => 0x28 | .notExported => 0x29 | .worn => 0x2A
  | .image => 0x2B | .bootFail => 0x30

/-- What a command leaves and answers: state, status, payload. -/
abbrev Reply := State × Status × Bytes

/-- The command is done and answers `payload`. -/
def okWith (payload : Bytes) (s : State) : Reply := (s, .ok, payload)
/-- The command is done and answers nothing. -/
def ok (s : State) : Reply := (s, .ok, [])
/-- The command is turned away and changes nothing (R404). -/
def deny (st : Status) (s : State) : Reply := (s, st, [])

/-- A command as R404 checks it: its form (steps 2 and 3), whether its block is ready (4), whether its values are in
range (5), and what its chapter makes of it (6); `waits` says that it answers when its transfer has ended (R418). -/
structure Cmd where
  waits : Bool := false
  form  : Option Status := none
  ready : Bool := true
  range : Bool := true
  run   : Unit → Reply

/-- The commands that the boot ROM executes at Tier 0, R378. -/
def tier0Commands : List Nat :=
  [0x0001, 0x0002, 0x0003, 0x0004, 0x0010, 0x0011, 0x0012,
   0x0C06, 0x0C07, 0x0C01, 0x0C03, 0x0C04, 0x0902, 0x0903, 0x0901,
   0x0B07, 0x0D04, 0x0D08, 0x0D05, 0x0D01, 0x0D02, 0x0D03, 0x0E04, 0x0E05]

/-- The Tier admits the command, R378. -/
def tierAdmits (op : Nat) (s : State) : Bool := s.sys.tier != 0 || tier0Commands.contains op

/-- The checks of R404 in order, then the command. -/
def Cmd.reply (op : Nat) (c : Cmd) (s : State) : Reply :=
  match c.form with
  | some st => deny st s
  | none =>
    if !(tierAdmits op s && c.ready) then deny .notReady s
    else if !c.range then deny .range s
    else c.run ()

/-- The MCP is at work: its mailbox is not DOWN, and the device is ACTIVE or in a planned entry (R391, R344). -/
def State.mcpAwake (s : State) : Bool :=
  !s.sys.inReset && decide (s.mbx.mode ≠ .down)
    && (decide (s.pwr.cur = 1) || (decide (s.pwr.cur = 2) && decide (s.pwr.target ≠ 3)))

/-- The MCP takes a command: it executes none (R387). -/
def State.mcpRuns (s : State) : Bool := s.mcpAwake && s.mbx.exec.isNone

/-- Record what a command answered. -/
def Reply.record (op : Nat) (r : Reply) : State :=
  { r.1 with resp := { opcode := BitVec.ofNat 16 op, status := r.2.1.code, payload := r.2.2 } }

/-- The command that was accepted waits for its transfer: it has not answered yet. -/
def Cmd.pends (op : Nat) (c : Cmd) (s : State) : Bool := c.waits && (c.reply op s).2.1 == .ok

/-- A command is executed: what it answers is recorded, or it waits for its transfer (R387, R418). -/
def Cmd.execute (op : Nat) (c : Cmd) (s : State) : State :=
  if c.pends op s then (c.reply op s).1 else Reply.record op (c.reply op s)

/-- A Parax command as the MCP executes it; while no MCP runs, or it executes another command, there is nothing to
execute it (R387, R391, R393). -/
def parax (op : Nat) (c : State → Cmd) (s : State) : Result :=
  if s.mcpRuns then .next ((c s).execute op s) else s.still

end Sys2Proof.Machine
end

