-- ==== Sys2Proof/Machine/Operands.lean ====
section
/-! DEFINITION. Operand forms of the Parax commands: the BUF rule of R403, field ranges of R401, masks of R402. -/

namespace Sys2Proof.Machine

/-- A BUF address with `n` bytes of DATA lies in the host area, 8-byte aligned (R403, R384). -/
def bufOk (buf : W32) (n : Nat) : Bool :=
  buf.toNat % 8 == 0 && decide (0x108000 ≤ buf.toNat) && decide (buf.toNat + n ≤ 0x140000)

/-- The form of a request with BUF: `fields` bytes of fields and `n` bytes of DATA (R403, R404 steps 2 and 3). -/
def bufForm (buf : W32) (fields n given : Nat) : Option Status :=
  if buf = 0 then
    if 240 < fields + n then some .range else if given ≠ n then some .badLength else none
  else if given ≠ 0 then some .badLength else none

/-- The range of a request with BUF (R403): the buffer lies in the host area. -/
def bufRange (buf : W32) (n : Nat) : Bool := buf == 0 || bufOk buf n

/-- The DATA of a request: in the payload, or at BUF in management SRAM (R403). -/
def bufData (buf : W32) (n : Nat) (data : Bytes) (s : State) : Bytes :=
  if buf = 0 then data else s.mcpRead (winToSram buf.toNat) n
/-- The state after the MCP has read that DATA. -/
def State.bufRead (s : State) (buf : W32) (n : Nat) : State :=
  if buf = 0 then s else s.afterRead (winToSram buf.toNat) n

/-- Whether a response of `fixed` bytes and `n` bytes of DATA can be given (R403). -/
def respRange (buf : W32) (fixed n : Nat) : Bool :=
  if buf = 0 then decide (fixed + n ≤ 240) else bufOk buf n

/-- A response whose DATA goes into the payload, or to BUF with the payload ending before it (R403). -/
def respond (buf : W32) (fixed data : Bytes) (s : State) : Reply :=
  if buf = 0 then okWith (fixed ++ data) s
  else okWith fixed (s.sramWrite (winToSram buf.toNat) data)

/-- A value between two bounds, both included. -/
def within (lo hi x : Nat) : Bool := decide (lo ≤ x) && decide (x ≤ hi)
/-- A signed value between two bounds, both included. -/
def withinI (lo hi x : Int) : Bool := decide (lo ≤ x) && decide (x ≤ hi)
/-- A Boolean field coded 0 or 1. -/
def isFlag (b : Byte) : Bool := decide (b.toNat ≤ 1)
/-- FLAGS with no reserved bit set beyond the lowest `n`. -/
def flagsOk (n : Nat) (b : Byte) : Bool := decide (b.toNat < 2 ^ n)
/-- A field that MASK bit `k` does not select, or that satisfies `p` (R402). -/
def maskedOk {w : Nat} (mask : BitVec w) (k : Nat) (p : Bool) : Bool := !bitOf mask k || p
/-- The new value of a field selected by MASK bit `k`. -/
def masked {w : Nat} {α : Type} (mask : BitVec w) (k : Nat) (new old : α) : α := if bitOf mask k then new else old

/-- CLEAR of FLAGS (R401). -/
def clearFlag (flags : Byte) : Bool := bitOf flags 0
/-- The signed value of a byte. -/
def sInt8 (b : Byte) : Int := b.toInt
/-- A lane identifier in range (R7). -/
def laneOk (b : Byte) : Bool := decide (b.toNat < 16)
/-- A face identifier in range. -/
def faceOk (b : Byte) : Bool := decide (b.toNat < 2)

end Sys2Proof.Machine
end

