-- ==== Sys2Proof/Machine/BiasOps.lean ====
section
/-! DEFINITION. Operations on a bias output that commands, ticks, loops and sleep share (chapter 11): the record
(R304), the states (R294), the slew limiter (R297), the sine generator (R298, R299). -/

namespace Sys2Proof.Machine

/-- π · 2^60. -/
def piQ60 : Int := 3622009729038561421

/-- The sum of the Taylor terms of a sine from a term on: `t` the term, `x2` the square of the angle, `k` its power,
all in units of 2^-60. -/
def sineTerms (x2 : Int) : Nat → Nat → Int → Int
  | 0, _, _ => 0
  | n + 1, k, t => t + sineTerms x2 n (k + 2) (-(t * x2 / 2 ^ 60) / ((k + 1) * (k + 2) : Nat))

/-- T[i] of R298 for i = 0 to 1,023: 32,767 · sin((π/2) · (i + 0.5)/1,024), rounded. -/
def sineEntry (i : Nat) : Int :=
  let x : Int := piQ60 * (2 * i + 1 : Nat) / 4096
  roundEven (32767 * sineTerms (x * x / 2 ^ 60) 14 1 x) (2 ^ 60)

/-- s of R298 at a phase: the table by quadrant. -/
def sineAt (phi : W32) : Int :=
  let i := (getField phi 20 10).toNat
  match (getField phi 30 2).toNat with
  | 0 => sineEntry i
  | 1 => sineEntry (1023 - i)
  | 2 => -sineEntry i
  | _ => -sineEntry (1023 - i)

/-- The dither sample d of R298. -/
def ditherAt (damp : W16) (phi : W32) : Int := roundEven (damp.toNat * sineAt phi) 32768

/-- The image of a configuration record, R304. -/
def BiasRec.bytes (r : BiasRec) : Bytes :=
  [u8 (r.range.toNat + (if r.slewEn then 4 else 0) + (if r.safeHiz then 8 else 0)), r.slewRate]
    ++ le16 r.slewStep ++ le16 r.safeCode ++ le16 r.damp ++ le32 r.dinc ++ [0, 0, 0, 0]

/-- The record of an image, R304. -/
def BiasRec.ofBytes (b : Bytes) : BiasRec :=
  let m := byteAt b 0
  { range := m.setWidth 2
    slewEn := bitOf m 2
    safeHiz := bitOf m 3
    slewRate := byteAt b 1
    slewStep := w16At b 2
    safeCode := w16At b 4
    damp := w16At b 6
    dinc := w32At b 8 }

/-- The output at code 65,535 in a range (R293): microvolts in range 0, nanoamperes in ranges 1 and 2; RANGE 3 is
reserved. -/
def rangeFull (range : BitVec 2) : Option Nat :=
  match range.toNat with
  | 0 => some 2500000
  | 1 => some 2000000
  | 2 => some 10000000
  | _ => none

/-- The output for code `c` in a range, as a numerator and a denominator in the unit of the range (R293). -/
def codeOutput (range : BitVec 2) (c : W16) : Option (Nat × Nat) := (rangeFull range).map (fun f => (f * c.toNat, 65535))

/-- What an output drives (R294, R300, R302): none at high impedance. -/
def Bias.output (b : Bias) : Option (Nat × Nat) := if b.highZ then none else codeOutput b.rangeNow b.out

/-- The stage of the output is monitored (R301). -/
def Bias.monitored (b : Bias) : Bool := b.st == .drive || b.st == .safe || b.st == .range

/-- SLEWING of R297: B has not reached the entry Q that it moves to (R300 steps 2 and 4). -/
def Bias.slewing (b : Bias) : Bool :=
  match b.st with
  | .drive => b.b != b.last
  | .range =>
    match b.rangeStep with
    | .dither => b.b != b.last
    | .down => b.b != 0
    | .up => b.b != b.target
    | _ => false
  | _ => false

/-- The state codes of R294. -/
def BiasSt.code : BiasSt → Byte
  | .hiz => 0 | .drive => 1 | .safe => 2 | .range => 3 | .fault => 4

/-- The output drives neither its codes nor a range change: it is at high impedance or at its safe code (R277). -/
def Bias.idle (b : Bias) : Bool :=
  b.st == .hiz || b.st == .safe || b.st == .fault || b.rangeStep == .hiz

/-- Leave DRIVE or RANGE: the dither stops at once with φ at 0 and a range change ends with the range now in force
(R299, R300). -/
def Bias.leave (b : Bias) : Bias :=
  { b with
    record := if b.st = .range then { b.record with range := b.rangeNow } else b.record
    rangeStep := .none
    hizTicks := 0
    starting := false
    phi := 0
    damp := 0
    dinc := 0
    dither := none }

/-- Enter DRIVE with the slew state at `level`: the dither restarts from φ = 0 with the record's amplitude and
increment (R297, R299). -/
def Bias.toDrive (level : W16) (b : Bias) : Bias :=
  { b with
    st := .drive
    cause := 0
    bySleep := false
    b := level
    phi := 0
    damp := b.record.damp
    dinc := b.record.dinc
    dither := none }

/-- Enter DRIVE by enable or release, from which t counts ticks (R297). -/
def Bias.drive (level : W16) (b : Bias) : Bias := { b.toDrive level with t := 0 }

/-- Enter HIZ (R294). -/
def Bias.toHiz (b : Bias) : Bias := { b.leave with st := .hiz, cause := 0, bySleep := false, highZ := true, out := 0 }

/-- Enter SAFE (R302); the code is driven from the next tick. -/
def Bias.toSafe (b : Bias) : Bias := { b.leave with st := .safe }

/-- An output in DRIVE or RANGE enters SAFE (R302); any other stays. -/
def biasSafeOf (n : Nat) (s : State) : State :=
  s.biasMod n (fun b => if b.st = .drive ∨ b.st = .range then b.toSafe else b)

/-- The level from which a released output moves: SAFE_CODE, or 0 from high impedance (R302). -/
def Bias.releaseLevel (b : Bias) : W16 := if b.record.safeHiz then 0 else b.record.safeCode

/-- An output in SAFE returns to DRIVE (R302); any other stays. -/
def biasReleaseOf (n : Nat) (s : State) : State :=
  s.biasMod n (fun b => if b.st = .safe then b.drive b.releaseLevel else b)

/-- The block of four equal codes for the next frame (R296, R266). -/
def biasBlock (n : Nat) (code : W16) (s : State) : State :=
  s.biasMod n (fun b => { b with block := some (List.replicate 4 code) })

/-- The frame boundary: the queue takes the block written for the frame; with none, the last entry is presented
again on all four ticks (R296). -/
def Bias.boundary (b : Bias) : Bias := { b with queue := b.block.getD [], block := none }

/-- The slew state after a tick with the presented entry `q` (R297). -/
def Bias.slew (b : Bias) (q : W16) : W16 :=
  if !b.record.slewEn then q
  else if b.t % (b.record.slewRate.toNat + 1) = 0 then
    BitVec.ofInt 16 (b.b.toNat + clampInt (-b.record.slewStep.toNat) b.record.slewStep.toNat ((q.toNat : Int) - b.b.toNat))
  else b.b

/-- A tick of the sine generator: the phase advances, and a waiting change takes effect when φ[31] changes (R298,
R299). -/
def Bias.sineTick (b : Bias) : Bias :=
  let phi := b.phi + b.dinc
  match b.dither with
  | some (a, i) =>
    if bitOf phi 31 ≠ bitOf b.phi 31 then { b with phi := phi, damp := a, dinc := i, dither := none }
    else { b with phi := phi }
  | none => { b with phi := phi }

/-- The tick of an output that forms its code from the entry `q` (R297). -/
def Bias.codeTick (q : W16) (b0 : Bias) : Bias :=
  let b := b0.sineTick
  let lvl := b.slew q
  let raw : Int := lvl.toNat + ditherAt b.damp b.phi
  let o := clampInt 0 65535 raw
  { b with
    b := lvl
    t := b.t + 1
    highZ := false
    out := BitVec.ofInt 16 o
    clip := if o = raw then b.clip else b.clip + 1 }

/-- The entry that the queue presents at a tick, and the output with it taken (R296). -/
def Bias.present (b : Bias) : W16 × Bias :=
  match b.queue with
  | q :: r => (q, { b with queue := r, last := q })
  | [] => (b.last, b)

end Sys2Proof.Machine
end

