-- ==== Sys2Proof/Machine/Float32.lean ====
section
/-! DEFINITION. IEEE 754 binary32 arithmetic with round to nearest, ties to even, and subnormals flushed to zero with
their sign (R269, R60): values are decoded exactly, operated on exactly, and rounded once. -/

namespace Sys2Proof.Machine

/-- A decoded binary32 value: not a number, an infinity, or m · 2^e. -/
inductive FVal where
  | nan
  | inf (neg : Bool)
  | fin (neg : Bool) (m : Nat) (e : Int)
  deriving DecidableEq, Repr

/-- The quiet NaN that an invalid operation gives (log entry 13). -/
def f32NaN : W32 := 0x7FC00000
def f32Inf (neg : Bool) : W32 := if neg then 0xFF800000 else 0x7F800000
def f32Zero (neg : Bool) : W32 := if neg then 0x80000000 else 0

/-- Decode; a subnormal operand is zero with its sign. -/
def fDec (w : W32) : FVal :=
  let neg := bitOf w 31
  let ex := (getField w 23 8).toNat
  let fr := (getField w 0 23).toNat
  if ex = 255 then (if fr = 0 then .inf neg else .nan)
  else if ex = 0 then .fin neg 0 0
  else .fin neg (2 ^ 23 + fr) (ex - 150)

/-- Round m · 2^e to binary32; a result below the normal range is zero with its sign, one above it infinite. -/
def fRound (neg : Bool) (m : Nat) (e : Int) : W32 :=
  if m = 0 then f32Zero neg
  else
    let l := Nat.log2 m
    let q0 := if l ≤ 23 then m * 2 ^ (23 - l)
      else
        let d := 2 ^ (l - 23)
        let q := m / d
        let r := m % d
        if 2 * r < d then q else if d < 2 * r then q + 1 else q + q % 2
    let e0 : Int := e + l - 23
    let q := if q0 = 2 ^ 24 then 2 ^ 23 else q0
    let biased : Int := (if q0 = 2 ^ 24 then e0 + 1 else e0) + 150
    if 255 ≤ biased then f32Inf neg
    else if biased ≤ 0 then f32Zero neg
    else BitVec.ofNat 32 ((if neg then 2 ^ 31 else 0) + biased.toNat * 2 ^ 23 + (q - 2 ^ 23))

/-- Round a signed dyadic. -/
def fRoundInt (m : Int) (e : Int) (zeroNeg : Bool) : W32 :=
  if m = 0 then f32Zero zeroNeg else fRound (decide (m < 0)) m.natAbs e

/-- The signed mantissa. -/
def sgnd (neg : Bool) (m : Nat) : Int := if neg then -(m : Int) else m

def f32Neg (a : W32) : W32 := a ^^^ 0x80000000
def f32Abs (a : W32) : W32 := a &&& 0x7FFFFFFF

def f32Add (a b : W32) : W32 :=
  match fDec a, fDec b with
  | .nan, _ => f32NaN
  | _, .nan => f32NaN
  | .inf x, .inf y => if x = y then f32Inf x else f32NaN
  | .inf x, _ => f32Inf x
  | _, .inf y => f32Inf y
  | .fin x m e, .fin y n f =>
    let g := min e f
    let s := sgnd x m * 2 ^ (e - g).toNat + sgnd y n * 2 ^ (f - g).toNat
    fRoundInt s g (x && y)

def f32Sub (a b : W32) : W32 := f32Add a (f32Neg b)

def f32Mul (a b : W32) : W32 :=
  match fDec a, fDec b with
  | .nan, _ => f32NaN
  | _, .nan => f32NaN
  | .inf x, .inf y => f32Inf (x != y)
  | .inf x, .fin y n _ => if n = 0 then f32NaN else f32Inf (x != y)
  | .fin x m _, .inf y => if m = 0 then f32NaN else f32Inf (x != y)
  | .fin x m e, .fin y n f => fRound (x != y) (m * n) (e + f)

/-- The quotient of two naturals. -/
def f32Ratio (num den : Nat) : W32 :=
  if den = 0 then f32NaN
  else
    let k := Nat.log2 den + 27
    let q := num * 2 ^ k / den
    let sticky := if num * 2 ^ k % den = 0 then 0 else 1
    fRound false (2 * q + sticky) (-(k : Int) - 1)

/-- The quotient of two values, rounded once. -/
def f32Div (a b : W32) : W32 :=
  match fDec a, fDec b with
  | .nan, _ => f32NaN
  | _, .nan => f32NaN
  | .inf _, .inf _ => f32NaN
  | .inf x, .fin y _ _ => f32Inf (x != y)
  | .fin x _ _, .inf y => f32Zero (x != y)
  | .fin x m e, .fin y n f =>
    if n = 0 then (if m = 0 then f32NaN else f32Inf (x != y))
    else
      let q := m * 2 ^ 50 / n
      let sticky := if m * 2 ^ 50 % n = 0 then 0 else 1
      fRound (x != y) (2 * q + sticky) (e - f - 51)

/-- The integer square root of a number below 4^k, by the bits of the root from the top. -/
def isqrtBits (n : Nat) : Nat → Nat → Nat
  | 0, r => r
  | k + 1, r => isqrtBits n k (if (r + 2 ^ k) * (r + 2 ^ k) ≤ n then r + 2 ^ k else r)

/-- The square root, rounded once; not a number for a negative operand. -/
def f32Sqrt (a : W32) : W32 :=
  match fDec a with
  | .nan => f32NaN
  | .inf x => if x then f32NaN else a
  | .fin x m e =>
    if m = 0 then f32Zero x
    else if x then f32NaN
    else
      let n := m * 2 ^ (if e % 2 = 0 then 40 else 41)
      let r := isqrtBits n 34 0
      fRound false (2 * r + (if r * r = n then 0 else 1)) ((if e % 2 = 0 then e - 40 else e - 41) / 2 - 1)

def f32OfInt (i : Int) : W32 := fRoundInt i 0 false

/-- a < b; false when either is not a number. -/
def f32Lt (a b : W32) : Bool :=
  match fDec a, fDec b with
  | .nan, _ => false
  | _, .nan => false
  | .inf x, .inf y => x && !y
  | .inf x, _ => x
  | _, .inf y => !y
  | .fin x m e, .fin y n f =>
    let g := min e f
    decide (sgnd x m * 2 ^ (e - g).toNat < sgnd y n * 2 ^ (f - g).toNat)

/-- a = b as values (both zeros are equal). -/
def f32Eq (a b : W32) : Bool := !f32Lt a b && !f32Lt b a && fDec a != .nan && fDec b != .nan
def f32Le (a b : W32) : Bool := f32Lt a b || f32Eq a b

/-- A value as an operand: one below the normal range is zero with its sign (R269). -/
def f32Flush (w : W32) : W32 := if getField w 23 8 = 0 then w &&& 0x80000000 else w

/-- Limit to [lo, hi]; a bound or a value below the normal range leaves as zero (R269). -/
def f32Clamp (lo hi x : W32) : W32 := f32Flush (if f32Lt x lo then lo else if f32Lt hi x then hi else x)

/-- The integer nearest to a value, ties to even; `none` for what is not a finite number. -/
def f32ToInt (a : W32) : Option Int :=
  match fDec a with
  | .nan => none
  | .inf _ => none
  | .fin x m e =>
    if 0 ≤ e then some (sgnd x m * 2 ^ e.toNat)
    else some (roundEven (sgnd x m) (2 ^ (-e).toNat))

/-- The value is a finite number. -/
def f32Finite (a : W32) : Bool := match fDec a with | .fin _ _ _ => true | _ => false

end Sys2Proof.Machine
end

