-- ==== Sys2Proof/Machine/LoopOps.lean ====
section
/-! DEFINITION. A control loop's words and the laws that the engine computes with them (chapter 10): every real
operation rounds once in the order in which its formula is written (log entry 17), and a value that is not finite
ends the computation (R269). -/

namespace Sys2Proof.Machine

/-! ### The words of a loop, R270 to R273 -/

/-- Word `i` of a loop's state. -/
def Loop.w (l : Loop) (i : Nat) : W32 := l.words.getD i 0
/-- Replace word `i`. -/
def Loop.put (i : Nat) (v : W32) (l : Loop) : Loop := { l with words := l.words.set i v }
/-- Replace several words. -/
def Loop.puts (kv : List (Nat × W32)) (l : Loop) : Loop := kv.foldl (fun l p => l.put p.1 p.2) l

/-- A word with its field of `n` bits at `lo` replaced. -/
def putField (v : W32) (lo n x : Nat) : W32 :=
  (v &&& ~~~(BitVec.ofNat 32 (2 ^ n - 1) <<< lo)) ||| (BitVec.ofNat 32 (x % 2 ^ n) <<< lo)

/-- Replace a field of STATUS (R273). -/
def Loop.status (lo n x : Nat) (l : Loop) : Loop := l.put 31 (putField (l.w 31) lo n x)
/-- Replace a bit of STATUS. -/
def Loop.flag (i : Nat) (b : Bool) (l : Loop) : Loop := l.put 31 (setBit (l.w 31) i b)

/-- The state code of R275. -/
def Loop.st (l : Loop) : Nat := (getField (l.w 31) 8 3).toNat
/-- HO_COUNT. -/
def Loop.hoCount (l : Loop) : Nat := (getField (l.w 31) 15 7).toNat
/-- SWAP_RUN. -/
def Loop.swapRun (l : Loop) : Nat := (getField (l.w 31) 24 3).toNat
/-- ACTIVE_SET. -/
def Loop.setB (l : Loop) : Bool := bitOf (l.w 31) 6
/-- MEAS. -/
def Loop.meas (l : Loop) : Nat := (getField (l.w 0) 8 8).toNat
/-- LOCKIN_EN. -/
def Loop.lockin (l : Loop) : Bool := bitOf (l.w 0) 6
/-- LI_LEN. -/
def Loop.liLen (l : Loop) : Nat := (getField (l.w 1) 12 4).toNat
/-- A coefficient of the set in use: 0 = KP, 1 = KI, 2 = KD, 3 = AD. -/
def Loop.coef (l : Loop) (i : Nat) : W32 := l.w ((if l.setB then 12 else 8) + i)
/-- The loop is enabled. -/
def Loop.on (l : Loop) : Bool := l.st != 0

/-! ### Arithmetic, R269 -/

/-- A finite value; what is not finite ends the computation. -/
def fin32 (w : W32) : Option W32 := if f32Finite w then some w else none

def oAdd (a b : W32) : Option W32 := fin32 (f32Add a b)
def oSub (a b : W32) : Option W32 := fin32 (f32Sub a b)
def oMul (a b : W32) : Option W32 := fin32 (f32Mul a b)
def oDiv (a b : W32) : Option W32 := fin32 (f32Div a b)
def oSqrt (a : W32) : Option W32 := fin32 (f32Sqrt a)

def f32One : W32 := 0x3F800000
def f32Two : W32 := 0x40000000

/-- The code of an output U in codes: round, ties to even, limited to 0 to 65,535 (R269). -/
def codeOf (u : W32) : W16 :=
  match f32ToInt u with
  | some i => BitVec.ofInt 16 (clampInt 0 65535 i)
  | none => 0

/-- y = MEAS_GAIN · x + MEAS_OFFSET (R269). -/
def Loop.measure (l : Loop) (x : W32) : Option W32 := do
  let g ← oMul (l.w 2) x
  oAdd g (l.w 3)

/-- The filter output in codes, exactly (R269, R320). -/
def foutCodes (fout : Int) : W32 := fRoundInt fout (-8) false

/-! ### Set-point path, R278 -/

/-- A set-point path after one step, and whether it has arrived. -/
abbrev PathStep := SpPath × Bool

/-- The slew limiter. -/
def slewPath (vmax : W32) (p : SpPath) : Option PathStep := do
  let d ← oSub p.target p.r
  let r ← oAdd p.r (f32Clamp (f32Neg vmax) vmax d)
  return ({ p with r := r }, f32Eq r p.target)

/-- The jerk-limited profile. -/
def profilePath (vmax amax jmax : W32) (p : SpPath) : Option PathStep := do
  let dst ← oSub p.target p.r
  if f32Le (f32Abs dst) jmax && f32Le (f32Abs p.vel) amax && f32Le (f32Abs p.acc) jmax then
    return ({ r := f32Flush p.target, vel := 0, acc := 0, target := p.target }, true)
  else
    let a2 ← oMul amax amax
    let j2 ← oMul f32Two jmax
    let q ← oDiv a2 j2
    let m0 ← oSub (f32Abs dst) q
    let m := if f32Lt m0 0 then 0 else m0
    let a3 ← oMul f32Two amax
    let am ← oMul a3 m
    let root ← oSqrt am
    let lim := if f32Lt vmax root then vmax else root
    let vd := if f32Lt dst 0 then f32Neg lim else if f32Eq dst 0 then 0 else lim
    let dv ← oSub vd p.vel
    let ad := f32Clamp (f32Neg amax) amax dv
    let da ← oSub ad p.acc
    let acc ← oAdd p.acc (f32Clamp (f32Neg jmax) jmax da)
    let v0 ← oAdd p.vel acc
    let vel := f32Clamp (f32Neg vmax) vmax v0
    let r ← oAdd p.r vel
    return ({ p with r := r, vel := vel, acc := acc }, false)

/-- One step of a path under the law that SP_PATH selects. -/
def Loop.pathStep (l : Loop) (p : SpPath) : Option PathStep :=
  if bitOf (l.w 0) 3 then profilePath (l.w 17) (l.w 18) (l.w 19) p else slewPath (l.w 17) p

/-- The loop's own path. -/
def Loop.path (l : Loop) : SpPath := { r := l.w 24, vel := l.w 25, acc := l.w 26, target := l.w 16 }

/-- The loop with its path advanced; ARRIVED sets on arrival and otherwise stays. -/
def Loop.advance (l : Loop) : Option Loop := do
  let (p, arrived) ← l.pathStep l.path
  let l1 := l.puts [(24, p.r), (25, p.vel), (26, p.acc)]
  return if arrived then l1.flag 3 true else l1

/-! ### The laws -/

/-- What a frame gives a loop: its measurement y, and the test signal at the two points of R287. -/
structure FrameIn where
  y    : W32
  tSet : W32 := 0
  tOut : W32 := 0

/-- Limit to the output clamp, and whether the clamp acted. -/
def Loop.clampOut (l : Loop) (v : W32) : W32 × Bool :=
  let u := f32Clamp (l.w 4) (l.w 5) v
  (u, !f32Eq u v)

/-- A frame in OPEN (R279); Y_PREV records the measurement. -/
def Loop.openFrame (fi : FrameIn) (l0 : Loop) : Option Loop := do
  let l ← l0.advance
  let r ← oAdd (l.w 24) fi.tSet
  let v ← oAdd r fi.tOut
  let (u, sat) := l.clampOut v
  return ((l.put 30 u).flag 0 sat).put 29 fi.y

/-- d of R276. -/
def Loop.derivative (l : Loop) (y : W32) : Option W32 := do
  let a ← oMul (l.coef 3) (l.w 28)
  let b ← oSub f32One (l.coef 3)
  let c ← oMul (l.coef 2) b
  let e ← oSub (l.w 29) y
  let g ← oMul c e
  oAdd a g

/-- The conditional integration of R276 and R281: the term `ie` moves the integrator unless it would move the output
further beyond a limit. -/
def Loop.integrates (l : Loop) (v ie step : W32) : Bool :=
  let forced := bitOf (l.w 31) 5
  !((f32Lt (l.w 5) v || (forced && f32Lt (l.w 21) step)) && f32Lt 0 ie)
    && !((f32Lt v (l.w 4) || (forced && f32Lt step (f32Neg (l.w 21)))) && f32Lt ie 0)

/-- The law of R276, with the slewed final step of R281 while HO_FORCED: the loop and its error e. -/
def Loop.lawFrame (fi : FrameIn) (l0 : Loop) : Option (Loop × W32) := do
  let l ← l0.advance
  let r ← oAdd (l.w 24) fi.tSet
  let e ← oSub r fi.y
  let p ← oMul (l.coef 0) e
  let d ← l.derivative fi.y
  let ie ← oMul (l.coef 1) e
  let i1 ← oAdd (l.w 27) ie
  let sum := fun (i : W32) => do
    let a ← oAdd p i
    let b ← oAdd a d
    oAdd b fi.tOut
  let v1 ← sum i1
  let step1 ← oSub v1 (l.w 30)
  let i2 := f32Clamp (l.w 6) (l.w 7) (if l.integrates v1 ie step1 then i1 else l.w 27)
  let v ← sum i2
  let step ← oSub v (l.w 30)
  let forced := bitOf (l.w 31) 5
  let slewed := forced && f32Lt (l.w 21) (f32Abs step)
  let target ← if slewed then oAdd (l.w 30) (f32Clamp (f32Neg (l.w 21)) (l.w 21) step) else some v
  let (u, sat) := l.clampOut target
  let isat := f32Eq i2 (l.w 6) || f32Eq i2 (l.w 7)
  let l1 := l.puts [(27, i2), (28, d), (29, fi.y), (30, u)]
  return (((l1.flag 0 sat).flag 1 isat).flag 5 slewed, e)

/-- A swap frame (R283 steps 2 to 7): the set CFG.SET names becomes active and the integrator is rebuilt around U; and the
error of the frame. -/
def Loop.swapFrame (fi : FrameIn) (l0 : Loop) : Option (Loop × W32) := do
  let l := l0.flag 6 (bitOf (l0.w 0) 4)
  let e ← oSub (l.w 24) fi.y
  let d ← l.derivative fi.y
  let p ← oMul (l.coef 0) e
  let a ← oSub (l.w 30) p
  let raw ← oSub a d
  let i := f32Clamp (l.w 6) (l.w 7) raw
  let l1 := (l.puts [(27, i), (28, d), (29, fi.y)]).flag 1 (!f32Eq i raw)
  return ({ l1 with swapDue := false, autoSwap := false }, e)

/-- The preload Ic of R280. -/
def Loop.preload (l : Loop) : W32 := f32Clamp (l.w 6) (l.w 7) (l.w 30)

/-- The loop enters CLOSED with the integrator at `ic` and the target of its LOOP_MODE (R280, R281). -/
def Loop.close (ic : W32) (l : Loop) : Loop :=
  let l1 := ((l.puts [(27, ic), (16, l.hoTarget)]).status 8 3 4).flag 3 false
  { l1 with openPath := none, errRun := 0 }

/-- The open-loop path that goes on through HANDOVER (R280). -/
def Loop.openStep (l : Loop) : Option Loop :=
  match l.openPath with
  | none => some l
  | some p =>
    match l.pathStep p with
    | none => none
    | some q =>
      let o := l.clampOut q.1.r
      let l1 := (l.put 30 o.1).flag 0 o.2
      some { l1 with openPath := some q.1 }

/-- A hand-over frame that is computed (R280 steps 1 to 4, R282): the loop, and whether it agreed. -/
def Loop.handoverFrame (fi : FrameIn) (l0 : Loop) : Option (Loop × Bool) := do
  let l ← l0.openStep
  let l2 := if l.swapDue then { ((l.flag 6 (bitOf (l.w 0) 4)).status 24 3 0) with swapDue := false, autoSwap := false } else l
  let l3 := l2.puts [(24, fi.y), (25, 0), (26, 0), (28, 0), (29, fi.y)]
  let ic := l3.preload
  let uc := (l3.clampOut ic).1
  let gap ← oSub uc (l3.w 30)
  if f32Le (f32Abs gap) (l3.w 20) then return ((l3.put 30 uc).close ic, true)
  else return (l3, false)

/-- A LOOP_MODE into OPEN starts the path at R := U (R275); the run of R284 ends with CLOSED. -/
def Loop.toOpen (l : Loop) : Loop :=
  ((((l.puts [(24, l.w 30), (25, 0), (26, 0)]).flag 3 false).status 8 3 2).flag 5 false).status 24 3 0

/-- Enter HANDOVER (R280); from OPEN the open-loop path goes on. -/
def Loop.toHandover (target : W32) (l : Loop) : Loop :=
  let p := if l.st = 2 then some l.path else none
  { ((l.status 8 3 3).status 15 7 0) with openPath := p, hoTarget := target }

/-- Enter HOLD (R275): U stays, STATUS.FAULT clears (R290), and the run of R284 ends with CLOSED. -/
def Loop.toHold (l : Loop) : Loop :=
  { ((((l.status 8 3 1).status 11 4 0).status 24 3 0).flag 5 false).flag 7 false with openPath := none }

/-- Enter OFF (R275); STATUS.FAULT stays (R290), and the run of R284 ends with CLOSED. -/
def Loop.toOff (l : Loop) : Loop :=
  { (((l.status 8 3 0).status 24 3 0).flag 5 false).flag 7 false with openPath := none, resume := false }

/-! ### Words that a write may carry, R274 -/

/-- The fields of CFG and LOCKIN that R271 and R272 reserve are 0, and LI_LEN, HARM and DSRC are in range. -/
def cfgOk (v : W32) : Bool := getField v 21 11 == 0 && !bitOf v 7 && getField v 0 3 == 0
def lockinOk (v : W32) : Bool :=
  getField v 25 7 == 0 && decide ((getField v 12 4).toNat ≤ 10) && decide ((getField v 16 8).toNat < 192)
    && getField v 10 2 != 3
def loopStatusOk (v : W32) : Bool := getField v 27 5 == 0 && !bitOf v 4

def f32Pos (v : W32) : Bool := f32Lt 0 v
def f32Clamp16 (v : W32) : Bool := f32Le 0 v && f32Le v 0x477FFF00

/-- The value of one word alone is allowed. -/
def wordOk (i : Nat) (v : W32) : Bool :=
  if i = 0 then cfgOk v
  else if i = 1 then lockinOk v
  else if i = 31 then loopStatusOk v
  else f32Finite v
    && (if i = 4 ∨ i = 5 then f32Clamp16 v
        else if i = 11 ∨ i = 15 then f32Le 0 v && f32Lt v f32One
        else if 17 ≤ i ∧ i ≤ 19 then f32Pos v
        else if 20 ≤ i ∧ i ≤ 23 then f32Le 0 v
        else true)

/-- The words together, where a write touches them: OMIN ≤ OMAX, IMIN ≤ IMAX, and a harmonic for a lock-in. -/
def Loop.pairsOk (touched : Nat → Bool) (l : Loop) : Bool :=
  (!(touched 4 || touched 5) || f32Le (l.w 4) (l.w 5)) && (!(touched 6 || touched 7) || f32Le (l.w 6) (l.w 7))
    && (!(touched 0 || touched 1) || !l.lockin || getField (l.w 1) 10 2 != 0)

/-- A written STATUS word leaves STATE as it stands when the write takes effect: only the table of R275 moves a loop. -/
def Loop.keepState (l : Loop) (i : Nat) (v : W32) : W32 := if i = 31 then putField v 8 3 l.st else v

/-- A write of a word as it takes effect (R274, R283, R285): CFG.SET changed or a gain of the set in use written
makes a swap due; LOCKIN_EN becoming 1 starts a period. A swap that R284 called stays its own unless SET changes back. -/
def Loop.take (i : Nat) (v : W32) (l : Loop) : Loop :=
  let gain := if l.setB then decide (12 ≤ i ∧ i ≤ 15) else decide (8 ≤ i ∧ i ≤ 11)
  let setChange := decide (i = 0) && bitOf v 4 != bitOf (l.w 0) 4
  let li := decide (i = 0) && bitOf v 6 && !l.lockin
  let l1 := l.put i (l.keepState i v)
  { l1 with
    swapDue := l1.swapDue || gain || setChange
    autoSwap := l1.autoSwap && !setChange
    liRestart := l1.liRestart || li }

/-- Words set by a command at once: what waits to be written to the same words is superseded. -/
def setWords (n : Nat) (kv : List (Nat × W32)) (s : State) : State :=
  let gone := fun (p : Nat × Nat × W32) => p.1 == n && kv.any (fun q => q.1 == p.2.1)
  (s.loopMod n (Loop.puts kv)).coreMod (n / 48)
    (fun c => { c with writes := c.writes.map (fun w => { w with words := w.words.filter (fun p => !gone p) }) })

/-! ### Tests and faults -/

/-- End the test of a core (R287). -/
def endTest (q : Nat) (cause : Nat) (s : State) : State :=
  let c := s.coreAt q
  match c.test with
  | none => s
  | some t => raise 0x8A06 ([u8 q, u8 t.loop, u8 cause] ++ leN 2 c.records.length) (s.coreMod q (fun c => { c with test := none }))

/-- End the test that runs on loop `n`, if one does. -/
def endTestOf (n cause : Nat) (s : State) : State :=
  match (s.coreAt (n / 48)).test with
  | some t => if t.loop = n then endTest (n / 48) cause s else s
  | none => s

/-- Loop `n` enters FAULT with a cause of R289; causes 3 to 6 act by FAULT_ACTION on the output (R302) and arise only
in a loop that is not OFF. A loop already in FAULT stays as it is. -/
def loopFault (n cause : Nat) (s : State) : State :=
  let l := s.loopAt n
  if l.st = 5 ∨ (l.st = 0 ∧ 3 ≤ cause) then s
  else
    let b := s.biasAt n
    let safe := decide (3 ≤ cause) && bitOf (l.w 0) 20
    let s1 := s.loopMod n (fun l =>
      let l1 := (((l.status 8 3 5).status 11 4 cause).flag 5 false).flag 7 false
      let l2 := if safe then l1.put 30 (f32OfInt b.record.safeCode.toNat) else l1
      { l2 with openPath := none, resume := false, faultCount := satAdd l2.faultCount 1,
                errRun := 0, staleRun := 0, missRun := 0 })
    let s2 := if safe then biasSafeOf n s1 else s1
    raise 0x8A02 [u8 n, u8 cause] (endTestOf n 3 s2)

/-- The 256 bytes of loop-state crumb `m`: the words of its two loops (R270). -/
def State.loopCrumb (s : State) (m : Nat) : Bytes :=
  [2 * m, 2 * m + 1].flatMap (fun n => (s.loopAt n).words.flatMap le32)

/-- The check word stored beside loop-state crumb `m` (R20). -/
def State.loopChk (s : State) (m : Nat) : W16 := crc16 (s.loopCrumb m) ^^^ Tab.get 0 s.loopSyn m

/-- The check of loop-state crumb `m` (R22): it is not rejected, and its check word is the CRC of what it holds. -/
def State.loopCrumbOk (s : State) (m : Nat) : Bool := !s.loopRej.contains m && Tab.get 0 s.loopSyn m == 0

/-- Loop-state crumb `m` has been rewritten whole: its check word is computed and stored (R21). -/
def loopCrumbStore (m : Nat) (s : State) : State := { s with loopSyn := Tab.set 0 s.loopSyn m 0 }

/-- A loop-state crumb fails its check: it is rejected, and both its loops enter FAULT (R22, R289). -/
def loopCrumbFail (m : Nat) (s : State) : State :=
  let s1 := if s.loopRej.contains m then s else { s with loopRej := s.loopRej ++ [m] }
  loopFault (2 * m + 1) 1 (loopFault (2 * m) 1 (crumbError 3 0 m s1))

end Sys2Proof.Machine
end

