-- ==== Sys2Proof/Machine/Bias.lean ====
section
/-! DEFINITION. The commands, ticks and faults of the bias outputs (chapter 11). -/

namespace Sys2Proof.Machine

/-- A bias output number in range (R293). -/
def outOk (out : Byte) : Bool := decide (out.toNat < 192)

/-- The record that a BIAS_CONFIG selects by its MASK from the one in force (R304, R402). -/
def biasMerge (mask : Byte) (new old : BiasRec) : BiasRec :=
  { range := masked mask 0 new.range old.range
    slewEn := masked mask 0 new.slewEn old.slewEn
    safeHiz := masked mask 0 new.safeHiz old.safeHiz
    slewRate := masked mask 1 new.slewRate old.slewRate
    slewStep := masked mask 2 new.slewStep old.slewStep
    safeCode := masked mask 3 new.safeCode old.safeCode
    damp := masked mask 4 new.damp old.damp
    dinc := masked mask 5 new.dinc old.dinc }

/-- The selected values are in range (R304). -/
def biasRecOk (mask : Byte) (b : Bytes) : Bool :=
  let r := BiasRec.ofBytes b
  maskedOk mask 0 (decide ((byteAt b 0).toNat < 16) && r.range != 3) && maskedOk mask 2 (r.slewStep != 0)
    && maskedOk mask 4 (decide (r.damp.toNat ≤ 16383)) && slice b 12 4 == List.replicate 4 0

/-- A change of the dither settings (R299): in DRIVE, from amplitude 0 at once from φ = 0, otherwise at the next zero
crossing. -/
def Bias.setDither (b : Bias) : Bias :=
  if b.st ≠ .drive then b
  else if b.damp = 0 ∧ b.record.damp ≠ 0 then
    { b with phi := 0, damp := b.record.damp, dinc := b.record.dinc, dither := none }
  else if b.damp = b.record.damp ∧ b.dinc = b.record.dinc then { b with dither := none }
  else { b with dither := some (b.record.damp, b.record.dinc) }

/-- Start a range change in DRIVE (R300): the dither stops at its next zero crossing. -/
def Bias.startRange (target : W16) (b : Bias) : Bias :=
  { b with
    st := .range
    oldRange := b.rangeNow
    target := target
    hizTicks := 0
    rangeStep := if b.damp = 0 then .down else .dither
    dither := if b.damp = 0 then none else some (0, b.dinc) }

/-- BIAS_CONFIG, R300, R304. -/
def cmdBiasConfig (out mask : Byte) (record : Bytes) (target : W16) (s : State) : Cmd :=
  let n := out.toNat
  { form := if record.length = 16 then none else some .badLength
    ready := s.coreOn (n / 48 % 4)
    range := outOk out && flagsOk 6 mask && biasRecOk mask record
    run := fun _ =>
      let b := s.biasAt n
      let r := biasMerge mask (BiasRec.ofBytes record) b.record
      let change := decide (bitOf mask 0 = true ∧ r.range ≠ b.rangeNow)
      if change && !(b.st == .hiz || (b.st == .drive && !(s.loopAt n).on)) then deny .busy s
      else
        let keep := { r with range := if b.st = .range then b.record.range else r.range }
        ok (s.biasMod n (fun b =>
          let b1 := Bias.setDither { b with record := keep, rangeNow := if change && b.st == .hiz then r.range else b.rangeNow }
          if change && b.st == .drive then b1.startRange target else b1)) }
def execBiasConfig (out mask : Byte) (record : Bytes) (target : W16) (s : State) : Result :=
  parax 0x0B01 (cmdBiasConfig out mask record target) s

/-- BIAS_ENABLE, R295, R301. -/
def cmdBiasEnable (out flags : Byte) (code : W16) (s : State) : Cmd :=
  let n := out.toNat
  { ready := s.coreOn (n / 48 % 4)
    range := outOk out && flagsOk 1 flags
    run := fun _ =>
      let b := s.biasAt n
      let st := (s.loopAt n).st
      if !(b.st == .hiz || (b.st == .fault && bitOf flags 0 && !b.faulted)) || decide (1 < st) then deny .busy s
      else if s.biasLow then deny .supply s
      else ok (s.biasMod n (fun b =>
        let b1 := { b.drive 0 with starting := true }
        if st = 0 then { b1 with block := some (List.replicate 4 code), queue := [], last := code } else b1)) }
def execBiasEnable (out flags : Byte) (code : W16) (s : State) : Result :=
  parax 0x0B02 (cmdBiasEnable out flags code) s

/-- BIAS_DISABLE, R294; a fault taken in the same tick stands (R301). -/
def cmdBiasDisable (out : Byte) (s : State) : Cmd :=
  { range := outOk out
    run := fun _ => ok (s.biasMod out.toNat (fun b => if b.faulted then b else { b.toHiz with left := b.monitored })) }
def execBiasDisable (out : Byte) (s : State) : Result := parax 0x0B03 (cmdBiasDisable out) s

/-- BIAS_CODE, R296. -/
def cmdBiasCode (out : Byte) (code : W16) (s : State) : Cmd :=
  let n := out.toNat
  { ready := s.coreOn (n / 48 % 4)
    range := outOk out
    run := fun _ =>
      if (s.loopAt n).on ∨ (s.biasAt n).st = .range then deny .busy s else ok (biasBlock n code s) }
def execBiasCode (out : Byte) (code : W16) (s : State) : Result := parax 0x0B04 (cmdBiasCode out code) s

/-- The outputs that a scope names (R302). -/
def biasScope (scope index : Byte) : List Nat :=
  if scope = 0 then [index.toNat]
  else if scope = 1 then (List.range 12).map (12 * index.toNat + ·) else List.range 192

/-- The scope and its index are in range. -/
def scopeOk (scope index : Byte) : Bool :=
  if scope = 0 then outOk index else if scope = 1 then laneOk index else scope == 2

/-- The groups of a scope are powered. -/
def State.scopeOn (s : State) (scope index : Byte) : Bool :=
  !scopeOk scope index || (biasScope scope index).all (fun n => s.coreOn (n / 48))

/-- BIAS_SAFE, R302. -/
def cmdBiasSafe (scope index : Byte) (s : State) : Cmd :=
  { ready := s.scopeOn scope index
    range := scopeOk scope index
    run := fun _ =>
      let st := (s.biasAt index.toNat).st
      if scope = 0 ∧ st ≠ .drive ∧ st ≠ .range then deny .busy s
      else ok (forEach (biasScope scope index) biasSafeOf s) }
def execBiasSafe (scope index : Byte) (s : State) : Result := parax 0x0B05 (cmdBiasSafe scope index) s

/-- BIAS_RELEASE, R302. -/
def cmdBiasRelease (scope index : Byte) (s : State) : Cmd :=
  { ready := s.scopeOn scope index
    range := scopeOk scope index
    run := fun _ =>
      if scope = 0 ∧ (s.biasAt index.toNat).st ≠ .safe then deny .busy s
      else ok (forEach (biasScope scope index) biasReleaseOf s) }
def execBiasRelease (scope index : Byte) (s : State) : Result := parax 0x0B06 (cmdBiasRelease scope index) s

/-- BIAS_STATUS, R305. -/
def cmdBiasStatus (out flags : Byte) (s : State) : Cmd :=
  let n := out.toNat
  let b := s.biasAt n
  { range := outOk out && flagsOk 1 flags
    run := fun _ =>
      okWith ([b.st.code, b.cause, u8 b.rangeNow.toNat, boolByte b.slewing] ++ le16 b.b
          ++ le32 b.phi ++ b.record.bytes ++ le32 b.clip ++ le16 b.faults)
        (if clearFlag flags then s.biasMod n (fun b => { b with clip := 0, faults := 0 }) else s) }
def execBiasStatus (out flags : Byte) (s : State) : Result := parax 0x0B07 (cmdBiasStatus out flags) s

/-! ### Ticks -/

/-- Step 1 of R300: the code path goes on until the dither has stopped. -/
def rangeDither (q : W16) (b : Bias) : Bias :=
  let b1 := Bias.codeTick q b
  if b1.dither.isNone then { b1 with rangeStep := .down } else b1

/-- Step 2 of R300: B moves to 0, and the tick that reaches it takes the output to high impedance. -/
def rangeDown (b : Bias) : Bias :=
  let b1 := Bias.codeTick 0 b
  if b1.out = 0 then { b1 with rangeStep := .hiz, hizTicks := 0, highZ := true, rangeNow := b1.record.range } else b1

/-- A tick of one output (R296, R297, R300, R302), in any state with one entry of its queue presented; the flag says
that a range change has ended. -/
def biasTickOf (first : Bool) (b0 : Bias) : Bias × Bool :=
  let q := b0.present.1
  let waits := b0.starting && !first
  let b := { b0.present.2 with left := false, faulted := false, starting := waits }
  if waits then (b, false) else
  match b.st with
  | .drive => (Bias.codeTick q b, false)
  | .safe => ({ b with highZ := b.record.safeHiz, out := if b.record.safeHiz then 0 else b.record.safeCode }, false)
  | .range =>
    match b.rangeStep with
    | .dither => (rangeDither q b, false)
    | .down => (rangeDown b, false)
    | .hiz => ({ b with hizTicks := b.hizTicks + 1, t := b.t + 1 }, false)
    | .up =>
      let b1 := Bias.codeTick b.target b
      if b1.b = b.target then
        (Bias.toDrive b.target { b1.leave with queue := [], last := b.target, block := none }, true)
      else (b1, false)
    | .none => (b, false)
  | _ => (b, false)

/-- A tick of output `n`. -/
def biasTickAt (first : Bool) (n : Nat) (s : State) : State :=
  let r := biasTickOf first (s.biasAt n)
  let s1 := s.biasMod n (fun _ => r.1)
  if r.2 then raise 0x8B02 [u8 n, u8 r.1.record.range.toNat] s1 else s1

/-- BIAS_TICK, R296, R297: all twelve outputs of a lane. -/
def execBiasTick (lane : BitVec 4) (tick : BitVec 2) (s : State) : Result :=
  eventIf (s.sys.rsynLock && s.pd (80 + lane.toNat / 4))
    (forEach ((List.range 12).map (12 * lane.toNat + ·)) (biasTickAt (tick == 0))) s

/-- RANGE_HIZ_INTERVAL_END, R300: code 0 in the new range, and B moves to TARGET. -/
def execRangeHizIntervalEnd (out : Byte) (s : State) : Result :=
  let b := s.biasAt out.toNat
  eventIf (outOk out && b.st == .range && b.rangeStep == .hiz && decide (8 ≤ b.hizTicks))
    (fun s => s.biasMod out.toNat (fun b => { b with rangeStep := .up, b := 0, highZ := false, out := 0 })) s

/-- An output goes to FAULT for a cause of R301, and its loop with it; only DRIVE, SAFE and RANGE are monitored, and one
that a command took out of them in the same tick. The event counts its causes from 0 (R401). -/
def biasFaultOf (cause : Byte) (n : Nat) (s : State) : State :=
  let b := s.biasAt n
  if b.monitored || b.left then
    let s1 := s.biasMod n (fun b =>
      { b.leave with st := .fault, cause := cause, faults := satAdd b.faults 1, highZ := true, out := 0, left := false,
                     faulted := s.coreOn (n / 48) })
    loopFault n 2 (raise 0x8B01 [u8 n, cause - 1] s1)
  else s

/-- BIAS_FAULT_DETECT, R301: cause 1 or 2 on one output, 3 (SUPPLY) on all; cause 0 tells that VDD_BIAS is back above
its threshold (log entry 19). -/
def execBiasFaultDetect (out cause : Byte) (s : State) : Result :=
  pinEvent (fun s => if cause = 3 then { s with biasLow := true } else if cause = 0 then { s with biasLow := false } else s)
    (fun s =>
    if cause = 3 then forEach (List.range 192) (biasFaultOf 3) { s with biasLow := true }
    else if cause = 0 then { s with biasLow := false }
    else if outOk out && decide (cause.toNat ≤ 2) && s.coreOn (out.toNat / 48)
        && ((cause == 1) == ((s.biasAt out.toNat).rangeNow == 0)) then biasFaultOf cause out.toNat s
    else s) s

end Sys2Proof.Machine
end

