-- ==== Sys2Proof/Machine/Fcs.lean ====
section
/-! DEFINITION. Client frames: the FCS of IEEE 802.3 (log entry 8), the frame map header (R172), the abort mark
(R175), MAC addresses, VLAN tags and the R-TAG (R196). -/

namespace Sys2Proof.Machine

/-- One byte through the reflected CRC-32 of IEEE 802.3. -/
def crc32Byte (c : W32) (b : Byte) : W32 :=
  (List.range 8).foldl (fun a _ => if bitOf a 0 then (a >>> 1) ^^^ 0xEDB88320 else a >>> 1) (c ^^^ b.setWidth 32)

/-- The FCS of a frame without its FCS, as the four octets that follow it in transmission order. -/
def fcsOf (b : Bytes) : Bytes := le32 (~~~(b.foldl crc32Byte 0xFFFFFFFF))

/-- The frame with its last four octets replaced by the FCS of the rest. -/
def withFcs (body : Bytes) : Bytes := body ++ fcsOf body

/-- The octets of a frame before its FCS. -/
def frameBody (f : Bytes) : Bytes := f.take (f.length - 4)
/-- The last four octets of a frame. -/
def frameTail (f : Bytes) : Bytes := f.drop (f.length - 4)
/-- The FCS of the frame is right. -/
def fcsGood (f : Bytes) : Bool := frameTail f == fcsOf (frameBody f)
/-- The abort mark of R175 for the octets before it: the FCS they would need, XOR 0xFFFF_FFFF. -/
def abortMark (body : Bytes) : Bytes := (fcsOf body).map (~~~ ·)
/-- The frame ends in the abort mark. -/
def isAborted (f : Bytes) : Bool := frameTail f == abortMark (frameBody f)

/-- The frame map header of R172 for a frame of `len` octets. -/
def mapHeader (len : Nat) : Bytes :=
  let o0 : Byte := 0x80 ||| BitVec.ofNat 8 (len / 256)
  let o1 : Byte := BitVec.ofNat 8 len
  [o0, o1, crc8 [o0, o1]]

/-- LEN of three octets that form a valid frame map header: MARK, HCRC and the range of LEN (R172, R174). -/
def headerLen (o0 o1 o2 : Byte) : Option Nat :=
  let len := 256 * (o0.toNat % 64) + o1.toNat
  if o0.toNat / 64 = 2 ∧ crc8 [o0, o1] = o2 ∧ 64 ≤ len ∧ len ≤ 10240 then some len else none

/-- The fondant octets owed before the next header after a frame of `len` octets (R173). -/
def fondantAfter (len : Nat) : Nat := (3 + len + 998) / 999

/-- A VLAN tag stands at offset `o`: EtherType 0x8100 or 0x88A8. -/
def vlanAt (f : Bytes) (o : Nat) : Bool :=
  let t := slice f o 2
  t == [0x81, 0x00] || t == [0x88, 0xA8]

/-- The VLAN ID of the outermost VLAN tag; 0 when the frame is untagged (R169, R188). -/
def outerVid (f : Bytes) : Nat := if vlanAt f 12 then ofBe (slice f 14 2) % 4096 else 0

/-- The destination and source MAC addresses, in transmission order. -/
def destMac (f : Bytes) : Bytes := slice f 0 6
def srcMac (f : Bytes) : Bytes := slice f 6 6

/-- The offset after the source MAC and up to two VLAN tags, where the R-TAG stands (R196). -/
def rtagOffset (f : Bytes) : Nat :=
  if vlanAt f 12 then (if vlanAt f 16 then 20 else 16) else 12

/-- The frame carries an R-TAG (EtherType 0xF1C1). -/
def hasRtag (f : Bytes) : Bool := slice f (rtagOffset f) 2 == [0xF1, 0xC1]
/-- The reserved field and the sequence number of the frame's R-TAG. -/
def rtagReserved (f : Bytes) : Nat := ofBe (slice f (rtagOffset f + 2) 2)
def rtagSeq (f : Bytes) : Nat := ofBe (slice f (rtagOffset f + 4) 2)

/-- Put an R-TAG into the frame, or overwrite the one it has, and recompute the FCS (R196). -/
def setRtag (reserved seq : Nat) (f : Bytes) : Bytes :=
  let b := frameBody f
  let o := rtagOffset f
  let tag : Bytes := [0xF1, 0xC1] ++ beN 2 reserved ++ beN 2 seq
  withFcs (b.take o ++ tag ++ b.drop (if hasRtag f then o + 6 else o))

/-- Take the R-TAG out of the frame and recompute the FCS (R203). -/
def stripRtag (f : Bytes) : Bytes :=
  if hasRtag f then
    let b := frameBody f
    let o := rtagOffset f
    withFcs (b.take o ++ b.drop (o + 6))
  else f

end Sys2Proof.Machine
end

