-- ==== Sys2Proof/Machine/Slots.lean ====
section
/-! DEFINITION. The shared operations of the slot calendar, transmit mask, receive routing and client links
(R149 to R168, R180): entries in force, face parts, client state, slots that join, leave or are cut. -/

namespace Sys2Proof.Machine

/-! ### Calendar entries, R152, R153 -/

/-- The crumb of copy `c`, face `f`, lane-in-face `k`. -/
def calCrumb (c f k : Nat) : Nat := 16 * c + 8 * f + k
/-- The entry of face-relative slot `n` in copy `c` of face `f`. -/
def State.calEntry (s : State) (c f n : Nat) : W32 :=
  BitVec.ofNat 32 (ofLe (Tab.read 0 s.calMem.bytes (256 * calCrumb c f (n / 64) + 4 * (n % 64)) 4))

def entKind (e : W32) : Nat := e.toNat / 2 ^ 29
def entExpect (e : W32) : Bool := bitOf e 28
def entSource (e : W32) : Nat := e.toNat / 65536 % 512
def entClient (e : W32) : Nat := e.toNat % 1024
/-- A reserved KIND or a reserved bit is set (R155 check 2). -/
def entReserved (e : W32) : Bool := decide (4 ≤ entKind e) || decide (e.toNat / 2 ^ 25 % 8 ≠ 0) || decide (e.toNat / 1024 % 64 ≠ 0)

/-- The copy that is not ACTIVE. -/
def otherCopy (c : BitVec 1) : BitVec 1 := c ^^^ 1

/-- S of a lane's transmit side: 64 or 32 in PAM4, the table's value in Stretch mode (R125). -/
def State.txS (s : State) (lane : Nat) : Nat :=
  let t := s.txAt lane
  if t.stretch then ((s.stretchAt lane).txTab.map (·.slots)).getD 0 else if t.half then 32 else 64
/-- S of a lane's receive side. -/
def State.rxS (s : State) (lane : Nat) : Nat :=
  let r := s.rxAt lane
  if r.stretch then ((s.stretchAt lane).rxTab.map (·.slots)).getD 0 else if r.half then 32 else 64

/-- The lane's framer sends multiframes of slots: in DATA, with its own symbols and a table where it needs one (R144). -/
def State.framesData (s : State) (lane : Nat) : Bool :=
  decide ((s.txAt lane).st = .data) && !(s.txAt lane).looped && decide (4 ≤ s.txS lane)

/-- The transmit mask of a lane (R159). -/
def LaneMask.bits (m : LaneMask) : W64 := m.stretch ||| m.tier ||| m.down
/-- Bits lo to 63. -/
def bitsFrom (lo : Nat) : W64 := if 64 ≤ lo then 0 else BitVec.allOnes 64 <<< lo

/-- A mask after a calendar switch, with the S, the rate and the state of its lane from that boundary on: each cause keeps
the bits for which it still holds (R159). -/
def LaneMask.afterSwitch (slots : Nat) (half data : Bool) (m : LaneMask) : LaneMask :=
  { stretch := m.stretch &&& bitsFrom slots, tier := if half then m.tier else 0, down := if data then 0 else m.down }

/-- S of a lane's transmit side from a boundary on at which a counted table switch may fall: both switches take effect on
that boundary (R112). -/
def State.txSNow (s : State) (lane : Nat) : Nat :=
  match (s.stretchAt lane).countTx, (s.stretchAt lane).txNext with
  | some 0, some t => t.slots
  | _, _ => s.txS lane

/-- The mask of a lane after a calendar switch (R159). -/
def maskAfterSwitch (s : State) (l : Nat) (m : LaneMask) : LaneMask :=
  m.afterSwitch (s.txSNow l) (s.txAt l).half (decide ((s.txAt l).st = .data))

/-- The entry of slot `n` in the ACTIVE copy of face `f`. -/
def State.activeEntry (s : State) (f n : Nat) : W32 := s.calEntry (s.faceAt f).active.toNat f n
/-- The entry in force: PARKED where the mask bit is set (R159), or where the crumb failed on wake (R362). -/
def State.entryInForce (s : State) (f n : Nat) : W32 :=
  if bitOf (s.maskAt (8 * f + n / 64)).bits (n % 64) || bitOf (s.faceAt f).crumbFail (n / 64) then 0
  else s.activeEntry f n
/-- The entry in force of a device-wide slot. -/
def State.slotEntry (s : State) (slot : Nat) : W32 := s.entryInForce (slot / 512) (slot % 512)

/-! ### Client entries, R165 -/

def cliActive (e : Bytes) : Bool := bitOf (byteAt e 0) 0
def cliDrop (e : Bytes) (face : Nat) : Bool := bitOf (byteAt e 0) (1 + face)
def cliHome (e : Bytes) : Nat := if bitOf (byteAt e 0) 3 then 1 else 0
def cliSpray (e : Bytes) : Bool := bitOf (byteAt e 0) 4
def cliPort (e : Bytes) : Nat := (byteAt e 1).toNat % 16
def cliVid (e : Bytes) : Nat := leAt e 2 2 % 4096
def cliQdepth (e : Bytes) : Nat := if byteAt e 4 = 0 then 12 else (byteAt e 4).toNat
def cliGuard (e : Bytes) : Nat := if byteAt e 5 = 0 then 8 else (byteAt e 5).toNat
/-- An entry without a reserved bit or a value out of range (R165). -/
def cliEntryOk (e : Bytes) : Bool :=
  decide ((byteAt e 0).toNat < 32) && decide ((byteAt e 1).toNat < 16) && decide (leAt e 2 2 < 4096)
    && (byteAt e 4 == 0 || within 2 16 (byteAt e 4).toNat) && decide ((byteAt e 5).toNat < 64)
    && (e.drop 6).all (· == 0)

/-! ### Face parts and client state, R167, R168 -/

/-- The face-relative slots of a face whose entry in force is ADD with client `c`, in ascending order. -/
def State.facePart (s : State) (f c : Nat) : List Nat :=
  (List.range 512).filter (fun n =>
    let e := s.entryInForce f n
    entKind e == 2 && entClient e == c)
/-- A transmit slot neither joins nor leaves. -/
def TxSlot.usable (t : TxSlot) : Bool := t.joinEnd.isNone && !t.leaving
/-- The usable device-wide slots of a client's face part, ascending. -/
def State.usableSlots (s : State) (f c : Nat) : List Nat :=
  ((s.facePart f c).map (512 * f + ·)).filter (fun k => (s.txSlotAt k).usable)

/-- Bring a client's UP or DOWN up to date and raise CLIENT_UP or CLIENT_DOWN on a change (R167). -/
def refreshClient (c : Nat) (s : State) : State :=
  let up := !(s.usableSlots 0 c).isEmpty || !(s.usableSlots 1 c).isEmpty
  if up = (s.clientAt c).up then s
  else raise (if up then 0x8601 else 0x8602) (leN 2 c) (s.clientMod c (fun k => { k with up := up }))

/-- The backlog of an add queue: octets of frames with their headers (R170), with what is unsent of the frame being sent
(DESIGN CHOICE, log entry 160). -/
def TxSlot.backlog (t : TxSlot) : Nat := (t.queue.map (fun b => b.length + 3)).sum + t.sending.length

/-- Discard the frames of a slot's queue and count them FLUSHED on client `c` (R170, R180); the frame being sent counts as
one of them (DESIGN CHOICE, log entry 160). -/
def flushQueue (slot c : Nat) (s : State) : State :=
  let t := s.txSlotAt slot
  let n := t.queue.length + (if t.sending.isEmpty then 0 else 1)
  (s.txSlotMod slot (fun t => { t with queue := [], sending := [] })).clientMod c
    (fun k => { k with flushed := wrapAdd k.flushed n })

/-! ### The regenerator's store, R176 to R179 -/

/-- The mark that the store holds where its source stopped in mid-frame. -/
def cutMark : Byte × Bool := (1, true)

/-- An octet as the store holds it: of an errored octet nothing is sent, so its value is not kept. -/
def storedOctet (x : Byte × Bool) : Byte × Bool := if x.2 then (0, true) else x

/-- FILL: the octets in the store (R177). -/
def TxSlot.fill (t : TxSlot) : Nat := (t.store.filter (fun x => x != cutMark)).length

/-- A regenerated frame in flight is cut: fondant and the abort mark follow from the point reached, and THROUGH_ABORT
counts (R178). -/
def TxSlot.cutFrame (t : TxSlot) : TxSlot :=
  if t.frameLeft = 0 || t.aborting then t else { t with aborting := true, cut := true, aborts := wrapAdd t.aborts 1 }

/-- The source of a THROUGH slot stops with `left` octets of a frame to come: a frame whose tail is skipped is being
completed already; any other is cut where the octets taken from it end (R178). -/
def TxSlot.sourceStop (left : Nat) (t : TxSlot) : TxSlot :=
  if 0 < t.skip then { t with skip := 0 } else if 0 < left then { t with store := t.store ++ [cutMark] } else t

/-- The store of a slot starts again: empty, fondant until FILL reaches 32; a frame being sent is completed first
(R177, R178). -/
def TxSlot.restart (left : Nat) (t : TxSlot) : TxSlot := { t.cutFrame with store := [], started := false, slipping := false, skip := left }

/-- The regenerator of a slot with nothing in flight: what was not yet sent is discarded (R113, R180), a frame in flight
counts as aborted (DEDUCED, log entry 99), and of a frame in progress at the source no octet will be taken. -/
def TxSlot.regenEnd (left : Nat) (t : TxSlot) : TxSlot :=
  { t.cutFrame with
    store := [], started := false, skip := left, frameLeft := 0, sent := [], aborting := false, cut := false
    slipping := false }

/-- Octets to come of the frame that the source map of a THROUGH entry follows. -/
def State.sourceLeft (s : State) (slot : Nat) (e : W32) : Nat :=
  (s.rxSlotAt (512 * (1 - slot / 512) + entSource e)).left

/-- Two entries give a slot the same source (R150). -/
def sameSource (e0 e1 : W32) : Bool :=
  entKind e0 == entKind e1 && (entKind e0 != 2 || entClient e0 == entClient e1)
    && (entKind e0 != 3 || entSource e0 == entSource e1)

/-- What ends in a transmit slot: the queue of an ADD slot is flushed (R170), the octets of a THROUGH slot are discarded
(R113); where another source follows at once, the frame being sent is completed with the abort mark (R178). -/
def slotEnd (slot : Nat) (e0 e1 : W32) (s : State) : State :=
  if entKind e0 = 2 then flushQueue slot (entClient e0) s
  else if entKind e0 = 3 then
    s.txSlotMod slot (if entKind e1 = 3 then TxSlot.cutFrame else TxSlot.regenEnd 0)
  else s

/-- What a transmit slot does when its entry in force changes from `e0` to `e1` at a boundary or without notice: its old
source ends, a new ADD slot joins (R168), a new THROUGH slot starts its store (R177); PARKED and FONDANT slots carry
fondant octets (R150). An entry of the same source goes on. -/
def slotChange (slot : Nat) (e0 e1 : W32) (s : State) : State :=
  if sameSource e0 e1 then s
  else
    let s1 := (slotEnd slot e0 e1 s).txSlotMod slot (fun t => { t with leaving := false, joinEnd := none, block := [] })
    if entKind e1 = 2 then
      s1.txSlotMod slot (fun t =>
        { t with joinEnd := some ((s.faceAt (slot / 512)).mf + cliGuard (s.clientAt (entClient e1)).entry), owed := 1 })
    else if entKind e1 = 3 then s1.txSlotMod slot (TxSlot.restart (s.sourceLeft slot e1))
    else s1

/-- After a change of calendars or masks from `s0`, act on every slot of the listed lanes whose entry in force has
changed, advance CAL_SEQ of a lane with a change once for a boundary (R134), and bring the clients concerned up to date. -/
def resource (s0 : State) (lanes : List Nat) (s : State) : State :=
  let slots := lanes.flatMap (fun l => (List.range 64).map (slotOf l))
  let changed := slots.filter (fun k => s0.slotEntry k != s.slotEntry k)
  let s1 := forEach changed (fun k t => slotChange k (s0.slotEntry k) (t.slotEntry k) t) s
  let s2 := forEach (lanes.filter (fun l => changed.any (fun k => laneOfSlot k == l)))
    (fun l t => t.framerMod l (fun f => if f.seqDone then f else { f with calSeq := f.calSeq + 1, seqDone := true })) s1
  let clients := (changed.flatMap (fun k => [s0.slotEntry k, s.slotEntry k])).filter (fun e => entKind e == 2)
  forEach (clients.map entClient) refreshClient s2

/-- The slot's entry in force is ADD and the pending switch of its face gives the slot another source. -/
def State.endsAtSwitch (s : State) (slot : Nat) : Bool :=
  let f := slot / 512
  let e := s.slotEntry slot
  let masked := bitOf (s.maskAt (laneOfSlot slot)).bits (slot % 64)
  let e1 := if masked then 0 else s.calEntry (otherCopy (s.faceAt f).active).toNat f (slot % 512)
  (s.faceAt f).pending.isSome && entKind e == 2 && !sameSource e e1

/-- At the start of b − 2 of a pending switch of face `f`, the slots whose ADD entry will end are leaving (R168). -/
def startLeaving (f : Nat) (s : State) : State :=
  forEach ((List.range 512).map (512 * f + ·)) (fun k t =>
    if t.endsAtSwitch k then t.txSlotMod k (fun x => { x with leaving := true }) else t) s

/-- A change that was announced for slots of a lane is abandoned: a slot that no switch announced still ends is leaving no
more (R158, R168). -/
def stopLeaving (lane : Nat) (s : State) : State :=
  let x := s.faceAt (faceOf lane)
  let told := match x.pending with
    | some b => decide (b ≤ x.mf + 2)
    | none => false
  let ks := ((List.range 64).map (slotOf lane)).filter (fun k => (s.txSlotAt k).leaving && !(told && s.endsAtSwitch k))
  forEach (ks.map (fun k => entClient (s.slotEntry k))) refreshClient
    (forEach ks (fun k t => t.txSlotMod k (fun x => { x with leaving := false })) s)

/-- Set the LANE_DOWN mask of a lane and act on its slots at once (R159, R180). -/
def laneDown (lane : Nat) (s : State) : State :=
  resource s [lane] (s.maskMod lane (fun m => { m with down := BitVec.allOnes 64 }))

/-- Set the TIER mask of a lane: bits 32 to 63 (R159). -/
def laneTierMask (lane : Nat) (s : State) : State :=
  resource s [lane] (s.maskMod lane (fun m => { m with tier := bitsFrom 32 }))

/-- Set the STRETCH mask of a lane to bits S to 63 beside those already set (R111, R159). -/
def laneStretchMask (lane sNew : Nat) (s : State) : State :=
  resource s [lane] (s.maskMod lane (fun m => { m with stretch := m.stretch ||| bitsFrom sNew }))

/-! ### Receive routing, R161, R162 -/

def codeKind (c : W16) : Nat := c.toNat / 8192
def codeClient (c : W16) : Nat := c.toNat % 1024

/-- The face-relative transmit slot of the other face whose ACTIVE entry, masked or not, is THROUGH from receive slot
`n` of face `f`. -/
def State.throughOf (s : State) (f n : Nat) : Option Nat :=
  (List.range 512).find? (fun k =>
    let e := s.activeEntry (1 - f) k
    entKind e == 3 && entSource e == n)

/-- Client `c` is active with its drop enabled for face `f`, as applied on that face (R166). -/
def State.dropLive (s : State) (c f : Nat) : Bool :=
  let b := if f = 0 then (s.clientAt c).liveE else (s.clientAt c).liveW
  bitOf b 0 && bitOf b (1 + f)

/-- Destinations of a receive slot, R150. -/
inductive Dest where
  | discard
  | client (c : Nat)
  | through (n : Nat)
  deriving DecidableEq, Repr

/-- The route code at work: a slot at or above the lane's receive S is routed as PARKED (R115, R161). -/
def State.routeCode (s : State) (slot : Nat) : W16 :=
  if s.rxS (laneOfSlot slot) ≤ slot % 64 then 0 else (s.rxSlotAt slot).route

/-- The destination of a receive slot by its route code and the local calendar (R161). -/
def State.dest (s : State) (slot : Nat) : Dest :=
  let code := s.routeCode slot
  let f := slot / 512
  if (s.rxAt (laneOfSlot slot)).st ≠ .locked ∨ ¬ (s.rxSlotAt slot).routed then .discard
  else if codeKind code = 2 ∨ codeKind code = 3 then
    match s.throughOf f (slot % 512) with
    | some n => .through n
    | none => if s.dropLive (codeClient code) f then .client (codeClient code) else .discard
  else .discard

/-- The receive slot has a client identity mismatch (R162). -/
def State.cidMismatch (s : State) (slot : Nat) : Bool :=
  let raw := (s.rxSlotAt slot).route
  let addOrThrough := codeKind raw == 2 || codeKind raw == 3
  let f := slot / 512
  addOrThrough &&
    (decide (s.rxS (laneOfSlot slot) ≤ slot % 64) ||
      match s.throughOf f (slot % 512) with
      | some n =>
        let e := s.activeEntry (1 - f) n
        entExpect e && entClient e != codeClient raw
      | none => !s.dropLive (codeClient raw) f)

/-- The device-wide transmit slot of the other face fed by receive slot `slot`. -/
def State.fedSlot (s : State) (slot : Nat) : Option Nat :=
  (s.throughOf (slot / 512) (slot % 512)).map (512 * (1 - slot / 512) + ·)

/-- Put a slot's receive map into HUNT (R174). -/
def hunt (slot : Nat) (s : State) : State :=
  s.rxSlotMod slot (fun r => { r with sync := false, left := 0, hdr := [], held := [] })

/-- The transmit slot that a receive slot feeds at this moment: its entry in force is THROUGH from it. -/
def State.feeds (s : State) (slot : Nat) : Option Nat := (s.fedSlot slot).filter (fun k => entKind (s.slotEntry k) == 3)

/-- A receive slot stops as a source in mid-frame or between frames (R178). -/
def stopSource (slot : Nat) (s : State) : State :=
  match s.feeds slot with
  | some k => s.txSlotMod k (TxSlot.sourceStop (s.rxSlotAt slot).left)
  | none => s

/-- The store of the THROUGH slot that a receive slot feeds starts again (R177). -/
def startSource (slot : Nat) (s : State) : State :=
  match s.feeds slot with
  | some k => s.txSlotMod k (TxSlot.restart (s.rxSlotAt slot).left)
  | none => s

/-- Evaluate a slot's mismatch: raise CAL_CID_MISMATCH when it sets; a THROUGH slot fed from it is cut, and its store
starts again when the mismatch ends (R162, R177, R178). -/
def evalMismatch (slot : Nat) (s : State) : State :=
  let new := s.cidMismatch slot
  if new = (s.rxSlotAt slot).mismatch then s
  else
    let s1 := (if new then stopSource slot s else startSource slot s).rxSlotMod slot (fun r => { r with mismatch := new })
    if new then raise 0x8503 (leN 2 slot ++ leN 2 (codeClient (s.rxSlotAt slot).route)) s1 else s1

/-- The clients that the table lists as active (R165). -/
def State.activeClients (s : State) : List Nat :=
  (s.client.filter (fun p => cliActive p.2.entry)).map (·.1)

/-- VLAN_ID values that map a client (R225). -/
def vidMaps (v : Nat) : Bool := decide (v ≠ 0) && decide (v ≠ 4095)

/-- Two clients active on the port share a VLAN_ID (R225). -/
def State.vlanClash (s : State) (port : Nat) : Bool :=
  let cs := (s.activeClients.map (fun c => (s.clientAt c).entry)).filter
    (fun e => cliPort e == port)
  (List.range cs.length).any (fun i => (List.range i).any (fun j =>
    cliVid (cs.getD i []) == cliVid (cs.getD j [])))

/-- A receive lane has left LOCKED: the THROUGH frames from its slots are cut, its maps go to HUNT and its slots are no
longer routed (R142, R174, R178, R180). -/
def laneUnlocked (lane : Nat) (s : State) : State :=
  forEach ((List.range 64).map (slotOf lane)) (fun k t =>
    (hunt k (stopSource k t)).rxSlotMod k (fun r => { r with routed := false, nxt2 := none })) s

/-- A receive lane has reached LOCKED: the stores of THROUGH slots fed from it start (R177), and the errored blocks of its
slots are noted from here on (R135). -/
def laneRelocked (lane : Nat) (s : State) : State :=
  forEach ((List.range 64).map (slotOf lane)) (fun k t =>
    (startSource k t).rxSlotMod k (fun r => { r with feErr := false })) s

end Sys2Proof.Machine
end

