-- ==== Sys2Proof/Machine/Calendar.lean ====
section
/-! DEFINITION. The calendar and client commands and the slot events (chapter 06): calendars and commits, receive
routing, add queues, frame maps and the regenerator. -/

namespace Sys2Proof.Machine

/-! ### Calendars, R152 to R158 -/

/-- The 64 entries' bytes of lane-in-face `k` in copy `c` of face `f`, with the listed (slot, entry) writes made in
order. -/
def calPatched (s : State) (c f k : Nat) (ws : List (Nat × Bytes)) : Bytes :=
  (ws.filter (fun w => w.1 / 64 == k)).foldl (fun b w => putAt b (4 * (w.1 % 64)) w.2) (s.calMem.read (calCrumb c f k))

/-- Rewrite the crumbs that the writes touch, whole (R21). -/
def calWrites (c f : Nat) (ws : List (Nat × Bytes)) (s : State) : State :=
  forEach ((List.range 8).filter (fun k => ws.any (fun w => w.1 / 64 == k)))
    (fun k t => { t with calMem := t.calMem.write (calCrumb c f k) (calPatched t c f k ws) }) s

/-- The `count` (slot, entry) pairs of CAL_WRITE's DATA. -/
def calPairs (count : Nat) (d : Bytes) : List (Nat × Bytes) :=
  (List.range count).map (fun i => (leAt d (6 * i) 2, slice d (6 * i + 2) 4))

/-- CAL_WRITE, R154. -/
def cmdCalWrite (face : Byte) (count : W16) (buf : W32) (data : Bytes) (s : State) : Cmd :=
  let f := face.toNat
  let n := 6 * count.toNat
  let ws := calPairs count.toNat (bufData buf n data s)
  { form := bufForm buf 7 n data.length
    ready := s.calOn (f % 2)
    range := faceOk face && decide (count ≠ 0) && bufRange buf n && ws.all (fun w => decide (w.1 < 512))
    run := fun _ =>
      if (s.faceAt f).pending.isSome then deny .busy s
      else ok (calWrites (otherCopy (s.faceAt f).active).toNat f ws (s.bufRead buf n)) }
def execCalWrite (face : Byte) (count : W16) (buf : W32) (data : Bytes) (s : State) : Result :=
  parax 0x0501 (cmdCalWrite face count buf data) s

/-- CAL_READ, R154. -/
def cmdCalRead (face copy : Byte) (first count : W16) (buf : W32) (s : State) : Cmd :=
  { ready := s.calOn (face.toNat % 2)
    range := faceOk face && isFlag copy && decide (first.toNat + count.toNat ≤ 512) && respRange buf 0 (4 * count.toNat)
    run := fun _ => respond buf []
      (((List.range count.toNat).map (first.toNat + ·)).flatMap (fun n => le32 (s.calEntry copy.toNat face.toNat n))) s }
def execCalRead (face copy : Byte) (first count : W16) (buf : W32) (s : State) : Result :=
  parax 0x0502 (cmdCalRead face copy first count buf) s

/-- CAL_COPY, R154. -/
def cmdCalCopy (face : Byte) (s : State) : Cmd :=
  let f := face.toNat
  let a := (s.faceAt f).active
  { ready := s.calOn (f % 2)
    range := faceOk face
    run := fun _ =>
      if (s.faceAt f).pending.isSome then deny .busy s
      else ok (forEach (List.range 8) (fun k t =>
        { t with calMem := t.calMem.write (calCrumb (otherCopy a).toNat f k) (t.calMem.read (calCrumb a.toNat f k)) }) s) }
def execCalCopy (face : Byte) (s : State) : Result := parax 0x0503 (cmdCalCopy face) s

/-- The entries of copy `c` of face `f`. -/
def State.copyEntries (s : State) (c f : Nat) : List W32 := (List.range 512).map (s.calEntry c f)

/-- ADD entries of a list of entries for client `c`. -/
def addCount (c : Nat) (es : List W32) : Nat := (es.filter (fun e => entKind e == 2 && entClient e == c)).length

/-- The slots that client `c` has on face `f`, by the larger of its ACTIVE and PENDING copies (R155 check 5). -/
def State.otherFaceCount (s : State) (f c : Nat) : Nat :=
  let a := (s.faceAt f).active
  let act := addCount c (s.copyEntries a.toNat f)
  if (s.faceAt f).pending.isSome then max act (addCount c (s.copyEntries (otherCopy a).toNat f)) else act

/-- Crumbs of copy `c` of face `f` that fail their check. -/
def State.badCalCrumbs (s : State) (c f : Nat) : List Nat :=
  ((List.range 8).map (calCrumb c f)).filter (fun i => !s.calMem.ok i)

/-- The first commit check that fails, in the order of R155. -/
def commitCheck (f : Nat) (s : State) : Option Status :=
  let c := (otherCopy (s.faceAt f).active).toNat
  let es := s.copyEntries c f
  let sources := (es.filter (fun e => entKind e == 3)).map entSource
  let adds := ((es.filter (fun e => entKind e == 2)).map entClient).eraseDups
  if !(s.badCalCrumbs c f).isEmpty then some .crumb
  else if es.any entReserved then some .range
  else if sources.eraseDups.length ≠ sources.length then some .dupSource
  else if adds.any (fun k => !cliActive (s.clientAt k).entry) then some .clientInactive
  else if adds.any (fun k => decide (64 < addCount k es + s.otherFaceCount (1 - f) k)) then some .clientSlots
  else none

/-- The switch multiframe of a commit in multiframe `m` (R156). -/
def switchAt (m : Nat) (atMfc : Option Nat) : Nat :=
  match atMfc with
  | none => m + 3
  | some x => m + 3 + (x + 256 - (m + 3) % 256) % 256

/-- CAL_COMMIT, R155, R156. -/
def cmdCalCommit (face flags atMfc : Byte) (s : State) : Cmd :=
  let f := face.toNat
  { ready := s.calOn (f % 2)
    range := faceOk face && flagsOk 1 flags
    run := fun _ =>
      if (s.faceAt f).pending.isSome then deny .busy s
      else
        let c := otherCopy (s.faceAt f).active
        match commitCheck f s with
        | some st =>
          let bad := if st = .crumb then s.badCalCrumbs c.toNat f else []
          let s1 := forEach bad (fun i t => crumbError 1 f i { t with calMem := t.calMem.reject i }) s
          deny st (raise 0x8502 [face, st.code] s1)
        | none =>
          let b := switchAt (s.faceAt f).mf (if bitOf flags 0 then some atMfc.toNat else none)
          okWith [u8 b, u8 c.toNat] (s.faceMod f (fun x => { x with pending := some b })) }
def execCalCommit (face flags atMfc : Byte) (s : State) : Result := parax 0x0504 (cmdCalCommit face flags atMfc) s

/-- CAL_CANCEL, R157; with no PENDING copy there is nothing to cancel: BUSY (log entry 10). -/
def cmdCalCancel (face : Byte) (s : State) : Cmd :=
  let f := face.toNat
  { ready := s.calOn (f % 2)
    range := faceOk face
    run := fun _ =>
      match (s.faceAt f).pending with
      | none => deny .busy s
      | some b =>
        if b ≤ (s.faceAt f).mf + 2 then deny .tooLate s
        else ok (s.faceMod f (fun x => { x with pending := none })) }
def execCalCancel (face : Byte) (s : State) : Result := parax 0x0505 (cmdCalCancel face) s

/-- The causes that hold a mask bit, as CAL_STATUS codes them. -/
def maskCauses (m : LaneMask) (k : Nat) : Byte :=
  u8 (packBits [bitOf m.stretch k, bitOf m.tier k, bitOf m.down k])
/-- The causes that hold any bit of a lane's mask. -/
def laneCauses (m : LaneMask) : Byte := u8 (packBits [m.stretch != 0, m.tier != 0, m.down != 0])
/-- The face-relative slots with MASKED_ENTRY: masked, and not PARKED in the ACTIVE copy (R159). -/
def State.maskedEntries (s : State) (f : Nat) : List Nat :=
  (List.range 512).filter (fun n =>
    bitOf (s.maskAt (8 * f + n / 64)).bits (n % 64) && entKind (s.activeEntry f n) != 0)
/-- The device-wide receive slots of a face with a mismatch. -/
def State.mismatches (s : State) (f : Nat) : List Nat :=
  ((List.range 512).map (512 * f + ·)).filter (fun k => (s.rxSlotAt k).mismatch)

/-- CAL_STATUS of the calendar group. -/
def cmdCalStatusCalendar (face : Byte) (buf : W32) (s : State) : Cmd :=
  let f := face.toNat
  let x := s.faceAt f
  let mk := s.maskedEntries f
  let mm := s.mismatches f
  let fixed := [u8 x.active.toNat] ++ (match x.pending with | some b => leN 2 (b % 256) | none => [0xFF, 0xFF])
    ++ le32 x.switches ++ (lanesOf f).flatMap (fun l => le64 (s.maskAt l).bits ++ [laneCauses (s.maskAt l)])
    ++ leN 2 mk.length ++ leN 2 mm.length
  let data := mk.flatMap (fun n => leN 2 (512 * f + n) ++ [maskCauses (s.maskAt (8 * f + n / 64)) (n % 64)])
    ++ mm.flatMap (fun k => leN 2 k ++ leN 2 (codeClient (s.rxSlotAt k).route))
  { ready := s.calOn (f % 2)
    range := faceOk face && respRange buf fixed.length data.length
    run := fun _ => respond buf fixed data s }
def execCalStatusCalendar (face : Byte) (buf : W32) (s : State) : Result := parax 0x0506 (cmdCalStatusCalendar face buf) s

/-- DEST of CAL_ROUTE_READ. -/
def destCode (s : State) (k : Nat) : Nat :=
  if (s.rxSlotAt k).mismatch then 0
  else match s.dest k with
  | .discard => 0
  | .client c => 0x4000 + c
  | .through n => 0x8000 + n

/-- CAL_ROUTE_READ, R161. -/
def cmdCalRouteRead (face : Byte) (first count : W16) (buf : W32) (s : State) : Cmd :=
  let f := face.toNat
  { ready := s.calOn (f % 2)
    range := faceOk face && decide (first.toNat + count.toNat ≤ 512) && respRange buf 0 (12 * count.toNat)
    run := fun _ => respond buf []
      (((List.range count.toNat).map (512 * f + first.toNat + ·)).flatMap (fun k =>
        le16 (s.routeCode k) ++ leN 2 (destCode s k) ++ le32 (s.rxSlotAt k).framErr ++ le32 (s.rxSlotAt k).disagree)) s }
def execCalRouteRead (face : Byte) (first count : W16) (buf : W32) (s : State) : Result :=
  parax 0x0507 (cmdCalRouteRead face first count buf) s

/-- The switch of a face at multiframe `b`: the PENDING copy becomes ACTIVE, masks clear, slots change (R156, R159,
R168). -/
def calSwitch (f : Nat) (s : State) : State :=
  let s1 := forEach (lanesOf f) (fun l t => t.maskMod l (maskAfterSwitch t l)) s
  let s2 := s1.faceMod f (fun x =>
    { x with active := otherCopy x.active, pending := none, switches := x.switches + 1, crumbFail := 0 })
  let s3 := resource s (lanesOf f) s2
  raise 0x8501 [u8 f, u8 (s.faceAt f).mf, u8 (otherCopy (s.faceAt f).active).toNat] s3

/-- CALENDAR_SWITCH: the start of the switch multiframe b (R156). -/
def execCalendarSwitch (face : BitVec 1) (s : State) : Result :=
  let x := s.faceAt face.toNat
  eventIf (s.calOn face.toNat && (match x.pending with | some b => decide (b ≤ x.mf) | none => false))
    (calSwitch face.toNat) s

/-- The slots of client `c` on face `f` whose join guard has ended. -/
def State.joined (s : State) (f c : Nat) : List Nat :=
  ((s.facePart f c).map (512 * f + ·)).filter (fun k =>
    match (s.txSlotAt k).joinEnd with
    | some e => decide (e ≤ (s.faceAt f).mf)
    | none => false)

/-- JOIN_GUARD_END: the joining slots become usable (R168). -/
def execJoinGuardEnd (face : BitVec 1) (client : BitVec 10) (s : State) : Result :=
  let f := face.toNat
  let c := client.toNat
  let ks := s.joined f c
  eventIf (s.calOn f && !ks.isEmpty) (fun s =>
    refreshClient c (raise 0x8603 (leN 2 c ++ [u8 f, u8 (s.faceAt f).mf, u8 ks.length])
      (forEach ks (fun k t => t.txSlotMod k (fun x => { x with joinEnd := none })) s))) s

/-! ### Receive routing, R161 to R163 -/

/-- A slot entry of 10 bytes for lane slot `k` is valid (R138): its CRC of R135 matches and no codeword failed. -/
def entryValid (k : Nat) (e : Bytes) (codewordsOk : Bool) : Bool :=
  codewordsOk && decide (crc16 (u8 k :: slice e 0 7) = w16Be e 8)

/-- Route a slot for the next multiframe: a route change cuts the frame of the slot and hunts (R174, R178). -/
def routeTo (slot : Nat) (code : W16) (s : State) : State :=
  if (s.rxSlotAt slot).route = code then s
  else hunt slot ((stopSource slot s).rxSlotMod slot (fun r => { r with route := code }))

/-- The entry of a slot in multiframe m: disagreement with the code that routed m (R163), and the route of m + 1 (R161).
The first entry after multiframe lock follows no routed multiframe (R142): it disagrees with nothing, and where it is
invalid, too, the slot is routed as PARKED until an entry is valid (DEDUCED, log entry 100). -/
def slotRoute (slot : Nat) (e : Bytes) (valid : Bool) (s : State) : State :=
  let r := s.rxSlotAt slot
  let s1 := s.rxSlotMod slot (fun r => { r with sinceEv := min 1024 (r.sinceEv + 1) })
  if valid then
    let s2 := s1.framerMod (laneOfSlot slot) (fun f => { f with slotFe := Tab.set 0 f.slotFe (slot % 64) (byteAt e 6) })
    let s3 := s2.rxSlotMod slot (fun r => { r with nxt2 := some (w16Be e 4) })
    let s4 := if w16Be e 0 = r.route || !r.routed then s3
      else
        let s5 := hunt slot ((stopSource slot s3).rxSlotMod slot (fun r => { r with disagree := wrapAdd r.disagree 1 }))
        if 1024 ≤ (s5.rxSlotAt slot).sinceEv then
          raise 0x8504 (leN 2 slot) (s5.rxSlotMod slot (fun r => { r with sinceEv := 0 }))
        else s5
    routeTo slot (w16Be e 2) s4
  else
    let s2 := fecCount (laneOfSlot slot) (fun k => { k with ohFail := wrapAdd k.ohFail 1 }) s1
    routeTo slot (r.nxt2.getD (if r.routed then r.route else 0)) (s2.rxSlotMod slot (fun r => { r with nxt2 := none }))

/-- RECEIVE_SLOT_ROUTE, R161 to R163, R138; routing begins with multiframe lock (R142). -/
def execReceiveSlotRoute (slot : BitVec 10) (entry : Bytes) (codewordsOk : Bool) (s : State) : Result :=
  let k := slot.toNat
  eventIf (s.rxOn (laneOfSlot k) && (s.framerAt (laneOfSlot k)).lock) (fun s =>
    evalMismatch k ((slotRoute k entry (entryValid (k % 64) entry codewordsOk) s).rxSlotMod k
      (fun r => { r with routed := true }))) s

/-! ### Client links, R165 to R171 -/

/-- A copy in use of either face has an ADD entry for client `c` (R166). -/
def State.clientHasSlots (s : State) (c : Nat) : Bool :=
  [0, 1].any (fun f =>
    let a := (s.faceAt f).active
    decide (0 < addCount c (s.copyEntries a.toNat f))
      || ((s.faceAt f).pending.isSome && decide (0 < addCount c (s.copyEntries (otherCopy a).toNat f))))

/-- The calendar and client domains are powered. -/
def State.clientsOn (s : State) : Bool := s.calOn 0 && s.calOn 1

/-- The crumb of client `c` rewritten with its entry in force in `s`: the stored crumb with the entry changed, or, where the
stored one has been rejected, the 16 entries in force, all of the host's (R21, R22). -/
def State.clientCrumb (s : State) (c : Nat) : CrumbMem :=
  let i := c / 16
  if s.cliMem.rejected.contains i then
    s.cliMem.write i ((List.range 16).flatMap (fun k => (s.clientAt (16 * i + k)).entry))
  else s.cliMem.patch i (16 * (c % 16)) (s.clientAt c).entry

/-- CLIENT_SET, R166, R225: the crumb that the entry is to change is checked first (R22). -/
def cmdClientSet (client : W16) (entry : Bytes) (s : State) : Cmd :=
  let c := client.toNat
  let s1 := s.clientMod c (fun k => { k with entry := entry })
  { form := if entry.length = 16 then none else some .badLength
    ready := s.clientsOn
    range := decide (c < 1024) && cliEntryOk entry
    run := fun _ =>
      if !cliActive entry && s.clientHasSlots c then deny .busy s
      else if cliActive entry && (s.portAt (cliPort entry)).vlan && s1.vlanClash (cliPort entry) then
        deny .vlanConflict s
      else
        let i := c / 16
        if s.cliMem.rejected.contains i || s.cliMem.ok i then ok { s1 with cliMem := s1.clientCrumb c }
        else deny .crumb (crumbError 2 0 i { s with cliMem := s.cliMem.reject i }) }
def execClientSet (client : W16) (entry : Bytes) (s : State) : Result := parax 0x0601 (cmdClientSet client entry) s

/-- CLIENT_GET. -/
def cmdClientGet (client : W16) (s : State) : Cmd :=
  { ready := s.clientsOn
    range := decide (client.toNat < 1024)
    run := fun _ => okWith (slice (s.cliMem.read (client.toNat / 16)) (16 * (client.toNat % 16)) 16) s }
def execClientGet (client : W16) (s : State) : Result := parax 0x0602 (cmdClientGet client) s

/-- A slot's code in CLIENT_STATUS. -/
def TxSlot.stateCode (t : TxSlot) : Byte := if t.joinEnd.isSome then 1 else if t.leaving then 2 else 0

/-- CLIENT_STATUS. -/
def cmdClientStatus (client : W16) (buf : W32) (s : State) : Cmd :=
  let c := client.toNat
  let ks := (s.facePart 0 c) ++ (s.facePart 1 c).map (512 + ·)
  let data := ks.flatMap (fun k => leN 2 k ++ [(s.txSlotAt k).stateCode] ++ leN 2 (s.txSlotAt k).backlog)
  { ready := s.clientsOn
    range := decide (c < 1024) && respRange buf 2 data.length
    run := fun _ => respond buf [boolByte (s.clientAt c).up, u8 ks.length] data s }
def execClientStatus (client : W16) (buf : W32) (s : State) : Result := parax 0x0603 (cmdClientStatus client buf) s

/-- A 48-bit counter in 8 bytes (R401). -/
def cnt48 (v : W48) : Bytes := leN 8 v.toNat
/-- A 32-bit counter in 8 bytes (R401). -/
def cnt32 (v : W32) : Bytes := leN 8 v.toNat

/-- The counters of a client at zero. -/
def Client.cleared (k : Client) : Client :=
  { entry := k.entry, liveE := k.liveE, liveW := k.liveW, up := k.up }

/-- CLIENT_COUNTERS_READ, R181. -/
def cmdClientCountersRead (client : W16) (flags : Byte) (s : State) : Cmd :=
  let k := s.clientAt client.toNat
  { ready := s.clientsOn
    range := decide (client.toNat < 1024) && flagsOk 1 flags
    run := fun _ => okWith
      ([k.addFrames, k.addOctets, k.policed, k.noSlot, k.oversize, k.flushed, k.dropFrames, k.dropOctets,
        k.errored, k.aborted, k.fcsErr].flatMap cnt48)
      (if clearFlag flags then s.clientMod client.toNat Client.cleared else s) }
def execClientCountersRead (client : W16) (flags : Byte) (s : State) : Result :=
  parax 0x0604 (cmdClientCountersRead client flags) s

/-- THROUGH_STATUS, R181; MAP is that of the slot's source. -/
def cmdThroughStatus (slot : W16) (flags : Byte) (s : State) : Cmd :=
  let k := slot.toNat
  let t := s.txSlotAt k
  let e := s.slotEntry k
  let src := 512 * (1 - k / 512) + entSource e
  { ready := s.calOn (k / 512 % 2)
    range := decide (k < 1024) && flagsOk 1 flags
    run := fun _ => okWith
      ([t.inserted, t.deleted, t.aborts, t.slips].flatMap cnt32 ++ [u8 t.fill,
        boolByte (entKind e == 3 && (s.rxSlotAt src).sync)])
      (if clearFlag flags then
        s.txSlotMod k (fun t => { t with inserted := 0, deleted := 0, aborts := 0, slips := 0 }) else s) }
def execThroughStatus (slot : W16) (flags : Byte) (s : State) : Result := parax 0x0605 (cmdThroughStatus slot flags) s

/-- Count on client `c`. -/
def cntClient (c : Nat) (f : Client → Client) (s : State) : State := s.clientMod c f

/-- The face part of a frame (R167): the one named, else HOME while it has a usable slot, else the other. -/
def State.partOf (s : State) (c : Nat) (face : Option Nat) : Nat :=
  match face with
  | some f => f
  | none =>
    let h := cliHome (s.clientAt c).entry
    if (s.usableSlots h c).isEmpty then 1 - h else h

/-- The hash of FLOW (R169). -/
def flowHash (stream : Option Nat) (f : Bytes) : Nat :=
  match stream with
  | some i => (crc16 (beN 3 i)).toNat
  | none => (crc16 (destMac f ++ srcMac f ++ beN 2 (outerVid f))).toNat

/-- The slot of fewest octets, the lowest on a tie. -/
def State.fewest (s : State) : List Nat → Option Nat
  | [] => none
  | k :: r =>
    match s.fewest r with
    | none => some k
    | some j => if (s.txSlotAt j).backlog < (s.txSlotAt k).backlog then some j else some k

/-- The slot that takes a frame (R169). -/
def State.placeOf (s : State) (c f : Nat) (stream : Option Nat) (fr : Bytes) : Option Nat :=
  let us := s.usableSlots f c
  if cliSpray (s.clientAt c).entry then s.fewest us
  else us[flowHash stream fr % us.length]?

/-- A frame on the add side of a client (R170). -/
def addFrame (c : Nat) (face stream : Option Nat) (f : Bytes) (s : State) : State :=
  let n := f.length
  if n < 64 ∨ 10240 < n then cntClient c (fun k => { k with oversize := wrapAdd k.oversize 1 }) s
  else match s.placeOf c (s.partOf c face) stream f with
  | none => cntClient c (fun k => { k with noSlot := wrapAdd k.noSlot 1 }) s
  | some k =>
    if cliQdepth (s.clientAt c).entry * 1024 < (s.txSlotAt k).backlog + n + 3 then
      countSource 0x14 c 1 (cntClient c (fun k => { k with policed := wrapAdd k.policed 1 }) s)
    else
      let s1 := s.txSlotMod k (fun t => { t with queue := t.queue ++ [f] })
      let s2 := cntClient c (fun k => { k with addFrames := wrapAdd k.addFrames 1, addOctets := wrapAdd k.addOctets n }) s1
      countWindow 0 c n (countSource 0x11 c n (countSource 0x10 c 1 s2))

/-- ADD_FRAME_ARRIVE, R167 to R170. -/
def execAddFrameArrive (client : BitVec 10) (face : Option (BitVec 1)) (stream : Option (BitVec 18)) (frame : Frame)
    (s : State) : Result :=
  eventIf s.clientsOn (addFrame client.toNat (face.map BitVec.toNat) (stream.map BitVec.toNat) frame.octets) s

/-- The checks of a frame at drop, in the order of R175, and the counts of R171. -/
def dropFrame (c : Nat) (fr : Frame) (s : State) : State :=
  if fr.errored then cntClient c (fun k => { k with errored := wrapAdd k.errored 1 }) s
  else if isAborted fr.octets then cntClient c (fun k => { k with aborted := wrapAdd k.aborted 1 }) s
  else if !fcsGood fr.octets then cntClient c (fun k => { k with fcsErr := wrapAdd k.fcsErr 1 }) s
  else
    let n := fr.octets.length
    countSource 0x13 c n (countSource 0x12 c 1
      (cntClient c (fun k => { k with dropFrames := wrapAdd k.dropFrames 1, dropOctets := wrapAdd k.dropOctets n }) s))

/-- The client that a receive slot drops to. -/
def State.dropClient (s : State) (slot : Nat) : Option Nat :=
  match s.dest slot with
  | .client c => some c
  | _ => none

/-- A frame passes the checks of R175. -/
def dropGood (fr : Frame) : Bool := !fr.errored && !isAborted fr.octets && fcsGood fr.octets

/-! ### The frame map, R172 to R174 -/

/-- An octet with its errored flag. -/
abbrev Octet := Byte × Bool

/-- MARK of a header octet is 0b10. -/
def isMark (b : Byte) : Bool := b.toNat / 64 == 2

/-- LEN of the header that three octets form, none errored (R174). -/
def headerOf : List Octet → Option Nat
  | a :: b :: c :: _ => if a.2 || b.2 || c.2 then none else headerLen a.1 b.1 c.1
  | _ => none

/-- The octets `l` begin with a header that HUNT may still accept: what is known of it and of the octet after its
frame meets the tests of R174. -/
def huntLive (l : List Octet) : Bool :=
  match l with
  | [] => false
  | x :: _ =>
    !x.2 && isMark x.1 &&
    (if l.length < 3 then true
     else match headerOf l with
     | none => false
     | some n =>
       match l.drop (3 + n) with
       | [] => true
       | y :: ys => !y.2 && isMark y.1 && decide (ys.length < 2))

/-- The latest of the octets `l` accepts the header they begin with: it is the fondant octet after the frame, or the
last octet of the next header, which is then given (R174). -/
def huntAccepts (l : List Octet) : Option (List Octet) :=
  match headerOf l with
  | none => none
  | some n =>
    match l.drop (3 + n) with
    | [y] => if !y.2 && y.1 == 0 then some [y] else none
    | [y, y1, y2] => if (headerOf [y, y1, y2]).isSome then some [y, y1, y2] else none
    | _ => none

/-- The octets from the first header that HUNT may still accept. -/
def huntKeep : List Octet → List Octet
  | [] => []
  | x :: rest => if huntLive (x :: rest) then x :: rest else huntKeep rest

/-- Where SYNC begins: the octets from there on, by the earliest header that the latest octet accepts, the next header
before a fondant octet (R174). -/
def huntScan : List Octet → Option (List Octet)
  | [] => none
  | x :: rest =>
    match huntAccepts (x :: rest), huntScan rest with
    | some y, some z => some (if y.length < z.length then z else y)
    | some y, none => some y
    | none, z => z

/-- What a receive map makes of one octet: the new map, how many octets of its latest output it takes back, and the
octets it gives out. -/
structure MapOut where
  map  : RxSlot
  back : Nat := 0
  out  : List Octet := []
  deriving DecidableEq, Repr

/-- A fondant octet. -/
def fondant : Octet := (0, false)

/-- The map enters HUNT at the listed octets. -/
def toHunt (r : RxSlot) (l : List Octet) : RxSlot :=
  { r with sync := false, left := 0, hdr := [],
           held := huntKeep l }

/-- One octet in SYNC. -/
def mapSync (r : RxSlot) (x : Octet) : MapOut :=
  if 0 < r.left then { map := { r with left := r.left - 1 }, out := [x] }
  else if x.2 then { map := toHunt r [], out := r.hdr.map (fun _ => fondant) ++ [fondant] }
  else match r.hdr with
  | [] =>
    if x.1 = 0 then { map := r, out := [x] }
    else if isMark x.1 then { map := { r with hdr := [x.1] } }
    else { map := toHunt { r with framErr := wrapAdd r.framErr 1 } [x], out := [fondant] }
  | [a] => { map := { r with hdr := [a, x.1] } }
  | a :: b :: _ =>
    match headerLen a b x.1 with
    | some n => { map := { r with hdr := [], left := n }, out := [(a, false), (b, false), x] }
    | none =>
      { map := toHunt { r with framErr := wrapAdd r.framErr 1 } [(a, false), (b, false), x],
        out := [fondant, fondant, fondant] }

/-- One octet in HUNT: fondant goes out; at SYNC the octets from there on replace the fondant given for them. -/
def mapHunt (r : RxSlot) (x : Octet) : MapOut :=
  match huntScan (r.held ++ [x]) with
  | none => { map := { r with held := huntKeep (r.held ++ [x]) }, out := [fondant] }
  | some l =>
    match headerOf l with
    | some n => { map := { r with sync := true, held := [], hdr := [], left := n }, back := 2, out := l }
    | none => { map := { r with sync := true, held := [], hdr := [], left := 0 }, out := [fondant] }

/-- One octet through a receive map (R174). -/
def mapOctet (r : RxSlot) (x : Octet) : MapOut := if r.sync then mapSync r x else mapHunt r x

/-- Write octets into a regenerator's store: those of a frame to be skipped are not written (R179); the store holds
64 octets (R176). -/
def storeIn (back : Nat) (xs : List Octet) (t : TxSlot) : TxSlot :=
  let n := min t.skip xs.length
  { t with skip := t.skip - n,
           store := ((t.store.take (t.store.length - back)) ++ (xs.drop n).map storedOctet).take 64 }

/-- One octet into the map of a slot and, where it feeds a THROUGH slot, into its store. -/
def mapInto (slot : Nat) (fed : Option Nat) (x : Octet) (s : State) : State :=
  let m := mapOctet (s.rxSlotAt slot) x
  let s1 := s.rxSlotMod slot (fun _ => m.map)
  match fed with
  | some k => s1.txSlotMod k (storeIn m.back m.out)
  | none => s1

/-- Every block of the lane is errored under ENFORCE (R139). -/
def State.enforced (s : State) (lane : Nat) : Bool := (s.framerAt lane).idMode == 2 && (s.framerAt lane).mismatch

/-- A block of a receive slot is errored (R141): its codeword was uncorrectable, its lane is not in LOCKED, ENFORCE has it
so, or it crosses in the multiframe of a slip (R18). -/
def State.blockErrored (s : State) (slot : Nat) (uncorrectable : Bool) : Bool :=
  let lane := laneOfSlot slot
  uncorrectable || (s.rxAt lane).st != .locked || s.enforced lane || bitOf s.skew.errLanes lane

/-- A receive slot's map runs: its lane is LOCKED and its routing has begun, on a route code of ADD or THROUGH (R161,
R174). -/
def State.mapRuns (s : State) (slot : Nat) : Bool :=
  let kind := codeKind (s.routeCode slot)
  decide ((s.rxAt (laneOfSlot slot)).st = .locked) && (s.rxSlotAt slot).routed && (kind == 2 || kind == 3)

/-- RECEIVE_MAP_BLOCK: 32 octets of a receive slot, and whether their codeword was uncorrectable (R174, R176); an errored
block is noted for SLOT_FE (R135). The map follows the octets whatever becomes of them: those of a slot that no drop and no
THROUGH entry in force takes, or that has a mismatch, are discarded (R161, R162). -/
def execReceiveMapBlock (slot : BitVec 10) (octets : Bytes) (errored : Bool) (s : State) : Result :=
  let k := slot.toNat
  let errored := s.blockErrored k errored
  eventIf (s.rxOn (laneOfSlot k)) (fun s =>
    let s1 := if errored then s.rxSlotMod k (fun r => { r with feErr := true }) else s
    let fed := match s1.dest k with
      | .through _ => if (s1.rxSlotAt k).mismatch then none else s1.feeds k
      | _ => none
    if s1.mapRuns k then forEach (octets.map (·, errored)) (mapInto k fed) s1 else s1) s

/-! ### Sending, R173, R176 to R179 -/

/-- One octet of an ADD slot and what is left (R173). -/
def addOctet (t : TxSlot) : Byte × TxSlot :=
  match t.sending with
  | b :: r => (b, { t with sending := r })
  | [] =>
    match t.queue with
    | [] => (0, { t with owed := t.owed - 1 })
    | f :: q =>
      if t.joinEnd.isSome || 0 < t.owed then (0, { t with owed := t.owed - 1 })
      else match mapHeader f.length ++ f with
      | [] => (0, t)
      | b :: r => (b, { t with queue := q, sending := r, owed := fondantAfter f.length })

/-- Send `n` octets by `step`, in order. -/
def sendOctets (step : TxSlot → Byte × TxSlot) : Nat → TxSlot → Bytes × TxSlot
  | 0, t => ([], t)
  | n + 1, t =>
    let r := step t
    let q := sendOctets step n r.2
    (r.1 :: q.1, q.2)

/-- A lane slot sends 320 blocks in a multiframe (R125). -/
def blocksPerSlot : Nat := 320

/-- A block leaves a transmit slot: it takes its place in the multiframe, and after a slip it is errored as it crosses to
the lane's transmit side (R18). -/
def blockSent (slot : Nat) (s : State) : State :=
  s.txSlotMod slot (fun t => { t with blocks := t.blocks ++ [t.block], blockErr := bitOf s.skew.errTx (laneOfSlot slot) })

/-- The slot may send its next block of the multiframe, with an entry in force of this KIND: its lane's framer sends slots,
this one among them (R88, R96, R144). -/
def State.sendsBlock (s : State) (slot kind : Nat) : Bool :=
  s.framesData (laneOfSlot slot) && decide (slot % 64 < s.txS (laneOfSlot slot)) && decide (entKind (s.slotEntry slot) = kind)
    && decide ((s.txSlotAt slot).blocks.length < blocksPerSlot)

/-- ADD_SLOT_BLOCK: the 32 octets of an ADD slot's next block (R173, R230). -/
def execAddSlotBlock (slot : BitVec 10) (s : State) : Result :=
  let k := slot.toNat
  eventIf (s.sendsBlock k 2) (fun s =>
    blockSent k (s.txSlotMod k (fun t => let r := sendOctets addOctet 32 t; { r.2 with block := r.1 }))) s

/-- The octet of a frame being completed with fondant and the abort mark (R178). -/
def abortOctet (t : TxSlot) : Byte :=
  if 4 < t.frameLeft then 0 else byteAt (abortMark (t.sent.drop 3)) (4 - t.frameLeft)

/-- A store without the next `n` octets of a frame, and how many of these are still to come from the source; a cut ends
the frame. -/
def discardFrame : Nat → List Octet → List Octet × Nat
  | 0, l => (l, 0)
  | n + 1, [] => ([], n + 1)
  | n + 1, x :: r => if x = cutMark then (r, 0) else discardFrame n r

/-- Octets are discarded from the front of a store until at most 32 are left: a frame whose header is among them goes
whole. -/
def discardTo32 : Nat → List Octet → List Octet × Nat
  | 0, l => (l, 0)
  | fuel + 1, l =>
    if l.length ≤ 32 then (l, 0)
    else match headerOf l with
    | some n => let q := discardFrame (3 + n) l; if q.2 = 0 then discardTo32 fuel q.1 else q
    | none => discardTo32 fuel (l.drop 1)

/-- FILL is set to 32 between frames, by discarding octets or inserting fondant (R179). A frame that begins among the
discarded octets is discarded whole, so that no part of it is sent as fondant (DEDUCED, log entry 101). -/
def TxSlot.fill32 (t : TxSlot) : TxSlot :=
  let q := discardTo32 t.store.length t.store
  { t with store := List.replicate (32 - q.1.length) fondant ++ q.1, skip := t.skip + q.2 }

/-- After an octet of a frame: the octets sent before its last four are kept for the mark; at the end of a slipped
frame FILL is set to 32 (R179). -/
def frameSent (b : Byte) (t : TxSlot) : TxSlot :=
  let sent := if 4 < t.frameLeft then t.sent ++ [b] else t.sent
  if t.frameLeft = 1 then
    let u := { t with frameLeft := 0, sent := [], aborting := false, cut := false, slipping := false }
    if t.slipping then u.fill32 else u
  else { t with frameLeft := t.frameLeft - 1, sent := sent }

/-- The octet of a frame being completed, and the store read on: past an errored octet its frame's later octets are read
and not sent; of a frame that is cut, or that slips, none are there to read (R178, R179). -/
def abortStep (t : TxSlot) : Byte × TxSlot :=
  let b := abortOctet t
  let u :=
    if t.slipping || t.cut || !t.started then t
    else if t.store.headD fondant = cutMark then { t with store := t.store.drop 1, cut := true }
    else { t with store := t.store.drop 1 }
  (b, frameSent b u)

/-- The frame being sent can go on no longer: fondant and the abort mark follow, and THROUGH_ABORT counts (R178). -/
def abortNow (t : TxSlot) : Byte × TxSlot :=
  let u := { t with aborting := true, aborts := wrapAdd t.aborts 1 }
  let b := abortOctet u
  (b, frameSent b u)

/-- One octet of a THROUGH slot (R176, R178). -/
def throughOctet (t : TxSlot) : Byte × TxSlot :=
  if t.frameLeft = 0 then
    if !t.started then (0, t)
    else match t.store with
    | [] => (0, t)
    | x :: r =>
      match headerOf (x :: r) with
      | some n => (x.1, { t with store := r, frameLeft := 2 + n, sent := [x.1] })
      | none => (0, { t with store := r })
  else if t.aborting then abortStep t
  else match t.store with
  | [] => abortNow { t with cut := true }
  | x :: r =>
    if x = cutMark then abortNow { t with store := r, cut := true }
    else if x.2 then abortNow { t with store := r }
    else (x.1, frameSent x.1 { t with store := r })

/-- The octets of a block with at most one adjustment (R177): `adj` is 1 to delete a fondant octet, 2 to insert one,
0 when the adjustment is made or not needed. -/
def regenOctets : Nat → Nat → TxSlot → Bytes × TxSlot
  | 0, _, t => ([], t)
  | n + 1, adj, t =>
    let atEdge := t.started && t.frameLeft == 0
    if adj = 1 ∧ atEdge ∧ !t.store.isEmpty ∧ (t.store.headD fondant).1 = 0 then
      let r := throughOctet { t with store := t.store.drop 1, deleted := wrapAdd t.deleted 1 }
      let q := regenOctets n 0 r.2
      (r.1 :: q.1, q.2)
    else if adj = 2 ∧ atEdge then
      let q := regenOctets n 0 { t with inserted := wrapAdd t.inserted 1 }
      (0 :: q.1, q.2)
    else
      let r := throughOctet t
      let q := regenOctets n adj r.2
      (r.1 :: q.1, q.2)

/-- The adjustment that FILL calls for at the start of a block (R177). -/
def regenAdj (fill : Nat) : Nat := if 40 < fill then 1 else if fill < 24 then 2 else 0

/-- A block of a THROUGH slot: the store starts at FILL 32; then 32 octets are sent. -/
def regenBlock (t : TxSlot) : TxSlot :=
  let u := { t with started := t.started || (decide (32 ≤ t.fill) && t.frameLeft == 0) }
  let r := regenOctets 32 (if u.started then regenAdj u.fill else 0) u
  { r.2 with block := r.1 }

/-- REGEN_BLOCK_START, R176 to R178. -/
def execRegenBlockStart (slot : BitVec 10) (s : State) : Result :=
  let k := slot.toNat
  eventIf (s.sendsBlock k 3) (fun s =>
    let t := s.txSlotAt k
    let u := regenBlock t
    let s1 := blockSent k (s.txSlotMod k (fun _ => u))
    countSource 0x21 k (u.deleted - t.deleted).toNat (countSource 0x20 k (u.inserted - t.inserted).toNat s1)) s

/-- The store of a THROUGH slot has reached a limit of R179. -/
def TxSlot.mustSlip (t : TxSlot) : Bool :=
  t.started && !t.slipping
    && (decide (56 ≤ t.fill) || (decide (t.fill ≤ 8) && decide (0 < t.frameLeft)))

/-- A slip: the frame being sent is completed with the abort mark and its later octets are not taken; between frames
FILL is set to 32 at once (R179). -/
def slipSlot (t : TxSlot) : TxSlot :=
  let u := { t with slips := wrapAdd t.slips 1 }
  if t.frameLeft = 0 then u.fill32
  else
    let q := if t.cut then (t.store, 0) else discardFrame t.frameLeft t.store
    { u with slipping := true, aborting := true, store := q.1, skip := t.skip + q.2 }

/-- REGEN_SLIP, R179. -/
def execRegenSlip (slot : BitVec 10) (s : State) : Result :=
  let k := slot.toNat
  eventIf (decide (entKind (s.slotEntry k) = 3) && (s.txSlotAt k).mustSlip) (fun s =>
    let s1 := s.txSlotMod k slipSlot
    if 1024 ≤ (s1.txSlotAt k).sinceSlip then
      raise 0x8604 (leN 2 k) (s1.txSlotMod k (fun t => { t with sinceSlip := 0 }))
    else s1) s

end Sys2Proof.Machine
end

