-- ==== Sys2Proof/Machine/Crypto.lean ====
section
/-! DEFINITION. SHA-256 (FIPS 180-4) and ECDSA P-256 verification (FIPS 186), which R376 names for the firmware image.
The standards' own constants and steps are PRESUMED: the manual names the algorithms and does not restate them
(log entry 27). -/

namespace Sys2Proof.Machine

/-! ### SHA-256 -/

/-- The largest number whose `k`th power is at most `n`, by its bits below `b` from the top. -/
def rootBits (k n : Nat) : Nat → Nat → Nat
  | 0, r => r
  | b + 1, r => rootBits k n b (if (r + 2 ^ b) ^ k ≤ n then r + 2 ^ b else r)

/-- The first 32 bits of the fraction of the `k`th root of `p`. -/
def rootFraction (k p : Nat) : W32 := BitVec.ofNat 32 (rootBits k (p * 2 ^ (32 * k)) 40 0)

/-- The first 64 primes, 2 to 311. -/
def primes : List Nat :=
  (List.range 312).filter (fun n => decide (2 ≤ n) && (List.range n).all (fun d => decide (d < 2) || n % d != 0))

/-- The constants of the 64 rounds, and the value a digest starts from. -/
def roundWords : List W32 := primes.map (rootFraction 3)
def digestStart : List W32 := (primes.take 8).map (rootFraction 2)

/-- The exclusive or of a word's rotations to the right. -/
def spin (ks : List Nat) (x : W32) : W32 := ks.foldl (fun a k => a ^^^ x.rotateRight k) 0

/-- The eight working words and the sixteen message words in view. -/
structure Mixer where
  h    : List W32
  view : List W32

/-- Working word `i`, and message word `i` of the view. -/
def Mixer.at (m : Mixer) (i : Nat) : W32 := m.h.getD i 0
def Mixer.msg (m : Mixer) (i : Nat) : W32 := m.view.getD i 0

/-- The message word that enters the view as its oldest leaves. -/
def Mixer.enters (m : Mixer) : W32 :=
  m.msg 0 + (spin [7, 18] (m.msg 1) ^^^ m.msg 1 >>> 3) + m.msg 9 + (spin [17, 19] (m.msg 14) ^^^ m.msg 14 >>> 10)

/-- A round with the constant `k`. -/
def Mixer.round (m : Mixer) (k : W32) : Mixer :=
  let choice := m.at 6 ^^^ m.at 4 &&& (m.at 5 ^^^ m.at 6)
  let most := m.at 0 &&& m.at 1 ||| m.at 2 &&& (m.at 0 ||| m.at 1)
  let t := k + m.msg 0 + m.at 7 + spin [6, 11, 25] (m.at 4) + choice
  { h := (t + spin [2, 13, 22] (m.at 0) + most) :: m.h.take 3 ++ (m.at 3 + t) :: (m.h.drop 4).take 3
    view := m.view.drop 1 ++ [m.enters] }

/-- A block of 64 octets enters the digest. -/
def digestBlock (h : List W32) (block : Bytes) : List W32 :=
  let view := (List.range 16).map (fun i => BitVec.ofNat 32 (ofBe (slice block (4 * i) 4)))
  List.zipWith (· + ·) h (roundWords.foldl Mixer.round { h := h, view := view }).h

/-- The SHA-256 digest of an octet string. -/
def sha256 (b : Bytes) : Bytes :=
  let n := b.length
  let whole := b ++ 0x80 :: List.replicate ((119 - n % 64) % 64) 0 ++ beN 8 (8 * n)
  let ends := (List.range (whole.length / 64)).foldl (fun h i => digestBlock h (slice whole (64 * i) 64)) digestStart
  ends.flatMap (fun w => beN 4 w.toNat)

/-! ### P-256 -/

def pP : Nat := 0xffffffff00000001000000000000000000000000ffffffffffffffffffffffff
def pN : Nat := 0xffffffff00000000ffffffffffffffffbce6faada7179e84f3b9cac2fc632551
def pB : Nat := 0x5ac635d8aa3a93e7b3ebbd55769886bc651d06b0cc53b0f63bce3c3e27d2604b
def pGx : Nat := 0x6b17d1f2e12c4247f8bce6e563a440f277037d812deb33a0f4a13945d898c296
def pGy : Nat := 0x4fe342e2fe1a7f9b8ee7eb4a7c0f9e162bce33576b315ececbb6406837bf51f5

/-- x^e mod m, from the low bit of e, over `n` bits. -/
def powMod (m : Nat) : Nat → Nat → Nat → Nat
  | 0, _, _ => 1 % m
  | n + 1, x, e =>
    let r := powMod m n (x * x % m) (e / 2)
    if e % 2 = 1 then x * r % m else r

/-- The inverse modulo a prime. -/
def invMod (m x : Nat) : Nat := powMod m 256 (x % m) (m - 2)

/-- A point: none is the point at infinity. -/
abbrev Point := Option (Nat × Nat)

/-- The point is on the curve, with coordinates in range. -/
def onCurve (x y : Nat) : Bool :=
  decide (x < pP) && decide (y < pP) && decide (y * y % pP = (x * x * x + (pP - 3) * x + pB) % pP)

/-- The sum of two points of the curve. -/
def pAdd (a b : Point) : Point :=
  match a, b with
  | none, q => q
  | p, none => p
  | some (x1, y1), some (x2, y2) =>
    if x1 = x2 ∧ (y1 + y2) % pP = 0 then none
    else
      let l := if x1 = x2 then (3 * x1 * x1 + (pP - 3)) * invMod pP (2 * y1) % pP
        else (y2 + pP - y1) * invMod pP (x2 + pP - x1) % pP
      let x3 := (l * l + 2 * pP - x1 - x2) % pP
      some (x3, (l * (x1 + pP - x3) + pP - y1) % pP)

/-- k·P over the low `n` bits of k. -/
def pMul : Nat → Nat → Point → Point
  | 0, _, _ => none
  | n + 1, k, p =>
    let r := pMul n (k / 2) (pAdd p p)
    if k % 2 = 1 then pAdd p r else r

/-- ECDSA verification of a signature r, s under a public key X, Y over a 32-octet digest. -/
def ecdsaOk (pub sig digest : Bytes) : Bool :=
  let x := ofBe (slice pub 0 32)
  let y := ofBe (slice pub 32 32)
  let r := ofBe (slice sig 0 32)
  let s := ofBe (slice sig 32 32)
  let z := ofBe (slice digest 0 32)
  decide (0 < r) && decide (r < pN) && decide (0 < s) && decide (s < pN) && onCurve x y &&
    (let w := invMod pN s
     match pAdd (pMul 256 (z * w % pN) (some (pGx, pGy))) (pMul 256 (r * w % pN) (some (x, y))) with
     | some (u, _) => u % pN == r
     | none => false)

end Sys2Proof.Machine
end

