-- ==== Sys2Proof/Machine/Flags.lean ====
section
/-! DEFINITION. The status words of the directly mapped registers: every flag and field that a host reads there
(R19, R340 to R342, R363, R371, R373, R385, R395, R397, R429). -/

namespace Sys2Proof.Machine

/-! ### Power, R340 to R342, R363 -/

/-- PWR_STATE, R340. -/
def Pwr.stateWord (p : Pwr) : W32 :=
  fieldAt 16 p.step ||| fieldAt 8 p.target ||| fieldAt 4 p.prev ||| fieldAt 0 p.cur

/-- PWR_CTRL, R341; in OFF it holds its reset value (R343). -/
def Pwr.ctrlWord (p : Pwr) : W32 := flagAt 2 p.fioPin ||| flagAt 1 p.holdEn ||| flagAt 0 p.holdResume

/-- PWR_DOMAIN_ONw, R342. -/
def Pwr.domainWord (p : Pwr) (w : Nat) : W32 := (p.domains >>> (32 * w)).setWidth 32

/-- PWR_WAKE_REC0 to PWR_WAKE_REC7, R363. -/
def WakeRec.word (r : WakeRec) (k : Nat) : W32 :=
  match k with
  | 0 => flagAt 31 r.valid ||| flagAt 30 r.shedReturn ||| flagAt 29 r.slowClk ||| flagAt 28 r.fwReload
      ||| flagAt 27 r.retLost ||| flagAt 26 r.streamLost ||| fieldAt 24 r.origin ||| fieldAt 16 r.reason
      ||| fieldAt 8 r.compare ||| fieldAt 7 r.face ||| fieldAt 0 r.source
  | 1 => r.wakeTime.setWidth 32
  | 2 => (r.wakeTime >>> 32).setWidth 32
  | 3 => r.cycles
  | 4 => fieldAt 16 r.txDefault ||| fieldAt 0 r.laneCold
  | 5 => fieldAt 16 r.loopFail ||| fieldAt 8 r.clientFail ||| fieldAt 0 r.calFail
  | 6 => r.entryTime.setWidth 32
  | 7 => (r.entryTime >>> 32).setWidth 32
  | _ => 0

/-- The 32 bytes of the wake record (R363). -/
def WakeRec.bytes (r : WakeRec) : Bytes := (List.range 8).flatMap (fun k => le32 (r.word k))

/-! ### Neighbour limits, R19 -/

/-- The bits of the tiles of a list of regions: lane l is region l, host quad q region 16 + q. -/
def faceBits (rs : List Nat) : W16 := (rs.filter (fun r => decide (r < 16))).foldl (fun m r => setBit m r true) 0
def quadBits (rs : List Nat) : Byte :=
  (rs.filter (fun r => decide (16 ≤ r) && decide (r < 24))).foldl (fun m r => setBit m (r - 16) true) 0

/-- The regions whose crossing FIFO wanders 3 entries or more. -/
def Skew.wandering (k : Skew) : List Nat := (k.fifo.filter (fun p => decide (3 ≤ p.2))).map (·.1)

/-- The conditions that hold now, field by field: those of the latest evaluation and of the FIFOs as they stand. -/
def Skew.livePhase (k : Skew) : Bool := !k.wandering.isEmpty
def Skew.liveLanes (k : Skew) : W16 := k.pairLanes ||| faceBits k.wandering
def Skew.liveQuads (k : Skew) : Byte := k.pairQuads ||| quadBits k.wandering

/-- Latch what holds now. -/
def Skew.latch (k : Skew) : Skew :=
  { k with
    phase := k.phase || k.livePhase, supply := k.supply || k.liveSupply, temp := k.temp || k.liveTemp
    quads := k.quads ||| k.liveQuads, lanes := k.lanes ||| k.liveLanes }

/-- GCTL_SKEW_STAT, R19. -/
def Skew.word (k : Skew) : W32 :=
  flagAt 31 k.active ||| flagAt 26 k.phase ||| flagAt 25 k.supply ||| flagAt 24 k.temp ||| fieldAt 16 k.quads
    ||| fieldAt 0 k.lanes

/-! ### Global registers, R371, R373, R429 -/

/-- GRADE of GCTL_ID, R373. -/
def gradeCode : BitVec 4 := if Config.gradeC then 2 else 1

/-- GCTL_ID, R373. -/
def gctlId : W32 := 0x6416C200 ||| fieldAt 4 gradeCode

/-- GCTL_STRAP, R373. -/
def Sys.strapWord (y : Sys) : W32 := fieldAt 8 y.boot ||| fieldAt 0 y.addr

/-- The mailbox is initialised: GCTL_BOOT_STAT.MBX_READY (R373, R391). -/
def State.mbxReady (s : State) : Bool := decide (s.mbx.mode ≠ .down)

/-- GCTL_BOOT_STAT, R373; FW_SRC reads 0 while no firmware runs. -/
def State.bootStat (s : State) : W32 :=
  let y := s.sys
  fieldAt 24 y.bootErr ||| (if y.fwRun then fieldAt 20 y.fwSrc else 0) ||| flagAt 8 y.mcpRestart ||| flagAt 5 y.fio
    ||| flagAt 4 y.rsynLock ||| flagAt 3 s.mbxReady ||| flagAt 2 y.fwRun ||| fieldAt 0 y.tier

/-- GCTL_SPI_STAT, R371. -/
def Spi.word (p : Spi) : W32 :=
  fieldAt 16 p.errors ||| flagAt 3 p.opErr ||| flagAt 2 p.lenErr ||| flagAt 1 p.dcrcErr ||| flagAt 0 p.hcrcErr

/-- GCTL_ECC_STAT, R429. -/
def Sys.eccWord (y : Sys) : W32 := fieldAt 16 y.eccCorr ||| flagAt 1 y.eccFatal

/-! ### Interrupts, R397, R343 -/

/-- The device-to-host ring is not empty (R385). -/
def Mbx.d2hAny (m : Mbx) : Bool := m.d2hTail != m.d2hHead

/-- IRQ_STAT, R397: WAKE mirrors the wake record, D2H is a level. -/
def State.irqStat (s : State) : W32 :=
  let q := s.irq
  flagAt 9 s.pwr.wakeRec.valid ||| flagAt 8 q.fatal ||| flagAt 7 q.spi ||| flagAt 6 q.boot ||| flagAt 5 q.cnt
    ||| flagAt 4 q.dma ||| flagAt 3 q.qry ||| flagAt 2 q.h2dSpace ||| flagAt 1 s.mbx.d2hAny

/-- IRQ_MASK, R397. -/
def Irq.maskWord (q : Irq) : W32 := fieldAt 1 q.mask

/-- The device sleeps in HOLD, TOFFEE or OFF (R338, R370). -/
def State.asleep (s : State) : Bool := s.pwr.cur == 0 || s.pwr.cur == 3 || s.pwr.cur == 4

/-- The device asserts IRQ_N: by R397, and in HOLD, TOFFEE and OFF by R343 alone. -/
def State.irqN (s : State) : Bool :=
  if s.sys.inReset then false
  else if s.asleep then s.pwr.wakeRec.valid
  else s.irqStat &&& s.irq.maskWord != 0

/-! ### Mailbox, R385 -/

/-- MBX_STATE.STATE, R385. -/
def MbxMode.code : MbxMode → BitVec 2
  | .down => 0 | .rom => 1 | .fw => 2

/-- MBX_STATE, R385. -/
def Mbx.stateWord (m : Mbx) : W32 :=
  fieldAt 16 m.epoch ||| fieldAt 14 m.mode.code ||| flagAt 13 m.sync ||| flagAt 12 m.exec.isSome

/-- MBX_SEQ, R385. -/
def Mbx.seqWord (m : Mbx) : W32 := fieldAt 16 m.nextHseq ||| fieldAt 0 m.nextDseq

/-! ### Quick queries, R395 -/

/-- QRY_RESn, R395. -/
def Qry.word (q : Qry) : W32 :=
  flagAt 31 q.ready ||| flagAt 30 q.repeat_ ||| flagAt 29 q.bad ||| fieldAt 24 q.seq ||| fieldAt 0 q.value

end Sys2Proof.Machine
end

