-- ==== Sys2Proof/Machine/MailOps.lean ====
section
/-! DEFINITION. The mailbox rings and messages (R384 to R392), its initialisation (R391, R399, R400), and the checks
and the start of a firmware image (R374 to R377, R398). -/

namespace Sys2Proof.Machine

/-! ### Rings and messages, R385, R386, R390 -/

/-- The slots of the device-to-host ring that are free. -/
def Mbx.d2hFree (m : Mbx) : Nat := 63 - (m.d2hTail - m.d2hHead).toNat
/-- The host-to-device ring is not empty. -/
def Mbx.h2dAny (m : Mbx) : Bool := m.h2dTail != m.h2dHead
/-- The host-to-device ring is full. -/
def Mbx.h2dFull (m : Mbx) : Bool := m.h2dTail + 1 == m.h2dHead

/-- The header fields that MCRC covers (R386). -/
def headerBytes (flags : Byte) (op hseq dseq : W16) (len : Nat) (status : Byte) (epoch : W16) : Bytes :=
  [0x32, flags] ++ le16 op ++ le16 hseq ++ le16 dseq ++ [u8 len, status] ++ le16 epoch ++ [0, 0]

/-- A Parax message: header, MCRC, payload (R386). -/
def message (flags : Byte) (op hseq dseq : W16) (status : Byte) (epoch : W16) (payload : Bytes) : Bytes :=
  let h := headerBytes flags op hseq dseq payload.length status epoch
  h ++ le16 (crc16 (h ++ payload)) ++ payload

/-- The SRAM address of a slot of the device-to-host ring (R384). -/
def d2hSlot (k : BitVec 6) : Nat := 0x4000 + 256 * k.toNat
/-- The SRAM address of a slot of the host-to-device ring (R384). -/
def h2dSlot (k : BitVec 6) : Nat := 256 * k.toNat

/-- Write a message into the slot at the tail of the device-to-host ring; DSEQ counts (R385, R390). -/
def writeMessage (flags : Byte) (op hseq : W16) (status : Byte) (payload : Bytes) (s : State) : State :=
  let m := s.mbx
  let s1 := s.sramWrite (d2hSlot m.d2hTail) (message flags op hseq m.nextDseq status m.epoch payload)
  { s1 with mbx := { m with d2hTail := m.d2hTail + 1, nextDseq := m.nextDseq + 1 } }

/-- FLAGS of a message: KIND, REPEAT, DROPPED (R386). -/
def msgFlags (kind : Nat) (again dropped : Bool) : Byte := u8 (kind + (if again then 4 else 0) + (if dropped then 8 else 0))

/-- A response is written, and kept in the history of 16 (R387, R389). -/
def respondTo (op hseq : W16) (status : Byte) (payload : Bytes) (s : State) : State :=
  let s1 := writeMessage (msgFlags 1 false false) op hseq status payload s
  let h : Hist := { hseq := hseq, opcode := op, status := status, payload := payload }
  { s1 with mbx := { s1.mbx with history := (h :: s1.mbx.history).take 16 } }

/-- The command in execution ends with a status: it answers, in the ring where it came from there (R387, R392). -/
def execEnd (st : Status) (s : State) : State :=
  match s.mbx.exec with
  | none => s
  | some e =>
    let b := if st = .ok then e.payload else []
    let s1 := { s with
      resp := { opcode := e.op, status := st.code, payload := b }, mbx := { s.mbx with exec := none } }
    match e.hseq with
    | none => s1
    | some h => respondTo e.op h st.code b s1

/-- Initialise the mailbox with the cause that SYS_READY gives: 0 = RESET, 1 = WAKE_RELOAD, 2 = MCP_RESTART; events
that an MCP restart loses count in EV_DROPPED (R391, R400); an RSYN loss not yet reported follows (R399). -/
def mbxInit (cause : Byte) (s : State) : State :=
  let e := s.mbx.epoch + 1
  let lost := if cause = 2 then satAdd 0 s.mbx.evq.length else 0
  let s1 := raise 0x8001 ([cause, s.sys.tier.setWidth 8] ++ le16 e)
    { s with mbx := { epoch := e, mode := if s.sys.fwRun then .fw else .rom, evDropped := lost } }
  match s.sys.rsynLost with
  | none => s1
  | some t => raise 0x8004 (le64 t) { s1 with sys := { s1.sys with rsynLost := none } }

/-- GCTL_BOOT_STAT.TIER takes a value; a change raises SYS_TIER and sets IRQ_STAT.BOOT (R397, R399). -/
def setTier (t : BitVec 2) (s : State) : State :=
  if s.sys.tier = t then s
  else raise 0x8002 [t.setWidth 8] { s with sys := { s.sys with tier := t }, irq := { s.irq with boot := true } }

/-! ### Firmware images, R375 to R377 -/

/-- LENGTH of an image header. -/
def imgLength (img : Bytes) : Nat := leAt img 0x0C 4

/-- The image with SIG taken as 64 zero bytes: what the signature and the digest cover (R376). -/
def imgUnsigned (img : Bytes) : Bytes :=
  slice img 0 0x60 ++ List.replicate 64 0 ++ slice img 0xA0 0x60 ++ slice img 256 (imgLength img)

/-- The BOOT_ERR code of the first check of R376 that an image fails. -/
def imageBad (img : Bytes) (whole : Bool) : Option Byte :=
  let n := imgLength img
  if leAt img 0 4 ≠ 0x58465053 ∨ leAt img 4 2 ≠ 1 then some 2
  else if !(decide (n % 256 = 0) && decide (4096 ≤ n) && decide (n ≤ 786432) && whole) then some 3
  else if sha256 (slice img 0x20 64) ≠ Config.keyHash then some 4
  else if !ecdsaOk (slice img 0x20 64) (slice img 0x60 64) (sha256 (imgUnsigned img)) then some 5
  else if byteAt img 7 ≠ 3 then some 6
  else none

/-- The boot ROM's read of the firmware in SRAM (R362, R398, R429). -/
def fwSeen (s : State) : State := if s.sys.fwRun then s.sramSeen 0x40000 (imgLength s.sys.fwHeader) else s

/-- Firmware in SRAM passes against its load digest (R362, R398). -/
def State.fwIntact (s : State) : Bool :=
  let n := imgLength s.sys.fwHeader
  s.sys.fwRun && (s.sramBadIn 0x40000 n).isEmpty && sha256 (s.sys.fwHeader ++ s.sramRead 0x40000 n) == s.sys.fwDigest

/-- The management clock once firmware runs: RSYN/64 when RSYN is locked, unless FIO_PIN (R364). -/
def moveClock (s : State) : State := { s with sys := { s.sys with fio := s.pwr.fioPin || !s.sys.rsynLock } }

/-- Steps 3 and 4 of an MCP restart (R398). -/
def mcpFinish (s : State) : State :=
  mbxInit 2 { s with sys := { s.sys with mcpRestart := true, restartDue := false }, irq := { s.irq with fatal := true } }

/-- PWR_WAKE, once firmware runs (R352, R354). -/
def wakeEvent (s : State) : State :=
  if s.pwr.wakeDue && s.sys.fwRun then
    raise 0x8E01 s.pwr.wakeRec.bytes { s with pwr := { s.pwr with wakeDue := false } }
  else s

/-- An image has passed: its body goes to SRAM 0x4_0000, the digest is kept and the firmware starts (R376, R373). -/
def startFirmware (src : BitVec 4) (img : Bytes) (s : State) : State :=
  let s1 := s.sramWrite 0x40000 (slice img 256 (imgLength img))
  let u := imgUnsigned img
  let s2 := { s1 with
    sys := { s1.sys with
      fwRun := true, fwEver := true, fwSrc := src, fwVer := w32At img 8, fwLoad := none, heldAtT0 := s.sys.holdAtT0
      fwHeader := slice u 0 256, fwDigest := sha256 u }
    mbx := { s1.mbx with mode := if s1.mbx.mode = .rom then .fw else s1.mbx.mode } }
  let s3 := if s2.sys.tier = 0 then s2 else moveClock s2
  wakeEvent (if s3.sys.restartDue then mcpFinish s3 else s3)

/-- An image of a source has failed with a code (R374, R399). -/
def bootFail (src : BitVec 4) (code : Byte) (s : State) : State :=
  raise 0x8003 [code, src.setWidth 8]
    { s with sys := { s.sys with bootErr := code }, irq := { s.irq with boot := true } }

/-- The strap asks for flash first (R374): 0b00 and 0b10. -/
def Sys.fromFlash (y : Sys) : Bool := y.boot == 0 || y.boot == 2

/-- The flash load is in progress: at Tier 0 or later, without firmware, with an image still to be tried (R374). -/
def State.flashBusy (s : State) : Bool :=
  s.sys.fromFlash && s.sys.tier0 && !s.sys.fwRun && decide (s.sys.flashNext < 2)

/-- A flash image has been read: it is started, or the next one is tried; with both failed an MCP restart that waited
for firmware ends (R374, R376, R398). -/
def flashImage (answered : Bool) (img : Bytes) (s : State) : State :=
  let src : BitVec 4 := BitVec.ofNat 4 (s.sys.flashNext + 1)
  let bad := if !answered then some 1 else imageBad img (decide (img.length = 256 + imgLength img))
  match bad with
  | none => startFirmware src img s
  | some code =>
    let s1 := { s with sys := { s.sys with flashNext := s.sys.flashNext + 1 } }
    bootFail src code (if s1.sys.restartDue && decide (2 ≤ s1.sys.flashNext) then mcpFinish s1 else s1)

/-- The MCP restarts from the boot ROM (R398): firmware that passes is restarted in place, otherwise it is loaded
again. -/
def mcpRestart (s0 : State) : State :=
  let s := fwSeen s0
  if s0.fwIntact then
    let s1 := { s with sys := { s.sys with heldAtT0 := s.sys.holdAtT0 } }
    mcpFinish (if s1.sys.tier = 0 then s1 else moveClock s1)
  else
    let s1 := { s with
      sys := { s.sys with
        fwRun := false, fwSrc := 0, fwVer := 0, fwLoad := none, fio := true, restartDue := true, flashNext := 0 }
      mbx := { s.mbx with mode := .down, exec := none } }
    if s.sys.fromFlash then s1 else mcpFinish s1

end Sys2Proof.Machine
end

