-- ==== Sys2Proof/Machine/DmaOps.lean ====
section
/-! DEFINITION. The DMA engine and the counter block (chapter 16): descriptors, moving data, triggers, and the counter
registers. -/

namespace Sys2Proof.Machine

/-! ### Counter block registers, R421 -/

/-- A bit per counter 32·w + b. -/
def bitWord (w : Nat) (p : Nat → Bool) : W32 := BitVec.ofNat 32 (packBits ((List.range 32).map (fun b => p (32 * w + b))))

/-- CNT_CFGn. -/
def Cnt.cfg (c : Cnt) : W32 := flagAt 31 c.chain ||| fieldAt 16 c.source ||| c.index.setWidth 32

/-- The counter block register at a word address; 0 where none is (R421, R428). -/
def State.cntReg (s : State) (a : Nat) : W32 :=
  if 0x030000 ≤ a ∧ a < 0x034000 then (s.cntAt ((a - 0x030000) / 4)).val
  else if 0x034000 ≤ a ∧ a < 0x034200 then bitWord ((a - 0x034000) / 4) (fun i => (s.cntAt i).ovf)
  else if 0x034200 ≤ a ∧ a < 0x034400 then bitWord ((a - 0x034200) / 4) (fun i => (s.cntAt i).lost)
  else if 0x034400 ≤ a ∧ a < 0x034500 then bitWord ((a - 0x034400) / 4) (fun k => (s.cntAt (2 * k)).carry)
  else if a = 0x034800 then flagAt 1 s.dma.winIe ||| flagAt 0 s.dma.ovfIe
  else if 0x035000 ≤ a ∧ a < 0x039000 then (s.cntAt ((a - 0x035000) / 4)).cfg
  else 0

/-- Apply `f` to each counter whose bit is set in a word written to a bit array. -/
def clearBits (w : Nat) (v : W32) (f : Nat → State → State) (s : State) : State :=
  forEach (List.range 32) (fun b s => if bitOf v b then f (32 * w + b) s else s) s

/-- Counter `n` is the odd counter of a chained pair whose even counter can wrap. -/
def State.carriesInto (s : State) (n : Nat) : Bool :=
  decide (n % 2 = 1) && (s.cntAt (n - 1)).chain && (s.cntAt (n - 1)).val != 0

/-- An amount can reach counter `n` in a cycle: from its source, or by a carry (R420, R423). -/
def State.cntGains (s : State) (n : Nat) : Bool := (s.cntAt n).source != 0 || s.carriesInto n

/-- The even counter wraps while its carry is lost: its new value, below the old one, is free. -/
def carryLost (n : Nat) (s : State) : State :=
  let d := s.drawBelow (s.cntAt n).val.toNat
  d.2.cntMod n (fun c => { c with val := BitVec.ofNat 32 d.1, carry := true })

/-- A host write of a counter (R424): `lost` says that an amount reached it in the same cycle, which a counter of
MGMT_CYCLES gains in every cycle (R420). -/
def cntWrite (n : Nat) (v : W32) (lost : Bool) (s : State) : State :=
  let gone := (lost && s.cntGains n) || (s.cntAt n).source == 0x70
  let s1 := if gone && s.carriesInto n then carryLost (n - 1) s else s
  s1.cntMod n (fun c => { c with val := v, lost := c.lost || gone })

/-- A host write of a counter through the register space: whether an amount reaches it in that cycle is free (R424). -/
def cntValWrite (n : Nat) (v : W32) (s : State) : State :=
  if s.cntGains n then
    let d := s.drawBelow 2
    cntWrite n v (d.1 == 1) d.2
  else cntWrite n v false s

/-- A host write of a counter block register (R421). -/
def cntRegWrite (a : Nat) (v : W32) (s : State) : State :=
  if 0x030000 ≤ a ∧ a < 0x034000 then cntValWrite ((a - 0x030000) / 4) v s
  else if 0x034000 ≤ a ∧ a < 0x034200 then
    clearBits ((a - 0x034000) / 4) v (fun i s => s.cntMod i (fun c => { c with ovf := false })) s
  else if 0x034200 ≤ a ∧ a < 0x034400 then
    clearBits ((a - 0x034200) / 4) v (fun i s => s.cntMod i (fun c => { c with lost := false })) s
  else if 0x034400 ≤ a ∧ a < 0x034500 then
    clearBits ((a - 0x034400) / 4) v (fun k s => s.cntMod (2 * k) (fun c => { c with carry := false })) s
  else if a = 0x034800 then { s with dma := { s.dma with winIe := bitOf v 1, ovfIe := bitOf v 0 } }
  else s

/-! ### Descriptors, R408, R409 -/

def Desc.mode (d : Desc) : Nat := (getField d.ctrl 0 2).toNat
def Desc.srcFix (d : Desc) : Bool := bitOf d.ctrl 2
def Desc.dstFix (d : Desc) : Bool := bitOf d.ctrl 3
def Desc.wb (d : Desc) : Bool := bitOf d.ctrl 4
def Desc.irq (d : Desc) : Bool := bitOf d.ctrl 5
def Desc.from_ (d : Desc) : Nat := (getField d.src 0 24).toNat
def Desc.to_ (d : Desc) : Nat := (getField d.dst 0 24).toNat
def Desc.n (d : Desc) : Nat := d.len.toNat

/-- The words that an access names: a fixed address names one (R408, R409). -/
def Desc.span (fix : Bool) (n : Nat) : Nat := if fix then min 4 n else n

/-- An address range that a descriptor may read (R408). -/
def dmaSource (a n : Nat) : Bool :=
  (decide (0x100000 ≤ a) && decide (a + n ≤ 0x140000)) || (decide (0x030000 ≤ a) && decide (a + n ≤ 0x03A000))
/-- An address range that a descriptor may write (R408). -/
def dmaDest (a n : Nat) : Bool := decide (0x108000 ≤ a) && decide (a + n ≤ 0x140000)

/-- The addresses of a descriptor are allowed; the reserved MODE names none that are (R408, log entry 20). -/
def Desc.protOk (d : Desc) : Bool :=
  let s := Desc.span d.srcFix d.n
  let t := Desc.span d.dstFix d.n
  match d.mode with
  | 0 => dmaSource d.from_ s && dmaDest d.to_ t
  | 1 => dmaDest d.to_ t
  | 2 => dmaSource d.from_ s && dmaSource d.to_ t
  | _ => false

/-- SRC, DST and LENGTH are multiples of 4, and LENGTH is in range (R408, R409, R417). -/
def Desc.alignOk (d : Desc) : Bool :=
  (d.mode == 1 || d.from_ % 4 == 0) && d.to_ % 4 == 0 && d.n % 4 == 0 && decide (4 ≤ d.n) && decide (d.n ≤ 16777212)

/-- The descriptor at a window address (R409). -/
def State.descAt (s : State) (a : Nat) : Desc :=
  let b := s.eccRead (winToSram a) 16
  { ctrl := w32At b 0, src := w32At b 4, dst := w32At b 8, len := w32At b 12 }

/-- A descriptor address lies in the host area. -/
def descOk (a : Nat) : Bool := decide (0x108000 ≤ a) && decide (a + 32 ≤ 0x140000)

/-! ### Ends of a channel -/

/-- IRQ_STAT.DMA sets where the channel enables it (R411). -/
def dmaIrq (ch : Nat) (s : State) : State :=
  if (s.chanAt ch).irqEn then { s with irq := { s.irq with dma := true } } else s

/-- STATUS written back with WB: DONE where the descriptor ended without error, ERR and RESID (R409). -/
def writeBack (ch : Nat) (err : BitVec 4) (resid : Nat) (s : State) : State :=
  let c := s.chanAt ch
  match c.desc with
  | none => s
  | some d =>
    if !d.wb then s
    else s.sramWrite (winToSram (c.last.toNat + 0x14))
      (le32 (flagAt 31 (err == 0) ||| fieldAt 24 err ||| (BitVec.ofNat 24 resid).setWidth 32))

/-- A channel ends in ERROR (R417): RESID, STATUS, ERRF and the interrupt; a pending trigger is discarded (R416). -/
def dmaError (ch : Nat) (err : BitVec 4) (resid : Nat) (s : State) : State :=
  dmaIrq ch ((writeBack ch err resid s).chanMod ch (fun c =>
    { c with st := .error, err := err, resid := BitVec.ofNat 24 resid, errf := true, pending := false, desc := none, moved := 0 }))

/-- Fetch the descriptor at `a` and run it (R412): the checks of R417 at fetch, and DOMAIN_DOWN with the full residue
toward a domain that is powered down (R366): every address of R408 lies in PD 86. -/
def dmaFetch (ch a : Nat) (s : State) : State :=
  let s1 := s.chanMod ch (fun c =>
    { c with st := .running, last := BitVec.ofNat 24 a, next := BitVec.ofNat 24 a, desc := none, moved := 0 })
  if !descOk a then dmaError ch 3 0 s1
  else
    let d := s1.descAt a
    let s2 := (s1.sramSeen (winToSram a) 20).chanMod ch (fun c => { c with desc := some d, resid := BitVec.ofNat 24 d.n })
    if s1.sramBadIn (winToSram a) 20 ≠ [] then dmaError ch 7 d.n s2
    else
      if !d.protOk then dmaError ch 3 d.n s2
      else if !d.alignOk then dmaError ch 4 d.n s2
      else if !s2.pd 86 then dmaError ch 2 d.n s2
      else s2

/-- START, R412. -/
def dmaStart (ch : Nat) (s : State) : State :=
  let c := s.chanAt ch
  if c.st ≠ .idle ∧ c.st ≠ .done ∧ c.st ≠ .error then s
  else
    let s1 := s.chanMod ch (fun c => { c with err := 0, resid := 0, pending := false, desc := none, next := c.head })
    if c.trig = 0 then dmaFetch ch c.head.toNat s1 else s1.chanMod ch (fun c => { c with st := .armed })

/-- A trigger reaches channel `ch` (R413). -/
def dmaTrigger (ch : Nat) (s : State) : State :=
  let c := s.chanAt ch
  if c.st = .armed then dmaFetch ch c.next.toNat s
  else if c.st = .running then
    s.chanMod ch (fun c => if c.pending then { c with overrun := true } else { c with pending := true })
  else s

/-- The channels that a source triggers: 1 = timer, 2 = channel (R411, R413). -/
def State.triggered (s : State) (trig sel : Nat) : List Nat :=
  (List.range 16).filter (fun k => (s.chanAt k).trig.toNat == trig && (s.chanAt k).tsel.toNat == sel)

/-! ### Moving data -/

/-- The last burst boundary at or before offset `o` of a transfer: no burst crosses a 256-byte boundary of its source
or its destination (R407). -/
def burstFloor (d : Desc) (o : Nat) : Nat :=
  let src := if d.srcFix || d.mode == 1 then o / 256 * 256 else o - min o ((d.from_ + o) % 256)
  let dst := if d.dstFix then o / 256 * 256 else o - min o ((d.to_ + o) % 256)
  max src dst

/-- The next burst boundary after offset `o`, or the end of the data. -/
def Desc.burstEnd (d : Desc) (o : Nat) : Nat :=
  let edge (fix : Bool) (a : Nat) : Nat := if fix then (o / 256 + 1) * 256 else o + 256 - (a + o) % 256
  min d.n (min (edge (d.srcFix || d.mode == 1) d.from_) (edge d.dstFix d.to_))

/-- The offset after `k` bursts from offset `o`. -/
def Desc.afterBursts (d : Desc) : Nat → Nat → Nat
  | 0, o => o
  | k + 1, o => d.afterBursts k (d.burstEnd o)

/-- The bursts that move the data from offset `o` to `m`; the first argument bounds their number. -/
def Desc.burstsTo (d : Desc) (m : Nat) : Nat → Nat → Nat
  | 0, _ => 0
  | k + 1, o => if m ≤ o then 0 else d.burstsTo m k (d.burstEnd o) + 1

/-- The word of a source address: management SRAM or a counter register (R408). -/
def State.dmaWord (s : State) (a : Nat) : Bytes :=
  if 0x100000 ≤ a then s.sramRead (winToSram a) 4 else le32 (s.cntReg a)

/-- `n` bytes of a source from `a`. -/
def State.dmaRead (s : State) (a : Nat) (fix : Bool) (n : Nat) : Bytes :=
  (List.range (n / 4)).flatMap (fun k => s.dmaWord (if fix then a else a + 4 * k))

/-- The offset of the first word of a source from offset `o` on with an uncorrectable error. -/
def State.dmaBad (s : State) (a : Nat) (fix : Bool) (o n : Nat) : Option Nat :=
  if a < 0x100000 then none
  else ((List.range (n / 4)).drop (o / 4)).find? (fun k => s.sramBad.contains (winToSram (if fix then a else a + 4 * k) / 8))
    |>.map (4 * ·)

/-- Reading a source of management SRAM corrects its single-bit errors (R429). -/
def dmaCorrect (a : Nat) (fix : Bool) (o n : Nat) (s : State) : State :=
  if a < 0x100000 then s
  else
    let b := if fix then winToSram a else winToSram (a + o)
    let t := s.sramSeen b (if fix then min 4 n else n)
    { s with sys := { s.sys with eccCorr := t.sys.eccCorr }, sramSoft := t.sramSoft }

/-- The bytes of a descriptor's data from offset `o` move, `n` of them (R410). -/
def dmaMove (d : Desc) (o n : Nat) (s : State) : State :=
  let s1 := if d.mode = 1 then s else dmaCorrect d.from_ d.srcFix o n s
  if d.mode = 2 then dmaCorrect d.to_ d.dstFix o n s1
  else
    let bytes := if d.mode = 1 then (List.range (n / 4)).flatMap (fun _ => le32 d.src)
      else s.dmaRead (if d.srcFix then d.from_ else d.from_ + o) d.srcFix n
    if d.dstFix then (if n = 0 then s1 else s1.sramWrite (winToSram d.to_) (bytes.drop (bytes.length - 4)))
    else s1.sramWrite (winToSram (d.to_ + o)) bytes

/-- The first of two offsets found. -/
def firstOf : Option Nat → Option Nat → Option Nat
  | none, b => b
  | a, none => a
  | some a, some b => some (min a b)

/-- The offset of the first pair of words from offset `o` on that differ (R410). -/
def State.dmaDiffer (s : State) (d : Desc) (o : Nat) : Option Nat :=
  (((List.range (d.n / 4)).drop (o / 4)).find? (fun k =>
    s.dmaWord (if d.srcFix then d.from_ else d.from_ + 4 * k)
      != s.dmaWord (if d.dstFix then d.to_ else d.to_ + 4 * k))).map (4 * ·)

/-- How a descriptor's data ends from offset `o` on: the error, the bytes moved, and the bad word found. -/
def State.dmaOutcome (s : State) (d : Desc) (o : Nat) : BitVec 4 × Nat × Option Nat :=
  let badSrc := if d.mode = 1 then none else s.dmaBad d.from_ d.srcFix o d.n
  let badDst := if d.mode = 2 then s.dmaBad d.to_ d.dstFix o d.n else none
  let bad := firstOf badSrc badDst
  let differ := if d.mode = 2 then s.dmaDiffer d o else none
  match bad, differ with
  | none, none => (0, d.n, none)
  | none, some m => (6, m, none)
  | some b, some m => if m < b then (6, m, none) else (7, max o (burstFloor d b), some b)
  | some b, none => (7, max o (burstFloor d b), some b)

/-- The SRAM word numbers at an offset of a descriptor's sources. -/
def Desc.wordsAt (d : Desc) (o : Nat) (bad : List Nat) : List Nat :=
  ([winToSram (if d.srcFix then d.from_ else d.from_ + o) / 8]
    ++ (if d.mode = 2 then [winToSram (if d.dstFix then d.to_ else d.to_ + o) / 8] else [])).filter bad.contains

/-- A chain reaches END, or an IRQ descriptor ends: DONEF, the interrupt, and the channels that it triggers (R413). -/
def dmaDone (ch : Nat) (s : State) : State :=
  let s1 := dmaIrq ch (s.chanMod ch (fun c => { c with donef := true }))
  forEach (s1.triggered 2 ch) dmaTrigger s1

/-- A channel with a trigger waits in ARMED at `a`; a pending trigger starts it at once (R412, R413). -/
def dmaArm (ch a : Nat) (s : State) : State :=
  if (s.chanAt ch).pending then dmaFetch ch a (s.chanMod ch (fun c => { c with pending := false }))
  else s.chanMod ch (fun c => { c with st := .armed, next := BitVec.ofNat 24 a, desc := none })

/-- After a descriptor without error: the LINK is read (R412 to R414). -/
def dmaLink (ch : Nat) (d : Desc) (s : State) : State :=
  let c := s.chanAt ch
  let la := winToSram (c.last.toNat + 0x10)
  let bad := s.sramBadIn la 4
  let s := s.sramSeen la 4
  if !bad.isEmpty then dmaError ch 7 0 s
  else
    let link := w32At (s.sramRead la 4) 0
    let next := (getField link 5 19).toNat * 32
    if bitOf link 0 then
      let s1 := (writeBack ch 0 0 s).chanMod ch (fun c => { c with resid := 0, st := .done })
      if c.trig = 0 then dmaDone ch (s1.chanMod ch (fun c => { c with desc := none }))
      else dmaArm ch c.head.toNat (dmaDone ch (s1.chanMod ch (fun c => { c with st := .running })))
    else if !descOk next then dmaError ch 5 0 s
    else
      let s1 := (writeBack ch 0 0 s).chanMod ch (fun c => { c with resid := 0 })
      let s2 := if d.irq then dmaDone ch s1 else s1
      if c.trig ≠ 0 ∧ c.pace then dmaArm ch next s2 else dmaFetch ch next s2

/-- The rest of a descriptor's data moves, and the descriptor ends (R410, R415, R417). -/
def dmaFinish (ch : Nat) (d : Desc) (s : State) : State :=
  let from_ := (s.chanAt ch).moved
  let o := s.dmaOutcome d from_
  let s1 := match o.2.2 with
    | some b => s.eccFound (d.wordsAt b s.sramBad)
    | none => s
  let s2 := dmaMove d from_ (o.2.1 - from_) s1
  if o.1 = 0 then dmaLink ch d s2 else dmaError ch o.1 (d.n - o.2.1) s2

/-- A running channel takes `k` bursts, as far as its data goes without an error (R407). -/
def dmaBursts (k ch : Nat) (s : State) : State :=
  let c := s.chanAt ch
  match c.desc with
  | none => s
  | some d =>
    let m := min (s.dmaOutcome d c.moved).2.1 (d.afterBursts k c.moved)
    (dmaMove d c.moved (m - c.moved) s).chanMod ch (fun c => { c with moved := m, resid := BitVec.ofNat 24 (d.n - m) })

/-- The place of a channel in the round from the one whose turn it is. -/
def State.turnOf (s : State) (ch : Nat) : Nat := (BitVec.ofNat 4 ch - s.dma.turn).toNat

/-- The channels that run beside `ch`. -/
def State.dmaOthers (s : State) (ch : Nat) : List Nat :=
  (List.range 16).filter (fun k => k != ch && (s.chanAt k).st == .running)

/-- A descriptor's data has moved (R407, R410): while its channel took its bursts, every other running channel took one
burst in each round, in ascending channel order from the one whose turn it was (log entry 157). -/
def dmaComplete (ch : Nat) (d : Desc) (s : State) : State :=
  let o := (s.chanAt ch).moved
  let n := d.burstsTo (s.dmaOutcome d o).2.1 d.n o
  let s1 := forEach (s.dmaOthers ch) (fun k => dmaBursts (if s.turnOf k < s.turnOf ch then n else n - 1) k) s
  dmaFinish ch d { s1 with dma := { s1.dma with turn := BitVec.ofNat 4 (ch + 1) } }

/-- ABORT, R416; in RUNNING the bytes moved are a free value, at the end of a burst; an error that its data meets before
that ends the channel instead (R417). -/
def dmaStop (err : BitVec 4) (ch : Nat) (s : State) : State :=
  let c := s.chanAt ch
  if c.st = .armed then dmaError ch err (s.descAt c.next.toNat).n (s.sramSeen (winToSram c.next.toNat) 16)
  else if c.st = .running then
    match c.desc with
    | none => dmaError ch err 0 s
    | some d =>
      let r := s.drawBelow (d.n - c.moved + 1)
      let m := if c.moved + r.1 = d.n then d.n else max c.moved (burstFloor d (c.moved + r.1))
      if (s.dmaOutcome d c.moved).2.1 < m then dmaFinish ch d r.2
      else dmaError ch err (d.n - m) (dmaMove d c.moved (m - c.moved) r.2)
  else s

/-- A channel that a command may name: IDLE, DONE or ERROR (R418). -/
def Chan.free (c : Chan) : Bool := decide (c.st = .idle) || decide (c.st = .done) || decide (c.st = .error)

/-! ### Transfers of commands, R418 -/

/-- The image of a lane's capture memory, R63: its samples are free values (log entry 3). -/
def State.captureData (s : State) (l : Nat) : Bytes :=
  (List.range 65536).map (Config.captureByte (16 * (s.rxAt l).cap.held + l))

/-- A record of a test, R288. -/
def recordBytes (r : W32 × W32 × W32 × W32) : Bytes := le32 r.1 ++ le32 r.2.1 ++ le32 r.2.2.1 ++ le32 r.2.2.2

/-- The image in NVM. -/
def State.nvmImage (s : State) : Bytes := Tab.read 0 s.cal.nvm 0 0x2000

/-- The bytes that a transfer copies. -/
def State.xferData (s : State) (x : Xfer) : Bytes :=
  (match x.src with
    | .capture l => s.captureData l
    | .records q => (s.coreAt q).records.flatMap recordBytes
    | .image => s.nvmImage).take x.n

/-- A command starts its transfer on the channel it names: the channel is in CMD, and the command executes until the data
has arrived (R387, R415, R418). -/
def dmaCommand (ch op : Nat) (x : Xfer) (payload : Bytes) (s : State) : State :=
  let t := s.chanMod ch (fun c =>
    { c with st := .cmd, err := 0, resid := BitVec.ofNat 24 x.n, pending := false, desc := none, xfer := some x })
  { t with mbx := { t.mbx with exec := some { op := BitVec.ofNat 16 op, ch := ch, payload := payload } } }

/-- A command's transfer toward a memory whose domain is powered down: no data moves, the channel it names ends with the
full residue and DOMAIN_DOWN, and interrupts (R366, R418). -/
def dmaCommandDown (ch n : Nat) (s : State) : State :=
  dmaIrq ch (s.chanMod ch (fun c => { c with st := .idle, err := 2, resid := BitVec.ofNat 24 n }))

/-- The command that waits for channel `ch` answers (R418). -/
def xferAnswer (ch : Nat) (s : State) : State :=
  match s.mbx.exec with
  | some e => if e.ch = ch then execEnd .ok s else s
  | none => s

/-- The transfer of a command has ended: its data has arrived, the channel is IDLE, and the command answers; an export
sets EXPORTED (R327, R418). One that an MCP restart cut off answers nothing (R400). -/
def xferDone (ch : Nat) (s : State) : State :=
  match (s.chanAt ch).xfer with
  | none => s
  | some x =>
    let s1 := (s.sramWrite (winToSram x.addr) (s.xferData x)).chanMod ch (fun c =>
      { c with st := .idle, err := 0, resid := 0, xfer := none })
    let s2 := if x.src = .image ∧ s.mbx.exec.map (·.ch) = some ch then { s1 with cal := { s1.cal with exported := true } } else s1
    xferAnswer ch s2

/-- The transfer of a command is stopped because a domain powers down (R365): a free number of its bursts have arrived,
and the channel is IDLE with the residue and DOMAIN_DOWN, and interrupts (R418, log entry 156). -/
def xferCut (ch : Nat) (s : State) : State :=
  match (s.chanAt ch).xfer with
  | none => s
  | some x =>
    let d := s.drawBelow (x.n + 1)
    let m := if d.1 = x.n then x.n else d.1 - min d.1 ((x.addr + d.1) % 256)
    dmaIrq ch ((d.2.sramWrite (winToSram x.addr) ((s.xferData x).take m)).chanMod ch (fun c =>
      { c with st := .idle, err := 2, resid := BitVec.ofNat 24 (x.n - m), xfer := none }))

/-- The power controller stops every channel before PD 86 powers down (R365). -/
def dmaDomainDown (s : State) : State := forEach (List.range 16) (fun ch t => dmaStop 2 ch (xferCut ch t)) s

/-- The receive domains of a lane power down: a transfer from its capture memory stops, and its command answers (R365). -/
def captureDown (l : Nat) (s : State) : State :=
  forEach ((List.range 16).filter (fun ch => (s.chanAt ch).xfer.any (fun x => x.src == .capture l)))
    (fun ch t => xferAnswer ch (xferCut ch t)) s

end Sys2Proof.Machine
end

