-- ==== Sys2Proof/Machine/Decibel.lean ====
section
/-! DEFINITION. Ratios in decibels, decided exactly over natural numbers: a power ratio against a limit in dB (R28, R38,
R46, R54), and its value in 1/256 dB (R61, R103 to R105, R116). A tie of that rounding would make a power of ten a
5,120th power of a rational number, so none arises. -/

namespace Sys2Proof.Machine

/-- The power ratio a/b exceeds `db` dB: a/b > 10^(db/10). -/
def overDb (db a b : Nat) : Bool := decide (10 ^ db * b ^ 10 < a ^ 10)

/-- The RMS value whose square is `ms` is above a target by more than `tenths`/10 dB: ms/t² > 10^(tenths/100) (R28, R29). -/
def rmsAbove (tenths t : Nat) (ms : Ratio) : Bool := decide (10 ^ tenths * (t ^ 2 * ms.den) ^ 100 < ms.num ^ 100)
/-- It is below the target by more than `tenths`/10 dB. -/
def rmsBelow (tenths t : Nat) (ms : Ratio) : Bool := decide (10 ^ tenths * ms.num ^ 100 < (t ^ 2 * ms.den) ^ 100)
/-- It is off the target by more than `tenths`/10 dB. -/
def rmsOff (tenths t : Nat) (ms : Ratio) : Bool := rmsAbove tenths t ms || rmsBelow tenths t ms

/-- The largest k below 2^18 with 10^k ≤ x, by its bits from the top; 0 for x = 0. -/
def log10Floor (x : Nat) : Nat :=
  (List.range 18).foldr (fun i k => if 10 ^ (k + 2 ^ i) ≤ x then k + 2 ^ i else k) 0

/-- 10 · u · log10(a/b) rounded to the nearest integer, for a ≥ b > 0: the value of the power ratio in 1/u dB. -/
def dbUp (u a b : Nat) : Nat := (log10Floor (a ^ (20 * u) / b ^ (20 * u)) + 1) / 2

/-- The power ratio a/b in 1/u dB, convergently rounded; 0 stands for a ratio that is no positive number. -/
def dbIn (u a b : Nat) : Int :=
  if a = 0 ∨ b = 0 then 0 else if b ≤ a then dbUp u a b else -(dbUp u b a : Int)

/-- The power ratio a/b in 1/256 dB. -/
def dB256 (a b : Nat) : Int := dbIn 256 a b

/-- The largest y below 2^`bits` with y^n ≤ x, by its bits from the top. -/
def rootFloor (n x bits : Nat) : Nat := (List.range bits).foldr (fun i y => if (y + 2 ^ i) ^ n ≤ x then y + 2 ^ i else y) 0

/-- 10^60 · 10^(k/20): the power ratio of a gain of k steps of 0.5 dB (R94), to 60 decimal places. -/
def dbPower (k : Int) : Nat := rootFloor 20 (10 ^ (1200 + k).toNat) 210

/-- A signal-to-noise ratio in 1/256 dB, convergently rounded and limited to 0 to 65,535 (R103). -/
def snrOf (signal noise : Nat) : W16 :=
  if signal = 0 then 0
  else if noise = 0 then BitVec.allOnes 16
  else BitVec.ofNat 16 (clampInt 0 65535 (dB256 signal noise)).toNat

/-- N = 10 · log10(255 / Σ 10^(g/10)) in 1/256 dB, over the gains of the loaded subcarriers in steps of 0.5 dB (R105);
rounded to nearest (DEDUCED, log entry 123). -/
def normDb (gains : List Int) : Int := dB256 (255 * 10 ^ 60) ((gains.map dbPower).sum)

/-- A ratio is a positive number. -/
def ratioPos (r : Ratio) : Bool := r.num != 0 && r.den != 0

/-- The EQF of an eye from σ² (R61): 256 times 10 · log10(1/σ²), limited to 0 to 65,535. -/
def eqfOf (var : Ratio) : W16 :=
  if var.num = 0 then BitVec.allOnes 16
  else BitVec.ofNat 16 (clampInt 0 65535 (dB256 var.den var.num)).toNat

/-- A positive finite binary32 value as a ratio; 0 for every other image. -/
def f32Ratio? (w : W32) : Ratio :=
  match fDec w with
  | .fin false m e => if 0 ≤ e then { num := m * 2 ^ e.toNat, den := 1 } else { num := m, den := 2 ^ (-e).toNat }
  | _ => { num := 0, den := 1 }

/-- A mean of squares exceeds another by more than `db` dB (R46, R54), both binary32 images; nothing exceeds what is no
positive number. -/
def mseOver (db : Nat) (mse snap : W32) : Bool :=
  let a := f32Ratio? mse
  let b := f32Ratio? snap
  ratioPos b && overDb db (a.num * b.den) (b.num * a.den)

/-- The sum of finite binary32 values, in units of 2^-149. -/
def f32Sum : List W32 → Option Int
  | [] => some 0
  | w :: r =>
    match fDec w, f32Sum r with
    | .fin neg m e, some t => some (sgnd neg m * 2 ^ (e + 149).toNat + t)
    | _, _ => none

/-- The mean of binary32 values, formed exactly and rounded once. -/
def f32Mean (ws : List W32) : W32 :=
  match f32Sum ws with
  | none => f32NaN
  | some t =>
    let r := f32Ratio t.natAbs (ws.length * 2 ^ 149)
    if t < 0 then f32Neg r else r

end Sys2Proof.Machine
end

