-- ==== Sys2Proof/Machine/LineCodes.lean ====
section
/-! DEFINITION. The symbol path of a PAM4 lane, as functions of the symbols (chapters 02 and 03): Gray mapping and
precoding (R41, R66, R67), the transmit FIR (R69), the DAC code (R71), the Icing amplitude (R79, R100), the soft values
(R40), the FFE and the canceller (R34, R35) and the test sequences (R88). No row of the command table moves single
symbols, so no command calls these: they say what a multiframe's bits become on the line (log entry 22). -/

namespace Sys2Proof.Machine

/-- The `n` bits of `v`, most significant first. -/
def bitsOf : Nat → Nat → Bits
  | 0, _ => []
  | n + 1, v => (v / 2 ^ n % 2 == 1) :: bitsOf n v

/-- The natural number of bits, first bit most significant. -/
def natOf (b : Bits) : Nat := b.foldl (fun a x => 2 * a + x.toNat) 0

/-- `l` cut into groups of `n`; `fuel` bounds the number of groups. -/
def groupsOf {α : Type} (n : Nat) : Nat → List α → List (List α)
  | 0, _ => []
  | fuel + 1, l => if l.isEmpty then [] else l.take n :: groupsOf n fuel (l.drop n)

/-- The whole groups of `n` in `l`. -/
def chunks {α : Type} (n : Nat) (l : List α) : List (List α) := groupsOf n l.length l

/-! ### Gray mapping and precoding -/

/-- The level index of a bit pair, first bit more significant (R66): 00, 01, 11 and 10 are 0, 1, 2 and 3. -/
def grayIndex (b1 b0 : Bool) : Nat := if b1 then (if b0 then 2 else 3) else (if b0 then 1 else 0)

/-- The bit pair of a level index (R41, R66). -/
def grayPair (y : Nat) : Bool × Bool := (decide (2 ≤ y % 4), decide (y % 4 = 1 ∨ y % 4 = 2))

/-- The level of an index: −3, −1, +1 and +3 (R66). -/
def levelOf (y : Nat) : Int := 2 * (y % 4 : Nat) - 3

/-- The Gray-mapped indices u(k) of line bits (R66). -/
def grayMap : Bits → List Nat
  | b1 :: b0 :: r => grayIndex b1 b0 :: grayMap r
  | _ => []

/-- The index sent for u(k) after y(k − 1), R67. -/
def precodeOne (on : Bool) (prev u : Nat) : Nat := if on then (u + 4 - prev % 4) % 4 else u % 4

/-- The indices sent for a run of u(k); the memory holds the last index sent (R67). -/
def precode (on : Bool) : Nat → List Nat → List Nat
  | _, [] => []
  | prev, u :: r => precodeOne on prev u :: precode on (precodeOne on prev u) r

/-- The index the receive decoder forms from two detected indices (R41). -/
def decodeOne (on : Bool) (prev y : Nat) : Nat := if on then (y + prev) % 4 else y % 4

/-- The indices u(k) restored from a run of detected indices (R41). -/
def decodeRun (on : Bool) : Nat → List Nat → List Nat
  | _, [] => []
  | prev, y :: r => decodeOne on prev y :: decodeRun on y r

/-- A soft value: bit [3] the hard decision, bits [2:0] the reliability (R40). -/
structure Soft where
  hard : Bool
  rel  : Nat
  deriving DecidableEq, Repr

/-- The reliability of a metric difference of delta/unit with this SOFT_SHIFT, rounded once (R26, R40). -/
def reliability (delta unit softShift : Nat) : Nat := min 7 (roundEven delta (unit * 2 ^ softShift)).toNat

/-- The soft value in four bits (R40). -/
def Soft.code (v : Soft) : BitVec 4 := BitVec.ofNat 4 (v.hard.toNat * 8 + min 7 v.rel)

/-- The soft values of u(k) from those of y(k − 1) and y(k) with precoding active (R41): both bits take the smallest
of the four reliabilities. -/
def softDecode (prev cur : Soft × Soft) : Soft × Soft :=
  let y := grayIndex cur.1.hard cur.2.hard
  let p := grayIndex prev.1.hard prev.2.hard
  let u := grayPair (decodeOne true p y)
  let r := min (min prev.1.rel prev.2.rel) (min cur.1.rel cur.2.rel)
  ({ hard := u.1, rel := r }, { hard := u.2, rel := r })

/-! ### The transmit filter and the DAC code -/

/-- Element `i` of a list that counts from 0, with 0 outside it. -/
def tapAt (l : List Int) (i : Int) : Int := if i < 0 then 0 else l.getD i.toNat 0

/-- 64 times the FIR output for symbol `k` of the level sequence `a`: z(k) = Σ t[j] · a(k + 2 − j) (chapter 03, FIR). -/
def firOut (t a : List Int) (k : Int) : Int :=
  ((List.range 9).map (fun (j : Nat) => tapAt t j * tapAt a (k + 2 - j))).sum

/-- The predistortion index of three sent level indices, R71. -/
def pdIndex (y2 y1 y0 : Nat) : Nat := 16 * (y2 % 4) + 4 * (y1 % 4) + y0 % 4

/-- A DAC code limited to −128 to +127, and whether it was limited (R71, R77). -/
def dacSat (v : Int) : Int × Bool := (max (-128) (min 127 v), decide (v < -128 ∨ 127 < v))

/-- The DAC code D(k) of R71 from 64 · z(k), the predistortion entry and the Icing sample. -/
def dacCode (z64 p icing : Int) : Int × Bool := dacSat (roundEven (36 * z64) 64 + p + icing)

/-- The largest A up to `fuel` with (2A − 1)^20 · 10^n · den ≤ num: A is √(num/den · 10^(−n))^(1/10) to the nearest. -/
def rootTenth (num den n : Nat) : Nat → Nat
  | 0 => 0
  | a + 1 => if (2 * a + 1) ^ 20 * 10 ^ n * den ≤ num then a + 1 else rootTenth num den n a

/-- A = round(√2 · 10^(L/20) · 36 · √(5 · Σ (t[j]/64)²)) of R79, for L from −24 to −12: twice A, to the power 20,
against (4 · 2 · 36² · 5 · Σ t²/4,096)^10 · 10^L. -/
def icingAmpData (taps : List Int) (level : Int) : Nat :=
  let sq := (taps.map (fun t => t * t)).sum.toNat
  rootTenth ((8 * 1296 * 5 * sq) ^ 10) (4096 ^ 10) (-level).toNat 127

/-- A = round(√2 · 10^(L/20) · STRETCH_RMS) of R100. -/
def icingAmpStretch (rms : Nat) (level : Int) : Nat := rootTenth ((8 * rms ^ 2) ^ 10) 1 (-level).toNat 127

/-- A in ICING_ONLY (R79). -/
def icingAmpOnly : Nat := 38

/-! ### The receive filters -/

/-- 256 times the FFE output for symbol `k`: y(k) = Σ c[j] · x(k + 8 − j), j = 0 to 55, with c[8] = 256 (R33, R34). -/
def ffeOut (c x : List Int) (k : Int) : Int :=
  ((List.range 56).map (fun (j : Nat) => (if j = 8 then 256 else tapAt c j) * tapAt x (k + 8 - j))).sum

/-- 1,024 times what one canceller group subtracts for symbol `k`; an unplaced group subtracts nothing (R35). -/
def cancelOut (d : Nat) (g a : List Int) (k : Int) : Int :=
  if d = 0 then 0 else ((List.range 8).map (fun (i : Nat) => tapAt g i * tapAt a (k - d - i))).sum

/-! ### Test sequences, R88, R97 to R99 -/

/-- `n` bits of a generator of `w` stages with these feedback stages, in the form of R127: each bit is the feedback,
which enters at the low end. -/
def prbs (w : Nat) (taps : List Nat) : Nat → Nat → Bits
  | 0, _ => []
  | n + 1, st =>
    let fb := taps.foldl (fun a t => a != st.testBit (t - 1)) false
    fb :: prbs w taps n ((2 * st + fb.toNat) % 2 ^ w)

/-- PRBS13, x^13 + x^12 + x^2 + x + 1, seeded with all ones (R88, R97, R98). -/
def prbs13 (n : Nat) : Bits := prbs 13 [13, 12, 2, 1] n (2 ^ 13 - 1)

/-- PRBS31, x^31 + x^28 + 1, from a state (R88, R99). -/
def prbs31 (n st : Nat) : Bits := prbs 31 [31, 28] n st

/-- The pattern LEVELS: the four levels in order, each held for 16 symbols (R88). -/
def levelsPattern : List Nat := (List.range 64).map (· / 16)

end Sys2Proof.Machine
end

