-- ==== Sys2Proof/Machine/Trig.lean ====
section
/-! DEFINITION. Sine and cosine of an angle given in 2^32 parts of a turn, in fixed point to 160 binary places (R95, R101,
R233, R285, R287), and their binary32 images (R269). Every rounding of them in the spec is far coarser than their error,
and they are exact at the quarter turns. -/

namespace Sys2Proof.Machine

/-- One, in fixed point. -/
def fixOne : Nat := 2 ^ 160

/-- The terms of arctan(1/x) from the `k`th on, of which `p` is 1/x^(2k+1). -/
def atanTerms (x : Nat) : Nat → Nat → Nat → Int
  | 0, _, _ => 0
  | fuel + 1, k, p => (p / (2 * k + 1) : Nat) - atanTerms x fuel (k + 1) (p / (x * x))

/-- π = 16 · arctan(1/5) − 4 · arctan(1/239). -/
def fixPi : Nat := (16 * atanTerms 5 40 0 (fixOne / 5) - 4 * atanTerms 239 20 0 (fixOne / 239)).toNat

/-- The alternating terms of the series of sine and cosine from x^n/n! on, of which `t` is the value. -/
def turnTerms (x : Nat) : Nat → Nat → Nat → Int
  | 0, _, _ => 0
  | fuel + 1, n, t => (t : Int) - turnTerms x fuel (n + 2) (t * x / fixOne * x / fixOne / ((n + 1) * (n + 2)))

/-- sin(2π · num/den). -/
def sinTurn (num den : Nat) : Int :=
  let x := fixPi * (4 * num % den) / (2 * den)
  let s := turnTerms x 30 1 x
  let c := turnTerms x 30 0 fixOne
  match 4 * num / den % 4 with
  | 0 => s
  | 1 => c
  | 2 => -s
  | _ => -c

/-- cos(2π · num/den). -/
def cosTurn (num den : Nat) : Int := sinTurn (4 * num + den) (4 * den)

/-- sin(2π · a/2^32). -/
def fixSin (a : Nat) : Int := sinTurn a (2 ^ 32)

/-- cos(2π · a/2^32). -/
def fixCos (a : Nat) : Int := cosTurn a (2 ^ 32)

/-- The binary32 image of a fixed-point value, rounded once. -/
def fixF32 (v : Int) : W32 := if v < 0 then f32Neg (f32Ratio v.natAbs fixOne) else f32Ratio v.natAbs fixOne

end Sys2Proof.Machine
end

