-- ==== Sys2Proof/Machine/IcingCodes.lean ====
section
/-! DEFINITION. The Icing waveform (chapter 09): the Gray-coded symbol value (R234), the preamble (R235), the information of a
frame (R236), the extended Golay code (R237), the interleaver (R238), the chirps as DAC samples with their ramps (R233,
R248), and the searcher's test of a window (R242). No row of the command table moves single samples, so of these the
commands call only the test of a window (log entry 22). -/

namespace Sys2Proof.Machine

/-- v XOR (v >> 1) (R234). -/
def grayOf (v : Nat) : Nat := v ^^^ (v / 2)

/-- The value whose Gray code is `g`, for values of up to 11 bits (R234). -/
def grayValue (g : Nat) : Nat := (List.range 11).foldl (fun a i => a ^^^ (g / 2 ^ i)) 0

/-- A chirp of grade N: its direction, its shift in chips, and how many quarters of it are sent (R233 to R235). -/
structure Chirp where
  up    : Bool
  shift : Nat
  quarters : Nat := 4
  deriving DecidableEq, Repr

/-- A base up-chirp. -/
def upChirp : Chirp := { up := true, shift := 0 }
/-- A base down-chirp. -/
def downChirp : Chirp := { up := false, shift := 0 }

/-- Whole chirps of a grade in some milliseconds, rounded up: Rc = RSYN/4,096 chips per second (R233). -/
def chirpsIn (grade ms : Nat) : Nat := (ms * 28222656250 + 4096000 * 2 ^ grade - 1) / (4096000 * 2 ^ grade)

/-- The up-chirps of a preamble: eight, or as many as last WAKE_MS (R235, R262). -/
def upChirps (grade wakeMs : Nat) : Nat := max 8 (chirpsIn grade wakeMs)

/-- The preamble of a frame: 12.25 symbols, or with WAKE_MS a longer run of up-chirps (R235, R262). -/
def preamble (grade wakeMs netId : Nat) : List Chirp :=
  List.replicate (upChirps grade wakeMs) upChirp ++
    [{ upChirp with shift := 2 ^ (grade - 5) * (2 * (netId / 16 % 16) + 1) },
     { upChirp with shift := 2 ^ (grade - 5) * (2 * (netId % 16) + 1) },
     downChirp, downChirp, { downChirp with quarters := 1 }]

/-- The information bits of a frame: LEN, header, payload and CRC, padded to 12 bits (R236). -/
def frameInfo (mtype : Byte) (dst src : W16) (payload : Bytes) : Bits :=
  let body := BitVec.ofNat 8 (6 + payload.length) :: mtype :: (beN 2 dst.toNat ++ beN 2 src.toNat ++ payload)
  let bits := (body ++ beN 2 (crc16 body).toNat).flatMap (fun o => bitsOf 8 o.toNat)
  bits ++ List.replicate ((12 - bits.length % 12) % 12) false

/-- Remainder modulo the generator 0xC75 of the (23,12) Golay code (R237). -/
def golayRem (b : Bits) : Nat :=
  b.foldl (fun r x => let d := 2 * r + x.toNat; if d < 2048 then d else d ^^^ 0xC75) 0

/-- Bits with a last one that makes their weight even (R237). -/
def evenBits (b : Bits) : Bits := b ++ [b.foldl (· != ·) false]

/-- The 24 bits of a 12-bit message (R237). -/
def golayEncode (m : Bits) : Bits := evenBits (m ++ bitsOf 11 (golayRem (m ++ List.replicate 11 false)))

/-- The syndrome of 24 bits: the remainder of the first 23, and the parity of all. -/
def golaySyndrome (w : Bits) : Nat × Bool := (golayRem (w.take 23), w.foldl (· != ·) false)

/-- The error patterns of weight up to 3, as positions. -/
def golayPatterns : List (List Nat) :=
  [] :: ((List.range 24).flatMap (fun i => [i] :: (List.range i).flatMap (fun j => [i, j] ::
    (List.range j).map (fun k => [i, j, k]))))

/-- The message bits of a received codeword, and whether it could be decoded: up to 3 errors are corrected; otherwise the
message bits pass as received (R237). -/
def golayDecode (w : Bits) : Bits × Bool :=
  let flip := fun (p : List Nat) => p.foldl (fun b i => b.set i (!b.getD i false)) w
  match golayPatterns.find? (fun p => golaySyndrome (flip p) == (0, false)) with
  | some p => ((flip p).take 12, true)
  | none => (w.take 12, false)

/-- Bit 0 of each codeword in order, then bit 1 of each, to bit 23 (R238). -/
def interleave (ws : List Bits) : Bits := (List.range 24).flatMap (fun i => ws.map (fun w => w.getD i false))

/-- One interleave block as symbol values of a grade: groups of N bits, the last padded with zeros (R234, R238). -/
def blockSymbols (grade : Nat) (ws : List Bits) : List Nat :=
  (chunks grade (interleave ws)).map (fun g => grayValue (natOf (g ++ List.replicate (grade - g.length) false)))

/-- The body of a frame as symbol values (R236 to R238). -/
def bodySymbols (grade : Nat) (info : Bits) : List Nat :=
  (chunks grade ((chunks 12 info).map golayEncode)).flatMap (blockSymbols grade)

/-- n = 24 · floor(C/N) + ceil(24 · (C mod N)/N), the symbols of a body of C codewords (R238). -/
def bodyLength (grade c : Nat) : Nat := 24 * (c / grade) + (24 * (c % grade) + grade - 1) / grade

/-- The codewords of a frame with this LEN (R236, R237). -/
def codewordsOf (len : Nat) : Nat := (8 * (len + 2) + 11) / 12

/-- The chips of a frame, in quarters: (12.25 + n) · 2^N (R238). -/
def frameQuarters (grade len : Nat) : Nat := (49 + 4 * bodyLength grade (codewordsOf len)) * 2 ^ grade

/-- The chirps of a frame's body: up-chirps shifted by the symbol values (R234). -/
def bodyChirps (grade : Nat) (info : Bits) : List Chirp :=
  (bodySymbols grade info).map (fun v => { upChirp with shift := v })

/-! ### The waveform, R233, R248 -/

/-- DAC samples of a chip: 225.78125 GS/s over RSYN/4,096. -/
def chipSamples : Nat := 32768

/-- DAC samples of a chirp of a grade, or of the part of it that is sent. -/
def chirpSamples (grade : Nat) (c : Chirp) : Nat := c.quarters * 2 ^ grade * chipSamples / 4

/-- Turns of a chirp's phase at its DAC sample `k`, times 2^(N+31): the frequency runs from Rc to 2 · Rc and continues from
Rc, or falls from 2 · Rc to Rc (R233, R234). Every whole chirp is a whole number of turns, so the phase is continuous. -/
def chirpTurns (grade : Nat) (c : Chirp) (k : Nat) : Nat :=
  let m := 2 ^ grade
  let d := chipSamples
  if c.up then 2 * m * d * k + 2 * c.shift * d * k + k * k - 2 * m * d * (k - (m - c.shift) * d)
  else 4 * m * d * k - k * k

/-- Round to nearest, ties to even, a fixed-point value. -/
def roundFix (v : Int) : Int := roundEven v fixOne

/-- A · cos φ of a chirp at its DAC sample `k`, in fixed point. -/
def chirpWave (grade amp : Nat) (c : Chirp) (k : Nat) : Int :=
  amp * cosTurn (chirpTurns grade c k % 2 ^ (grade + 31)) (2 ^ (grade + 31))

/-- The chirp of a run in which DAC sample `k` falls, and its place there. -/
def chirpAt (grade : Nat) : List Chirp → Nat → Option (Chirp × Nat)
  | [], _ => none
  | c :: r, k => if k < chirpSamples grade c then some (c, k) else chirpAt grade r (k - chirpSamples grade c)

/-- DAC samples of a ramp of 8 · `ramp` µs. -/
def rampSamples (ramp : Nat) : Nat := 1806250 * ramp

/-- The raised-cosine ramp a(k) in fixed point, `j` of `n` samples up. -/
def rampGain (j n : Nat) : Int := (fixOne - cosTurn j (2 * n)) / 2

/-- DAC samples of a burst's chirps. -/
def burstSamples (grade : Nat) (cs : List Chirp) : Nat := (cs.map (chirpSamples grade)).sum

/-- The Icing sample I(k) of a burst: a rising ramp, the chirps of its frames, a falling ramp; both ramps are filled with
base up-chirps, of which one ends where the frames begin (DESIGN CHOICE, log entry 117). -/
def burstSample (grade amp ramp : Nat) (cs : List Chirp) (k : Nat) : Int :=
  let n := rampSamples ramp
  let len := chirpSamples grade upChirp
  let mid := burstSamples grade cs
  if k < n then
    roundFix (rampGain k n * chirpWave grade amp upChirp ((k + (len - n % len)) % len) / fixOne)
  else if k < n + mid then
    match chirpAt grade cs (k - n) with
    | some (c, j) => roundFix (chirpWave grade amp c j)
    | none => 0
  else if k < n + mid + n then
    let j := k - n - mid
    roundFix (rampGain (n - j) n * chirpWave grade amp upChirp (j % len) / fixOne)
  else 0

/-- The chirps of a frame: its preamble and its body (R235, R238). -/
def frameChirps (grade wakeMs netId : Nat) (info : Bits) : List Chirp := preamble grade wakeMs netId ++ bodyChirps grade info

/-! ### The searcher's test, R242 -/

/-- The window of a grade passes: its largest bin exceeds the mean of the others by at least `db` dB. -/
def winPasses (grade db : Nat) (w : IcWin) : Bool :=
  decide (w.peak ≠ 0) && decide (10 ^ db * w.rest ^ 10 ≤ (w.peak * (2 ^ grade - 1)) ^ 10)

/-- Two bins of a grade's spectrum lie within `k` of each other, around the spectrum. -/
def nearBins (k grade a b : Nat) : Bool :=
  let m := 2 ^ grade
  let d := (a % m + m - b % m) % m
  decide (d ≤ k) || decide (m - k ≤ d)

/-- Two bins of a grade's spectrum agree within one. -/
def nearBin (grade a b : Nat) : Bool := nearBins 1 grade a b

/-- The peak-to-mean ratio of a window of a grade is higher than that of another (R245). -/
def higherRatio (g : Nat) (w : IcWin) (g0 peak0 rest0 : Nat) : Bool :=
  decide (peak0 * (2 ^ g0 - 1) * w.rest < w.peak * (2 ^ g - 1) * rest0)

end Sys2Proof.Machine
end

