-- ==== Sys2Proof/Machine/WatchOps.lean ====
section
/-! DEFINITION. The watch tick of Toffee watch (R262, R358 to R360): what a tick powers, its compares, and the receivers of
the watching faces. -/

namespace Sys2Proof.Machine

/-- Change the power controller. -/
def pwrMod (f : Pwr → Pwr) (s : State) : State := { s with pwr := f s.pwr }

/-- PWR_STATE.CUR of Toffee watch (R338). -/
def inToffee (s : State) : Bool := decide (s.pwr.cur = 4)

/-! ### The watch tick, R358 to R360 -/

/-- A face that watches in TOFFEE. -/
def Watch.face (w : Watch) (f : Nat) : Bool := if f = 0 then w.icingE else w.icingW
/-- The faces that watch. -/
def Watch.faces (w : Watch) : List Nat := [0, 1].filter w.face
/-- The domains that a tick powers. -/
def Watch.domains (w : Watch) : List Nat :=
  (if w.madc.toNat < 4 then [84 + w.madc.toNat / 2] else []) ++ w.faces.map (78 + ·)

/-- The Icing receivers of the watching faces enter a state (R262). -/
def watchRx (st : IcSt) (s : State) : State :=
  forEach s.pwr.watch.faces (fun f t => t.icingMod f (fun i => { i with rx := { i.rx with st := st, step := 0, run := 0 } })) s

/-- A tick's domains power up, with RSYN locked. -/
def tickOpen (s : State) : State :=
  let s1 := watchRx .search (s.setPd s.pwr.watch.domains true)
  { s1 with sys := { s1.sys with rsynLock := true }, pwr := { s1.pwr with tick := true } }

/-- A tick ends, if one is in progress. -/
def tickEnd (s : State) : State :=
  if s.pwr.tick then
    let s1 := watchRx .watchSleep (s.setPd s.pwr.watch.domains false)
    { s1 with sys := { s1.sys with rsynLock := false }, pwr := { s1.pwr with tick := false } }
  else s

/-- Every watching face sleeps again. -/
def State.watchAsleep (s : State) : Bool := s.pwr.watch.faces.all (fun f => (s.icingAt f).rx.st == .watchSleep)

/-- A watching face has detected a frame and receives it (R358). -/
def State.watchBusy (s : State) : Bool :=
  s.pwr.watch.faces.any (fun f =>
    let st := (s.icingAt f).rx.st
    decide (st = .detect) || decide (st = .header) || decide (st = .body))

/-- Compare `c` of the watch parameters. -/
def Watch.compare (w : Watch) (c : Nat) : Compare := Tab.get {} w.compares c
/-- The enabled compares, ascending. -/
def Watch.enabled (w : Watch) : List Nat := (List.range 16).filter (fun c => (w.compare c).en)

/-- A mean counts as tripping, R359. -/
def Compare.trips (c : Compare) (mean : Nat) : Bool :=
  let inside := decide (c.low.toNat ≤ mean) && decide (mean ≤ c.high.toNat)
  if c.sense then inside else !inside

/-- The lowest enabled compare that has tripped for PERSIST ticks (R359). -/
def Pwr.tripped (p : Pwr) : Option Nat :=
  p.watch.enabled.find? (fun c => decide ((p.watch.compare c).persist.toNat ≤ Tab.get 0 p.runs c))

/-- The tick count has reached WAKE_AFTER (R360). -/
def Pwr.timerDue (p : Pwr) : Bool := p.watch.wakeAfter != 0 && p.ticks == p.watch.wakeAfter

/-- The codes of each enabled compare: exactly AVG of them. -/
def Watch.codesOk (w : Watch) (codes : List (Byte × List (BitVec 14))) : Bool :=
  w.enabled.all (fun c => decide (((codes.lookup (u8 c)).getD []).length = (w.compare c).avg.toNat))

/-- The mean of a compare's codes, convergent (R359). -/
def meanOf (codes : List (BitVec 14)) : Nat := (roundEven ((codes.map BitVec.toNat).sum : Nat) codes.length).toNat

/-- Step 5 of R358 for one compare: the log and the run of tripping ticks (R359). -/
def Pwr.evalCompare (codes : List (Byte × List (BitVec 14))) (p : Pwr) (c : Nat) : Pwr :=
  let m := meanOf ((codes.lookup (u8 c)).getD [])
  { p with
    log := Tab.set 0 p.log c (BitVec.ofNat 16 m)
    runs := Tab.set 0 p.runs c (if (p.watch.compare c).trips m then Tab.get 0 p.runs c + 1 else 0) }

/-- A wake is owed by the tick in progress (R359, R360). -/
def Pwr.wakeDueNow (p : Pwr) : Bool := p.tripped.isSome || p.timerDue

/-- The receiver of a watching face sleeps again and its domain powers down; with no face and no wake left the tick ends
(R262, R358). -/
def faceSleeps (f : Nat) (s : State) : State :=
  let s1 := (s.icingMod f (fun i => { i with rx := { i.rx with st := .watchSleep, step := 0, run := 0, second := none } })).setPd
    [78 + f] false
  if s1.pwr.tick && s1.watchAsleep && !s1.pwr.wakeDueNow then tickEnd s1 else s1

end Sys2Proof.Machine
end

