-- ==== Sys2Proof/Machine/IcingOps.lean ====
section
/-! DEFINITION. The shared operations of the Icing channel (chapter 09): message types and classes, the neighbour
table and the far end, the lane map, grades, the transmit queue and what an acknowledgement on air agrees. -/

namespace Sys2Proof.Machine

/-- The Icing lane of a face, 0 to 15. -/
def State.icLane (s : State) (f : Nat) : Nat := 8 * f + (s.icingAt f).lane

/-- Transmission is available under R78 and R247: an address, the Icing lane in DATA or ICING_ONLY, and not in Toffee
watch. -/
def State.icTxAvail (s : State) (f : Nat) : Bool :=
  let t := s.txAt (s.icLane f)
  decide (s.nodeAddr ≠ 0) && s.icingOn f && (decide (t.st = .data) || decide (t.st = .icingOnly)) && !inToffee s
    && !s.stopped 2

/-- Priority class of a message type, and whether an SG1608 takes it (R253). -/
def icClass (mtype : Nat) : Nat :=
  if mtype = 0x01 then 3
  else if mtype = 0x02 ∨ mtype = 0x03 ∨ mtype = 0x30 then 2
  else if mtype = 0x10 ∨ mtype = 0x13 ∨ mtype = 0x20 ∨ mtype = 0x22 ∨ mtype = 0x24 ∨ mtype = 0x3E then 1
  else 0

/-- The payload length of a known message type (R253); a type or length outside the table is reserved. -/
def icTypeOk (mtype len : Nat) : Bool :=
  if mtype = 0x01 then len == 11
  else if mtype = 0x02 ∨ mtype = 0x31 ∨ mtype = 0x3E then len == 1
  else if mtype = 0x03 then len == 14
  else if mtype = 0x10 then len == 140 || len == 139
  else if mtype = 0x11 ∨ mtype = 0x13 ∨ mtype = 0x22 then len == 2
  else if mtype = 0x12 ∨ mtype = 0x21 ∨ mtype = 0x25 then len == 3
  else if mtype = 0x14 then len == 139
  else if mtype = 0x20 ∨ mtype = 0x24 then len == 4
  else if mtype = 0x30 then decide (2 ≤ len) && decide (len ≤ 249)
  else false

/-- The message types that an SG1608 takes (R253). -/
def icType1608 (mtype : Nat) : Bool := [0x01, 0x02, 0x03, 0x24, 0x25, 0x30, 0x31].contains mtype

/-! ### Neighbours, far end and lane map, R254, R255 -/

/-- The neighbour table's entry for an address. -/
def Icing.nbr (i : Icing) (addr : W16) : Option Nbr := i.nbrs.find? (fun n => n.addr == addr)
/-- DEV of a DISCOVERY is that of an SG1608. -/
def Nbr.is1608 (n : Nbr) : Bool := (byteAt n.disc 0).toNat / 16 == 2
/-- The FOUND neighbour of highest ICING_RSSI, the first on a tie. -/
def bestNbr : List Nbr → Option Nbr
  | [] => none
  | n :: r =>
    if !n.found then bestNbr r
    else match bestNbr r with
    | none => some n
    | some m => if n.rssi.toInt < m.rssi.toInt then some m else some n
/-- The far end that R255 chooses; 0 = none. -/
def Icing.chosen (i : Icing) : W16 :=
  match (i.nbr i.pin).filter (·.found) with
  | some n => n.addr
  | none => ((bestNbr i.nbrs).map (·.addr)).getD 0

/-- Choose the far end again; a change starts the lane map afresh and raises ICING_NEIGHBOUR with CHANGED (R255). -/
def chooseFar (f : Nat) (s : State) : State :=
  let i := s.icingAt f
  if i.chosen = i.far then s
  else raise 0x8901 ([u8 f] ++ le16 i.chosen ++ [2])
    (s.icingMod f (fun i => { i with far := i.chosen, map := [], fixed := 0 }))

/-- A face has found its far end (R255). -/
def State.farFound (s : State) (f : Nat) : Bool := decide ((s.icingAt f).far ≠ 0)
/-- The far end of a face is an SG1608 (R263). -/
def State.far1608 (s : State) (f : Nat) : Bool :=
  (((s.icingAt f).nbr (s.icingAt f).far).map Nbr.is1608).getD false
/-- A destination is known to be an SG1608. -/
def State.dst1608 (s : State) (f : Nat) (dst : W16) : Bool := (((s.icingAt f).nbr dst).map Nbr.is1608).getD false
/-- The far lane paired with a lane (R255). -/
def State.farLane (s : State) (lane : Nat) : Nat :=
  match Tab.get none (s.icingAt (faceOf lane)).map lane with
  | some b => b.toNat % 16
  | none => lane ^^^ 8

/-! ### Grades, R251 -/

/-- The grades that a DISCOVERY lists (R254), ascending. -/
def Nbr.grades (n : Nbr) : List Nat :=
  let all := if n.is1608 then [6, 7, 8, 9] else
    (List.range 6).filter (fun i => bitOf (byteAt n.disc 3) i) |>.map (· + 6)
  all
/-- Required SNR of a grade in 0.25 dB (table Icing grades). -/
def reqSnr (g : Nat) : Int :=
  if g = 6 then -20 else if g = 7 then -30 else if g = 8 then -40 else if g = 9 then -50 else if g = 10 then -60 else -72

/-- The grade of a frame to a destination (R251, R263). -/
def State.gradeFor (s : State) (f : Nat) (dst : W16) : Nat :=
  let i := s.icingAt f
  let disc := i.cfg.discGrade.toNat
  if dst = 0xFFFF then disc
  else match i.nbr dst with
  | none => if i.cfg.gradeTx ≠ 0 then i.cfg.gradeTx.toNat else disc
  | some n =>
    if i.cfg.gradeTx ≠ 0 then (if n.is1608 then min 9 i.cfg.gradeTx.toNat else i.cfg.gradeTx.toNat)
    else
      let gs := n.grades
      let top := gs.getLast?.getD disc
      let heard := (byteAt n.disc 9).toInt
      if ofBe (slice n.disc 7 2) = s.nodeAddr.toNat && heard ≠ -128 then
        (gs.find? (fun g => reqSnr g + 4 * (i.cfg.gradeMargin.toNat : Int) ≤ heard)).getD top
      else if gs.isEmpty || gs.contains disc then disc else top

/-- The grade of a resend after a send at grade `g`: under AUTO the next common grade above it, up to the highest; otherwise
that of a first send (R251). -/
def State.nextGrade (s : State) (f : Nat) (dst : W16) (g : Nat) : Nat :=
  let i := s.icingAt f
  match i.nbr dst with
  | some n =>
    if i.cfg.gradeTx ≠ 0 ∨ n.grades = [] then s.gradeFor f dst
    else (n.grades.find? (fun h => g < h)).getD (n.grades.getLast?.getD g)
  | none => s.gradeFor f dst

/-- The grade at which a queued frame goes, by the parameters and the DISCOVERY of the moment (R251, R252). -/
def State.frameGrade (s : State) (f : Nat) (fr : IcFrame) : Nat :=
  match fr.pick with
  | .first => s.gradeFor f fr.dst
  | .after g => s.nextGrade f fr.dst g
  | .given g => g

/-- RESULT codes of MODE_ACK and TIER_ACK (R259). -/
def resAccept : Byte := 0
def resReject : Byte := 1
def resBusy : Byte := 2
def resNotSupported : Byte := 3

/-! ### Requests received, R259, R260 -/

/-- The record of a request received with this MSEQ from this source. -/
def Icing.reqInOf (i : Icing) (tier : Bool) (src : W16) (mseq : Byte) : Option ReqIn :=
  i.reqIn.find? (fun r => r.tier == tier && r.src == src && r.mseq == mseq)

/-- A lane's rate change is agreed (R381 step 4): this end's transmitter is due to change; its receiver awaits the far
transmitter's change while LOCKED, and otherwise takes the new rate as its own. The change falls on the 153rd or the 154th
boundary from here, the first at least 2 ms away: which of them, a free value (R260, log entry 107). -/
def tierAgree (half : Bool) (prec : Byte) (lane : Nat) (s : State) : State :=
  let d := s.drawBelow 2
  let s1 := d.2.turnMod lane (fun t =>
    { t with due := true, half := half, prec := prec, old := (s.txAt lane).half, left := 153 + d.1 })
  if (s.rxAt lane).st = .locked then s1.turnMod lane (fun t => { t with await := true })
  else s1.rxMod lane (fun r => { r with half := half })

/-- An acknowledgement goes on air: what it accepts is agreed from this moment, once (R259, R260). -/
def ackOnAir (f : Nat) (fr : IcFrame) (s : State) : State :=
  let mseq := byteAt fr.payload 0
  if fr.mtype = 0x21 then
    let lane := (byteAt fr.payload 1).toNat % 16
    if byteAt fr.payload 2 = resAccept then
      s.stretchMod lane (fun x => match x.handOver with
        | some h => if h.mseq = mseq && !h.initiator then { x with handOver := some { h with agreed := true } } else x
        | none => x)
    else s
  else if fr.mtype = 0x25 then
    match (s.icingAt f).reqInOf true fr.dst mseq with
    | some r =>
      if byteAt fr.payload 2 = resAccept ∧ ¬ r.acted then
        forEach ((lanesOf f).filter (fun l => bitOf (byteAt fr.payload 1) (l % 8)))
          (tierAgree (byteAt r.payload 2 == 1) (byteAt r.payload 3))
          (s.icingMod f (fun i => { i with reqIn := i.reqIn.map (fun q => if q = r then { q with acted := true } else q) }))
      else s
    | none => s
  else s

/-- A lane's pending table is what a BIT_TABLE with this payload carries (R108, R257). -/
def State.sendsTable (s : State) (l : Nat) (payload : Bytes) : Bool :=
  ((s.stretchAt l).rxNext.map (·.id)) == some (byteAt payload 0) && s.farLane l == (byteAt payload 1).toNat

/-- The grade of a send is kept with what is to be resent after it (R251). -/
def noteGrade (f g : Nat) (fr : IcFrame) (s : State) : State :=
  if fr.mtype = 0x10 then
    forEach ((lanesOf f).filter (fun l => s.sendsTable l fr.payload))
      (fun l t => t.stretchMod l (fun x => { x with sentGrade := g })) s
  else s.icingMod f (fun i =>
    { i with
      genWait := if fr.mtype = 0x30 then
          i.genWait.map (fun w => if w.dst = fr.dst ∧ w.payload = fr.payload then { w with grade := g } else w)
        else i.genWait
      reqOut := i.reqOut.map (fun r => if r.dst = fr.dst ∧ r.payload = fr.payload then { r with grade := g } else r) })

/-- A frame of a burst of grade `g` goes on air. -/
def frameOnAir (f g : Nat) (fr : IcFrame) (s : State) : State := ackOnAir f fr (noteGrade f g fr s)

/-! ### The transmit queue, R247, R248 -/

/-- The queue of a face has no room for `n` more frames; frames of a burst that waits are still in it (R247). -/
def State.icLacks (s : State) (f n : Nat) : Bool := decide (16 < (s.icingAt f).queue.length + n)
/-- The queue of a face is full. -/
def State.icFull (s : State) (f : Nat) : Bool := s.icLacks f 1

/-- A frame of grade `g` joins a burst on air of that grade with fewer than four frames, while its lane sends; not toward an
SG1608 (R248, R250). -/
def joins (b : Burst) (g : Nat) (is1608 : Bool) : Bool :=
  b.grade == g && decide (b.frames.length < 4) && !b.single && !b.stopped && !is1608

/-- Queue a frame; a full queue takes none (log entry 11), and a type that an SG1608 does not take is not sent to
one (R263). An acknowledgement that joins a burst on air is sent with it (R259). -/
def icQueueAt (f mtype : Nat) (dst : W16) (payload : Bytes) (pick : GradePick) (up : W16) (s : State) : State :=
  let fr : IcFrame := { mtype := u8 mtype, dst := dst, payload := payload, cls := icClass mtype, pick := pick, up := up }
  let small := s.dst1608 f dst
  let queued (s : State) : State :=
    if s.icFull f then s else s.icingMod f (fun i => { i with queue := i.queue ++ [fr] })
  if small && !icType1608 mtype then s
  else match (s.icingAt f).burst with
    | some b =>
      if joins b (s.frameGrade f fr) (s.far1608 f || small) then
        frameOnAir f b.grade fr (s.icingMod f (fun i => { i with burst := some { b with frames := b.frames ++ [fr] } }))
      else queued s
    | none => queued s

/-- Queue a frame for its first send. -/
def icQueue (f mtype : Nat) (dst : W16) (payload : Bytes) (s : State) : State := icQueueAt f mtype dst payload .first 0 s

/-- A burst of a face is over: its receiver stays blanked for RAMP_US, by the timestamp (R249, log entry 119). -/
def burstOver (f : Nat) (s : State) : State :=
  let until_ := s.pwr.time + BitVec.ofNat 64 (8 * (((s.icingAt f).burst.map (fun b => b.ramp.toNat)).getD 0))
  s.icingMod f (fun i =>
    { i with burst := none, blankEnd := if (i.burst.map (·.blanks)).getD false then until_ else i.blankEnd })

/-- The burst on air of a face is stopped after `done` of its frames: the next is lost and counted TX_ABORT, those not yet
started stay queued (R250). -/
def burstAbort (f done : Nat) (s : State) : State :=
  match (s.icingAt f).burst with
  | none => s
  | some b =>
    (burstOver f s).icingMod f (fun i =>
      { i with
        queue := b.frames.drop (done + 1) ++ i.queue
        cnt := { i.cnt with txAbort := wrapAdd i.cnt.txAbort 1, txFrames := wrapAdd i.cnt.txFrames (min done (b.frames.length - 1)) } })

/-- A TIER_ACK that accepts a lane waits in the queue: its change is accepted and not yet on air (R259). -/
def State.ackQueued (s : State) (l : Nat) : Bool :=
  (s.icingAt (faceOf l)).queue.any (fun fr => fr.mtype == 0x25 && byteAt fr.payload 2 == resAccept
    && bitOf (byteAt fr.payload 1) (l % 8)
    && (((s.icingAt (faceOf l)).reqInOf true fr.dst (byteAt fr.payload 0)).map (fun r => !r.acted)).getD false)

/-- A MODE_REQ or TIER_REQ for a lane still awaits this host's answer (R259). -/
def State.reqAsked (s : State) (l : Nat) : Bool :=
  (s.icingAt (faceOf l)).reqIn.any (fun r => r.answer.isNone
    && (if r.tier then bitOf (byteAt r.payload 1) (l % 8) else (byteAt r.payload 1).toNat % 16 == l))

/-- A node address as two octets, most significant first (R236). -/
def be16 (v : W16) : Bytes := beN 2 v.toNat

/-- Give a request its answer and queue the acknowledgement. -/
def answerReq (f : Nat) (tier : Bool) (src : W16) (mseq : Byte) (ans : Bytes) (s : State) : State :=
  icQueue f (if tier then 0x25 else 0x21) src ans
    (s.icingMod f (fun i => { i with reqIn := i.reqIn.map (fun r =>
      if r.tier == tier && r.src == src && r.mseq == mseq then { r with answer := some ans } else r) }))

/-! ### Receiver, R240 -/

/-- The state that the receiver searches from: SEARCH, or OFF with reception disabled. -/
def State.icIdle (s : State) (f : Nat) : IcSt :=
  if (s.icingAt f).cfg.rxEnable && s.icingOn f then .search else .off

/-- The receiver of a face goes back to searching; in Toffee watch it sleeps again (R262). -/
def icToSearch (f : Nat) (s : State) : State :=
  if inToffee s then faceSleeps f s
  else s.icingMod f (fun i => { i with rx := { i.rx with st := s.icIdle f, step := 0, run := 0, second := none } })

/-- Count on a face's Icing counters. -/
def icCount (f : Nat) (g : IcCnt → IcCnt) (s : State) : State := s.icingMod f (fun i => { i with cnt := g i.cnt })

end Sys2Proof.Machine
end

