-- ==== Sys2Proof/Machine/TxOps.lean ====
section
/-! DEFINITION. The shared operations of the line transmitters (chapter 03): settings that wait for a multiframe
boundary, transitions, rate changes, faults and predistortion training. -/

namespace Sys2Proof.Machine

/-- Settings that wait for their multiframe boundary take effect (R68, R70, R72, R79, R93). -/
def TxSet.apply (x : TxSet) : TxSet :=
  { x with precode := x.precodeP.getD x.precode, precodeP := none,
           fir := x.firP.getD x.fir, firP := none,
           pd := x.pdP.getD x.pd, pdP := none,
           level := x.levelP.getD x.level, levelP := none }

/-- Change a transmitter's settings; with its domains down they take effect at once (R93). -/
def txSet (lane : Nat) (f : TxSet → TxSet) (s : State) : State :=
  s.txMod lane (fun t => { t with set := if s.txOn lane then f t.set else (f t.set).apply })

/-- A transmitter leaves DATA or PATTERN: SWING and FINE are at their targets (R76, R81). -/
def TxSet.settle (x : TxSet) : TxSet := { x with swing := x.swingT, fine := x.fineT }

/-- A transmitter steps toward its FINE and SWING targets only in DATA and PATTERN (R76, R81). -/
def TxSt.steps : TxSt → Bool
  | .data => true
  | .pattern => true
  | _ => false

/-- One step toward a target. -/
def stepTo (x target : Nat) : Nat := if x < target then x + 1 else if target < x then x - 1 else x

/-- A transmitter enters a state (R82, R83): settings settle when it leaves DATA or PATTERN, a pending transition is
gone, LINE_FAR loops in DATA (R91), a pattern runs in PATTERN alone. -/
def Tx.enter (st : TxSt) (t : Tx) : Tx :=
  let set := if t.st.steps && !st.steps then t.set.settle else t.set
  { t with st := st, next := none, set := set,
           looped := decide (st = .data) && t.set.loopback == 3,
           fill := if st = .data && t.set.loopback == 3 then 2048 else t.fill,
           gen := if t.st = .pattern && st ≠ .pattern then { t.gen with on := false } else t.gen }

/-- Where a transmitter stops within a multiframe, or its DSP domain powers down, the index sent last is not in the model:
a free value (R67, log entry 98). -/
def loseMemory (lane : Nat) (s : State) : State :=
  let d := s.drawBelow 4
  d.2.txMod lane (fun t => { t with lastSent := d.1 })

/-- DAC codes formed in a transmit quality period: one per symbol, 64 multiframes of 2,959,360 UI (R77, R86). -/
def codesPerPeriod (half : Bool) : Nat := if half then 94699520 else 189399040

/-- TX_DAC_CLIP is brought up to date within a quality period: how many codes have been limited since it last was, a free
number (R77, log entry 146). -/
def clipsUpToDate (lane : Nat) (s : State) : State :=
  if (s.txAt lane).st.steps then
    let d := s.drawBelow (codesPerPeriod (s.txAt lane).half + 1 - (s.txAt lane).clipNow)
    d.2.txMod lane (fun t => { t with clips := t.clips + BitVec.ofNat 32 d.1, clipNow := t.clipNow + d.1 })
  else s

/-- A state in which the Icing lane carries the Icing waveform (R78). -/
def TxSt.carries : TxSt → Bool
  | .data => true
  | .icingOnly => true
  | _ => false

/-- The burst that a lane carries stops when the lane leaves DATA and ICING_ONLY (R250). -/
def burstStops (lane : Nat) (st : TxSt) (s : State) : State :=
  s.icingMod (faceOf lane) (fun i =>
    { i with burst := i.burst.map (fun b => if b.lane = lane % 8 ∧ st.carries = false then { b with stopped := true } else b) })

/-- Enter a state without a LANE_DOWN bit: the shed of a sleep and its wake (R159, R160, R345). What was limited in DATA or
PATTERN is counted (R77), and a burst may stop (R250). -/
def txShed (lane : Nat) (st : TxSt) (s : State) : State :=
  (burstStops lane st (if st.steps then s else clipsUpToDate lane s)).txMod lane (Tx.enter st)

/-- Enter a state on command or fault: a transmitter that leaves DATA sets LANE_DOWN (R159, R180). -/
def txEnter (lane : Nat) (st : TxSt) (s : State) : State :=
  let was := (s.txAt lane).st
  let s1 := txShed lane st s
  if was = .data ∧ st ≠ .data then laneDown lane s1 else s1

/-- A transmitter's rate changes; entry to half rate sets the TIER mask (R87, R159). -/
def txRate (lane : Nat) (half : Bool) (s : State) : State :=
  let was := (s.txAt lane).half
  let s1 := s.txMod lane (fun t => { t with half := half, halfP := none })
  if !was && half then laneTierMask lane s1 else s1

/-- A rate change asked of a transmitter: at a multiframe boundary in DATA or PATTERN, else at once (R87). -/
def txAskRate (lane : Nat) (half : Bool) (s : State) : State :=
  if (s.txAt lane).st.steps then s.txMod lane (fun t => { t with halfP := some half }) else txRate lane half s

/-- The TX domains of a lane come up: 20 µs of start-up in HIZ (R82); at half rate the TIER mask is set (R159). -/
def txPowerUp (lane : Nat) (toData : Bool) (s : State) : State :=
  let s1 := s.txMod lane (fun t => 
    { t with st := .hiz, next := none, starting := true, toData := toData, shed := false, parking := false })
  if (s.txAt lane).half then laneTierMask lane s1 else s1

/-- The TX domains of a lane go down: HIZ, settings in force as accepted, the fault latched (R83, R84, R93). -/
def txPowerDown (lane : Nat) (s : State) : State :=
  (txShed lane .hiz (loseMemory lane s)).txMod lane (fun t =>
    { t with set := t.set.apply, starting := false, toData := false, loopData := false, shed := false, parking := false
             half := t.halfP.getD t.half, halfP := none })

/-- A transmitter takes commands that change its state: its domains are powered, and it is not on its way to HIZ (R83). -/
def State.txTakes (s : State) (lane : Nat) : Bool := s.txOn lane && !(s.txAt lane).shed

/-- Its quality period is cut short where RSYN stops: what was limited in it is counted (R77, R459). -/
def periodCut (lane : Nat) (s : State) : State := s.txMod lane (fun t => { t with clipNow := 0 })

/-- The state codes of R53. -/
def RxSt.code : RxSt → Byte
  | .off => 0 | .waitSignal => 1 | .agc => 2 | .timing => 3 | .ffeAdapt => 4 | .echoSearch => 5 | .mlsdTrain => 6
  | .align => 7 | .mfSearch => 8 | .locked => 9 | .warmVerify => 10 | .seededAdapt => 11 | .parked => 12

/-- The codes of R82. -/
def TxSt.code : TxSt → Byte
  | .hiz => 0 | .quiet => 1 | .icingOnly => 2 | .data => 3 | .pattern => 4 | .fault => 5

/-- Precoding is active on a transmitter: TX_CONFIG's, or a pattern's override (R68, R88); Stretch mode has no precoding
stage (R65). -/
def Tx.precoding (t : Tx) : Bool :=
  if t.stretch then false
  else if t.st = .pattern ∧ t.gen.override ≠ 0 then t.gen.override == 2 else t.set.precode

/-- Training ends: TX_PD_TRAIN_DONE with its cause (R74); nothing is awaited any more. -/
def endTrain (lane cause : Nat) (s : State) : State :=
  match (s.txAt lane).train with
  | none => s
  | some tr =>
    let s1 := s.txMod lane (fun t => { t with train := none })
    let s2 := s1.icingMod (faceOf lane) (fun i => { i with fbWait := i.fbWait.filter (fun w => w.lane != lane) })
    raise 0x8203 [u8 lane, u8 cause, u8 tr.done, boolByte (s.txAt lane).pdLimit] s2

/-- Ask the far end for one feedback record (R73 step 1, R258). -/
def askFeedback (lane : Nat) (s : State) : State :=
  let f := faceOf lane
  let q := (s.icingAt f).fbSeq + 1
  let s1 := s.icingMod f (fun i =>
    { i with fbSeq := q, fbWait := i.fbWait.filter (fun w => w.lane != lane) ++ [{ lane := lane, fbSeq := q }] })
  icQueue f 0x13 (s.icingAt f).far [u8 (s.farLane lane), q] s1

/-- The correction of one table entry (R73 step 3): the new value, and whether it was limited. -/
def pdStep (p m : Int) (step : Nat) : Int × Bool :=
  let v := p - roundEven (36 * m) (1024 * 2 ^ step)
  (clampInt (-32) 31 v, decide (v < -32) || decide (31 < v))

/-- The host lane belongs to a port that is not DISABLED (R213, R231). -/
def State.hostLaneUsed (s : State) (h : Nat) : Bool :=
  (List.range 16).any (fun p =>
    decide ((s.portAt p).st ≠ .disabled) && decide (2 * p ≤ h) && decide (h < 2 * p + (s.portAt p).width.toNat))

end Sys2Proof.Machine
end

