-- ==== Sys2Proof/Machine/StretchOps.lean ====
section
/-! DEFINITION. The shared operations of Stretch mode (chapter 04): loading (R104, R105), bit table records (R106,
R107), the exchange (R108) and the Stretch crumbs (R118). -/

namespace Sys2Proof.Machine

/-! ### Loading, R104, R105, in 1/256 dB -/

/-- T(b). -/
def loadT (b : Nat) : Int :=
  if b = 1 then 1792 else if b = 2 then 2560 else if b = 3 then 3520 else if b = 4 then 4288 else if b = 5 then 5056
  else 5824

/-- The largest b whose threshold the SNR meets with the margin; 0 if none. -/
def bitsFor (margin snr : Int) : Nat := (([6, 5, 4, 3, 2, 1] : List Nat).find? (fun b => loadT b + margin ≤ snr)).getD 0

/-- e(n) of a subcarrier with b bits. -/
def excess (margin snr : Int) (b : Nat) : Int := snr - loadT b - margin

/-- The loaded subcarrier of smallest e(n), the highest on a tie, by index from 0. -/
def weakest (margin : Int) : List (Int × Nat) → Nat → Option (Int × Nat)
  | [], _ => none
  | (snr, b) :: r, i =>
    let rest := weakest margin r (i + 1)
    if b = 0 then rest
    else match rest with
    | none => some (excess margin snr b, i)
    | some (e, j) => if excess margin snr b < e then some (excess margin snr b, i) else some (e, j)

/-- Trim bits until no more than `need` are left. -/
def trim (margin : Int) (snr : List Int) (need : Nat) : Nat → List Nat → List Nat
  | 0, b => b
  | fuel + 1, b =>
    if b.sum ≤ need then b
    else match weakest margin (snr.zip b) 0 with
    | none => b
    | some (_, i) => trim margin snr need fuel (b.set i (b.getD i 0 - 1))

/-- The gain of a subcarrier in 0.5 dB steps. -/
def gainFor (margin snr : Int) (b : Nat) : Int :=
  if b = 0 then 0 else -(min (excess margin snr b) 768 / 128)

/-- The table for these SNR values with at most `cap` slots; none = LOW_CAPACITY. -/
def loadTable (margin : Int) (cap : Nat) (snr : List Int) : Option BitTable :=
  let b0 := snr.map (bitsFor margin)
  let slots := min cap (5600 * b0.sum / 92480)
  if slots < 4 then none
  else
    let need := (92480 * slots + 5599) / 5600
    let b := trim margin snr need b0.sum b0
    some { id := 0, bits := b, gains := (snr.zip b).map (fun p => gainFor margin p.1 p.2), slots := slots }

/-- The gains of the loaded subcarriers. -/
def BitTable.loaded (t : BitTable) : List Int := ((t.bits.zip t.gains).filter (fun p => p.1 != 0)).map (·.2)

/-- m(n) = snr + g + N − T(b) of each subcarrier; none where b = 0 (R105, R116). -/
def BitTable.margins (t : BitTable) (snr : List Int) : List (Option Int) :=
  let n := normDb t.loaded
  (List.range 255).map (fun i =>
    let b := t.bits.getD i 0
    if b = 0 then none else some (snr.getD i 0 + 128 * t.gains.getD i 0 + n - loadT b))

/-! ### Measurement, R103 -/

/-- The SNR of a subcarrier over `n` pilot symbols: |Ĥ|²/σ² of the mean and the variance of the quotients (R103). -/
def probeSnr (n : Nat) (p : ProbeSums) : W16 :=
  let mean := (p.re * p.re + p.im * p.im).toNat
  snrOf mean (n * p.sq - mean)

/-- SNR measured in service, referred to probe conditions by subtracting g(n) and N; a subcarrier without bits is measured
on pilots, which are probe conditions as they are (R99, R103). -/
def BitTable.serviceSnr (t : BitTable) (ms : List Ratio) : List W16 :=
  let total := (t.loaded.map dbPower).sum
  (List.range 255).map (fun i =>
    let m := ms.getD i {}
    if t.bits.getD i 0 = 0 then snrOf m.num m.den
    else snrOf (m.num * total) (m.den * 255 * dbPower (t.gains.getD i 0)))

/-- The smallest of the margins that are present. -/
def minMargin (ms : List (Option Int)) : Int :=
  match ms.filterMap id with
  | [] => 0
  | x :: r => r.foldl min x

/-! ### Bit tables, R106, R107, R118 -/

/-- An entry byte: b in [7:5], g in [4:0]. -/
def entryByte (b : Nat) (g : Int) : Byte := u8 (b * 32 + (g % 32).toNat)
def entryBits (x : Byte) : Nat := x.toNat / 32
def entryGain (x : Byte) : Int := (x.extractLsb' 0 5).toInt

/-- The 255 entry bytes of a table. -/
def BitTable.entries (t : BitTable) : Bytes := (List.range 255).map (fun i => entryByte (t.bits.getD i 0) (t.gains.getD i 0))
/-- A table from its entry bytes. -/
def tableOf (tid : Byte) (slots : Nat) (es : Bytes) : BitTable :=
  { id := tid, bits := es.map entryBits, gains := es.map entryGain, slots := slots }
/-- The sum of the bits, B_TOTAL. -/
def BitTable.total (t : BitTable) : Nat := t.bits.sum

/-- The two segment records of a table (R106). -/
def BitTable.segment (t : BitTable) (txLane : Nat) (pred : Int) (k : Nat) : Bytes :=
  [t.id, u8 txLane, u8 k, u8 t.slots] ++ beN 2 t.total ++ (leInt 2 pred).reverse
    ++ beN 2 (if k = 0 then 1 else 129) ++ be16 (crc16 t.entries)
    ++ (if k = 0 then t.entries.take 128 else t.entries.drop 128)

/-- The TABLE_NAK check that fails first for two segments, after their arrival in time (R107, R257); 0 = accepted. -/
def tableCheck (a b : Bytes) (txStretch : Bool) : Nat :=
  let es := a.drop 12 ++ b.drop 12
  let agree := slice a 0 2 == slice b 0 2 && slice a 3 5 == slice b 3 5 && slice a 10 2 == slice b 10 2
    && ofBe (slice a 8 2) == 1 && ofBe (slice b 8 2) == 129
  let slots := (byteAt a 3).toNat
  let total := ofBe (slice a 4 2)
  if !agree then 1
  else if (crc16 es).toNat ≠ ofBe (slice a 10 2) then 2
  else if es.any (fun x => decide (6 < entryBits x)) then 3
  else if total ≠ (es.map entryBits).sum then 4
  else if 5600 * total < 92480 * slots then 5
  else if !txStretch then 6
  else 0

/-- The next TABLE_ID: 1 to 255, from 255 back to 1. -/
def nextTableId (i : Byte) : Byte := if i = 255 then 1 else i + 1

/-- Write crumb 8 of a lane's bank from its tables and its mask, keeping OTHER_HEADER (R118). -/
def saveCrumb8 (lane : Nat) (s : State) : State :=
  let x := s.stretchAt lane
  let old := s.bank.read (32 * lane + 8)
  let idOf (t : Option BitTable) : Byte := (t.map (·.id)).getD 0
  let sOf (t : Option BitTable) : Byte := (t.map (fun t => u8 t.slots)).getD 0
  let c8 := [sOf x.rxTab, sOf x.txTab, idOf x.rxTab, idOf x.txTab] ++ leInt 2 x.predMargin ++ [0, 0]
    ++ le64 (s.maskAt lane).stretch ++ List.replicate 16 0 ++ slice old 32 32
  { s with bank := s.bank.store (32 * lane + 8) c8 }

/-- Write crumbs 8, 9 and 10 of a lane's bank from its tables, keeping OTHER_HEADER (R118). -/
def saveTables (lane : Nat) (s : State) : State :=
  let x := s.stretchAt lane
  let tab (t : Option BitTable) : Bytes := match t with | some t => t.id :: t.entries | none => []
  let s1 := saveCrumb8 lane s
  { s1 with bank := (s1.bank.store (32 * lane + 9) (tab x.rxTab)).store (32 * lane + 10) (tab x.txTab) }

/-- Write the SNR record, crumbs 16 and 17 (R118). -/
def saveSnr (lane : Nat) (snr : List W16) (s : State) : State :=
  let b := slice (snr.flatMap le16) 0 512
  { s with bank := (s.bank.store (32 * lane + 16) (b.take 256)).store (32 * lane + 17) (b.drop 256) }

/-! ### The exchange, R108 -/

/-- Queue both segments of a lane's pending table to the far end. -/
def sendSegments (lane : Nat) (pick : GradePick) (s : State) : State :=
  let x := s.stretchAt lane
  match x.rxNext with
  | none => s
  | some t =>
    let far := (s.icingAt (faceOf lane)).far
    let q (k : Nat) (s : State) := icQueueAt (faceOf lane) 0x10 far (t.segment (s.farLane lane) x.predMargin k) pick 0 s
    q 1 (q 0 s)

/-- A new table takes the next TABLE_ID and is sent, with the margin that the latest SNR values predict (R105, R106,
R108). -/
def startExchange (lane : Nat) (t : BitTable) (s : State) : State :=
  let x := s.stretchAt lane
  let tab := { t with id := x.nextId }
  sendSegments lane .first (s.stretchMod lane (fun x =>
    { x with rxNext := some tab, nextId := nextTableId x.nextId, sends := 1, acked := false, count := 0,
             predMargin := minMargin (tab.margins (x.measured.map (fun v => (v.toNat : Int)))),
             phase := .exchange, reload := false }))

/-- STRETCH_FAIL, R105, R108, R121. -/
def stretchFail (lane cause : Nat) (s : State) : State := raise 0x8307 [u8 lane, u8 cause] s

/-- The receiver of a lane takes a pending table into use (R109, R110); a slot that has no block any more is parked
(R115). -/
def rxTableSwitch (lane : Nat) (t : BitTable) (s : State) : State :=
  let s1 := saveTables lane (s.stretchMod lane (fun x =>
    { x with pilotRun := 0, rxTab := some t, rxNext := none, count := 0, phase := .data, sinceChange := 0, lowRaised := false }))
  forEach ((List.range 64).map (slotOf lane)) evalMismatch s1

/-- S that a lane's transmitter has carried: its active table's, or 64 before its first. -/
def Stretch.oldS (x : Stretch) : Nat := (x.txTab.map (·.slots)).getD 64

/-- The slots of a lane that a smaller table takes away, from the multiframe that carries C2 on: those with an ADD
entry are leaving (R112, R168). -/
def startStretchLeaving (lane newS : Nat) (s : State) : State :=
  let ks := ((List.range 64).filter (fun j => decide (newS ≤ j))).map (slotOf lane)
  let adds := ks.filter (fun k => entKind (s.slotEntry k) == 2)
  forEach (adds.map (fun k => entClient (s.slotEntry k))) refreshClient
    (forEach adds (fun k t => t.txSlotMod k (fun x => { x with leaving := true })) s)

/-- One multiframe boundary of a lane whose transmitter counts down (R109, R112). -/
def countDown (lane : Nat) (s : State) : State :=
  let x := s.stretchAt lane
  match x.countTx, x.txNext with
  | some (n + 1), some t =>
    let s1 := s.stretchMod lane (fun x => { x with countTx := some n })
    if n = 2 ∧ t.slots < x.oldS then startStretchLeaving lane t.slots s1 else s1
  | _, _ => s

/-- 100 ms have passed since the direction's last table change: 120 quality periods (R116). -/
def Stretch.calm (x : Stretch) : Bool := decide (120 ≤ x.sinceChange)

/-- The direction may take a table of `slots` slots now: 100 ms after the last change, or at once for a reduction while
codewords have been uncorrectable in 2 consecutive periods (R116). -/
def Stretch.mayChange (slots : Nat) (x : Stretch) : Bool :=
  x.calm || (decide (2 ≤ x.uncorrRun) && (x.rxTab.map (fun act => decide (slots < act.slots))).getD false)

/-- A retry is counted, with its state, and LANE_ACQ_RETRY is raised (R57). -/
def countRetry (lane : Nat) (s : State) : State :=
  let r := s.rxAt lane
  let n := wrapAdd r.acqRetry 1
  raise 0x8103 ([u8 lane, r.st.code] ++ le32 n) (s.rxMod lane (fun r => { r with acqRetry := n, retrySt := r.st.code }))

/-- At the end of a quality period of a LOCKED Stretch lane: margins, and a rebuild when R116 calls for one. A run of
SWAP periods that cannot keep the active S warns once; each of its rebuilds that ends with LOW_CAPACITY counts a retry
(R105). DESIGN CHOICE (log entry 142): m(n) reads 0 where b(n) = 0 (R117). -/
def stretchQuality (lane : Nat) (snr : List W16) (uncorr : Nat) (s : State) : State :=
  let x := s.stretchAt lane
  match x.rxTab with
  | none => s
  | some act =>
    let vals := snr.map (fun v => (v.toNat : Int))
    let ms := act.margins vals
    let low := (List.range 255).filter (fun i => match ms.getD i none with
      | some m => decide (m < 64 * (x.marginMin.toNat : Int))
      | none => false)
    let swap := low.any (fun i => x.lowPrev.contains i)
    let margin := 64 * (x.margin.toNat : Int)
    let full := loadTable margin 64 vals
    let up := x.raiseEn && ((full.map (fun t => decide (act.slots + 2 ≤ t.slots))).getD false)
    let raiseRun := if up then x.raiseRun + 1 else 0
    let uncorrRun := if uncorr = 0 then 0 else x.uncorrRun + 1
    let s1 := saveSnr lane snr (s.stretchMod lane (fun x =>
      { x with snr := snr, measured := snr, margins := ms.map (·.getD 0), lowPrev := low, raiseRun := raiseRun, uncorrRun := uncorrRun,
               lowRaised := x.lowRaised && swap,
               sinceChange := min 1024 (x.sinceChange + 1) }))
    if x.rxNext.isSome then s1
    else if swap then
      let warn (t : State) : State := if x.lowRaised then t else raise 0x8306 ([u8 lane] ++ leInt 2 (minMargin ms))
        (t.stretchMod lane (fun x => { x with lowRaised := true }))
      match loadTable margin act.slots vals with
      | none => countRetry lane (stretchFail lane 0 (warn s1))
      | some t =>
        let s2 := if t.slots < act.slots then warn s1 else s1
        if (s1.stretchAt lane).mayChange t.slots then startExchange lane t s2 else s2
    else if decide (64 ≤ raiseRun) && (s1.stretchAt lane).calm then
      match full with
      | some t => startExchange lane t s1
      | none => s1
    else s1

end Sys2Proof.Machine
end

