-- ==== Sys2Proof/Machine/FrameOps.lean ====
section
/-! DEFINITION. The shared operations of the lane framers (chapter 05): the overhead header (R134) as sent and as
received (R138, R139), slot announcements (R135, R136, R164) and the counters of R145. -/

namespace Sys2Proof.Machine

/-! ### What the framer sends, R134 to R136, R164 -/

/-- The FMT byte of a lane side: mode, rate and S − 1 (R134). -/
def fmtByte (stretch half : Bool) (slots : Nat) : Byte :=
  u8 ((if stretch then 128 else 0) + (if half then 64 else 0) + (slots - 1) % 64)

/-- The slot code of an entry in force: a THROUGH entry announces what its source is routed as (R135, R164); a source not
routed yet since multiframe lock is announced as one whose lane is not in LOCKED (DEDUCED, log entry 100). -/
def State.announce (s : State) (slot : Nat) (e : W32) : W16 :=
  if entKind e = 3 then
    let src := 512 * (1 - slot / 512) + entSource e
    let x := s.rxSlotAt src
    if (s.rxAt (laneOfSlot src)).st ≠ .locked ∨ ¬ x.routed ∨ x.mismatch then 0x2000
    else if codeKind x.route = 2 ∨ codeKind x.route = 3 then BitVec.ofNat 16 (0x6000 + codeClient x.route)
    else 0x2000
  else if entKind e = 2 then BitVec.ofNat 16 (0x4000 + entClient e)
  else BitVec.ofNat 16 (0x2000 * entKind e)

/-! #### The boundaries to come, R112, R136

`ahead` counts boundaries from the present multiframe; 0 names the boundary at which it began, where a switch may still
be due. -/

/-- The host switch of a face is made by the boundary `ahead`. -/
def Face.switchedBy (x : Face) (ahead : Nat) : Bool :=
  match x.pending with
  | some b => decide (b ≤ x.mf + ahead)
  | none => false

/-- The host switch of a face falls on the boundary `ahead`. -/
def Face.switchesAt (x : Face) (ahead : Nat) : Bool := x.switchedBy ahead && (ahead == 0 || !x.switchedBy (ahead - 1))

/-- What decides the entries in force of a lane from a boundary on: its mask, S and rate. -/
structure MaskView where
  mask  : LaneMask
  slots : Nat
  half  : Bool

/-- The changes of one boundary, a table switch and a rate change before the host switch that falls with them (R112,
R136, R159). -/
def State.maskStep (s : State) (lane : Nat) (v : MaskView) (ahead : Nat) : MaskView :=
  let x := s.stretchAt lane
  let t := s.turnAt lane
  let v1 := match x.countTx, x.txNext with
    | some c, some tab =>
      if c = ahead then
        { v with
          slots := tab.slots
          mask := if tab.slots < x.oldS then { v.mask with stretch := v.mask.stretch ||| bitsFrom tab.slots } else v.mask }
      else v
    | _, _ => v
  let v2 := if t.due && t.left == ahead && t.half != v1.half then
      { v1 with
        half := t.half, slots := if t.half then 32 else 64
        mask := if t.half then { v1.mask with tier := bitsFrom 32 } else v1.mask }
    else v1
  if (s.faceAt (faceOf lane)).switchesAt ahead then
    { v2 with mask := v2.mask.afterSwitch v2.slots v2.half (decide ((s.txAt lane).st = .data)) }
  else v2

/-- The mask bits of a lane from the boundary `ahead` on. -/
def State.maskAhead (s : State) (lane ahead : Nat) : W64 :=
  ((List.range (ahead + 1)).foldl (s.maskStep lane)
    { mask := s.maskAt lane, slots := s.txS lane, half := (s.txAt lane).half }).mask.bits

/-- The copy that is ACTIVE from the boundary `ahead` on. -/
def Face.copyAhead (x : Face) (ahead : Nat) : BitVec 1 := if x.switchedBy ahead then otherCopy x.active else x.active

/-- The entry in force of a slot from the boundary `ahead` on. -/
def State.entryAhead (s : State) (slot ahead : Nat) : W32 :=
  let f := slot / 512
  let x := s.faceAt f
  if bitOf (s.maskAhead (laneOfSlot slot) ahead) (slot % 64)
      || (bitOf x.crumbFail (slot % 512 / 64) && !x.switchedBy ahead) then 0
  else s.calEntry (x.copyAhead ahead).toNat f (slot % 512)

/-- The slot code announced for a slot: ACT, NXT1 and NXT2 with `ahead` 0, 1 and 2 (R135, R136). -/
def State.codeAhead (s : State) (slot ahead : Nat) : W16 := s.announce slot (s.entryAhead slot ahead)

/-- The slot entry of 10 bytes that the framer sends for a lane slot (R135). -/
def State.slotEntryBytes (s : State) (slot : Nat) : Bytes :=
  let body := be16 (s.codeAhead slot 0) ++ be16 (s.codeAhead slot 1) ++ be16 (s.codeAhead slot 2)
    ++ [u8 (packBits [false, false, false, false, false, false, (s.rxSlotAt slot).feLast, (s.rxSlotAt slot).mismatch])]
  body ++ [0] ++ be16 (crc16 (u8 (slot % 64) :: body))

/-- Any receive slot of a lane has a mismatch. -/
def State.laneMismatch (s : State) (lane : Nat) : Bool :=
  (List.range 64).any (fun j => (s.rxSlotAt (slotOf lane j)).mismatch)

/-- FE_RX of a lane (R134). -/
def State.feRxByte (s : State) (lane : Nat) : Byte :=
  let r := s.rxAt lane
  u8 (r.st.code.toNat * 16
    + packBits [s.laneMismatch lane, (s.framerAt lane).mismatch, !r.sigDetect, decide (r.st = .locked)])

/-- CAL_SEQ with a switch that is due counted: it advances by one at a boundary where any entry of the lane changes
(R134). -/
def State.calSeqNow (s : State) (lane : Nat) : Byte :=
  (s.framerAt lane).calSeq
    + (if !(s.framerAt lane).seqDone
          && (List.range 64).any (fun j => s.entryAhead (slotOf lane j) 0 != s.slotEntry (slotOf lane j)) then 1 else 0)

/-- The header of 96 bytes that a lane's framer sends (R134, R144). -/
def State.txHeader (s : State) (lane : Nat) : Bytes :=
  let x := s.faceAt (faceOf lane)
  let t := s.txAt lane
  let r := s.rxAt lane
  let fr := s.framerAt lane
  let codes (a : Nat) : List W16 := (List.range (s.txS lane)).map (fun j => s.codeAhead (slotOf lane j) a)
  let copy (a : Nat) : Bool := x.copyAhead a == 1
  let cal := packBits [false, false, false, codes 2 != codes 1, codes 1 != codes 0, copy 2, copy 1, copy 0]
  let body := [u8 x.mf, fmtByte t.stretch t.half (s.txS lane)] ++ be16 s.nodeAddr
    ++ [u8 lane, 0x11, u8 cal, s.calSeqNow lane, s.feRxByte lane,
        if r.st = .locked then u8 (min 255 (r.quality.eqfMin.toNat / 256)) else 0]
    ++ beN 2 (min 65535 fr.feUncorr) ++ beN 2 (min 65535 fr.feSym)
    ++ [u8 (s.sys.tier.toNat * 64 + (if t.precoding then 32 else 0)), 0] ++ x.trace ++ List.replicate 58 0
  [0xE4, 0xA7, 0x2D, 0x1B] ++ body ++ be16 (crc16 body)

/-- L_GCC for S slots (R133). -/
def gccLen (slots : Nat) : Nat := min 64 (30 * slots - 96)

/-- The general channel's section with a message, or the empty message (R137); an empty one repeats the latest GCC_SEQ
(DESIGN CHOICE, log entry 103). -/
def gccSection (slots : Nat) (seq : Byte) (data : Bytes) : Bytes :=
  let body := slice ([u8 data.length, seq] ++ data) 0 (gccLen slots - 2)
  body ++ be16 (crc16 body)

/-- The overhead channel of S slots from its sections; the rest is reserved and sent as zero (R133). -/
def overheadBytes (slots : Nat) (header : Bytes) (entries : List Bytes) (gcc : Bytes) : Bytes :=
  slice (header ++ entries.flatten ++ gcc) 0 (40 * slots)

/-- The overhead channel of a multiframe with the lane's S and state, and the message taken for it (R133 to R137). DESIGN
CHOICE (log entry 145): a message that is too long for an S that has fallen since FRAME_GCC_SEND is lost, and an empty one
goes in its place. -/
def State.overhead (s : State) (lane : Nat) : Bytes :=
  let n := s.txS lane
  let f := s.framerAt lane
  let data := (f.gccNow.map (·.data)).getD []
  overheadBytes n (s.txHeader lane) ((List.range n).map (fun j => s.slotEntryBytes (slotOf lane j)))
    (gccSection n f.gccSeq (if data.length + 4 ≤ gccLen n then data else []))

/-- GCC_SEQ goes on with a message that is not empty (R137). -/
def seqAfter (seq : Byte) (m : Option Gcc) : Byte := if (m.map (·.data.isEmpty)).getD true then seq else seq + 1

/-- The overhead channel of the multiframe that begins, with the oldest message of the general channel's queue (R133,
R137, R144). -/
def formOverhead (lane : Nat) (s : State) : State :=
  if s.framesData lane then
    let s1 := s.framerMod lane (fun f =>
      { f with gccTx := f.gccTx.drop 1, gccNow := f.gccTx.head?, gccSeq := seqAfter f.gccSeq f.gccTx.head? })
    s1.framerMod lane (fun f => { f with ohTx := s1.overhead lane })
  else s.framerMod lane (fun f => { f with ohTx := [], gccNow := none })

/-- A message taken for a multiframe that is not sent waits again, the first of its queue. -/
def Framer.giveBack (f : Framer) : Framer :=
  { f with
    ohTx := [], gccNow := none, gccTx := f.gccNow.toList ++ f.gccTx
    gccSeq := if seqAfter f.gccSeq f.gccNow = f.gccSeq then f.gccSeq else f.gccSeq - 1 }

/-- The rate, mode, table or calendar of a lane changes on the boundary at which a multiframe begins: its overhead is
formed again, with the same message (R134, R136, R144). -/
def reframe (lane : Nat) (s : State) : State :=
  if (s.framerAt lane).ohTx.isEmpty then formOverhead lane s
  else if s.framesData lane then s.framerMod lane (fun f => { f with ohTx := s.overhead lane })
  else s.framerMod lane Framer.giveBack

/-! ### What the framer receives, R138, R139 -/

/-- Bits of SYNC that differ from 0xE4A7_2D1B. -/
def syncErrors (h : Bytes) : Nat :=
  let d : W32 := BitVec.ofNat 32 (ofBe (slice h 0 4)) ^^^ 0xE4A72D1B
  ((List.range 32).filter (fun i => bitOf d i)).length

/-- A header is valid (R138). -/
def headerValid (h : Bytes) (codewordsOk : Bool) : Bool :=
  let dev := (byteAt h 9).toNat
  codewordsOk && decide ((crc16 (slice h 4 90)).toNat = ofBe (slice h 94 2)) && decide (syncErrors h ≤ 2)
    && (dev == 0x11 || dev == 0x21)

/-- The lane's own FMT on its receive side. -/
def State.ownFmt (s : State) (lane : Nat) : Byte :=
  fmtByte (s.rxAt lane).stretch (s.rxAt lane).half (s.rxS lane)

/-- The expected sender of a lane (R139): node (0xFFFF = any) and lane. -/
def State.expected (s : State) (lane : Nat) : W16 × Nat :=
  match (s.framerAt lane).idExpect with
  | some (n, l) => (n, l.toNat)
  | none => if s.farFound (faceOf lane) then ((s.icingAt (faceOf lane)).far, s.farLane lane) else (0xFFFF, lane ^^^ 8)

/-- ID_MISMATCH after a valid header (R139). -/
def idCheck (lane : Nat) (node : W16) (lid : Nat) (s : State) : State :=
  let f := s.framerAt lane
  if f.idMode = 0 then s
  else
    let x := s.expected lane
    let agrees := (x.1 == 0xFFFF || x.1 == node) && x.2 == lid
    let miss := if agrees then 0 else f.missRun + 1
    let good := if agrees then f.matchRun + 1 else 0
    let new := if f.mismatch then decide (good < 4) else decide (4 ≤ miss)
    let s1 := s.framerMod lane (fun f => { f with missRun := min 4 miss, matchRun := min 4 good, mismatch := new })
    if new = f.mismatch then s1 else raise 0x8403 ([u8 lane, boolByte new] ++ le16 node ++ [u8 lid]) s1

/-- Lane map rule 2 of R255. -/
def mapFromHeader (lane : Nat) (node : W16) (lid : Nat) (s : State) : State :=
  let f := faceOf lane
  let i := s.icingAt f
  if i.far ≠ 0 ∧ i.far = node ∧ ¬ bitOf i.fixed (lane % 8) then
    s.icingMod f (fun i => { i with map := Tab.set none i.map lane (some (u8 lid)) })
  else s

/-- The fields of a valid header are taken (R138): FE_RX is compared with the latest header's. -/
def takeHeader (lane : Nat) (h : Bytes) (s : State) : State :=
  let f := s.framerAt lane
  let fe := byteAt h 12
  let node := w16Be h 6
  let lid := (byteAt h 8).toNat % 16
  let fmtRun := if byteAt h 5 = s.ownFmt lane then 0 else f.fmtRun + 1
  let s1 := s.framerMod lane (fun f => { f with header := some (slice h 4 32), age := 0, feRx := fe, fmtRun := fmtRun })
  let s2 := if f.header.isSome && (fe &&& 0x0F) != (f.feRx &&& 0x0F) then raise 0x8404 [u8 lane, fe] s1 else s1
  mapFromHeader lane node lid (idCheck lane node lid s2)

/-- Blocks that decoding, or ENFORCE, makes errored in counted codewords (R139, R141). -/
def blocksErrored (enforced : Bool) (c : FecCounts) : Nat :=
  20 * (if enforced then c.rsUncorr + (c.rsHist.take 16).sum else c.rsUncorr)

/-- Decoder counts are added to a lane's counters (R145, R420). DESIGN CHOICE (log entry 139): under ENFORCE all blocks of the
multiframe count as ID_MISMATCH stands at its end (R141). -/
def fecTally (lane : Nat) (c : FecCounts) (s : State) : State :=
  let blk := blocksErrored ((s.framerAt lane).idMode == 2 && (s.framerAt lane).mismatch) c
  let s1 := fecCount lane (fun k =>
    { k with
      innerCorr := wrapAdd k.innerCorr c.innerCorr, innerFail := wrapAdd k.innerFail c.innerFail
      innerBits := wrapAdd k.innerBits c.innerBits
      rsCw := wrapAdd k.rsCw (c.rsUncorr + (c.rsHist.take 16).sum)
      rsHist := (List.range 16).foldl (fun t n => Tab.upd 0 t n (fun v => wrapAdd v (c.rsHist.getD n 0))) k.rsHist
      rsUncorr := wrapAdd k.rsUncorr c.rsUncorr, rsSym := wrapAdd k.rsSym c.rsSym
      rsBits := wrapAdd k.rsBits c.rsBits, blkErr := wrapAdd k.blkErr blk }) s
  countSource 3 lane blk (countSource 2 lane c.rsSym (countSource 1 lane c.rsUncorr s1))

/-- The run of uncorrectable codewords that goes on after a multiframe: all of it uncorrectable, or its last run (R143). -/
def runAfter (run : Nat) (c : FecCounts) : Nat :=
  if (c.rsHist.take 16).sum = 0 then run + c.rsUncorr else c.runTail

/-- The longest run of uncorrectable codewords that ended in, or goes on after, a multiframe (R143). -/
def longestRun (run : Nat) (c : FecCounts) : Nat := max (runAfter run c) (max (run + c.runHead) c.runMax)

/-- The decoder counts of one whole multiframe (R134, R143, R145). -/
def fecAdd (lane : Nat) (c : FecCounts) (s : State) : State :=
  (fecTally lane c s).framerMod lane (fun f =>
    { f with feUncorr := c.rsUncorr, feSym := c.rsSym, uncorrRun := runAfter f.uncorrRun c })

/-- The counts of a multiframe that a loss of lock cuts short, which the spec does not give: free values (R145, log
entry 104). -/
def cutCounts (n : Nat) : FecCounts :=
  let v := Config.cutShort n
  { innerCorr := v 0, innerFail := v 1, innerBits := v 2, rsUncorr := v 3, rsSym := v 4, rsBits := v 5
    rsHist := (List.range 16).map (fun i => v (6 + i)) }

end Sys2Proof.Machine
end

