-- ==== Sys2Proof/Machine/RxOps.lean ====
section
/-! DEFINITION. The shared operations of the line receivers (chapter 02): the coefficient bank (R49 to R52), ROM
defaults (R51), the choice of path (R54), starts, retries, lock and loss of lock, and the echo search's placement. -/

namespace Sys2Proof.Machine

/-! ### The coefficient bank -/

/-- Crumb `c` of a lane's bank. -/
def bankCrumb (lane c : Nat) : Nat := 32 * lane + c
def State.bankRead (s : State) (lane c : Nat) : Bytes := s.bank.read (bankCrumb lane c)
/-- A crumb of a bank that the host writes or chooses (R52). -/
def bankWrite (lane c : Nat) (b : Bytes) (s : State) : State := { s with bank := s.bank.write (bankCrumb lane c) b }
/-- A crumb of a bank that the device rewrites from the lane's own state (R52). -/
def bankStore (lane c : Nat) (b : Bytes) (s : State) : State := { s with bank := s.bank.store (bankCrumb lane c) b }

/-- The header's fields (R49). -/
def hdrValid (h : Bytes) : Bool := byteAt h 0 == 0x5A
def hdrHalf (h : Bytes) : Bool := byteAt h 1 == 1
def hdrStretch (h : Bytes) : Bool := byteAt h 2 == 1
def hdrMse (h : Bytes) : W32 := w32At h 8

/-- A signed 16-bit value in two bytes, and back. -/
def s16 (v : Int) : Bytes := leInt 2 v
def s16At (b : Bytes) (o : Nat) : Int := (w16At b o).toInt

/-- Crumb 1: FFE taps, AGC state, timing state (the places are the model's, log entry 14). -/
def crumb1 (c : RxCoef) : Bytes :=
  c.ffe.flatMap s16 ++ leN 2 c.pga ++ s16 c.digGain ++ s16 c.freq ++ s16 c.phase
/-- Crumb 2: canceller delays and taps, ALPHA, SOFT_SHIFT (log entry 14). -/
def crumb2 (c : RxCoef) (soft : Byte) : Bytes :=
  c.groups.flatMap (fun g => leN 2 g.delay) ++ c.groups.flatMap (fun g => g.taps.flatMap s16) ++ [u8 c.alpha, soft]

/-- A tap as a crumb holds it, limited to its 10 bits (R34, R35). -/
def tap10 (b : Bytes) (o : Nat) : Int := clampInt (-512) 511 (s16At b o)

/-- A delay as a crumb holds it: one that no group can have stands for an unplaced group (R35). -/
def delayOf (d : Nat) : Nat := if within 64 4095 d then d else 0

/-- The coefficients that crumbs 1 and 2 hold; the main tap reads as 256 whatever its place holds (R33, R34). A value
that a host wrote outside its range is brought into it (DESIGN CHOICE, log entry 14). -/
def coefOf (b1 b2 : Bytes) : RxCoef :=
  { ffe := (List.range 56).map (fun i => if i = 8 then 256 else tap10 b1 (2 * i))
    pga := min 60 (leAt b1 0x70 2), digGain := s16At b1 0x72, freq := s16At b1 0x74, phase := s16At b1 0x76
    groups := (List.range 4).map (fun m =>
      { delay := delayOf (leAt b2 (2 * m) 2), taps := (List.range 8).map (fun i => tap10 b2 (8 + 16 * m + 2 * i)) })
    alpha := (byteAt b2 0x48).toNat % 64 }
/-- SOFT_SHIFT as crumb 2 holds it. -/
def softOf (b2 : Bytes) : Byte := u8 (min 15 (byteAt b2 0x49).toNat)

/-- Crumb 3: the echo search result, up to 16 echoes of falling magnitude and the flags (R39, log entry 14). -/
def crumb3 (echoes : List (Nat × Int)) (overflow uncovered : Bool) : Bytes :=
  let es := echoes.take 16
  [u8 es.length, u8 (packBits [overflow, uncovered]), 0, 0] ++ es.flatMap (fun e => leN 2 e.1 ++ s16 e.2)

/-- Crumbs 11 to 15 of a Stretch lane: FEQ and TEQ (R118). -/
def crumbs11 (x : Stretch) : List Bytes :=
  let f := slice (x.feq.flatMap s16) 0 1024
  [f.take 256, slice f 256 256, slice f 512 256, slice f 768 256, slice (x.teq.flatMap s16) 0 64]

/-- FEQ and TEQ as crumbs 11 to 15 hold them (R118). -/
def Stretch.loadEq (crumb : Nat → Bytes) (x : Stretch) : Stretch :=
  { x with feq := (List.range 510).map (fun i => s16At (crumb (11 + i / 128)) (2 * (i % 128)))
           teq := (List.range 32).map (fun i => s16At (crumb 15) (2 * i)) }

/-- The header of a snapshot (R48, R49). -/
def snapHeader (s : State) (lane : Nat) (mse : W32) (freq : W16) : Bytes :=
  let r := s.rxAt lane
  [0x5A, boolByte r.half, boolByte r.stretch, r.use.cls, boolByte r.precode, 0, 0, 0] ++ le32 mse ++ le16 freq ++ [0, 0]
    ++ le64 s.pwr.time

/-- Write the adapting state of a lane into its bank, the header last (R48, R101, R350); in Stretch mode crumbs 11 to 15,
then 8, then 0: crumbs 9 and 10 are those of the latest table switches (R109, R118). -/
def writeSnapshot (lane : Nat) (mse : W32) (freq : W16) (s : State) : State :=
  let r := s.rxAt lane
  let s1 := if r.stretch then
      saveCrumb8 lane (forEach [0, 1, 2, 3, 4] (fun i t => bankStore lane (11 + i) ((crumbs11 (s.stretchAt lane)).getD i []) t) s)
    else bankStore lane 2 (crumb2 r.coef r.use.softShift) (bankStore lane 1 (crumb1 r.coef) s)
  bankStore lane 0 (snapHeader s lane mse freq) s1

/-! ### ROM defaults, R51 -/

def romFfe (cls : Byte) : List Int :=
  let a : Int := if cls = 0 then -32 else if cls = 3 then 0 else -48
  let b : Int := if cls = 0 then -64 else if cls = 3 then -32 else -96
  let c : Int := if cls = 1 ∨ cls = 2 then 16 else 0
  [0, 0, 0, 0, 0, 0, 0, a, 256, b, c] ++ List.replicate 45 0
def romAlpha (cls : Byte) : Nat := if cls = 0 then 16 else if cls = 3 then 8 else 24
def romAcq (cls : Byte) : List Nat := if cls = 2 then [8, 8, 10] else if cls = 3 then [9, 9, 11] else [8, 9, 10]
def romTrk (cls : Byte) : List Nat := if cls = 2 then [14, 14, 16] else if cls = 3 then [15, 15, 17] else [14, 15, 16]

/-- Load the ROM default of the configured class; the settings of LANE_CONFIG take effect (R51). DESIGN CHOICE (log entry
88): R51's AGC_TARGET of 32 is used at every cold acquisition, whatever LANE_CONFIG set (R28); PGA setting, digital gain,
frequency and phase, which the ROM default does not name, stay as they were. The exponents of CLASS 3's canceller, for
which the table has a dash, are 9 and 15 (log entry 89): with the search off no group is placed. -/
def romLoad (lane : Nat) (s : State) : State :=
  (s.rxMod lane (fun r =>
    { r with
      use := { r.cfg with agcTarget := 32 }
      coef := { r.coef with ffe := romFfe r.cfg.cls, groups := [{}, {}, {}, {}], alpha := romAlpha r.cfg.cls }
      expAcq := romAcq r.cfg.cls, expTrk := romTrk r.cfg.cls, echo := {} })).stretchMod lane (fun x =>
    { x with teq := List.replicate 32 0, feq := List.replicate 510 0 })

/-! ### States and paths, R53, R54, R56, R57 -/

/-- States in which coefficients adapt (R43, R44). -/
def RxSt.adapts : RxSt → Bool
  | .ffeAdapt => true
  | .echoSearch => true
  | .mlsdTrain => true
  | .seededAdapt => true
  | .locked => true
  | _ => false

/-- Enter a state; an adapting state ends the freeze of a loss of lock (R44). -/
def rxEnter (lane : Nat) (st : RxSt) (s : State) : State :=
  s.rxMod lane (fun r =>
    { r with st := st, lossFrozen := r.lossFrozen && !st.adapts, agcRun := 0, verifying := false, checkHold := false })

/-- A cold acquisition from the ROM default of the class, from AGC (R51, R54); a running checker decodes with PRECODE,
AUTO counting as OFF (R90). -/
def coldStart (lane : Nat) (s : State) : State :=
  (rxEnter lane .agc (romLoad lane s)).rxMod lane (fun r =>
    { r with
      path := .cold, agcLimit := false
      precode := if (s.txAt lane).check.on then r.use.precode == 1 else r.precode })

/-- A canceller group converted for a rate change (R56). -/
def convertGroup (toHalf : Bool) (g : EchoGroup) : EchoGroup :=
  let d := if g.delay = 0 then 0
    else if toHalf then (if g.delay / 2 < 64 then 0 else g.delay / 2)
    else (if 4095 < 2 * g.delay then 0 else 2 * g.delay)
  { delay := d }

/-- A seeded acquisition: timing, ALPHA, precoding and AGC are kept, groups converted, the FFE from the ROM (R56). -/
def seededStart (lane : Nat) (toHalf : Bool) (s : State) : State :=
  (rxEnter lane .agc s).rxMod lane (fun r =>
    { r with
      path := .seeded, use := r.cfg, agcLimit := false, echo := {}
      coef := { r.coef with ffe := romFfe r.cfg.cls, groups := r.coef.groups.map (convertGroup toHalf) } })

/-- The bank crumbs of a list that fail their check. -/
def State.badBank (s : State) (lane : Nat) (cs : List Nat) : List Nat :=
  cs.filter (fun c => !s.bank.ok (bankCrumb lane c))

/-- The bank of lane `lane` has not been taken into use since the wake: `laneOn` holds that outside a sleep (R362). -/
def wakeCold (lane : Nat) (s : State) : State :=
  if s.pwr.cur = 1 ∧ bitOf s.pwr.laneOn lane then
    { s with pwr := { s.pwr with wakeRec := { s.pwr.wakeRec with laneCold := setBit s.pwr.wakeRec.laneCold lane true } } }
  else s

/-- Report and reject crumbs of a lane's bank (R22); after a wake the wake record says so (R362). -/
def rejectBank (lane : Nat) (cs : List Nat) (s : State) : State :=
  wakeCold lane <| forEach cs (fun c t => crumbError 0 lane (bankCrumb lane c % 32) { t with bank := t.bank.reject (bankCrumb lane c) }) s

/-- WAIT_SIGNAL with signal detect asserted: the path of R54, by the header as it stands; the crumbs that the path takes
into use are checked first (R22), those of a warm relock in WARM_VERIFY. A lane with its checker on acquires cold (R89). -/
def choosePath (lane : Nat) (s : State) : State :=
  let r := s.rxAt lane
  let h := s.bankRead lane 0
  if (s.txAt lane).check.on then coldStart lane s
  else if !hdrValid h || hdrStretch h != r.stretch then
    coldStart lane (if s.bank.ok (bankCrumb lane 0) then s else rejectBank lane [0] s)
  else if hdrHalf h = r.half then
    if s.cal.frozen then s else (rxEnter lane .warmVerify s).rxMod lane (fun r => { r with path := .warm })
  else
    let bad := s.badBank lane [0, 1, 2]
    if bad.isEmpty then
      seededStart lane r.half (s.rxMod lane (fun r =>
        { r with coef := coefOf (s.bankRead lane 1) (s.bankRead lane 2), precode := byteAt h 4 == 1 }))
    else coldStart lane (rejectBank lane bad s)

/-- What a checker has compared counts while it is in pattern lock (R90). -/
def Checker.count (c : Checker) (bits errBits errSymbols : Nat) : Checker :=
  if c.locked then
    { c with bits := satAdd c.bits bits, errBits := satAdd c.errBits errBits, errSyms := satAdd c.errSyms errSymbols }
  else c

/-- What a locked checker has compared since its counters were last brought up to date: free numbers of symbols, of
symbols in error among them, and of bits in error in those (log entry 3). -/
def Checker.upToDate (draw : Nat) (c : Checker) : Checker :=
  let n := Config.draw draw
  let e := Config.draw (draw + 1) % (n + 1)
  c.count (2 * n) (e + Config.draw (draw + 2) % (e + 1)) e

/-- A lane's checker gets no symbols any more, or is stopped: what it has compared in pattern lock is counted, and its lock
ends with TEST_CHECK_LOCK. DESIGN CHOICE (log entry 150): such an end is no loss of pattern lock that the checker counts
(R90). -/
def checkerIdle (lane : Nat) (s : State) : State :=
  if (s.txAt lane).check.locked then
    raise 0x8204 [u8 lane, 0] ({ s with free := s.free + 3 }.txMod lane (fun t =>
      { t with check := { t.check.upToDate s.free with locked := false } }))
  else s

/-- Enter WAIT_SIGNAL; with signal detect asserted and no back-off the lane chooses its path at once (R54, R57). -/
def toWait (lane : Nat) (s : State) : State :=
  let s1 := rxEnter lane .waitSignal s
  if (s1.rxAt lane).sigDetect && !(s1.rxAt lane).backoff then choosePath lane s1 else s1

/-- A warm relock ends: WARM_FAIL and a cold acquisition without WAIT_SIGNAL (R54). -/
def warmFail (lane : Nat) (s : State) : State :=
  coldStart lane (s.rxMod lane (fun r => { r with warmFail := wrapAdd r.warmFail 1 }))

/-- A retry of a cold or seeded acquisition (R57). DESIGN CHOICE (log entry 90): the waits of 1 s begin with the 8th
consecutive retry, before its own attempt. -/
def acqRetry (lane : Nat) (s : State) : State :=
  let r := s.rxAt lane
  let s2 := (countRetry lane s).rxMod lane (fun r => { r with retries := r.retries + 1 })
  let s3 := s2.stretchMod lane (fun x => { x with phase := if r.stretch then .probe else .none, rxNext := none })
  if 8 ≤ r.retries + 1 then rxEnter lane .waitSignal (s3.rxMod lane (fun r => { r with backoff := true }))
  else coldStart lane s3

/-- A receive lane is no longer in LOCKED: the codewords of the multiframe cut short are counted (R145), its framer loses
lock and its slots are handled as R180 states. -/
def unlock (lane : Nat) (s : State) : State :=
  if (s.rxAt lane).st = .locked then
    let s := fecTally lane (cutCounts s.free) { s with free := s.free + 1 }
    laneUnlocked lane ((s.framerMod lane (fun f => { f with lock := false, syncRun := 0, fmtRun := 0, uncorrRun := 0 })).rxMod lane
      (fun r => { r with echo := { r.echo with pass := 0, found := [], ramps := [] } }))
  else s

/-- Predistortion feedback owed by a lane that leaves LOCKED is answered NOT_LOCKED (R258). -/
def feedbackLost (lane : Nat) (s : State) : State :=
  let f := faceOf lane
  let owed := (s.icingAt f).fbOwed.filter (fun o => o.lane == lane)
  forEach owed (fun o t => icQueue f 0x14 o.dst ([o.txLane, o.fbSeq, 1] ++ List.replicate 136 0) t)
    (s.icingMod f (fun i => { i with fbOwed := i.fbOwed.filter (fun o => o.lane != lane) }))

/-- The lane leaves LOCKED for a state without a count or event (R58, R59, R346, R458, R460). -/
def leaveQuietly (lane : Nat) (st : RxSt) (s : State) : State :=
  rxEnter lane st (feedbackLost lane (unlock lane s))

/-- A loss-of-lock condition is declared in LOCKED (R58); with a rate change awaited the lane goes to the seeded
acquisition at the new rate without a count (R381). -/
def loseLock (lane : Nat) (cause : BitVec 2) (s : State) : State :=
  let s1 := feedbackLost lane (unlock lane s)
  let t := s.turnAt lane
  if t.await then seededStart lane t.half (s1.rxMod lane (fun r => { r with half := t.half }))
  else toWait lane (s1.rxMod lane (fun r =>
    { r with lockLoss := wrapAdd r.lockLoss 1, loss := some cause, lossFrozen := true }))

/-- The cause higher in the table of R58. -/
def higherCause (a b : BitVec 2) : BitVec 2 := if a.toNat ≤ b.toNat then a else b

/-- A loss-of-lock condition, which waits for a snapshot being written (R48); once the lane has left LOCKED a condition
higher in the table becomes the cause until it is settled (R58). -/
def declareLoss (lane : Nat) (cause : BitVec 2) (s : State) : State :=
  let r := s.rxAt lane
  if r.st = .locked then
    if r.snapBusy then s.rxMod lane (fun r => { r with defLoss := some (match r.defLoss with | some c => higherCause c cause | none => cause) })
    else loseLock lane cause s
  else match r.loss with
  | some c => s.rxMod lane (fun r => { r with loss := some (higherCause c cause) })
  | none => s

/-- The lane is LOCKED: counters of the guard and the quality period start, LANE_LOCKED and in Stretch mode its entry
event are raised, THROUGH stores fed from it start (R53, R60, R177). -/
def enterLocked (lane : Nat) (s : State) : State :=
  let r := s.rxAt lane
  let s1 := (rxEnter lane .locked s).rxMod lane (fun r =>
    { r with
      retries := 0, guard := { frozen := r.guard.frozen, eqfRaised := r.guard.eqfRaised, trips := r.guard.trips }
      quality := { r.quality with period := 0 }, echo := { r.echo with pass := 0, found := [], ramps := [] } })
  let s2 := laneRelocked lane { s1 with pwr := { s1.pwr with laneOn := setBit s1.pwr.laneOn lane false } }
  let s3 := raise 0x8101 [u8 lane, boolByte r.stretch, boolByte r.half, boolByte (r.path == .warm)] s2
  let t := s3.turnAt lane
  let s4 := if t.await && t.half == r.half then s3.turnMod lane (fun t => { t with await := false }) else s3
  let x := s4.stretchAt lane
  if x.announce then
    raise (if r.stretch then 0x8302 else 0x8303) (if r.stretch then [u8 lane, u8 (s4.rxS lane), u8 (s4.txS lane)] else [u8 lane])
      (s4.stretchMod lane (fun x => { x with announce := false }))
  else s4

/-- An acquisition state, which loss of signal ends (R57). -/
def RxSt.acquires : RxSt → Bool
  | .off => false
  | .waitSignal => false
  | .locked => false
  | .parked => false
  | _ => true

/-- A lane's receive side takes a rate that was not negotiated (R381 FORCE): a LOCKED lane loses its framing (R143), an
acquiring lane chooses its path again (R54). -/
def rxRate (lane : Nat) (half : Bool) (s : State) : State :=
  let r := s.rxAt lane
  if r.half = half then s
  else
    let s1 := s.rxMod lane (fun r => { r with half := half })
    if r.st = .locked then declareLoss lane 2 s1 else if r.st.acquires then toWait lane s1 else s1

/-- Enter ALIGN with the first precoding setting to try (R42). DESIGN CHOICE (log entry 91): a seeded acquisition, which
keeps PRECODE (R56), tries the setting of R42 first as every acquisition does. -/
def toAlign (lane : Nat) (s : State) : State :=
  (rxEnter lane .align s).rxMod lane (fun r =>
    { r with otherTried := false, precode := if r.stretch then false else if r.use.precode = 0 then false else if r.use.precode = 1 then true else r.negotiated })

/-- The exit condition of MLSD_TRAIN is met: ALIGN follows, and a lane with its checker on stays and tracks (R53, R89). -/
def trained (lane : Nat) (s : State) : State :=
  if (s.txAt lane).check.on then s.rxMod lane (fun r => { r with checkHold := true }) else toAlign lane s

/-- LANE_STOP at once (R59); a loss of lock that the lane has counted is still reported (R58). DESIGN CHOICE (log entry 149):
the lane's pattern checker stays enabled. -/
def stopLane (lane : Nat) (s : State) : State :=
  (leaveQuietly lane .off (checkerIdle lane s)).rxMod lane (fun r => { r with backoff := false, retries := 0 })

/-- The header exchange of a hand-over (R119): crumb 8 takes the header of crumb 0, crumb 0 what crumb 8 held. -/
def exchangeHeaders (l : Nat) (s : State) : State :=
  let other := slice (s.bankRead l 8) 32 32
  let s1 := bankStore l 8 (putAt (s.bankRead l 8) 32 (slice (s.bankRead l 0) 0 32)) s
  bankStore l 0 other s1

/-- A lane's receiver changes mode: headers are exchanged and the lane acquires under R54; a lane in LOCKED loses its
framing (R58), once a snapshot being written is whole (R48). -/
def rxMode (l : Nat) (stretch : Bool) (s : State) : State :=
  let r := s.rxAt l
  if r.st = .locked ∧ r.snapBusy then s.rxMod l (fun r => { r with defMode := some stretch })
  else
    let s1 := (exchangeHeaders l s).stretchMod l (fun x =>
      { x with rxTab := none, rxNext := none, count := 0, acked := false, reload := false, announce := true
               phase := if stretch then .probe else .none })
    let set (t : State) := t.rxMod l (fun r => { r with stretch := stretch, half := !stretch && decide (s.sys.tier = 1) })
    if r.st = .locked then
      toWait l ((set (feedbackLost l (unlock l s1))).rxMod l (fun r =>
        { r with lockLoss := wrapAdd r.lockLoss 1, loss := some 2, lossFrozen := true }))
    else if r.st.acquires then toWait l (set s1) else set s1

/-- A mode change that waited for a snapshot is made (R48). -/
def rxModeDue (l : Nat) (s : State) : State :=
  match (s.rxAt l).defMode with
  | some m => rxMode l m (s.rxMod l (fun r => { r with snapBusy := false, defMode := none }))
  | none => s

/-- The receive domains of a lane power down: the capture memory and signal detect are lost (R63, R337). -/
def rxPowerDown (l : Nat) (s : State) : State := s.rxMod l (fun r => { r with cap := {}, sigDetect := false })

/-- A park completes: the transmitter is in HIZ, and the lane's four domains power down (R346). -/
def parkEnd (lane : Nat) (s : State) : State :=
  raise 0x8E03 [u8 lane, 1]
    ((rxPowerDown lane (txPowerDown lane (txEnter lane .hiz (captureDown lane s)))).setPd (laneDomains lane) false)

/-! ### Echo placement, R36 to R38 -/

/-- The threshold in use, in dB; none = search off. -/
def RxCfg.echoLimit (c : RxCfg) : Option Int :=
  if c.cls = 3 then none
  else if c.echoThresh ≠ 0 then some c.echoThresh.toInt
  else if c.cls = 2 then some (-40) else some (-36)

/-- A group covers a delay. -/
def EchoGroup.covers (g : EchoGroup) (d : Nat) : Bool := g.delay != 0 && decide (g.delay ≤ d) && decide (d ≤ g.delay + 7)

/-- Put an echo into a list of falling magnitude, the lower delay first on a tie. -/
def insertEcho (e : Nat × Int) : List (Nat × Int) → List (Nat × Int)
  | [] => [e]
  | x :: r => if x.2 < e.2 ∨ (x.2 = e.2 ∧ e.1 < x.1) then e :: x :: r else x :: insertEcho e r
/-- Echoes in order of falling magnitude. -/
def sortEchoes (l : List (Nat × Int)) : List (Nat × Int) := l.foldl (fun a e => insertEcho e a) []

/-- The delay of a group placed for an earliest echo (R37 step 3). -/
def groupDelay (e : Nat) : Nat := max 64 (min 4095 (e - 2))

/-- The delay of a group placed to cover echo `d` and other qualifying echoes it can also cover (R37 step 3). DESIGN CHOICE
(log entry 92): where echoes before and after `d` cannot all be covered with it, the group is placed for the earliest echo
whose group still covers `d`. -/
def placeDelay (quals : List Nat) (d : Nat) : Nat :=
  groupDelay ((quals.filter (fun q => decide (64 ≤ q) && decide (q ≤ d) && decide (d ≤ groupDelay q + 7))).foldl min d)

/-- Place free groups for the echoes in order; the flag tells whether one was left uncovered. -/
def placeGroups (quals : List Nat) : List (Nat × Int) → List EchoGroup → List EchoGroup × Bool
  | [], gs => (gs, false)
  | e :: r, gs =>
    if gs.any (fun g => g.covers e.1) then placeGroups quals r gs
    else match gs.findIdx? (fun g => g.delay == 0) with
    | some i => placeGroups quals r (gs.set i { delay := placeDelay (quals.filter (fun q => !gs.any (fun g => g.covers q))) e.1 })
    | none =>
      let q := placeGroups quals r gs
      (q.1, true)

/-- The largest tap of a group. -/
def EchoGroup.peak (g : EchoGroup) : Nat := (g.taps.map Int.natAbs).foldl max 0

/-- The placed group whose largest tap is smallest: its index; the lowest one of equal groups (DESIGN CHOICE, log entry
135). -/
def weakestGroup (gs : List EchoGroup) : Nat :=
  ((List.range gs.length).foldl (fun (a : Option Nat) i =>
    match a with
    | none => some i
    | some j => if ((gs.getD i {}).peak) < ((gs.getD j {}).peak) then some i else some j) none).getD 0

/-- An echo of `mag` dB exceeds a tap of `peak`/1,024 by 6 dB or more (R38): 10^((mag − 6)/20) ≥ peak/1,024. -/
def exceeds6 (mag : Int) (peak : Nat) : Bool :=
  decide (10 ^ (6 - mag).toNat * peak ^ 20 ≤ 10 ^ (mag - 6).toNat * 1024 ^ 20)

/-- A qualifying uncovered echo of the background search: a free group is placed for it, or the weakest group is
relocated (R38). -/
def backgroundEcho (quals : List Nat) (r : Rx) (e : Nat × Int) : Rx :=
  let gs := r.coef.groups
  if gs.any (fun g => g.covers e.1) then r
  else match gs.findIdx? (fun g => g.delay == 0) with
  | some i =>
    { r with coef := { r.coef with groups := gs.set i { delay := placeDelay (quals.filter (fun q => !gs.any (fun g => g.covers q))) e.1 } } }
  | none =>
    let i := weakestGroup gs
    if exceeds6 e.2 ((gs.getD i {}).peak) && !(r.echo.ramps.any (fun p => p.1 == i)) then
      { r with echo := { r.echo with ramps := r.echo.ramps ++ [(i, 16, placeDelay quals e.1)] } }
    else r

end Sys2Proof.Machine
end

