-- ==== Sys2Proof/Machine/CalOps.lean ====
section
/-! DEFINITION. Trims, the Acsor image, conditions and figures of calibration runs (chapter 12). A trim's index is its
image offset less 0x0040. -/

namespace Sys2Proof.Machine

/-- Change the calibration unit. -/
def calMod (f : Cal → Cal) (s : State) : State := { s with cal := f s.cal }

/-! ### The Acsor image, R324, R325 -/

/-- Where IMG_CRC stands, and the octets it covers. -/
def imgBody (img : Bytes) : Bytes := slice img 0 0x1FFE
def imgCrc (img : Bytes) : W16 := w16At img 0x1FFE

/-- Write an image into NVM. -/
def nvmWrite (img : Bytes) (s : State) : State := calMod (fun c => { c with nvm := Tab.ofList 0 0 (slice img 0 0x2000) }) s

/-- The first check of R325 that an image fails: 0 = MAGIC, 1 = DIE_ID, 2 = IMG_CRC. -/
def imageCheck (img : Bytes) : Option Byte :=
  if w32At img 0 ≠ 0x41435352 then some 0
  else if w64At img 8 ≠ Config.dieId then some 1
  else if crc16 (imgBody img) ≠ imgCrc img then some 2
  else none

/-- WRITE_COUNT of the stored image. -/
def State.writeCount (s : State) : W16 := w16At s.nvmImage 6

/-- The number of trims. -/
def trimCount : Nat := 3904

/-- The trim of an image. -/
def trimOf (img : Bytes) (i : Nat) : Byte := byteAt img (0x40 + i)

/-- An image with its CRC computed. -/
def sealImage (img : Bytes) : Bytes := let b := imgBody img; b ++ le16 (crc16 b)

/-- An image as it is written into NVM: reserved bytes and bits are zero (R324), and IMG_CRC is computed. -/
def cleanImage (img : Bytes) : Bytes :=
  sealImage (slice img 0 0x19 ++ List.replicate 7 0 ++ slice img 0x20 0xF60
    ++ (List.range 16).flatMap (fun l => slice img (0xF80 + 16 * l) 12 ++ [byteAt img (0xF8C + 16 * l) &&& 3, 0, 0, 0])
    ++ List.replicate 3966 0)

/-! ### Figures, R335 -/

/-- The figures of a part's key; none where no figures are held. -/
def Figs.part (g : Figs) (key : Nat) : Option PartFigs := Tab.get none g.parts key

/-- The keys of a lane's parts: its ADC, its DAC, and its 12 outputs in 3 ranges. -/
def laneKeys (lane : Nat) : List Nat := [lane, 16 + lane] ++ (List.range 36).map (fun i => 32 + 36 * lane + i)

/-- The 16 bytes of a lane's QUALITY entry: BIAS_RESID is the largest over its bias parts, FLAGS those of any of its parts;
figures that are not held read 0 (log entry 154). -/
def Figs.bytes (g : Figs) (lane : Nat) : Bytes :=
  let at_ (k : Nat) : PartFigs := (g.part k).getD {}
  let held := (laneKeys lane).filterMap g.part
  let bias := (((laneKeys lane).drop 2).map (fun k => (at_ k).first.toNat)).foldl max 0
  le16 (at_ lane).first ++ le16 (at_ (16 + lane)).first ++ le16 (at_ lane).second ++ le16 (at_ (16 + lane)).second
    ++ leN 2 bias ++ le16 (if held.isEmpty then 0 else Tab.get 0 g.temps lane)
    ++ [u8 (packBits [held.any (·.partial_), held.any (·.limit)]), 0, 0, 0]

/-- The lane and the kind of a part's key. -/
def keyLane (key : Nat) : Nat := if key < 32 then key % 16 else (key - 32) / 36
def keyKind (key : Nat) : Nat := if key < 16 then 0 else if key < 32 then 1 else 2

/-- The number of part keys. -/
def keyCount : Nat := 608

/-- The figures that the QUALITY entries of an image hold; each part takes its lane's. -/
def imageFigs (img : Bytes) : Figs :=
  let at_ (l o : Nat) : W16 := w16At img (0xF80 + 16 * l + o)
  { parts := Tab.ofList none 0 ((List.range keyCount).map (fun k =>
      let l := keyLane k
      let fl := byteAt img (0xF8C + 16 * l)
      let v := match keyKind k with
        | 0 => (at_ l 0, at_ l 4)
        | 1 => (at_ l 2, at_ l 6)
        | _ => (at_ l 8, 0)
      some { first := v.1, second := v.2, partial_ := bitOf fl 0, limit := bitOf fl 1 }))
    temps := Tab.ofList 0 0 ((List.range 16).map (fun l => at_ l 10)) }

/-- The USER image of R326. -/
def State.userImage (s : State) (label : Bytes) : Bytes :=
  sealImage (leN 4 0x41435352 ++ [1, 2] ++ le16 (s.writeCount + 1) ++ le64 Config.dieId ++ le64 s.pwr.time ++ [0xC2]
    ++ List.replicate 7 0 ++ slice label 0 32 ++ (List.range trimCount).map (Tab.get 0 s.cal.trims)
    ++ (List.range 16).flatMap s.cal.qual.bytes ++ List.replicate 3966 0)

/-- Load every trim of the image as its in-force value where it passes its checks, and 0 for every trim where it does
not (R325). -/
def loadTrims (s : State) : State :=
  let img := s.nvmImage
  let ok := imageCheck img = none
  calMod (fun c =>
    { c with
      trims := if ok then Tab.ofList 0 0 ((List.range trimCount).map (trimOf img)) else []
      qual := if ok then imageFigs img else {}
      pending := []
      qualP := {} }) s

/-- Every trim of the image becomes a pending value (R328, R329). -/
def imagePending (img : Bytes) (s : State) : State :=
  calMod (fun c =>
    { c with
      pending := Tab.ofList none 0 ((List.range trimCount).map (fun i => some { value := trimOf img i }))
      qualP := imageFigs img }) s

/-! ### Kinds and parts, R322, R330 -/

/-- The kind of a trim: 0 = ADC, 1 = DAC, 2 = BIAS. -/
def trimKind (i : Nat) : Nat := if i < 3072 then 0 else if i < 3328 then 1 else 2

/-- What a trim of value `v` shifts its part by (R322), as a numerator and a denominator: ADC codes for an offset, a ratio
for a gain, femtoseconds for a skew, DAC codes, or bias codes. -/
def trimEffect (i : Nat) (v : Byte) : Int × Nat :=
  match trimKind i with
  | 0 =>
    match i % 3 with
    | 0 => (v.toInt, 16)
    | 1 => (v.toInt, 10000)
    | _ => (20 * v.toInt, 1)
  | 1 => (v.toInt, 64)
  | _ => (v.toInt, 4)

/-- The part of a run that measures a trim: a lane, or 3n + r. -/
def trimPart (i : Nat) : Nat := if i < 3072 then i / 192 else if i < 3328 then (i - 3072) / 16 else i - 3328

/-- The key of a part's figures, and that of the part that measures a trim. -/
def partKey (kind p : Nat) : Nat := 16 * kind + p
def trimKey (i : Nat) : Nat := partKey (trimKind i) (trimPart i)

/-- The condition of a part's measurement (R330). -/
def State.partOk (s : State) (kind : Nat) (background : Bool) (p : Nat) : Bool :=
  if kind = 0 then
    s.rxOn p && (if background then (s.rxAt p).st == .locked else (s.rxAt p).st == .off)
  else if kind = 1 then
    s.rxOn p && s.txOn p && (s.rxAt p).st == .off && (s.txAt p).st == .quiet && (s.txAt p).set.loopback == 0
  else s.coreOn (p / 144) && (s.biasAt (p / 3)).st == .hiz

/-- The run of a kind. -/
def State.calRun (s : State) (kind : Nat) : Option CalRun := Tab.get none s.cal.runs kind

/-- The parts of a run in ascending order (R330). -/
def calParts (kind : Nat) (set : BitVec 192) (ranges : BitVec 3) : List Nat :=
  if kind = 2 then
    (List.range 576).filter (fun p => bitOf set (p / 3) && bitOf ranges (p % 3))
  else (List.range 16).filter (bitOf set)

/-- The part at the front of a run has ended with a code (R331). -/
def CalRun.done (p : Nat) (code : BitVec 2) (r : CalRun) : CalRun :=
  { r with parts := r.parts.drop 1, results := Tab.set 0 r.results p code }

/-- RESULT of CAL_RUN_DONE: two bits for each of the parts 0 to 191; later parts are not reported (R401). -/
def resultBytes (t : Tab (BitVec 2)) : Bytes :=
  (List.range 48).map (fun k => u8 (((List.range 4).map (fun j => (Tab.get 0 t (4 * k + j)).toNat * 4 ^ j)).sum))

/-- A run ends (R330, R331, R323). -/
def calRunEnd (kind cause : Nat) (s : State) : State :=
  match s.calRun kind with
  | none => s
  | some r =>
    raise 0x8D01 ([u8 kind, u8 cause] ++ resultBytes r.results)
      (calMod (fun c => { c with runs := Tab.set none c.runs kind none }) s)

/-- Parts whose condition fails when their turn comes are skipped with NOT_READY; a run with none left ends. -/
def calSkip (kind : Nat) : Nat → State → State
  | 0, s => s
  | n + 1, s =>
    match s.calRun kind with
    | none => s
    | some r =>
      match r.parts with
      | [] => calRunEnd kind 0 s
      | p :: _ =>
        if s.partOk kind r.background p then s
        else calSkip kind n (calMod (fun c =>
          { c with runs := Tab.set none c.runs kind (some (r.done p 3)) }) s)

/-! ### Measured figures, R331, R335 -/

/-- A signed 16-bit figure. -/
def fig (v : W16) : Int := v.toInt

/-- A figure of the kind lies outside its limit. -/
def limitFails (kind : Nat) (r : CalPart) : Bool :=
  if kind = 0 then decide (-608 < fig r.spur) || decide (-704 < fig r.adcResid)
  else if kind = 1 then decide (r.eyeW.toNat < 450) || decide (32 < r.dacInl.toNat)
  else decide (32 < r.biasResid.toNat)

/-- The figures that a run of the kind measures of a part. -/
def partFigs (kind : Nat) (r : CalPart) (partial_ : Bool) : PartFigs :=
  let v := match kind with
    | 0 => (r.spur, r.adcResid)
    | 1 => (r.eyeW, r.dacInl)
    | _ => (r.biasResid, 0)
  { first := v.1, second := v.2, partial_ := partial_, limit := limitFails kind r }

/-- The pending figures of a part are measured anew. -/
def Figs.put (key : Nat) (f : PartFigs) (temp : W16) (g : Figs) : Figs :=
  { parts := Tab.set none g.parts key (some f), temps := Tab.set 0 g.temps (keyLane key) temp }

/-- The figures of the parts named pass from the pending set to that in force. -/
def Figs.take (keys : List Nat) (new old : Figs) : Figs :=
  { parts := keys.foldl (fun t k => Tab.set none t k (new.part k)) old.parts
    temps := keys.foldl (fun t k => Tab.set 0 t (keyLane k) (Tab.get 0 new.temps (keyLane k))) old.temps }

/-- The figures of the keys that satisfy `p` stay. -/
def Figs.only (p : Nat → Bool) (g : Figs) : Figs := { g with parts := g.parts.filter (fun x => p x.1) }

/-- A background value lies within 4 LSB of the in-force trim (R330): the value, and whether it was limited. -/
def nearTrim (now v : Byte) : Byte × Bool :=
  let x := clampInt (max (-128) (now.toInt - 4)) (min 127 (now.toInt + 4)) v.toInt
  (BitVec.ofInt 8 x, decide (x ≠ v.toInt))

/-! ### Sleep, R323, R326, R333 -/

/-- A sleep abandons runs and discards pending values (R323, R344). -/
def calDrop (s : State) : State :=
  calMod (fun c => { c with pending := [], qualP := {} }) (forEach [0, 1, 2] (fun k => calRunEnd k 2) s)

/-- A strobe that is not made by then is dropped with its freeze (R333). -/
def strobeDrop (s : State) : State :=
  match s.cal.strobe with
  | some t => if t.made then s else calMod (fun c => { c with strobe := none, frozen := false }) s
  | none => s

/-- The codewords counted since the commit of each lane in LOCKED (R333). -/
def State.uncorrBytes (s : State) (t : Tab Nat) : Bytes :=
  (List.range 16).flatMap (fun l => leN 4 (if (s.rxAt l).st = .locked then Tab.get 0 t l else 0))

/-- A strobe that has been made is over: CAL_APPLIED (R333). -/
def strobeEnd (t : Strobe) (s : State) : State :=
  raise 0x8D02 ([u8 t.at_, u8 t.applied.toNat, u8 t.heldBack.toNat] ++ s.uncorrBytes t.uncorr)
    (calMod (fun c => { c with strobe := none, frozen := false }) s)

/-- The calibration timing stops for a sleep: a strobe not made is dropped, and one that has been made is over (R333,
log entry 155). -/
def strobeStop (s : State) : State :=
  match (strobeDrop s).cal.strobe with
  | some t => strobeEnd t s
  | none => strobeDrop s

/-- A store in progress is abandoned: the image is left with a failing IMG_CRC (R326). -/
def storeDrop (s : State) : State := calMod (fun c => { c with store := none }) s

end Sys2Proof.Machine
end

