-- ==== Sys2Proof/Machine/Calibration.lean ====
section
/-! DEFINITION. The commands and events of calibration (chapter 12). -/

namespace Sys2Proof.Machine

/-- CAL_RUN, R330. -/
def cmdCalRun (kind mode action : Byte) (set : Bytes) (ranges : Byte) (s : State) : Cmd :=
  let k := kind.toNat
  let v : BitVec 192 := BitVec.ofNat 192 (ofLe set)
  { ready := !s.stopped 1
    form := if set.length = 24 then none else some .badLength
    range := decide (k ≤ 2) && isFlag mode && isFlag action && (mode == 0 || k == 0)
      && (k == 2 || decide (v.toNat < 65536)) && (k != 2 || decide (ranges.toNat ≤ 7))
    run := fun _ =>
      if action = 1 then
        if (s.calRun k).isNone then deny .busy s else ok (calRunEnd k 1 s)
      else if (s.calRun k).isSome then deny .busy s
      else
        let r : CalRun := { background := mode == 1, set := v, ranges := ranges.setWidth 3,
                            parts := calParts k v (ranges.setWidth 3) }
        ok (calSkip k 577 (calMod (fun c => { c with runs := Tab.set none c.runs k (some r) }) s)) }
def execCalRun (kind mode action : Byte) (set : Bytes) (ranges : Byte) (s : State) : Result :=
  parax 0x0D01 (cmdCalRun kind mode action set ranges) s

/-- A lane is in a warm relock (R332). -/
def State.warmRelock (s : State) (lane : Nat) : Bool :=
  let r := s.rxAt lane
  r.path == .warm && r.st != .off && r.st != .waitSignal && r.st != .locked && r.st != .parked

def State.anyWarm (s : State) : Bool := (List.range 16).any s.warmRelock

/-- The boundaries that R332 leaves to choose from, of face East: from the third after the multiframe of acceptance to the
229th, which is the last that can lie within 3 ms. -/
def strobeSpan : Nat := 227

/-- The first boundary of R332 from which on no lane is in a warm relock, counted from the third: the third itself where
none is now, and else a free value, for how long a warm relock lasts is open (log entry 21); none without RSYN. -/
def State.strobeAfter (s : State) : Option Nat × State :=
  if !s.sys.rsynLock then (none, s)
  else if !s.anyWarm then (some 0, s)
  else
    let d := s.drawBelow (strobeSpan + 1)
    (if d.1 < strobeSpan then some d.1 else none, d.2)

/-- CAL_APPLY, R332; a strobe that is scheduled or frozen keeps the next one waiting (log entry 21). -/
def cmdCalApply (kinds flags : Byte) (s : State) : Cmd :=
  let m := (s.faceAt 0).mf
  { ready := !s.stopped 1
    range := within 1 7 kinds.toNat && flagsOk 1 flags
    run := fun _ =>
      if s.cal.strobe.isSome then deny .busy s
      else match s.strobeAfter with
      | (none, t) => deny .busy t
      | (some k, t) => okWith [u8 (m + 3 + k)] (calMod (fun c =>
          { c with strobe := some { at_ := m + 3 + k, since := m, kinds := kinds.setWidth 3, force := bitOf flags 0 } }) t) }
def execCalApply (kinds flags : Byte) (s : State) : Result := parax 0x0D02 (cmdCalApply kinds flags) s

/-- CAL_DISCARD, R334. -/
def cmdCalDiscard (kinds : Byte) (s : State) : Cmd :=
  { range := within 1 7 kinds.toNat
    run := fun _ =>
      let late := match s.cal.strobe with
        | some t => t.committed && !t.made && (t.kinds &&& kinds.setWidth 3) != 0
        | none => false
      if late then deny .tooLate s
      else ok (calMod (fun c =>
        { c with
          pending := c.pending.filter (fun p => !bitOf kinds (trimKind p.1))
          qualP := c.qualP.only (fun k => !bitOf kinds (keyKind k)) }) s) }
def execCalDiscard (kinds : Byte) (s : State) : Result := parax 0x0D03 (cmdCalDiscard kinds) s

/-- CAL_STATUS of the calibration group, R335. -/
def cmdCalStatusCalibration (buf : W32) (s : State) : Cmd :=
  let img := s.nvmImage
  { range := respRange buf 6 512
    run := fun _ => respond buf
      ([boolByte (imageCheck img == none), byteAt img 5] ++ le16 s.writeCount
        ++ [boolByte s.cal.exported, u8 (packBits ((List.range 3).map (fun k => (s.calRun k).isSome)))])
      ((List.range 16).flatMap s.cal.qual.bytes ++ (List.range 16).flatMap s.cal.qualP.bytes) s }
def execCalStatusCalibration (buf : W32) (s : State) : Result := parax 0x0D04 (cmdCalStatusCalibration buf) s

/-- CAL_LOAD, R329. -/
def cmdCalLoad (s : State) : Cmd :=
  { ready := !s.stopped 1
    run := fun _ =>
      let img := s.nvmImage
      if imageCheck img = none then ok (imagePending img s) else deny .image s }
def execCalLoad (s : State) : Result := parax 0x0D05 cmdCalLoad s

/-- The conditions under which NVM may be written (R326), in its order. -/
def State.storeCheck (s : State) (count : W16) (id : W32) (force : Bool) : Option Status :=
  if count ≠ s.writeCount ∨ id ≠ Config.dieId.setWidth 32 then some .confirm
  else if !(s.cal.exported || force) then some .notExported
  else if 100 ≤ s.writeCount.toNat then some .worn
  else if s.pwr.holdLow || s.cal.store.isSome then some .busy
  else none

/-- A store begins: the previous image is gone, and IMG_CRC fails until it ends (R326). -/
def storeBegin (img : Bytes) (write : Bool) (s : State) : State :=
  calMod (fun c => { c with store := some (img, write) })
    (nvmWrite (imgBody img ++ le16 (~~~imgCrc img)) s)

/-- CAL_STORE, R326. -/
def cmdCalStore (confirmCount : W16) (confirmId : W32) (flags : Byte) (label : Bytes) (s : State) : Cmd :=
  { form := if label.length = 32 then none else some .badLength
    ready := !s.stopped 1
    range := flagsOk 1 flags
    run := fun _ => match s.storeCheck confirmCount confirmId (bitOf flags 0) with
      | some st => deny st s
      | none => ok (storeBegin (s.userImage label) false s) }
def execCalStore (confirmCount : W16) (confirmId : W32) (flags : Byte) (label : Bytes) (s : State) : Result :=
  parax 0x0D06 (cmdCalStore confirmCount confirmId flags label) s

/-- CAL_IMAGE_WRITE, R328. -/
def cmdCalImageWrite (confirmCount : W16) (confirmId : W32) (flags : Byte) (addr : W32) (s : State) : Cmd :=
  { ready := !s.stopped 1
    range := flagsOk 1 flags && bufOk addr 0x2000
    run := fun _ => match s.storeCheck confirmCount confirmId (bitOf flags 0) with
      | some st => deny st s
      | none =>
        let img := s.mcpRead (winToSram addr.toNat) 0x2000
        let s1 := s.afterRead (winToSram addr.toNat) 0x2000
        if imageCheck img ≠ none ∨ byteAt img 4 ≠ 1 then deny .image s1
        else ok (storeBegin (cleanImage (putAt img 6 (le16 (s.writeCount + 1)))) true s1) }
def execCalImageWrite (confirmCount : W16) (confirmId : W32) (flags : Byte) (addr : W32) (s : State) : Result :=
  parax 0x0D07 (cmdCalImageWrite confirmCount confirmId flags addr) s

/-- CAL_IMAGE_EXPORT, R327, R418. -/
def cmdCalImageExport (dma : Byte) (addr : W32) (s : State) : Cmd :=
  { waits := true
    range := decide (dma.toNat < 16) && bufOk addr 0x2000
    run := fun _ =>
      if !(s.chanAt dma.toNat).free then deny .busy s
      else ok (dmaCommand dma.toNat 0x0D08 { src := .image, addr := addr.toNat, n := 0x2000 } [] s) }
def execCalImageExport (dma : Byte) (addr : W32) (s : State) : Result := parax 0x0D08 (cmdCalImageExport dma addr) s

/-! ### Events -/

/-- The trims of a part become pending (R330, R331): the table, and whether a background value was limited. -/
def partTrims (kind p : Nat) (background limit : Bool) (now : Tab Byte) (ts : List (Nat × Byte))
    (pend : Tab (Option Pend)) : Tab (Option Pend) × Bool :=
  (ts.filter (fun t => decide (t.1 < trimCount) && trimKind t.1 == kind && trimPart t.1 == p)).foldl (fun a t =>
    let v := if background then nearTrim (Tab.get 0 now t.1) t.2 else (t.2, false)
    (Tab.set none a.1 t.1 (some { value := v.1, limitFail := limit, oos := !background }), a.2 || v.2)) (pend, false)

/-- A part of a run has been measured (R331). -/
def calPart (kind p : Nat) (r : CalRun) (res : CalPart) (s : State) : State :=
  let limit := limitFails kind res
  let t := partTrims kind p r.background limit s.cal.trims res.trims s.cal.pending
  let key := partKey kind p
  let code : BitVec 2 := if limit then 2 else if t.2 then 1 else 0
  calMod (fun c =>
    { c with
      pending := t.1
      qualP := c.qualP.put key (partFigs kind res t.2) res.temp
      runs := Tab.set none c.runs kind (some (r.done p code)) }) s

/-- CAL_RUN_PART_END, R331. -/
def execCalRunPartEnd (kind : BitVec 2) (result : CalPart) (s : State) : Result :=
  let k := kind.toNat
  eventIf (s.calRun k).isSome (fun s => match s.calRun k with
    | none => s
    | some r => match r.parts with
      | [] => calRunEnd k 0 s
      | p :: _ => calSkip k 577 (if s.partOk k r.background p then calPart k p r result s else s)) s

/-- A lane in a warm relock one multiframe before S moves S on by one, as long as S then lies within 3 ms of acceptance:
228 multiframes always do, the 229th by where in its multiframe the command was accepted, a free value. With no boundary
left the strobe is dropped and its values stay pending (log entry 21). -/
def strobeLater (t : Strobe) (s : State) : State :=
  let d := if t.at_ < t.since + 228 then (1, s) else if t.at_ = t.since + 228 then s.drawBelow 2 else (0, s)
  calMod (fun c => { c with strobe := if d.1 = 0 then none else some { t with at_ := t.at_ + 1 } }) d.2

/-- CAL_STROBE_COMMIT, R332, R333: one multiframe before S. -/
def execCalStrobeCommit (s : State) : Result :=
  eventIf (match s.cal.strobe with
      | some t => !t.committed && decide (t.at_ ≤ (s.faceAt 0).mf + 1)
      | none => false)
    (fun s => match s.cal.strobe with
      | none => s
      | some t =>
        if s.anyWarm then strobeLater t s
        else calMod (fun c =>
          { c with strobe := some { t with committed := true, uncorr := [] }, frozen := true }) s) s

/-- A pending value may become in force at the strobe (R333). -/
def State.applies (s : State) (force : Bool) (i : Nat) (p : Pend) : Bool :=
  !(p.limitFail && !force) && !(p.oos && !s.partOk (trimKind i) false (trimPart i))

/-- The pending values of the kinds named, with whether each is eligible. -/
def State.strobeSet (s : State) (t : Strobe) : List (Nat × Pend × Bool) :=
  s.cal.pending.filterMap (fun p => match p.2 with
    | some v => if bitOf t.kinds (trimKind p.1) then some (p.1, v, s.applies t.force p.1 v) else none
    | none => none)

/-- The kinds of a list of trims. -/
def kindsOf (is : List Nat) : BitVec 3 := BitVec.ofNat 3 (packBits ((List.range 3).map (fun k => is.any (fun i => trimKind i == k))))

/-- CAL_APPLY_STROBE, R333: every eligible pending value becomes in force at once. -/
def calStrobe (t : Strobe) (s : State) : State :=
  let all := s.strobeSet t
  let take := all.filter (fun p => p.2.2)
  let took := take.map (·.1)
  let keys := (List.range keyCount).filter (fun k => took.any (fun i => trimKey i == k))
  let left := took.foldl (fun a i => Tab.set none a i none) s.cal.pending
  calMod (fun c =>
    { c with
      trims := take.foldl (fun a p => Tab.set 0 a p.1 p.2.1.value) c.trims
      pending := left
      qual := Figs.take keys c.qualP c.qual
      qualP := c.qualP.only (fun k => left.any (fun p => trimKey p.1 == k))
      strobe := some { t with made := true, applied := kindsOf took,
                              heldBack := kindsOf ((all.filter (fun p => !p.2.2)).map (·.1)) } }) s

def execCalApplyStrobe (s : State) : Result :=
  eventIf (match s.cal.strobe with
      | some t => t.committed && !t.made && decide (t.at_ ≤ (s.faceAt 0).mf)
      | none => false)
    (fun s => match s.cal.strobe with
      | none => s
      | some t => calStrobe t s) s

/-- A lane waits in WAIT_SIGNAL for the end of the freeze (R332). -/
def State.waitsWarm (s : State) (l : Nat) : Bool :=
  let r := s.rxAt l
  r.st == .waitSignal && r.sigDetect && !r.backoff && s.rxOn l && !(s.txAt l).check.on

/-- CAL_STROBE_FREEZE_END, R332, R333. -/
def execCalStrobeFreezeEnd (s : State) : Result :=
  eventIf (match s.cal.strobe with
      | some t => t.made && decide (t.at_ + 4 ≤ (s.faceAt 0).mf)
      | none => false)
    (fun s => match s.cal.strobe with
      | none => s
      | some t =>
        let s1 := strobeEnd t s
        forEach ((List.range 16).filter s1.waitsWarm) choosePath s1) s

/-- NVM_STORE_COMPLETE, R326, R328. -/
def execNvmStoreComplete (s : State) : Result :=
  eventIf s.cal.store.isSome (fun s => match s.cal.store with
    | none => s
    | some (img, write) =>
      let s1 := raise 0x8D03 (le16 (w16At img 6)) (calMod (fun c => { c with store := none }) (nvmWrite img s))
      if write then imagePending img s1 else s1) s

end Sys2Proof.Machine
end

