-- ==== Sys2Proof/Machine/Dma.lean ====
section
/-! DEFINITION. DMA channels, timers, counters and windows, and the commands that fetch a capture memory by DMA
(chapter 16, R63, R288, R418). -/

namespace Sys2Proof.Machine

/-- The DMA engine, the counters and the quick queries run: from Tier 0, and while the device is awake. -/
def State.dmaAwake (s : State) : Bool :=
  s.sys.tier0 && (s.pwr.cur == 1 || (s.pwr.cur == 2 && s.pwr.target != 3))

/-- They answer the host: in a planned entry until step 8 agrees (R432). -/
def State.dmaTakes (s : State) : Bool := s.dmaAwake && !(s.pwr.cur == 2 && s.pwr.step == 0)

/-- DMA_START, R412. -/
def execDmaStart (ch : BitVec 4) (s : State) : Result := eventIf s.dmaTakes (dmaStart ch.toNat) s

/-- DMA_ABORT, R416. -/
def execDmaAbort (ch : BitVec 4) (s : State) : Result := eventIf s.dmaTakes (dmaStop 1 ch.toNat) s

/-- DMA_TRIGGER, R413. -/
def execDmaTrigger (ch : BitVec 4) (s : State) : Result :=
  eventIf (s.dmaAwake && (s.chanAt ch.toNat).trig != 0) (dmaTrigger ch.toNat) s

/-- DMA_DESCRIPTOR_COMPLETE, R410, R412 to R417. -/
def execDmaDescriptorComplete (ch : BitVec 4) (s : State) : Result :=
  let c := s.chanAt ch.toNat
  eventIf (s.dmaAwake && c.st == .running) (fun s => match c.desc with
    | some d => dmaComplete ch.toNat d s
    | none => s) s

/-- DMA_FENCE_READ, R415: it reads 0 once every completed write has arrived. -/
def execDmaFenceRead (s : State) : Result :=
  eventIf s.dmaTakes (fun s => { s with spi := { s.spi with rdata := 0 } }) s

/-- DMA_COMMAND_TRANSFER_DONE, R415, R418: the end of a transfer whose command waits for it; a batch of streams ends under
R193. -/
def execDmaCommandTransferDone (ch : BitVec 4) (s : State) : Result :=
  eventIf (s.dmaAwake && (s.chanAt ch.toNat).st == .cmd) (xferDone ch.toNat) s

/-- TIMER_START, R419: RUN is set, and a new count starts where it was 0. -/
def execTimerStart (t : BitVec 3) (s : State) : Result :=
  eventIf s.dmaTakes (fun s => s.timerMod t.toNat (fun x => { x with run := true })) s

/-- TIMER_TICK, R413, R419, R420. -/
def execTimerTick (t : BitVec 3) (s : State) : Result :=
  eventIf (s.dmaAwake && (s.timerAt t.toNat).run) (fun s =>
    let s1 := s.timerMod t.toNat (fun x => if x.oneshot then { x with run := false } else x)
    forEach (s1.triggered 1 t.toNat) dmaTrigger (countSource 0x71 t.toNat 1 s1)) s

/-! ### Fetches -/

/-- LANE_CAPTURE_FETCH, R63, R418. -/
def cmdLaneCaptureFetch (lane dma : Byte) (addr : W32) (s : State) : Cmd :=
  let l := lane.toNat
  { waits := true
    ready := s.rxOn (l % 16)
    range := laneOk lane && decide (dma.toNat < 16) && bufOk addr 65536
    run := fun _ =>
      if !(s.chanAt dma.toNat).free then deny .busy s
      else ok (dmaCommand dma.toNat 0x010C { src := .capture l, addr := addr.toNat, n := 65536 } [] s) }
def execLaneCaptureFetch (lane dma : Byte) (addr : W32) (s : State) : Result :=
  parax 0x010C (cmdLaneCaptureFetch lane dma addr) s

/-- LOOP_TEST_FETCH, R288, R418: allowed at any time; an unpowered core's memory moves nothing (R366, log entry 122). -/
def cmdLoopTestFetch (core dma : Byte) (addr : W32) (s : State) : Cmd :=
  let rs := (s.coreAt core.toNat).records
  { waits := s.pd (80 + core.toNat)
    range := decide (core.toNat < 4) && decide (dma.toNat < 16) && bufOk addr (16 * rs.length)
    run := fun _ =>
      if !(s.chanAt dma.toNat).free then deny .busy s
      else okWith (leN 2 rs.length)
        (if s.pd (80 + core.toNat) then
           dmaCommand dma.toNat 0x0A08 { src := .records core.toNat, addr := addr.toNat, n := 16 * rs.length }
             (leN 2 rs.length) s
         else dmaCommandDown dma.toNat (16 * rs.length) s) }
def execLoopTestFetch (core dma : Byte) (addr : W32) (s : State) : Result :=
  parax 0x0A08 (cmdLoopTestFetch core dma addr) s

/-! ### Counters, R420 to R426 -/

/-- The number of indices of a counter source (R420); none for a reserved one. -/
def sourceSize (src : Nat) : Option Nat :=
  if src = 0 then some 65536
  else if src ∈ [1, 2, 3] then some 16
  else if src ∈ [0x10, 0x11, 0x12, 0x13, 0x14, 0x20, 0x21] then some 1024
  else if src ∈ [0x30, 0x31, 0x32, 0x33] then some 16
  else if src ∈ [0x40, 0x50] then some 2
  else if src = 0x60 then some 192
  else if src = 0x70 then some 1
  else if src = 0x71 then some 8 else none

/-- CNT_ASSIGN, R420, R423. -/
def cmdCntAssign (cnt source index : W16) (flags : Byte) (s : State) : Cmd :=
  let n := cnt.toNat
  let chain := bitOf flags 0
  { range := decide (n < 4096) && flagsOk 1 flags && !(chain && decide (n % 2 = 1))
      && (match sourceSize source.toNat with | some k => decide (index.toNat < k) | none => false)
    run := fun _ =>
      let pair := decide (n % 2 = 1) && (s.cntAt (n - 1)).chain
      if pair then deny .busy s
      else
        let was := (s.cntAt n).chain
        let s1 := s.cntMod n (fun _ => { source := source.setWidth 15, index := index, chain := chain })
        ok (if chain != was then s1.cntMod (n + 1) (fun _ => {})
          else if chain then s1.cntMod (n + 1) (fun c => { c with source := 0, index := 0 }) else s1) }
def execCntAssign (cnt source index : W16) (flags : Byte) (s : State) : Result :=
  parax 0x0F01 (cmdCntAssign cnt source index flags) s

/-- A window's index is in range (R426). -/
def winOk (kind : Byte) (index : W16) : Bool :=
  if kind = 0 then decide (index.toNat < 1024) else kind == 1 && decide (index.toNat < 16)

/-- CNT_WINDOW_CONFIG, R426. -/
def cmdCntWindowConfig (kind : Byte) (index windowMs : W16) (s : State) : Cmd :=
  { range := winOk kind index && decide (windowMs.toNat ≤ 1000)
    run := fun _ => ok (s.winMod (winIndex kind.toNat index.toNat) (fun _ =>
      { ms := windowMs, notify := windowMs != 0 })) }
def execCntWindowConfig (kind : Byte) (index windowMs : W16) (s : State) : Result :=
  parax 0x0F02 (cmdCntWindowConfig kind index windowMs) s

/-- CNT_WINDOW_READ, R426. -/
def cmdCntWindowRead (kind : Byte) (index : W16) (s : State) : Cmd :=
  let i := winIndex kind.toNat index.toNat
  let w := s.winAt i
  { range := winOk kind index
    run := fun _ => okWith (le64 w.resOctets ++ le64 w.resFrames ++ le16 w.ms ++ le32 w.seq)
      (s.winMod i (fun w => { w with notify := w.ms != 0 })) }
def execCntWindowRead (kind : Byte) (index : W16) (s : State) : Result := parax 0x0F03 (cmdCntWindowRead kind index) s

/-- CNT_VAL_WRITE, R424. -/
def execCntValWrite (cnt : BitVec 12) (value : W32) (lost : Bool) (s : State) : Result :=
  eventIf s.dmaTakes (cntWrite cnt.toNat value lost) s

/-- COUNTER_WRAP, R423, R425: a counter that stands at its last value counts once more. -/
def execCounterWrap (cnt : BitVec 12) (s : State) : Result :=
  let c := s.cntAt cnt.toNat
  eventIf (s.dmaAwake && c.val == BitVec.allOnes 32 && c.source != 0) (cntAdd cnt.toNat 1) s

/-- COUNTER_WINDOW_END, R426. -/
def execCounterWindowEnd (kind : BitVec 1) (index : BitVec 10) (s : State) : Result :=
  let i := winIndex kind.toNat index.toNat
  let w := s.winAt i
  eventIf (s.dmaAwake && w.ms != 0) (fun s =>
    let s1 := s.winMod i (fun w =>
      { w with resOctets := w.octets, resFrames := w.frames, octets := 0, frames := 0, seq := w.seq + 1, notify := false })
    if w.notify then
      let s2 := raise 0x8F01 ([u8 kind.toNat] ++ leN 2 index.toNat ++ le32 (w.seq + 1)) s1
      if s2.dma.winIe then irqCnt s2 else s2
    else s1) s

end Sys2Proof.Machine
end

