-- ==== Sys2Proof/Machine/Framing.lean ====
section
/-! DEFINITION. The FEC and framing commands and the general channel (chapter 05). -/

namespace Sys2Proof.Machine

/-- FEC_CONFIG, R146. -/
def cmdFecConfig (lane sym : Byte) (count : W16) (s : State) : Cmd :=
  { range := laneOk lane && within 1 15 sym.toNat && count != 0
    run := fun _ => ok (s.framerMod lane.toNat (fun f => { f with degSym := sym, degCount := count })) }
def execFecConfig (lane sym : Byte) (count : W16) (s : State) : Result := parax 0x0401 (cmdFecConfig lane sym count) s

/-- The counters in the order of R145. -/
def FecCnt.list (c : FecCnt) : List W64 :=
  [c.innerCorr, c.innerFail, c.innerBits, c.rsCw] ++ Tab.read 0 c.rsHist 0 16
    ++ [c.rsUncorr, c.rsSym, c.rsBits, c.blkErr, c.ohFail, c.syncErr, c.gccOver]

/-- FEC_COUNTERS_READ, R145. -/
def cmdFecCountersRead (lane flags : Byte) (s : State) : Cmd :=
  { range := laneOk lane && flagsOk 1 flags
    run := fun _ => okWith ((s.framerAt lane.toNat).cnt.list.flatMap le64)
      (if clearFlag flags then s.framerMod lane.toNat (fun f => { f with cnt := {} }) else s) }
def execFecCountersRead (lane flags : Byte) (s : State) : Result := parax 0x0402 (cmdFecCountersRead lane flags) s

/-- FRAME_STATUS, R138. -/
def cmdFrameStatus (lane : Byte) (s : State) : Cmd :=
  let f := s.framerAt lane.toNat
  { range := laneOk lane
    run := fun _ => okWith ([boolByte f.lock] ++ slice (f.header.getD []) 0 32 ++ [boolByte f.mismatch]
      ++ leN 2 (min 65535 f.age) ++ Tab.read 0 f.slotFe 0 64) s }
def execFrameStatus (lane : Byte) (s : State) : Result := parax 0x0403 (cmdFrameStatus lane) s

/-- FRAME_ID_EXPECT, R139. DESIGN CHOICE (log entry 140): FRAME_ID_MISMATCH carries NODE_ADDR and LANE_ID of the latest
valid header, also where mode OFF raises it, and a new expectation without mode OFF keeps the runs counted so far. -/
def cmdFrameIdExpect (lane mode flags : Byte) (nodeAddr : W16) (srcLane : Byte) (s : State) : Cmd :=
  let l := lane.toNat
  { range := laneOk lane && decide (mode.toNat ≤ 2) && flagsOk 1 flags && (bitOf flags 0 || laneOk srcLane)
    run := fun _ =>
      let was := s.framerAt l
      let s1 := s.framerMod l (fun f =>
        { f with
          idMode := mode, idExpect := if bitOf flags 0 then none else some (nodeAddr, srcLane)
          missRun := if f.idMode = 0 then 0 else f.missRun, matchRun := if f.idMode = 0 then 0 else f.matchRun
          mismatch := f.mismatch && mode != 0 })
      let h := was.header.getD []
      ok (if mode = 0 ∧ was.mismatch then
          raise 0x8403 ([lane, 0] ++ le16 (w16Be h 2) ++ [u8 ((byteAt h 4).toNat % 16)]) s1
        else s1) }
def execFrameIdExpect (lane mode flags : Byte) (nodeAddr : W16) (srcLane : Byte) (s : State) : Result :=
  parax 0x0404 (cmdFrameIdExpect lane mode flags nodeAddr srcLane) s

/-- FRAME_TRACE_SET: from the next multiframe, for all lanes of a face. -/
def cmdFrameTraceSet (face : Byte) (trace : Bytes) (s : State) : Cmd :=
  { form := if trace.length = 16 then none else some .badLength
    range := faceOk face
    run := fun _ => ok (s.faceMod face.toNat (fun x => { x with traceP := some trace })) }
def execFrameTraceSet (face : Byte) (trace : Bytes) (s : State) : Result := parax 0x0405 (cmdFrameTraceSet face trace) s

/-- FRAME_GCC_SEND, R137: the lane is in DATA. -/
def cmdFrameGccSend (lane len : Byte) (data : Bytes) (s : State) : Cmd :=
  let l := lane.toNat
  { form := if data.length = len.toNat then none else some .badLength
    ready := s.txOn (l % 16)
    range := laneOk lane && decide (len.toNat + 4 ≤ gccLen (s.txS l))
    run := fun _ =>
      if (s.txAt l).st ≠ .data then deny .busy s
      else if 16 ≤ (s.framerAt l).gccTx.length then deny .full s
      else ok (s.framerMod l (fun f => { f with gccTx := f.gccTx ++ [{ data := data }] })) }
def execFrameGccSend (lane len : Byte) (data : Bytes) (s : State) : Result := parax 0x0406 (cmdFrameGccSend lane len data) s

/-- One message of FRAME_GCC_READ. -/
def gccBytes (g : Gcc) : Bytes := [g.mfc, g.seq, u8 g.data.length] ++ g.data

/-- FRAME_GCC_READ: up to 16 messages (R137). -/
def cmdFrameGccRead (lane max : Byte) (buf : W32) (s : State) : Cmd :=
  let l := lane.toNat
  let n := min 16 max.toNat
  let ms := (s.framerAt l).gccRx.take n
  let data := ms.flatMap gccBytes
  { range := laneOk lane && respRange buf 1 data.length
    run := fun _ => respond buf [u8 ms.length] data (s.framerMod l (fun f => { f with gccRx := f.gccRx.drop n })) }
def execFrameGccRead (lane max : Byte) (buf : W32) (s : State) : Result := parax 0x0407 (cmdFrameGccRead lane max buf) s

/-- A general channel section of L_GCC octets is valid (R137, R138). -/
def gccValid (x : Bytes) (codewordsOk : Bool) : Bool :=
  codewordsOk && decide (4 ≤ x.length) && decide ((crc16 (x.take (x.length - 2))).toNat = ofBe (x.drop (x.length - 2)))

/-- GCC_MESSAGE_RECEIVE, R137, R138. The MFC of its multiframe is that of the latest valid header and the multiframes
since; of a GCC_LEN above L_GCC − 4, which no sender makes, DATA's octets are the message (DEDUCED, log entry 103). -/
def execGccMessageReceive (lane : BitVec 4) (section_ : Bytes) (codewordsOk : Bool) (s : State) : Result :=
  let l := lane.toNat
  eventIf (s.framerAt l).lock (fun s =>
    if !gccValid section_ codewordsOk then fecCount l (fun k => { k with ohFail := wrapAdd k.ohFail 1 }) s
    else
      let f := s.framerAt l
      let n := min (byteAt section_ 0).toNat (section_.length - 4)
      if n = 0 then s
      else if 64 ≤ f.gccRx.length then fecCount l (fun k => { k with gccOver := wrapAdd k.gccOver 1 }) s
      else
        let m : Gcc := { mfc := byteAt (f.header.getD []) 0 + BitVec.ofNat 8 f.age, seq := byteAt section_ 1, data := slice section_ 2 n }
        let s1 := s.framerMod l (fun f => { f with gccRx := f.gccRx ++ [m] })
        if f.gccRx.isEmpty then raise 0x8405 [u8 l] s1 else s1) s

end Sys2Proof.Machine
end

