-- ==== Sys2Proof/Machine/LinePath.lean ====
section
/-! DEFINITION. The paths of a PAM4 lane as compositions of their stages, over runs of samples and symbols: the receive
path from the ADC to the bits of the inner decoder (R25, R26, R40), the transmit path from line bits to the DAC (R65, R71,
R75, R80, R86, R88) and the pattern checker (R90). As in LineCodes, no command moves single symbols (log entry 22). -/

namespace Sys2Proof.Machine

/-! ### Receive, R25, R26 -/

/-- The result of receive stage `n`, given as num/den: rounded to nearest, ties to even, to the stage's resolution of
1/2^fraction, and saturated at the ends of its range (R26). The spec gives no stage's widths (log entry 96). -/
def requant (n : Nat) (num : Int) (den : Nat) : Int :=
  clampInt (-(2 ^ Config.stageRange n)) (2 ^ Config.stageRange n - 1) (roundEven (num * 2 ^ Config.stageFraction n) den)

/-- The largest y below 2^`bits` with (2y − 1)^n · den ≤ (2x)^n · num: x times the n-th root of num/den, rounded. -/
def timesRoot (x n num den : Nat) : Nat → Nat
  | 0 => 0
  | bits + 1 =>
    let y := timesRoot x n num den bits
    let z := y + 2 ^ (31 - bits)
    if (2 * z - 1) ^ n * den ≤ (2 * x) ^ n * num then z else y

/-- A sample of `v` times 10^(steps/40,960): the digital gain in 1/1,024 of a 0.5 dB step (R29). -/
def gainBy (steps v : Int) : Int :=
  let a := timesRoot v.natAbs 40960 (10 ^ steps.toNat) (10 ^ (-steps).toNat) 32
  if v < 0 then -(a : Int) else a

/-- Stage 3: the Icing rejection filter while it is enabled; its coefficients are not given (R31, log entry 96). -/
def icingFilter (on : Bool) (adc : List Int) : List Int :=
  (if on then Config.icingReject adc else adc).map (fun v => requant 3 v 1)

/-- Stage 4: the digital gain. -/
def digitalGain (steps : Int) (xs : List Int) : List Int :=
  xs.map (fun v => requant 4 (gainBy steps v) (2 ^ Config.stageFraction 3))

/-- Stage 5: the FFE (R33, R34), in units of half the level spacing, of which a sample holds `Config.unitCodes` + 1. -/
def ffeStage (c xs : List Int) : List Int :=
  (List.range xs.length).map (fun (k : Nat) =>
    requant 5 (ffeOut c xs k) (256 * 2 ^ Config.stageFraction 4 * (Config.unitCodes + 1)))

/-- Stage 6 for symbol `k`: what the placed groups make of the final decisions is subtracted (R35). -/
def cancelStage (groups : List EchoGroup) (dec : List Int) (y : Int) (k : Nat) : Int :=
  let sub := (groups.map (fun g => cancelOut g.delay g.taps dec k)).sum
  requant 6 (y * 1024 - sub * 2 ^ Config.stageFraction 5) (1024 * 2 ^ Config.stageFraction 5)

/-- The branch metric of level index `c` after `p`: the squared distance of the detector input from the target response
1 + αD, in units of 1/64 of its resolution (R40). -/
def branchMetric (alpha : Nat) (z : Int) (p c : Nat) : Nat :=
  (64 * z - (64 * levelOf c + alpha * levelOf p) * 2 ^ Config.stageFraction 6).natAbs ^ 2

/-- The least of a list of metrics. -/
def least : List Nat → Nat
  | [] => 0
  | x :: r => r.foldl min x

/-- The sum of two metrics, which saturates at the end of their range (R26; the range is not given, log entry 96). -/
def addMetric (a b : Nat) : Nat := min (a + b) Config.metricMax

/-- The best metric of a path into each state after one more symbol. -/
def viterbiStep (alpha : Nat) (m : List Nat) (z : Int) : List Nat :=
  (List.range 4).map (fun c => least ((List.range 4).map (fun p => addMetric (m.getD p 0) (branchMetric alpha z p c))))

/-- The best metric of a path out of each state over the symbols to come. -/
def viterbiBack (alpha : Nat) : List Int → List Nat
  | [] => [0, 0, 0, 0]
  | z :: r =>
    let m := viterbiBack alpha r
    (List.range 4).map (fun p => least ((List.range 4).map (fun c => addMetric (branchMetric alpha z p c) (m.getD c 0))))

/-- The best metric of a path through each level index at symbol `k`, over all symbols up to the traceback depth of 48. -/
def pathMetrics (alpha : Nat) (zs : List Int) (k : Nat) : List Nat :=
  let before := (zs.take (k + 1)).foldl (viterbiStep alpha) [0, 0, 0, 0]
  let after := viterbiBack alpha ((zs.drop (k + 1)).take 48)
  (List.range 4).map (fun c => addMetric (before.getD c 0) (after.getD c 0))

/-- The final decision for symbol `k`: the level index of the best path, the lowest on a tie. -/
def decision (alpha : Nat) (zs : List Int) (k : Nat) : Nat :=
  let m := pathMetrics alpha zs k
  ((List.range 4).find? (fun c => m.getD c 0 == least m)).getD 0

/-- One soft value of symbol `k`: the better of the best path with the bit at 0 and the best with it at 1, and the
reliability of their difference (R40); the scale of a metric is the implementation's (log entry 96). -/
def softOfBit (alpha shift : Nat) (zs : List Int) (k : Nat) (bit : Nat → Bool) : Soft :=
  let m := pathMetrics alpha zs k
  let best (b : Bool) : Nat := least (((List.range 4).filter (fun c => bit c == b)).map (m.getD · 0))
  { hard := bit (decision alpha zs k)
    rel := reliability ((best false : Int) - best true).natAbs (Config.metricUnit + 1) shift }

/-- Stage 7: the soft values of symbol `k`, first bit first. -/
def mlsd (alpha shift : Nat) (zs : List Int) (k : Nat) : Soft × Soft :=
  (softOfBit alpha shift zs k (fun c => (grayPair c).1), softOfBit alpha shift zs k (fun c => (grayPair c).2))

/-- Stages 6 and 7 symbol by symbol: the canceller works on decisions at least 64 symbols back, final since the traceback
depth is 48. -/
def detectorInput (c : RxCoef) (ys : List Int) : List Int :=
  (List.range ys.length).foldl (fun zs (k : Nat) =>
    let dec := (List.range (k - 63)).map (fun j => levelOf (decision c.alpha zs j))
    zs ++ [cancelStage c.groups dec (ys.getD k 0) k]) []

/-- Stage 8 over a run of symbols: soft values of u(k), from those of y(k) and y(k − 1) (R41). -/
def precodeStage (on : Bool) : Soft × Soft → List (Soft × Soft) → List (Soft × Soft)
  | _, [] => []
  | prev, cur :: r => (if on then softDecode prev cur else cur) :: precodeStage on cur r

/-- The receive stages of a lane in order, from ADC codes to the soft values that the inner decoder takes, two per symbol;
the last 48 symbols of a run have no final decision yet (R25). DESIGN CHOICE (log entry 136): before the first symbol of a run
the precoding decoder holds level index 0 with reliability 0 (R41). -/
def receivePath (r : Rx) (adc : List Int) : List Soft :=
  let z := detectorInput r.coef (ffeStage r.coef.ffe (digitalGain r.coef.digGain (icingFilter r.irejUse adc)))
  let soft := (List.range (z.length - 48)).map (mlsd r.coef.alpha r.use.softShift.toNat z)
  (precodeStage r.precode ({ hard := false, rel := 0 }, { hard := false, rel := 0 }) soft).flatMap (fun p => [p.1, p.2])

/-- The error of symbol `k` in 1/64 of the resolution of stage 6: the detector input minus the target response applied to
the final decisions, a(k) + α · a(k − 1) (R43). -/
def detectorError (alpha : Nat) (zs dec : List Int) (k : Nat) : Int :=
  64 * tapAt zs k - (64 * tapAt dec k + alpha * tapAt dec ((k : Int) - 1)) * 2 ^ Config.stageFraction 6

/-! ### Test patterns, R88 -/

/-- Level index `k` of a pattern's sequence before precoding. The seeds of the PRBS patterns and the sequence of SSPRQ are
IEEE 802.3's, which the spec names and does not print (UNVERIFIED, log entry 97). -/
def patternIndex (pattern : Byte) (k : Nat) : Nat :=
  let pair (b : Bits) : Nat := grayIndex (b.getD 0 false) (b.getD 1 false)
  match pattern.toNat with
  | 0 => pair ((prbs 13 [13, 12, 2, 1] (2 * (k % 8191) + 2) (Config.patternSeed 0)).drop (2 * (k % 8191)))
  | 1 => pair ((prbs31 (2 * (k % (2 ^ 31 - 1)) + 2) (Config.patternSeed 1)).drop (2 * (k % (2 ^ 31 - 1))))
  | 2 => Config.ssprq (k % 65535) % 4
  | _ => levelsPattern.getD (k % 64) 0

/-- Symbols of a multiframe (R12): 2,959,360 at full rate, half of them at half rate. -/
def multiframeSymbols (half : Bool) : Nat := if half then 1479680 else 2959360

/-- Symbols of a pattern before it repeats (R88). -/
def patternLength (pattern : Byte) : Nat :=
  if pattern = 0 then 8191 else if pattern = 1 then 2 ^ 31 - 1 else if pattern = 2 then 65535 else 64

/-- The u(k) of one multiframe of a pattern from a place of its sequence. -/
def patternRun (g : Gen) (half : Bool) : List Nat :=
  (List.range (multiframeSymbols half)).map (fun k => patternIndex g.pattern (g.pos + k))

/-! ### Transmit, R65 to R71, R75, R80, R86 -/

/-- Stages 4 and 5 for the symbols of `run`, sent after `before` and followed by `after`: round(36 · z(k)) + P[…] for each
(R69, R71). -/
def shapedCodes (fir pd : List Int) (before run after : List Nat) : List Int :=
  let ys := before ++ run ++ after
  let a := ys.map levelOf
  (List.range run.length).map (fun i =>
    let k := before.length + i
    let y (j : Nat) : Nat := if k < j then 0 else ys.getD (k - j) 0
    roundEven (36 * firOut fir a k) 64 + tapAt pd (pdIndex (y 2) (y 1) (y 0)))

/-- Stages 6 and 7: the Icing sample of each DAC sample is added and the sum saturated; at half rate each code is sent for
two DAC samples (R71, R86). The flags tell the limited codes. -/
def dacSamples (half : Bool) (codes icing : List Int) : List (Int × Bool) :=
  let held := codes.flatMap (fun c => if half then [c, c] else [c])
  (List.range held.length).map (fun i => dacSat (held.getD i 0 + icing.getD i 0))

/-- Stage 8: the delay of a lane in 1/64 of a full-rate UI; COARSE counts the lane's symbols (R80, R86). -/
def skewDelay (half : Bool) (coarse fine : Nat) : Nat := 64 * (if half then 2 * coarse else coarse) + fine

/-- The full-scale output in mV peak to peak differential (R75). -/
def fullScaleMv (swing : Nat) : Nat := 400 + 20 * swing

/-- Stage 9: 255 times the output of a code in mV, of which −128 to +127 span the full scale (R75). -/
def outputMv255 (swing : Nat) (code : Int) : Int := code * fullScaleMv swing

/-- The transmit stages 4 to 8 of a lane over one run of indices y(k): its DAC samples and their delay (R65). -/
def transmitFrom4 (t : Tx) (ys before after : List Nat) (icing : List Int) : List (Int × Bool) × Nat :=
  (dacSamples t.half (shapedCodes t.set.fir t.set.pd before ys after) icing, skewDelay t.half t.set.coarse t.set.fine)

/-- The transmit stages 2 to 8 of a lane over one run of u(k) (R65, R67). -/
def transmitPath (t : Tx) (us before after : List Nat) (icing : List Int) : List (Int × Bool) × Nat :=
  transmitFrom4 t (precode t.precoding t.lastSent us) before after icing

/-- The DAC codes of a transmitter in a state, of the samples its path gives: none in HIZ, code 0 in QUIET and FAULT, the
Icing waveform alone in ICING_ONLY (R82, R79), and code 0 in LINE_FAR until symbols are looped (R91). -/
def dacOutput (t : Tx) (looping : Bool) (path : List (Int × Bool)) (icing : List Int) : Option (List Int) :=
  match t.st with
  | .hiz => none
  | .quiet => some (path.map (fun _ => 0))
  | .fault => some (path.map (fun _ => 0))
  | .icingOnly => some (icing.map (fun v => (dacSat v).1))
  | .data => some (path.map (fun v => if t.looped && !looping then 0 else v.1))
  | .pattern => some (path.map (·.1))

/-! ### Loopbacks, R91 -/

/-- LINE_FAR loops symbols: the receive side is in MLSD_TRAIN or a state that follows it on its way to LOCKED. -/
def State.looping (s : State) (lane : Nat) : Bool :=
  let st := (s.rxAt lane).st
  (s.txAt lane).looped && (st == .mlsdTrain || st == .align || st == .mfSearch || st == .locked)

/-- The symbols that LINE_FAR takes: the final decisions of the MLSD, before the precoding decoder (R91). -/
def loopSymbols (r : Rx) (adc : List Int) : List Nat :=
  let z := detectorInput r.coef (ffeStage r.coef.ffe (digitalGain r.coef.digGain (icingFilter r.irejUse adc)))
  (List.range (z.length - 48)).map (decision r.coef.alpha z)

/-- The elastic store of a loopback is within 256 symbols of an end (R92). -/
def fillSlips (fill : Nat) : Bool := decide (fill ≤ 256) || decide (3840 ≤ fill)

/-- Where the store is read next, after `got` symbols have come in and `rd` have gone out: within 256 symbols of an end the
1,792 symbols that return the fill to 2,048 are sent again or left out (R92). -/
def storePlace (got : Int) (rd : Int) : Int := if fillSlips (got - rd).toNat then got - 2048 else rd

/-- What the store gives for a run of transmit symbols, of which symbol `i` is sent when `got i` have come in since looping
started with 2,048 in the store, and where it is read after it (R92). -/
def storeRun (sym : Int → Nat) (got : Nat → Int) : Nat → List Nat × Int
  | 0 => ([], got 0 - 2048)
  | i + 1 =>
    let p := storeRun sym got i
    let rd := storePlace (got i) p.2
    (p.1 ++ [sym rd], rd + 1)

/-- The transmit path of a looped lane: the store's symbols stand at stage 4 in place of precoded ones (R91, R92). -/
def loopPath (t : Tx) (sym : Int → Nat) (got : Nat → Int) (n : Nat) (before after : List Nat) (icing : List Int) :
    List (Int × Bool) × Nat :=
  transmitFrom4 t (storeRun sym got n).1 before after icing

/-- The codes on the line output: those of the DAC, and QUIET while ANALOGUE_NEAR takes them to the receive front end. -/
def lineCodes (t : Tx) (dac : Option (List Int)) : Option (List Int) :=
  if t.set.loopback = 2 then dac.map (·.map (fun _ => 0)) else dac

/-- What enters the receive path at stage 3: the ADC's codes, or under DIGITAL_NEAR the transmitter's after stage 8. -/
def receiveInput (t : Tx) (adc : List Int) (dac : Option (List Int)) : List Int :=
  if t.set.loopback = 1 then dac.getD [] else adc

/-- What enters the receive front end: the line's signal, or under ANALOGUE_NEAR the DAC's output inside the tile. -/
def frontEnd {Signal : Type} (t : Tx) (line dac : Signal) : Signal := if t.set.loopback = 2 then dac else line

/-! ### The pattern checker, R90 -/

/-- `n` bits of SSPRQ from bit `k` of its 131,070 (R66, R88). -/
def ssprqFrom (k n : Nat) : Bits :=
  (List.range n).map (fun i =>
    let b := grayPair (Config.ssprq ((k + i) / 2 % 65535))
    if (k + i) % 2 = 0 then b.1 else b.2)

/-- The bit of SSPRQ that follows the first place at which it has these 31 bits (R90). -/
def ssprqPlace (seed : Bits) : Nat :=
  (((List.range 131070).find? (fun k => ssprqFrom k 31 == seed)).getD 0 + 31) % 131070

/-- The bits that the checker expects after a seed of 31 received bits. -/
def expectedBits (pattern : Byte) (seed : Bits) (n : Nat) : Bits :=
  if pattern = 0 then prbs 13 [13, 12, 2, 1] n (natOf seed % 2 ^ 13)
  else if pattern = 1 then prbs31 n (natOf (seed.take 31))
  else ssprqFrom (ssprqPlace (seed.take 31)) n

/-- Whether each symbol's two bits are the expected ones. -/
def symbolsMatch : Bits → Bits → List Bool
  | a :: b :: r, x :: y :: q => (a == x && b == y) :: symbolsMatch r q
  | _, _ => []

/-- The run of matching symbols that stands at the end of a list, the latest first. -/
def matchRun (latest : List Bool) : Nat := (latest.takeWhile id).length

/-- The symbols of a window that mismatch. -/
def mismatchesOf (window : List Bool) : Nat := (window.filter (!·)).length

/-- Pattern lock is declared after a run of 1,024 matching symbols. -/
def locksOn (run : Nat) : Bool := decide (1024 ≤ run)

/-- Pattern lock is lost when more than 1 in 8 symbols of a window of 65,536 mismatch. -/
def losesLock (bad : Nat) : Bool := decide (65536 < 8 * bad)

/-- What a run of symbols compared in lock counts: bits, bits in error, symbols in error. -/
def checkedRun (received expected : Bits) : Nat × Nat × Nat :=
  let bad := ((received.zip expected).filter (fun p => p.1 != p.2)).length
  (received.length, bad, ((symbolsMatch received expected).filter (!·)).length)

end Sys2Proof.Machine
end

