-- ==== Sys2Proof/Machine/HostOps.lean ====
section
/-! DEFINITION. The shared operations of the host ports (chapter 08): delivery into the egress buffers (R219, R228) and
the tags of frames for the host (R221, R224, R226). -/

namespace Sys2Proof.Machine

/-- The octets in an egress buffer. -/
def Port.fill (p : Port) : Nat := (p.egress.map (fun e => e.octets.length)).sum

/-- Count on a port. -/
def portCount (p : Nat) (f : Port → Port) (s : State) : State := s.portMod p f

/-- A frame that the stream engine delivers to a port (R219, R228). -/
def deliverHost (p : Nat) (e : Egress) (s : State) : State :=
  let x := s.portAt p
  if x.st ≠ .up then portCount p (fun x => { x with downDrop := wrapAdd x.downDrop 1 }) s
  else if 131072 < x.fill + e.octets.length then portCount p (fun x => { x with egressDrop := wrapAdd x.egressDrop 1 }) s
  else portCount p (fun x => { x with egress := x.egress ++ [e] }) s

/-- The 48-bit word of a host tag toward the host (R221, R224). -/
def htagWord (e : Egress) : Nat :=
  (if e.stream.isSome then 2 ^ 46 else 0) + e.flags.toNat * 2 ^ 42 + (e.face % 2) * 2 ^ 41 + (e.client % 1024) * 2 ^ 30
    + e.stream.getD 0 % 2 ^ 18

/-- The frame with its host tag inserted after the source MAC, FCS recomputed (R224). -/
def withHtag (etype : W16) (e : Egress) : Bytes :=
  let b := frameBody e.octets
  withFcs (b.take 12 ++ beN 2 etype.toNat ++ beN 6 (htagWord e) ++ b.drop 12)

/-- The frame with the VID of its outermost VLAN tag set, or a tag inserted (R226). -/
def withVid (vid : Nat) (f : Bytes) : Bytes :=
  let b := frameBody f
  if vlanAt f 12 then
    let tci := ofBe (slice b 14 2)
    withFcs (putAt b 14 (beN 2 (tci / 4096 * 4096 + vid % 4096)))
  else withFcs (b.take 12 ++ [0x81, 0x00] ++ beN 2 (vid % 4096) ++ b.drop 12)

/-- The frame as a port sends it to the host. -/
def State.hostFrame (s : State) (p : Nat) (e : Egress) : Bytes :=
  if (s.portAt p).vlan then withVid (cliVid (s.clientAt e.client).entry) e.octets else withHtag s.etype e

/-- The frame without its host tag, FCS recomputed (R223 step 6). -/
def withoutHtag (f : Bytes) : Bytes :=
  let b := frameBody f
  withFcs (b.take 12 ++ b.drop 20)

/-- The client active on a port in VLAN mode to which a VLAN ID maps (R225). -/
def State.clientOfVid (s : State) (p vid : Nat) : Option Nat :=
  if vidMaps vid then
    s.activeClients.find? (fun c => cliPort (s.clientAt c).entry == p && cliVid (s.clientAt c).entry == vid)
  else none

end Sys2Proof.Machine
end

