-- ==== Sys2Proof/Machine/StreamOps.lean ====
section
/-! DEFINITION. The shared operations of the stream engine (chapter 07): context images (R185), keys, lookup and
insertion (R184, R187, R191, R192), uncorrectable words (R195), the add path (R188, R196, R197) and the drop path with
its recovery (R189, R198 to R200, R203). -/

namespace Sys2Proof.Machine

/-! ### Contexts, R185 -/

/-- Change the stream engine's record. -/
def strMod (f : Streams → Streams) (s : State) : State := { s with streams := f s.streams }
/-- Count on the engine. -/
def engCount (f : EngCnt → EngCnt) (s : State) : State := strMod (fun e => { e with cnt := f e.cnt }) s

/-- A member word. -/
def Member.word (m : Member) : Nat := (if m.en then 0x8000 else 0) + m.face.toNat * 0x4000 + m.client.toNat
def memberOf (w : Nat) : Member :=
  { en := decide (0x8000 ≤ w % 0x10000), face := BitVec.ofNat 1 (w / 0x4000), client := BitVec.ofNat 10 w }

/-- The first two octets of the key word: KTYPE, DIR, CLIENT. -/
def CtxCfg.keyClient (c : CtxCfg) (client : BitVec 10) : Nat :=
  (if c.ktype then 0x8000 else 0) + (if c.dir then 0x4000 else 0) + client.toNat

/-- The image of a context, 56 bytes. -/
def Ctx.image (x : Ctx) : Bytes :=
  let c := x.cfg
  [u8 (packBits [x.valid, c.dir, c.funcEn, c.alg, x.takeAny, c.strip, c.htag, c.ledEn]), u8 c.prof.toNat]
    ++ le16 x.genSeq ++ le16 x.recovSeq ++ le16 x.timer ++ le64 x.history
    ++ leN 2 c.member0.word ++ leN 2 c.member1.word ++ leInt 2 x.ledAcc
    ++ [u8 (x.wrap.toNat + (if x.ledSig then 32 else 0)), x.epoch]
    ++ le32 x.passed ++ le32 x.discarded ++ le32 x.outOfOrder ++ le32 x.rogue ++ le32 x.resets
    ++ leN 2 (c.keyClient c.client) ++ slice c.dmac 0 6 ++ le16 c.vid
    ++ leN 2 ((if c.altEn then 0x8000 else 0) + c.altClient.toNat)

/-- The configured fields of an image. -/
def cfgOf (b : Bytes) : CtxCfg :=
  let f (i : Nat) : Bool := bitOf (byteAt b 0) i
  let kc := leAt b 0x2C 2
  let ac := leAt b 0x36 2
  { dir := f 1, funcEn := f 2, alg := f 3, strip := f 5, htag := f 6, ledEn := f 7
    prof := BitVec.ofNat 4 (byteAt b 1).toNat
    member0 := memberOf (leAt b 0x10 2), member1 := memberOf (leAt b 0x12 2)
    ktype := decide (0x8000 ≤ kc), client := BitVec.ofNat 10 kc
    dmac := slice b 0x2E 6, vid := w16At b 0x34
    altEn := decide (0x8000 ≤ ac), altClient := BitVec.ofNat 10 ac }

/-- A whole context from its image (STREAM_WRITE with ALL). -/
def ctxOf (b : Bytes) : Ctx :=
  { valid := bitOf (byteAt b 0) 0, cfg := cfgOf b, takeAny := bitOf (byteAt b 0) 4
    genSeq := w16At b 2, recovSeq := w16At b 4, timer := w16At b 6, history := w64At b 8
    ledAcc := (w16At b 0x14).toInt, wrap := (byteAt b 0x16).setWidth 5, ledSig := bitOf (byteAt b 0x16) 5
    epoch := byteAt b 0x17
    passed := w32At b 0x18, discarded := w32At b 0x1C, outOfOrder := w32At b 0x20, rogue := w32At b 0x24
    resets := w32At b 0x28 }

/-- An image without a reserved bit set or a value out of range (R185). -/
def imageOk (b : Bytes) : Bool :=
  let kc := leAt b 0x2C 2
  decide ((byteAt b 1).toNat < 16) && decide (leAt b 0x10 2 / 1024 % 16 = 0) && decide (leAt b 0x12 2 / 1024 % 16 = 0)
    && decide ((byteAt b 0x16).toNat < 64) && decide (kc / 1024 % 16 = 0)
    && (if 0x8000 ≤ kc then slice b 0x2E 6 == [0, 0, 0, 0, 0, 0] else decide (leAt b 0x34 2 < 4096))
    && decide (leAt b 0x36 2 / 1024 % 32 = 0)

/-! ### Uncorrectable words, R183, R195 -/

/-- The word of a context: bank and 64-bit word (R183). -/
def ctxWord (x k : Nat) : Nat × Nat := (x / 65536 % 4, 65536 + 7 * (x % 65536) + k)
/-- The words of a context that are uncorrectable. -/
def State.badWords (s : State) (x : Nat) : List (Nat × Nat) :=
  ((List.range 7).map (ctxWord x)).filter (fun w => s.streams.failed.contains w)
/-- A context has an uncorrectable word. -/
def State.ctxBad (s : State) (x : Nat) : Bool := !(s.badWords x).isEmpty
/-- A bucket is uncorrectable. -/
def State.bucketBad (s : State) (w b : Nat) : Bool := s.streams.failed.contains (w, b)

/-- Each read of an uncorrectable word counts ECC_FATAL for its bank (R195). -/
def countFatal (w : Nat × Nat) (s : State) : State :=
  engCount (fun c => { c with eccFatal := Tab.upd 0 c.eccFatal w.1 (fun v => v + 1) }) s

/-- The bucket of an entry: bank and word. -/
def posBucket (p : Nat) : Nat × Nat := (p / 131072, p % 131072 / 2)

/-- The first read of an uncorrectable word: STREAM_ECC_FATAL, and the entries of a bucket are lost (R195). -/
def failWord (w : Nat × Nat) (s : State) : State :=
  raise 0x8702 ([u8 w.1] ++ leN 4 w.2) (countFatal w (strMod (fun e =>
    { e with failed := e.failed ++ [w], keys := e.keys.filter (fun p => posBucket p.1 != w) }) s))

/-- The engine reads a word: a single-bit error is corrected, written back and counted (R194); an uncorrectable one is
counted, and reported once until the word is rewritten (R195). -/
def readEcc (w : Nat × Nat) (s : State) : State :=
  if s.streams.failed.contains w then countFatal w s
  else match s.streams.upset.lookup w with
    | none => s
    | some fatal =>
      let s1 := strMod (fun e => { e with upset := e.upset.filter (fun p => p.1 != w) }) s
      if fatal then failWord w s1
      else engCount (fun c => { c with eccCorr := Tab.upd 0 c.eccCorr w.1 (fun v => v + 1) }) s1

/-- Read words `ks` of a context. -/
def readWords (x : Nat) (ks : List Nat) (s : State) : State := forEach (ks.map (ctxWord x)) readEcc s
/-- Read a whole context. -/
def readCtx (x : Nat) (s : State) : State := readWords x (List.range 7) s
/-- Words that are rewritten are good again. -/
def rewritten (ws : List (Nat × Nat)) (s : State) : State :=
  strMod (fun e => { e with
    failed := e.failed.filter (fun w => !ws.contains w)
    upset := e.upset.filter (fun p => !ws.contains p.1) }) s
/-- The words of KEY_CLIENT, DMAC, VID_HANDLE and ALT_CLIENT of a context cannot be read. -/
def State.keyBad (s : State) (x : Nat) : Bool := [5, 6].any (fun k => s.streams.failed.contains (ctxWord x k))

/-! ### Keys and lookup, R184, R187 -/

/-- A key word: KEY_CLIENT, DMAC, VID_HANDLE, each most significant octet first. -/
def keyWord (kc : Nat) (dmac : Bytes) (vid : Nat) : Bytes := beN 2 kc ++ slice dmac 0 6 ++ beN 2 vid
/-- The main or the alternate key of a context. -/
def CtxCfg.key (c : CtxCfg) (alt : Bool) : Bytes :=
  keyWord (c.keyClient (if alt then c.altClient else c.client)) c.dmac c.vid.toNat
/-- The keys of a context: one, or two for a drop context with ALT_EN. -/
def CtxCfg.keys (c : CtxCfg) : List Bool := if c.altEn && c.dir then [false, true] else [false]

/-- The hash initial values of R187. -/
def hashInit (w : Nat) : W16 := if w = 0 then 0xFFFF else if w = 1 then 0xC3A5 else if w = 2 then 0x5A3C else 0x0F96
/-- The candidate buckets of a key: way and bucket. -/
def candBuckets (key : Bytes) : List (Nat × Nat) := (List.range 4).map (fun w => (w, (crc16From (hashInit w) key).toNat))
/-- The place of an entry in the table of keys. -/
def keyPos (w b e : Nat) : Nat := 131072 * w + 2 * b + e
/-- The eight candidate entries of a key, in the order of R191 step 4. -/
def candidates (key : Bytes) : List Nat := (candBuckets key).flatMap (fun p => [keyPos p.1 p.2 0, keyPos p.1 p.2 1])
/-- FP of a key. -/
def fingerprint (key : Bytes) : Byte := (crc16From 0 key).setWidth 8

/-- The entry at a place; a failed bucket's entries are treated as empty by lookups (R195). -/
def State.entryAt (s : State) (p : Nat) : Option KeyEnt :=
  if s.streams.failed.contains (posBucket p) then none else Tab.get none s.streams.keys p

/-- The entries of a key's candidate buckets whose FP matches. -/
def State.fpHits (s : State) (key : Bytes) : List KeyEnt :=
  ((candidates key).filterMap s.entryAt).filter (fun e => e.fp == fingerprint key)

/-- The context that an entry points to has the key. -/
def State.keyMatches (s : State) (key : Bytes) (e : KeyEnt) : Bool :=
  let x := s.ctxAt e.index.toNat
  x.valid && x.cfg.keys.any (fun a => x.cfg.key a == key)

/-- The stream with a key; where none is confirmed, one whose key words cannot be read (R187, R195). -/
def State.lookup (s : State) (key : Bytes) : Option Nat :=
  let hits := s.fpHits key
  match hits.find? (fun e => !s.keyBad e.index.toNat && s.keyMatches key e) with
  | some e => some e.index.toNat
  | none => (hits.find? (fun e => s.keyBad e.index.toNat)).map (fun e => e.index.toNat)

/-- Read the candidate buckets of a key. -/
def readBuckets (key : Bytes) (s : State) : State := forEach (candBuckets key) readEcc s

/-- The reads of a lookup: four buckets, and the contexts with a matching FP (R187, R194, R195). -/
def readLookup (key : Bytes) (s : State) : State :=
  let s1 := readBuckets key s
  forEach ((s1.fpHits key).map (fun e => e.index.toNat)) readCtx s1

/-! ### Insertion and deletion, R191, R192 -/

/-- A free candidate entry: not occupied and not in a failed bucket. -/
def freePlace (failed : List (Nat × Nat)) (keys : Tab (Option KeyEnt)) (key : Bytes) : Option Nat :=
  (candidates key).find? (fun p => (Tab.get none keys p).isNone && !failed.contains (posBucket p))

/-- Write an entry. -/
def setKey (p : Nat) (ent : KeyEnt) (s : State) : State :=
  strMod (fun e => { e with keys := Tab.set none e.keys p (some ent) }) s

/-- The entry that the LFSR picks among the occupied candidates of a key, and the LFSR one step on (R191 step 5). -/
def pickVictim (key : Bytes) (s : State) : Option Nat × State :=
  let e := s.streams
  let vs := (candidates key).filter (fun p => (Tab.get none e.keys p).isSome && !e.failed.contains (posBucket p))
  (vs[(Config.lfsr e.lfsr).toNat % vs.length]?, strMod (fun e => { e with lfsr := e.lfsr + 1 }) s)

/-- Steps 4 and 5 of R191 for an entry, with at most `fuel` moves: whether it found a place, and the state with every
move made. An entry whose context cannot be read is not moved (log entry 111). -/
def walk : Nat → KeyEnt → Bytes → State → Bool × State
  | fuel, ent, key, s =>
    let s1 := readBuckets key s
    match freePlace s1.streams.failed s1.streams.keys key with
    | some p => (true, setKey p ent s1)
    | none =>
      match fuel with
      | 0 => (false, s1)
      | fuel + 1 =>
        let v := pickVictim key s1
        match v.1.bind (fun p => (Tab.get none s1.streams.keys p).map (fun old => (p, old))) with
        | none => (false, v.2)
        | some (p, old) =>
          let s2 := readCtx old.index.toNat v.2
          if s2.keyBad old.index.toNat then walk fuel ent key s2
          else walk fuel old ((s2.ctxAt old.index.toNat).cfg.key old.alt) (setKey p ent s2)

/-- The entries are again those of `keys`, but for buckets that failed since. -/
def undoMoves (keys : Tab (Option KeyEnt)) (s : State) : State :=
  strMod (fun e => { e with keys := keys.filter (fun p => !e.failed.contains (posBucket p.1)) }) s

/-- Insert the keys of a context in order; a key that finds no place leaves none of them in (R191 step 6). -/
def insertKeys (x : Nat) : List Bool → State → Bool × State
  | [], s => (true, s)
  | a :: r, s =>
    let key := (s.ctxAt x).cfg.key a
    let w := walk 512 { alt := a, fp := fingerprint key, index := BitVec.ofNat 18 x } key s
    if w.1 then
      let q := insertKeys x r w.2
      (q.1, if q.1 then q.2 else undoMoves s.streams.keys q.2)
    else (false, undoMoves s.streams.keys w.2)

/-- STREAM_ADD's work (R191): the status and what follows. -/
def addStreamCtx (x : Nat) (image : Bytes) (s : State) : Status × State :=
  let s0 := readCtx x s
  if (s.ctxAt x).valid then (.exists_, s0)
  else
    let c := cfgOf image
    let ks := c.keys.map c.key
    let s1 := forEach ks readLookup s0
    if ks.any (fun k => (s1.lookup k).isSome) || !decide ks.Nodup then (.keyExists, s1)
    else
      let s2 := rewritten ((List.range 7).map (ctxWord x)) (s1.ctxMod x (fun _ =>
        { valid := true, cfg := c, takeAny := true, genSeq := w16At image 2, epoch := s.streams.epoch }))
      match insertKeys x c.keys s2 with
      | (true, t) => (.ok, t)
      | (false, t) => (.tableFull, t.ctxMod x (fun _ => {}))

/-- The words that hold an error, each once: a read of any other leaves no trace. -/
def State.erredWords (s : State) : List (Nat × Nat) :=
  s.streams.failed ++ (s.streams.upset.map (·.1)).filter (fun w => !s.streams.failed.contains w)

/-- The reads of a sweep over all buckets. -/
def readSweep (s : State) : State := forEach (s.erredWords.filter (fun w => decide (w.2 < 65536))) readEcc s

/-- STREAM_DELETE's work: the buckets of its keys, or all of them when its key cannot be read (R192). -/
def deleteStream (x : Nat) (s : State) : State :=
  let s1 := readCtx x s
  let k := s1.ctxAt x
  let s2 := if s1.keyBad x then readSweep s1
    else if k.valid then forEach (k.cfg.keys.map k.cfg.key) readBuckets s1 else s1
  let keys := s2.streams.keys.filter (fun p => (p.2.map (fun e => e.index.toNat)) != some x)
  rewritten ((List.range 7).map (ctxWord x)) ((strMod (fun e => { e with keys := keys }) s2).ctxMod x (fun _ => {}))

/-! ### Counters of a context, R209 -/

/-- One more on a 32-bit counter, and its WRAP bit. -/
def bump (v : W32) : W32 × Bool := (v + 1, v == BitVec.allOnes 32)
/-- Count PASSED. -/
def Ctx.incPassed (x : Ctx) : Ctx :=
  { x with passed := x.passed + 1, wrap := if (bump x.passed).2 then setBit x.wrap 0 true else x.wrap }
/-- Count DISCARDED. -/
def Ctx.incDiscarded (x : Ctx) : Ctx :=
  { x with discarded := x.discarded + 1, wrap := if (bump x.discarded).2 then setBit x.wrap 1 true else x.wrap }
/-- Count OUT_OF_ORDER. -/
def Ctx.incOutOfOrder (x : Ctx) : Ctx :=
  { x with outOfOrder := x.outOfOrder + 1, wrap := if (bump x.outOfOrder).2 then setBit x.wrap 2 true else x.wrap }
/-- Count ROGUE. -/
def Ctx.incRogue (x : Ctx) : Ctx :=
  { x with rogue := x.rogue + 1, wrap := if (bump x.rogue).2 then setBit x.wrap 3 true else x.wrap }
/-- Count RESETS. -/
def Ctx.incResets (x : Ctx) : Ctx :=
  { x with resets := x.resets + 1, wrap := if (bump x.resets).2 then setBit x.wrap 4 true else x.wrap }
/-- LED_ACC, saturating. -/
def Ctx.led (x : Ctx) (d : Int) : Ctx := { x with ledAcc := clampInt (-32768) 32767 (x.ledAcc + d) }

/-! ### The add path, R188, R196, R197 -/

/-- A frame of an add stream is numbered and one copy goes to each member (R196, R197). -/
def addToStream (c x : Nat) (f : Bytes) (s : State) : State :=
  let k := s.ctxAt x
  let r := if k.cfg.funcEn && k.cfg.htag then
      (if k.cfg.ktype then (k.cfg.vid.toNat, s) else s.drawBelow 65536)
    else (0, s)
  let g := if k.cfg.funcEn then setRtag r.1 k.genSeq.toNat f else f
  let s1 := r.2.ctxMod x (fun k => { k.incPassed with genSeq := if k.cfg.funcEn then k.genSeq + 1 else k.genSeq })
  let ms := [k.cfg.member0, k.cfg.member1].filter (·.en)
  if ms.isEmpty then addFrame c none none g s1
  else forEach ms (fun m t => addFrame m.client.toNat (some m.face.toNat) (some x) g t) s1

/-- The key of an add frame that is looked up (R188 rules 2 and 3). -/
def addKey (c idType ident : Nat) (f : Bytes) : Bytes :=
  if idType = 2 then keyWord (0x8000 + c % 1024) [] ident else keyWord (c % 1024) (destMac f) (outerVid f)

/-- A frame from a host port in the add path (R188, R195, R206). -/
def addStream (c idType ident : Nat) (f : Bytes) (s : State) : State :=
  if !s.streams.ready then addFrame c none none f s
  else if idType = 1 then
    let k := s.ctxAt ident
    let s1 := readCtx ident s
    if s1.ctxBad ident then engCount (fun e => { e with eccDrop := wrapAdd e.eccDrop 1 }) s1
    else if k.valid && !k.cfg.dir && k.cfg.client.toNat == c then addToStream c ident f s1
    else engCount (fun e => { e with badIndex := wrapAdd e.badIndex 1 }) s1
  else
    let key := addKey c idType ident f
    let s1 := countSource 0x40 0 1 (engCount (fun e => { e with lookAdd := wrapAdd e.lookAdd 1 }) (readLookup key s))
    match s1.lookup key with
    | none => addFrame c none none f (engCount (fun e => { e with noAdd := wrapAdd e.noAdd 1 }) s1)
    | some x =>
      if s1.ctxBad x then engCount (fun e => { e with eccDrop := wrapAdd e.eccDrop 1 }) s1
      else addToStream c x f s1

/-! ### The drop path, R189, R198 to R200, R203 -/

/-- HIST_LEN ones. -/
def histMask (h : Nat) : W64 := BitVec.ofNat 64 (2 ^ h - 1)

/-- pass: PASSED, LED_ACC and the reset timer (R198). -/
def Ctx.pass (p : Profile) (x : Ctx) : Ctx := { (x.incPassed.led 1) with timer := p.resetMs }

/-- Take-any (R200). -/
def Ctx.takeAnyPass (p : Profile) (epoch : Byte) (seq : W16) (x : Ctx) : Ctx :=
  ({ x with recovSeq := seq, history := 1, takeAny := false, epoch := epoch }).pass p

/-- The signed difference of two sequence numbers (R198). -/
def seqDiff (a b : W16) : Int := (a - b).toInt

/-- Count OUT_OF_ORDER unless the number was the next one. -/
def Ctx.ordered (next : Bool) (x : Ctx) : Ctx := if next then x else x.incOutOfOrder
/-- The flags of a passed frame: OUT_OF_ORDER unless its number was the next one (R203, R227; log entry 52). -/
def orderFlags (next : Bool) : BitVec 4 := if next then 0 else 2

/-- Vector recovery (R198): the context, and the flags when the frame passes. -/
def Ctx.vector (p : Profile) (seq : W16) (x : Ctx) : Ctx × Option (BitVec 4) :=
  let d := seqDiff seq x.recovSeq
  let h : Int := p.histLen.toNat
  if h ≤ d ∨ d ≤ -h then (x.incRogue, none)
  else if d ≤ 0 then
    let i := (-d).toNat
    if bitOf x.history i then (x.incDiscarded.led (-1), none)
    else (({ x with history := setBit x.history i true }).incOutOfOrder.pass p, some (orderFlags false))
  else
    let x1 := { x with history := ((x.history <<< d.toNat) ||| 1) &&& histMask p.histLen.toNat, recovSeq := seq }
    ((x1.ordered (d == 1)).pass p, some (orderFlags (d == 1)))

/-- Match recovery (R199). -/
def Ctx.matchRec (p : Profile) (seq : W16) (x : Ctx) : Ctx × Option (BitVec 4) :=
  if seq = x.recovSeq then (x.incDiscarded.led (-1), none)
  else
    let next := seq == x.recovSeq + 1
    ((({ x with recovSeq := seq }).ordered next).pass p, some (orderFlags next))

/-- Recovery of a frame with an R-TAG in an eliminating stream (R198 to R200). -/
def Ctx.recover (p : Profile) (epoch : Byte) (seq : W16) (x : Ctx) : Ctx × Option (BitVec 4) :=
  if x.takeAny || x.epoch != epoch then (x.takeAnyPass p epoch seq, some 1)
  else if x.cfg.alg then x.matchRec p seq
  else x.vector p seq

/-- Deliver a frame to the host port of a client (R203, R224). -/
def deliverClient (c face : Nat) (stream : Option Nat) (flags : BitVec 4) (f : Bytes) (s : State) : State :=
  deliverHost (cliPort (s.clientAt c).entry) { octets := f, client := c, face := face, stream := stream, flags := flags } s

/-- A frame that passes in a drop stream is delivered (R203). -/
def deliverStream (c face x : Nat) (flags : BitVec 4) (f : Bytes) (s : State) : State :=
  let k := (s.ctxAt x).cfg
  deliverClient (if k.altEn then k.client.toNat else c) face (some x) flags (if k.strip then stripRtag f else f) s

/-- A frame of a stream with an uncorrectable word is delivered without elimination; of the context, what can be read
counts (R195, R203, log entry 151). -/
def deliverUnread (c face x : Nat) (f : Bytes) (s : State) : State :=
  let k := (s.ctxAt x).cfg
  let strip := k.strip && !s.streams.failed.contains (ctxWord x 0)
  deliverClient (if k.altEn && !s.keyBad x then k.client.toNat else c) face (some x) 12 (if strip then stripRtag f else f) s

/-- A dropped frame of a stream (R198 to R203). -/
def dropInStream (c face x : Nat) (f : Bytes) (s : State) : State :=
  let k := s.ctxAt x
  if !k.cfg.funcEn then deliverStream c face x 4 f (s.ctxMod x Ctx.incPassed)
  else if !hasRtag f then deliverStream c face x 4 f (engCount (fun e => { e with tagless := wrapAdd e.tagless 1 }) s)
  else
    let r := k.recover (s.profAt k.cfg.prof.toNat) s.streams.epoch (BitVec.ofNat 16 (rtagSeq f))
    let s1 := s.ctxMod x (fun _ => r.1)
    match r.2 with
    | some fl => deliverStream c face x fl f s1
    | none => s1

/-- The key of a dropped frame (R189); none where the frame belongs to no stream without a lookup. -/
def State.dropKeyOf (s : State) (c : Nat) (f : Bytes) : Option Bytes :=
  if s.streams.dropKey then (if hasRtag f then some (keyWord (0xC000 + c % 1024) [] (rtagReserved f)) else none)
  else some (keyWord (0x4000 + c % 1024) (destMac f) (outerVid f))

/-- A frame that a client link drops in the drop path (R189, R195, R206). -/
def dropStream (c face : Nat) (f : Bytes) (s : State) : State :=
  if !s.streams.ready then deliverClient c face none 4 f s
  else match s.dropKeyOf c f with
  | none => deliverClient c face none 4 f (engCount (fun e => { e with noDrop := wrapAdd e.noDrop 1 }) s)
  | some key =>
    let s1 := countSource 0x40 1 1 (engCount (fun e => { e with lookDrop := wrapAdd e.lookDrop 1 }) (readLookup key s))
    match s1.lookup key with
    | none => deliverClient c face none 4 f (engCount (fun e => { e with noDrop := wrapAdd e.noDrop 1 }) s1)
    | some x =>
      if s1.ctxBad x then deliverUnread c face x f s1
      else dropInStream c face x f s1

/-! ### Lookup queues, R190 -/

/-- A frame meets a full lookup queue. -/
def overrun (dir : Nat) (s : State) : State :=
  let s1 := engCount (fun c => if dir = 0 then { c with overAdd := wrapAdd c.overAdd 1 } else { c with overDrop := wrapAdd c.overDrop 1 }) s
  if 1024 ≤ s.streams.sinceOver then raise 0x8703 [u8 dir] (strMod (fun e => { e with sinceOver := 0 }) s1) else s1

/-- A frame in the add path is one of stream `x`. -/
def State.isOfStream (s : State) (x : Nat) (r : AddReq) : Bool :=
  if r.idType = 1 then r.ident == x else s.lookup (addKey r.client r.idType r.ident r.frame) == some x

/-- Earlier frames of a stream wait in the add path: a frame named by its index goes after them (R204). -/
def State.mustWait (s : State) (x : Nat) : Bool := s.streams.queueAdd.any (s.isOfStream x)

/-- A frame from a host port enters the add path: one named by index takes no lookup, and no place among the 512 frames that
wait for one (R188, R190). -/
def enterAdd (r : AddReq) (s : State) : State :=
  let now := !s.streams.ready || (r.idType == 1 && !s.mustWait r.ident)
  if now then addStream r.client r.idType r.ident r.frame s
  else if r.idType ≠ 1 ∧ 512 ≤ s.streams.queueAdd.countP (fun q => q.idType != 1) then overrun 0 s
  else strMod (fun e => { e with queueAdd := e.queueAdd ++ [r] }) s

/-- A dropped frame enters the drop path (R190). -/
def enterDrop (r : DropReq) (s : State) : State :=
  if !s.streams.ready then dropStream r.client r.face r.frame s
  else if 512 ≤ s.streams.queueDrop.length then overrun 1 s
  else strMod (fun e => { e with queueDrop := e.queueDrop ++ [r] }) s

/-! ### Batches, R193 -/

/-- One record of a batch (R193): its STATUS, and the state after; REPLACE deletes first, whatever the image. -/
def bulkRecord (a : Nat) (s : State) : Status × State :=
  let rec_ := s.sramRead a 64
  let s := s.sramSeen a 64
  let w := leAt rec_ 0 4
  let image := slice rec_ 8 56
  let x := w % 262144
  if w / 262144 % 8192 ≠ 0 then (.range, s)
  else
    let s1 := if 2 ^ 31 ≤ w then deleteStream x s else s
    if imageOk image then addStreamCtx x image s1 else (.range, s1)

/-- The records of a batch in order, from the given address: accepted, refused, and how many were left when a record
had an uncorrectable word (R417). -/
def bulkRecords : Nat → Nat → State → Nat × Nat × Nat × State
  | 0, _, s => (0, 0, 0, s)
  | n + 1, a, s =>
    let bad := s.sramBadIn a 64
    if bad = [] then
      let r := bulkRecord a s
      let q := bulkRecords n (a + 64) (r.2.sramWrite (a + 4) (leN 4 r.1.code.toNat))
      if r.1 = .ok then (q.1 + 1, q.2.1, q.2.2) else (q.1, q.2.1 + 1, q.2.2)
    else (0, 0, n + 1, s.sramSeen a 64)

/-- A batch in progress is stopped because a domain powers down (R365): a free number of its records have been handled, and
its channel is IDLE with the residue and DOMAIN_DOWN, and interrupts (log entry 156). -/
def bulkCut (s : State) : State :=
  match s.streams.bulk with
  | none => s
  | some b =>
    let d := s.drawBelow (b.count.toNat + 1)
    let r := bulkRecords d.1 (winToSram b.addr.toNat) d.2
    let left := b.count.toNat - d.1 + r.2.2.1
    dmaIrq b.dma.toNat ((strMod (fun e => { e with bulk := none }) r.2.2.2).chanMod b.dma.toNat (fun c =>
      { c with st := .idle, err := if r.2.2.1 = 0 then 2 else 7, resid := BitVec.ofNat 24 (64 * left) }))

end Sys2Proof.Machine
end

