-- ==== Sys2Proof/Machine/HostPort.lean ====
section
/-! DEFINITION. The host interface's commands and events (chapter 08). -/

namespace Sys2Proof.Machine

/-- HOST_CONFIG, R222. -/
def etypeOk (e : W16) : Bool :=
  decide (0x0600 ≤ e.toNat) && e != 0x8100 && e != 0x88A8 && e != 0x9100 && e != 0xF1C1 && e != 0x88F7
def cmdHostConfig (etype : W16) (s : State) : Cmd :=
  { range := etypeOk etype
    run := fun _ => ok { s with etype := etype } }
def execHostConfig (etype : W16) (s : State) : Result := parax 0x0801 (cmdHostConfig etype) s

/-- The widths of R213. -/
def widthOk (p w : Nat) : Bool :=
  w == 1 || w == 2 || (w == 4 && p % 2 == 0) || (w == 8 && p % 4 == 0)
/-- The host lanes of a port. -/
def portLanes (p w : Nat) : List Nat := (List.range w).map (2 * p + ·)
/-- A port that is not DISABLED and shares a host lane or a place in the widths with port `p` at width `w` (R213). -/
def State.portClash (s : State) (p w : Nat) : Bool :=
  (List.range 16).any (fun q => q != p && decide ((s.portAt q).st ≠ .disabled)
    && (portLanes q (s.portAt q).width.toNat).any (fun h => (portLanes p w).contains h))
/-- Host quads are powered while a lane of theirs belongs to a port that is not DISABLED (R211). -/
def hostQuads (s : State) : State :=
  let used (q : Nat) : Bool := (List.range 4).any (fun k => s.hostLaneUsed (4 * q + k))
  (s.setPd ((List.range 8).filter used |>.map (64 + ·)) true).setPd ((List.range 8).filter (fun q => !used q) |>.map (64 + ·)) false

/-- A port enters a state: HOST_PORT_UP and HOST_PORT_DOWN (R217). -/
def PortSt.code : PortSt → Byte
  | .disabled => 0 | .acquire => 1 | .up => 2 | .remoteFault => 3
def enterPort (p : Nat) (st : PortSt) (aligned : Bool) (s : State) : State :=
  let was := (s.portAt p).st
  let s1 := s.portMod p (fun x => { x with st := st, aligned := aligned })
  if was = st then s1
  else if st = .up then raise 0x8801 [u8 p] s1
  else if was = .up then raise 0x8802 [u8 p, st.code] s1
  else s1

/-- The lanes of a port are acquired or not (R216, R217): bit k of the mask is its lane k. -/
def locksTo (p : Nat) (mask : Byte) (on : Bool) (s : State) : State :=
  forEach (((portLanes p (s.portAt p).width.toNat).zipIdx.filter (fun q => bitOf mask q.2)).map (·.1))
    (fun h t => t.hlaneMod h (fun x => { x with lock := on })) s

/-- A port that is not DISABLED gives its lanes up (R213, R217). -/
def portLeaves (p : Nat) (s : State) : State := if (s.portAt p).st = .disabled then s else locksTo p 0xFF false s

/-- HOST_PORT_CONFIG, R211, R213, R217, R220, R225. -/
def cmdHostPortConfig (port enable width tagMode polTx polRx : Byte) (s : State) : Cmd :=
  let p := port.toNat
  let w := width.toNat
  { range := decide (p < 16) && isFlag enable && isFlag tagMode && widthOk p w
      && decide (polTx.toNat < 2 ^ w) && decide (polRx.toNat < 2 ^ w) && !(enable == 1 && s.portClash p w)
    run := fun _ =>
      if enable = 1 ∧ (s.portAt p).st ≠ .disabled then deny .busy s
      else if tagMode = 1 ∧ s.vlanClash p then deny .vlanConflict s
      else
        let s1 := (portLeaves p s).portMod p (fun x => { x with width := width, vlan := tagMode == 1, polTx := polTx, polRx := polRx })
        ok (hostQuads (if enable = 1 then enterPort p .acquire false (locksTo p 0xFF false s1)
          else (enterPort p .disabled false s1).portMod p (fun x => { x with egress := [] }))) }
def execHostPortConfig (port enable width tagMode polTx polRx : Byte) (s : State) : Result :=
  parax 0x0802 (cmdHostPortConfig port enable width tagMode polTx polRx) s

/-- A host lane identifier in range. -/
def hlaneOk (h : Byte) : Bool := decide (h.toNat < 32)

/-- The taps of R215 are accepted. -/
def hostTapsOk (taps : Bytes) : Bool :=
  decide ((taps.map (fun b => b.toInt.natAbs)).sum ≤ 64) && decide (24 ≤ (byteAt taps 3).toInt)

/-- The CTLE peaking in use: the fixed one, or the one adapted to (R216). -/
def HLane.peaking (h : HLane) : Byte := h.ctle.getD h.ctleNow

/-- The output of the receive FFE for symbol `k`, in the units of its taps: 32 taps, eight of them ahead of the symbol
(R216). -/
def HLane.ffeOut (h : HLane) (x : List Int) (k : Int) : Int :=
  ((List.range 32).map (fun (j : Nat) => tapAt h.ffe j * tapAt x (k + 8 - j))).sum

/-- HOST_LANE_EQ, R215, R216. -/
def cmdHostLaneEq (hlane mask : Byte) (taps : Bytes) (hswing ctle ffeFreeze : Byte) (s : State) : Cmd :=
  { form := if taps.length = 5 then none else some .badLength
    range := hlaneOk hlane && flagsOk 4 mask && maskedOk mask 0 (hostTapsOk taps) && maskedOk mask 1 (decide (hswing.toNat ≤ 15))
      && maskedOk mask 2 (decide (ctle.toNat ≤ 36) || ctle == 0xFF) && maskedOk mask 3 (isFlag ffeFreeze)
    run := fun _ => ok (s.hlaneMod hlane.toNat (fun h =>
      { h with
        taps := masked mask 0 (taps.map BitVec.toInt) h.taps
        hswing := masked mask 1 hswing h.hswing
        ctle := masked mask 2 (if ctle = 0xFF then none else some ctle) h.ctle
        freeze := masked mask 3 (ffeFreeze == 1) h.freeze })) }
def execHostLaneEq (hlane mask : Byte) (taps : Bytes) (hswing ctle ffeFreeze : Byte) (s : State) : Result :=
  parax 0x0803 (cmdHostLaneEq hlane mask taps hswing ctle ffeFreeze) s

/-- HOST_PORT_STATUS, R217, R228. -/
def cmdHostPortStatus (port : Byte) (s : State) : Cmd :=
  let p := port.toNat
  let x := s.portAt p
  let hs := (portLanes p x.width.toNat).map s.hlaneAt
  { range := decide (p < 16)
    run := fun _ => okWith ([x.st.code, u8 (packBits (hs.map (·.lock)))]
      ++ slice (hs.flatMap (fun h => le16 h.eqf)) 0 16 ++ slice (hs.map (fun h => h.ctle.getD 0xFF)) 0 8
      ++ [u8 (packBits (hs.map (·.freeze)))] ++ leN 4 x.fill) s }
def execHostPortStatus (port : Byte) (s : State) : Result := parax 0x0804 (cmdHostPortStatus port) s

/-- HOST_LOOPBACK_SET, R231: like LOOPBACK_SET it wants a lane at rest, with no generator and no checker running (log entry
114). -/
def cmdHostLoopbackSet (hlane point : Byte) (s : State) : Cmd :=
  { range := hlaneOk hlane && decide (point.toNat ≤ 2)
    run := fun _ =>
      let h := s.hlaneAt hlane.toNat
      if s.hostLaneUsed hlane.toNat ∨ h.gen.on ∨ h.check.on then deny .busy s
      else ok (s.hlaneMod hlane.toNat (fun h => { h with loopback := point, fill := 2048 })) }
def execHostLoopbackSet (hlane point : Byte) (s : State) : Result := parax 0x0805 (cmdHostLoopbackSet hlane point) s

/-- The port counters in the order of R232. -/
def Port.counters (x : Port) : List W48 :=
  [x.rxFrames, x.rxOctets, x.txFrames, x.txOctets, x.rxErrored, x.fcsErr, x.lenErr, x.tagMissing, x.tagBad,
   x.clientInactive, x.downDrop, x.egressDrop]
/-- A port with its counters at zero. -/
def Port.cleared (x : Port) : Port :=
  { x with rxFrames := 0, rxOctets := 0, txFrames := 0, txOctets := 0, rxErrored := 0, fcsErr := 0, lenErr := 0,
           tagMissing := 0, tagBad := 0, clientInactive := 0, downDrop := 0, egressDrop := 0 }
/-- A host lane's counters. -/
def HLane.counters (h : HLane) : List W48 := [h.rsCw, h.rsCorr, h.rsUncorr, h.rsSym]

/-- HOST_COUNTERS_READ, R232. -/
def cmdHostCountersRead (port flags : Byte) (buf : W32) (s : State) : Cmd :=
  let p := port.toNat
  let ls := portLanes p (s.portAt p).width.toNat
  let data := ((s.portAt p).counters ++ ls.flatMap (fun h => (s.hlaneAt h).counters)).flatMap (fun v => leN 8 v.toNat)
  { range := decide (p < 16) && flagsOk 1 flags && respRange buf 0 data.length
    run := fun _ =>
      let s1 := if clearFlag flags then
          forEach ls (fun h t => t.hlaneMod h (fun x => { x with rsCw := 0, rsCorr := 0, rsUncorr := 0, rsSym := 0 }))
            (s.portMod p Port.cleared)
        else s
      respond buf [] data s1 }
def execHostCountersRead (port flags : Byte) (buf : W32) (s : State) : Result :=
  parax 0x0806 (cmdHostCountersRead port flags buf) s

/-! ### Frames, R223 to R226 -/

/-- The host tag of a frame is acceptable: IDTYPE, reserved bits, IDENT (R223 step 4). -/
def htagOk (w : Nat) : Bool :=
  let idt := w / 2 ^ 46
  decide (idt ≠ 3) && decide (w / 2 ^ 40 % 2 = 0) && decide (w / 2 ^ 18 % 4096 = 0)
    && (decide (idt ≠ 2) || decide (w / 2 ^ 16 % 4 = 0))

/-- A frame received on a port in HOST_TAG mode, from step 3 on (R223). -/
def receiveTagged (p : Nat) (f : Bytes) (s : State) : State :=
  let w := ofBe (slice f 14 6)
  let c := w / 2 ^ 30 % 1024
  if slice f 12 2 ≠ beN 2 s.etype.toNat then portCount p (fun x => { x with tagMissing := wrapAdd x.tagMissing 1 }) s
  else if !htagOk w then portCount p (fun x => { x with tagBad := wrapAdd x.tagBad 1 }) s
  else if !cliActive (s.clientAt c).entry then portCount p (fun x => { x with clientInactive := wrapAdd x.clientInactive 1 }) s
  else enterAdd { client := c, idType := w / 2 ^ 46, ident := w % 2 ^ 18, frame := withoutHtag f } s

/-- A frame received on a port in VLAN mode, after its length check (R226). -/
def receiveVlan (p : Nat) (f : Bytes) (s : State) : State :=
  if !vlanAt f 12 then portCount p (fun x => { x with tagMissing := wrapAdd x.tagMissing 1 }) s
  else match s.clientOfVid p (outerVid f) with
  | none => portCount p (fun x => { x with tagBad := wrapAdd x.tagBad 1 }) s
  | some c => enterAdd { client := c, idType := 0, ident := 0, frame := f } s

/-- The port takes frames from the host (R217). -/
def PortSt.receives : PortSt → Bool
  | .up => true
  | .remoteFault => true
  | _ => false

/-- HOST_FRAME_RECEIVE, R223, R226, R426; what crosses in the multiframe of a slip is errored (R18). -/
def execHostFrameReceive (port : BitVec 4) (frame : Frame) (s : State) : Result :=
  let p := port.toNat
  eventIf (s.portLive p && (s.portAt p).st.receives) (fun s =>
    let f := frame.octets
    let n := f.length
    let v := (s.portAt p).vlan
    let s1 := portCount p (fun x => { x with rxFrames := wrapAdd x.rxFrames 1, rxOctets := wrapAdd x.rxOctets n }) s
    let s2 := countWindow 1 p n (countSource 0x31 p n (countSource 0x30 p 1 s1))
    if frame.errored || bitOf s.skew.errQuads (p / 2) then portCount p (fun x => { x with rxErrored := wrapAdd x.rxErrored 1 }) s2
    else if !fcsGood f then portCount p (fun x => { x with fcsErr := wrapAdd x.fcsErr 1 }) s2
    else if !(if v then within 64 10240 n else within 72 10248 n) then portCount p (fun x => { x with lenErr := wrapAdd x.lenErr 1 }) s2
    else if v then receiveVlan p f s2 else receiveTagged p f s2) s

/-- HOST_FRAME_TRANSMIT, R224, R226; what crosses in the multiframe of a slip is sent as errored (R18). -/
def execHostFrameTransmit (port : BitVec 4) (s : State) : Result :=
  let p := port.toNat
  eventIf (s.portLive p && decide ((s.portAt p).st = .up) && !(s.portAt p).egress.isEmpty) (fun s =>
    match (s.portAt p).egress with
    | [] => s
    | e :: r =>
      let f := s.hostFrame p e
      countSource 0x33 p f.length (countSource 0x32 p 1 (portCount p (fun x =>
        { x with egress := r, sent := f, sentErr := bitOf s.skew.errQuads (p / 2), txFrames := wrapAdd x.txFrames 1, txOctets := wrapAdd x.txOctets f.length }) s))) s

/-! ### Port states, R217, R218 -/

/-- What a port sends to the host by its state (R217). -/
inductive PortOut where
  | highZ | localFault | frames | idle
  deriving DecidableEq, Repr

/-- The column "Transmit to host" of the table of port states. -/
def PortSt.output : PortSt → PortOut
  | .disabled => .highZ
  | .acquire => .localFault
  | .up => .frames
  | .remoteFault => .idle

/-- What is on a host lane's output: its port's signal, and on a lane of a DISABLED port what R231 gives. -/
inductive HostOut where
  | port (out : PortOut)
  | zeroMv
  | looped
  | pattern (seq : Byte)
  deriving DecidableEq, Repr

/-- The port that is not DISABLED and holds a host lane (R213). -/
def State.portOf (s : State) (h : Nat) : Option Nat :=
  (List.range 16).find? (fun p => decide ((s.portAt p).st ≠ .disabled) && (portLanes p (s.portAt p).width.toNat).contains h)

/-- What a host lane's DAC sends: its port's signal, or on a lane of no port what its generator gives (R217, R231). -/
def State.hostSent (s : State) (h : Nat) : HostOut :=
  let x := s.hlaneAt h
  match s.portOf h with
  | some p => .port (s.portAt p).st.output
  | none => if x.gen.on then .pattern x.gen.pattern else .port .highZ

/-- The output of a host lane: a loopback stays until it is taken back, whatever port the lane comes to (R211, R217, R231,
log entry 152). -/
def State.hostOut (s : State) (h : Nat) : HostOut :=
  let x := s.hlaneAt h
  if !s.quadOn (h / 4) then .port .highZ
  else if x.loopback = 1 then .zeroMv
  else if x.loopback = 2 then .looped
  else s.hostSent h

/-- What a host lane's receiver takes: the host's signal, or under NEAR what its own DAC sends (R231). -/
def HLane.input {Signal : Type} (h : HLane) (host dac : Signal) : Signal := if h.loopback = 1 then dac else host

/-- The symbols that a lane in FAR sends: those received, after the receive FFE, through the elastic store of 4,096 symbols,
which slips as R92 states (R231). -/
def farSymbols (sym : Int → Nat) (got : Nat → Int) (n : Nat) : List Nat := (storeRun sym got n).1

/-- HOST_PORT_ALIGNED: every lane acquired, the PCS aligned, and no fault sequence for 1 ms. -/
def execHostPortAligned (port : BitVec 4) (s : State) : Result :=
  let p := port.toNat
  eventIf (s.portLive p && decide ((s.portAt p).st = .acquire)) (fun s => enterPort p .up true (locksTo p 0xFF true s)) s

/-- HOST_REMOTE_FAULT: remote fault received while aligned. -/
def execHostRemoteFault (port : BitVec 4) (s : State) : Result :=
  eventIf (s.portLive port.toNat && decide ((s.portAt port.toNat).st ≠ .disabled)) (fun s => enterPort port.toNat .remoteFault true (locksTo port.toNat 0xFF true s)) s

/-- HOST_PORT_LINK_LOSS, R218: with 1 ms of local fault as the cause the PCS stays
aligned, and otherwise it aligns again. -/
def execHostPortLinkLoss (lost : LinkLost) (s : State) : Result :=
  let p := lost.port.toNat
  eventIf (s.portLive p && (s.portAt p).st.receives) (fun s =>
    enterPort p .acquire (lost.localFault && lost.lanes == 0) (locksTo p lost.lanes false s)) s

/-- HOST_FAULT_CLEAR, R218. -/
def execHostFaultClear (port : BitVec 4) (s : State) : Result :=
  eventIf (s.portLive port.toNat && decide ((s.portAt port.toNat).st = .remoteFault)
    && (s.portAt port.toNat).aligned) (enterPort port.toNat .up true) s

/-- HOST_LANE_EQF_UPDATE, R216, R232: a fixed CTLE and a frozen FFE keep their values; EQF is formed as R61 forms it. -/
def execHostLaneEqfUpdate (hlane : BitVec 5) (meas : HostMeas) (fec : List Nat) (s : State) : Result :=
  eventIf (s.quadOn (hlane.toNat / 4)) (fun s => s.hlaneMod hlane.toNat (fun h =>
    { h with
      lock := meas.lock
      eqf := eqfOf meas.eye
      ctleNow := if h.ctle.isSome then h.ctleNow else BitVec.ofNat 8 (min 36 meas.ctle.toNat)
      ffe := if h.freeze then h.ffe else (meas.ffe ++ List.replicate 32 0).take 32
      rsCw := wrapAdd h.rsCw (fec.getD 0 0), rsCorr := wrapAdd h.rsCorr (fec.getD 1 0)
      rsUncorr := wrapAdd h.rsUncorr (fec.getD 2 0), rsSym := wrapAdd h.rsSym (fec.getD 3 0) })) s

end Sys2Proof.Machine
end

