-- ==== Sys2Proof/Machine/Icing.lean ====
section
/-! DEFINITION. The Icing commands, receiver, transmitter and messages (chapter 09), but for the negotiation of modes
and of the Tier (Machine/Negotiation.lean), predistortion feedback (Machine/LaneTx.lean) and WAKE
(Machine/Power.lean). -/

namespace Sys2Proof.Machine

/-! ### Commands -/

/-- The fields of ICING_CONFIG that Tier 0 sets: NODE_ADDR, NET_ID, RX_ENABLE, RX_GRADES, DET_THRESH, CAPTURE_THRESH and
TAP_CAL (table Tier 0 commands). -/
def tier0Fields (mask : W32) : Bool :=
  (List.range 32).all (fun k => !bitOf mask k || [0, 1, 2, 3, 12, 13, 14].contains k)

/-- ICING_CONFIG, R252, R378; FACE 0xFF sets NODE_ADDR and NET_ID alone (chapter 15). -/
def cmdIcingConfig (face : Byte) (mask : W32) (nodeAddr : W16) (netId rxEnable rxGrades gradeTx gradeMargin discGrade
    discPeriod : Byte) (reportPeriod : W16) (icingLane access rampUs detThresh captureThresh : Byte) (tapCal : W16)
    (watchGrade accept : Byte) (s : State) : Cmd :=
  let f := face.toNat
  { ready := (s.sys.tier != 0 || tier0Fields mask)
      && (if face = 0xFF then s.icingOn 0 && s.icingOn 1 else s.icingOn (f % 2))
    range := (if face = 0xFF then decide (mask.toNat < 4) else faceOk face && decide (mask.toNat < 2 ^ 17))
      && maskedOk mask 0 (nodeAddr != 0xFFFF)
      && maskedOk mask 2 (isFlag rxEnable)
      && maskedOk mask 3 (rxGrades != 0 && decide (rxGrades.toNat < 64))
      && maskedOk mask 4 (gradeTx == 0 || within 6 11 gradeTx.toNat)
      && maskedOk mask 5 (decide (gradeMargin.toNat ≤ 15))
      && maskedOk mask 6 (within 6 11 discGrade.toNat)
      && maskedOk mask 7 (within 1 100 discPeriod.toNat)
      && maskedOk mask 8 (decide (reportPeriod.toNat ≤ 600))
      && maskedOk mask 9 (laneOk icingLane && faceOf icingLane.toNat == f)
      && maskedOk mask 10 (isFlag access)
      && maskedOk mask 11 (within 1 32 rampUs.toNat)
      && maskedOk mask 12 (within 6 15 detThresh.toNat)
      && maskedOk mask 13 (within 3 15 captureThresh.toNat)
      && maskedOk mask 14 (withinI (-1024) 1023 tapCal.toInt)
      && maskedOk mask 15 (within 6 11 watchGrade.toNat)
      && maskedOk mask 16 (flagsOk 2 accept)
    run := fun _ =>
      let s1 := { s with nodeAddr := masked mask 0 nodeAddr s.nodeAddr, netId := masked mask 1 netId s.netId }
      if face = 0xFF then ok s1
      else
        let s2 := s1.icingMod f (fun i =>
          let c := i.cfg
          { i with
            lane := masked mask 9 (icingLane.toNat % 8) i.lane
            cfg := { c with
              rxEnable := masked mask 2 (rxEnable == 1) c.rxEnable
              rxGrades := masked mask 3 (rxGrades.setWidth 6) c.rxGrades
              gradeTx := masked mask 4 gradeTx c.gradeTx
              gradeMargin := masked mask 5 gradeMargin c.gradeMargin
              discGrade := masked mask 6 discGrade c.discGrade
              discPeriod := masked mask 7 discPeriod c.discPeriod
              reportPeriod := masked mask 8 reportPeriod c.reportPeriod
              duplex := masked mask 10 (access == 1) c.duplex
              ramp := masked mask 11 rampUs c.ramp
              detThresh := masked mask 12 detThresh c.detThresh
              capThresh := masked mask 13 captureThresh c.capThresh
              tapCal := masked mask 14 tapCal.toInt c.tapCal
              watchGrade := masked mask 15 watchGrade c.watchGrade
              modeAccept := masked mask 16 (bitOf accept 0) c.modeAccept
              tierAccept := masked mask 16 (bitOf accept 1) c.tierAccept } })
        ok (if (s2.icingAt f).rx.st = .off ∨ (s2.icingAt f).rx.st = .search then icToSearch f s2 else s2) }
def execIcingConfig (face : Byte) (mask : W32) (nodeAddr : W16) (netId rxEnable rxGrades gradeTx gradeMargin discGrade
    discPeriod : Byte) (reportPeriod : W16) (icingLane access rampUs detThresh captureThresh : Byte) (tapCal : W16)
    (watchGrade accept : Byte) (s : State) : Result :=
  parax 0x0901 (cmdIcingConfig face mask nodeAddr netId rxEnable rxGrades gradeTx gradeMargin discGrade discPeriod
    reportPeriod icingLane access rampUs detThresh captureThresh tapCal watchGrade accept) s

/-- The state codes of R240. -/
def IcSt.code : IcSt → Byte
  | .off => 0 | .search => 1 | .detect => 2 | .header => 3 | .body => 4 | .watchSleep => 5

/-- The grade in use on a face: that of unicast to its far end (R251). -/
def State.gradeInUse (s : State) (f : Nat) : Nat :=
  if s.farFound f then s.gradeFor f (s.icingAt f).far else (s.icingAt f).cfg.discGrade.toNat

/-- ICING_STATUS. -/
def cmdIcingStatus (face : Byte) (s : State) : Cmd :=
  let i := s.icingAt face.toNat
  { ready := s.icingOn (face.toNat % 2)
    range := faceOk face
    run := fun _ => okWith ([i.rx.st.code, u8 i.rx.gain] ++ le16 i.rx.avgLevel
      ++ [u8 (s.gradeInUse face.toNat), u8 i.queue.length] ++ le16 i.far) s }
def execIcingStatus (face : Byte) (s : State) : Result := parax 0x0902 (cmdIcingStatus face) s

/-- One entry of ICING_NEIGHBOURS; AGE in ms of the 1 MHz LPO count (R254, R336). -/
def nbrBytes (s : State) (n : Nbr) : Bytes :=
  le16 n.addr ++ [if n.found then 1 else 2] ++ slice n.disc 0 11
    ++ leN 4 ((s.pwr.time - n.at_).toNat / 1000) ++ le16 n.rssi ++ le16 n.snr

/-- ICING_NEIGHBOURS, R254, R255. -/
def cmdIcingNeighbours (face : Byte) (s : State) : Cmd :=
  let i := s.icingAt face.toNat
  { ready := s.icingOn (face.toNat % 2)
    range := faceOk face
    run := fun _ => okWith (slice (i.nbrs.flatMap (nbrBytes s)) 0 176
      ++ (lanesOf face.toNat).map (fun l => u8 (s.farLane l))) s }
def execIcingNeighbours (face : Byte) (s : State) : Result := parax 0x0903 (cmdIcingNeighbours face) s

/-- ICING_PIN, R255. -/
def cmdIcingPin (face : Byte) (addr : W16) (s : State) : Cmd :=
  { ready := s.icingOn (face.toNat % 2)
    range := faceOk face && addr != 0xFFFF
    run := fun _ => ok (chooseFar face.toNat (s.icingMod face.toNat (fun i => { i with pin := addr }))) }
def execIcingPin (face : Byte) (addr : W16) (s : State) : Result := parax 0x0904 (cmdIcingPin face addr) s

/-- ICING_LANE_MAP, R255 rule 3. -/
def cmdIcingLaneMap (face lane farLane : Byte) (s : State) : Cmd :=
  { ready := s.icingOn (face.toNat % 2)
    range := faceOk face && laneOk lane && faceOf lane.toNat == face.toNat && laneOk farLane
    run := fun _ => ok (s.icingMod face.toNat (fun i =>
      { i with map := Tab.set none i.map lane.toNat (some farLane), fixed := setBit i.fixed (lane.toNat % 8) true })) }
def execIcingLaneMap (face lane farLane : Byte) (s : State) : Result := parax 0x0905 (cmdIcingLaneMap face lane farLane) s

/-- A node address that one node can have (R252). -/
def nodeOk (a : W16) : Bool := a != 0 && a != 0xFFFF

/-- ICING_LEVEL_QUERY, R256. -/
def cmdIcingLevelQuery (face : Byte) (dst : W16) (s : State) : Cmd :=
  let f := face.toNat
  { ready := s.icingOn (f % 2)
    range := faceOk face && nodeOk dst
    run := fun _ =>
      if !s.icTxAvail f then deny .notReady s
      else if s.icFull f then deny .full s
      else
        let q := (s.icingAt f).qseq + 1
        okWith [q] (icQueue f 0x02 dst [q] (s.icingMod f (fun i => { i with qseq := q }))) }
def execIcingLevelQuery (face : Byte) (dst : W16) (s : State) : Result := parax 0x0906 (cmdIcingLevelQuery face dst) s

/-- ICING_MSG_SEND, R261. -/
def cmdIcingMsgSend (face : Byte) (dst : W16) (flags len : Byte) (data : Bytes) (s : State) : Cmd :=
  let f := face.toNat
  { form := if data.length = len.toNat then none else some .badLength
    ready := s.icingOn (f % 2)
    range := faceOk face && dst != 0 && flagsOk 1 flags && decide (len.toNat ≤ 247)
    run := fun _ =>
      if s.icFull f then deny .full s
      else
        let g := (s.icingAt f).gseq + 1
        let p := [g, flags] ++ data
        let s1 := s.icingMod f (fun i => { i with gseq := g })
        let s2 := if bitOf flags 0 && dst != 0xFFFF then
            s1.icingMod f (fun i => { i with genWait := i.genWait ++
              [{ gseq := g, dst := dst, payload := p, resends := 0, grade := s.gradeFor f dst }] })
          else s1
        okWith [g] (icQueue f 0x30 dst p s2) }
def execIcingMsgSend (face : Byte) (dst : W16) (flags len : Byte) (data : Bytes) (s : State) : Result :=
  parax 0x0907 (cmdIcingMsgSend face dst flags len data) s

/-- A received general message in ICING_MSG_READ. -/
def genRxBytes (g : GenRx) : Bytes :=
  le16 g.src ++ [g.grade] ++ le16 g.rssi ++ le16 g.snr ++ [g.gseq, u8 g.data.length] ++ g.data

/-- ICING_MSG_READ, R261, R403. -/
def cmdIcingMsgRead (face max : Byte) (buf : W32) (s : State) : Cmd :=
  let f := face.toNat
  let ms := (s.icingAt f).genRx.take max.toNat
  let data := ms.flatMap genRxBytes
  { ready := s.icingOn (f % 2)
    range := faceOk face && respRange buf 1 data.length
    run := fun _ => respond buf [u8 ms.length] data
      (s.icingMod f (fun i => { i with genRx := i.genRx.drop max.toNat })) }
def execIcingMsgRead (face max : Byte) (buf : W32) (s : State) : Result := parax 0x0908 (cmdIcingMsgRead face max buf) s

/-- ICING_WAKE_SEND, R262, R263. -/
def cmdIcingWakeSend (face : Byte) (dst : W16) (grade : Byte) (wakeMs : W16) (reason : Byte) (s : State) : Cmd :=
  let f := face.toNat
  { ready := s.icingOn (f % 2)
    range := faceOk face && dst != 0 && within 6 11 grade.toNat && within 1 10050 wakeMs.toNat
    run := fun _ =>
      if s.dst1608 f dst then deny .notSupported s
      else if !s.icTxAvail f then deny .notReady s
      else if s.icFull f then deny .full s
      else ok (icQueueAt f 0x3E dst [reason] (.given grade.toNat) wakeMs s) }
def execIcingWakeSend (face : Byte) (dst : W16) (grade : Byte) (wakeMs : W16) (reason : Byte) (s : State) : Result :=
  parax 0x0909 (cmdIcingWakeSend face dst grade wakeMs reason) s

/-- The counters in the order of R264. -/
def IcCnt.list (c : IcCnt) : List W32 :=
  [c.rxOk, c.crcFail, c.hdrFail, c.falseDetect, c.netMismatch, c.capture, c.secIgnored, c.ownEcho, c.addrFiltered,
   c.unknownType, c.rxOverflow, c.nbrFull, c.watchIgnored, c.txFrames, c.txDefer, c.txFail, c.txAbort, c.txUnavail]

/-- ICING_COUNTERS_READ, R264. -/
def cmdIcingCountersRead (face flags : Byte) (s : State) : Cmd :=
  let f := face.toNat
  { ready := s.icingOn (f % 2)
    range := faceOk face && flagsOk 1 flags
    run := fun _ => okWith ((s.icingAt f).cnt.list.flatMap (fun v => leN 8 v.toNat))
      (if clearFlag flags then s.icingMod f (fun i => { i with cnt := {} }) else s) }
def execIcingCountersRead (face flags : Byte) (s : State) : Result := parax 0x090A (cmdIcingCountersRead face flags) s

/-! ### Receiver, R241 to R246 -/

/-- The receiver of a face is blanked by its own burst, and for RAMP_US after it (R249). -/
def State.blanked (s : State) (f : Nat) : Bool :=
  let i := s.icingAt f
  (i.burst.map (·.blanks)).getD false || decide (s.pwr.time < i.blankEnd)

/-- ICING_AGC_WINDOW, R241: `off` is the window's RMS relative to the target, in 1/16 dB. -/
def execIcingAgcWindow (face : BitVec 1) (off : Int) (s : State) : Result :=
  eventIf (decide ((s.icingAt face.toNat).rx.st = .search) && !s.blanked face.toNat) (fun s => s.icingMod face.toNat (fun i =>
    let g := if 24 < off then i.rx.gain - 1 else if off < -24 then min 40 (i.rx.gain + 1) else i.rx.gain
    { i with rx := { i.rx with gain := g } })) s

/-- A grade that the receiver searches: RX_GRADES, or WATCH_GRADE alone in Toffee watch (R242, R262). -/
def State.searches (s : State) (f g : Nat) : Bool :=
  let c := (s.icingAt f).cfg
  if inToffee s then c.watchGrade.toNat == g else decide (6 ≤ g) && bitOf c.rxGrades (g - 6)

/-- DET_THRESH of a face. -/
def State.detDb (s : State) (f : Nat) : Nat := (s.icingAt f).cfg.detThresh.toNat

/-- The power of a run with the AGC gain removed, in 1/16 dB (R246). -/
def Icing.levelOf (i : Icing) (w : IcWin) : Int := w.power - 24 * i.rx.gain

/-- Enter DETECT on a run whose latest window is `w`. -/
def icDetect (f g bin : Nat) (w : IcWin) (s : State) : State :=
  s.icingMod f (fun i =>
    { i with rx := { i.rx with
        st := .detect, grade := g, bin := bin, step := 0, run := 4, peak := w.peak, rest := w.rest
        level := i.levelOf w, net := s.netId, addr := s.nodeAddr, cal := i.cfg.tapCal, second := none } })

/-- Windows that the primary searcher continues from for a run of this grade and bin (R245). -/
def Icing.carried (i : Icing) (g bin : Nat) : Nat :=
  match i.rx.second with
  | some r => if r.grade = g && nearBin g bin r.bin then min 3 r.count else 0
  | none => 0

/-- The windows of a grade are a run: each passes, their peaks lie in one bin ±1, and with those carried over they are at
least four (R242). -/
def State.isRun (s : State) (f g carried : Nat) (ws : List IcWin) : Bool :=
  s.searches f g && !ws.isEmpty && decide (4 ≤ ws.length + carried)
    && ws.all (fun w => winPasses g (s.detDb f) w && nearBin g w.bin (ws.headD {}).bin)

/-- Of the runs of several grades, the one of the lowest grade (R242). -/
def State.lowestRun (s : State) (f : Nat) (runs : List (BitVec 4 × List IcWin)) : Option (Nat × List IcWin) :=
  [6, 7, 8, 9, 10, 11].findSome? (fun g =>
    (runs.find? (fun r => r.1.toNat == g && s.isRun f g ((s.icingAt f).carried g (r.2.headD {}).bin) r.2)).map
      (fun r => (g, r.2)))

/-- ICING_SEARCH_DETECT, R242: the latest windows of each grade. In Toffee watch, windows that make no run are the end of the
six symbols searched (R262, log entry 120). -/
def execIcingSearchDetect (face : BitVec 1) (grades : List (BitVec 4)) (wins : List (List IcWin)) (s : State) : Result :=
  let f := face.toNat
  eventIf (decide ((s.icingAt f).rx.st = .search) && !s.blanked f) (fun s =>
    match s.lowestRun f (grades.zip wins) with
    | some (g, ws) => icDetect f g (ws.headD {}).bin (ws.getLastD {}) s
    | none =>
      if inToffee s then faceSleeps f s
      else s.icingMod f (fun i => { i with rx := { i.rx with second := none } })) s

/-- The bin of a network-word chirp relative to the up-chirps' bin (R235, R243). -/
def wordBin (n bin nibble : Nat) : Nat := (bin + 2 ^ (n - 5) * (2 * nibble + 1)) % 2 ^ n

/-- The longest run of up-chirps: 10,050 ms and 8 symbols, in windows of the grade (R243). -/
def maxRun (n : Nat) : Nat := 10050 * 28222656250 / (1000 * 4096 * 2 ^ n) + 8

/-- What the secondary searcher has counted after one more of its windows (R245). -/
def secondNext (db : Nat) (old : Option IcRun) (w : Option (BitVec 4 × IcWin)) : Option IcRun :=
  match w with
  | none => old
  | some (g, w) =>
    let n := g.toNat
    if !winPasses n db w then none
    else match old with
      | some r => some (if r.grade = n && nearBin n w.bin r.bin then { r with count := r.count + 1 }
          else { grade := n, bin := w.bin, count := 1 })
      | none => some { grade := n, bin := w.bin, count := 1 }

/-- An abort from DETECT, counted by `g`; in Toffee watch it is counted WATCH_IGNORED. The primary searcher continues from
what the secondary one has counted (R243, R245, R262). -/
def icAbort (f : Nat) (g : IcCnt → IcCnt) (s : State) : State :=
  let second := (s.icingAt f).rx.second
  let s1 := icToSearch f (icCount f (if inToffee s then (fun c => { c with watchIgnored := wrapAdd c.watchIgnored 1 }) else g) s)
  if inToffee s then s1 else s1.icingMod f (fun i => { i with rx := { i.rx with second := second } })

def cntFalse (c : IcCnt) : IcCnt := { c with falseDetect := wrapAdd c.falseDetect 1 }
def cntNet (c : IcCnt) : IcCnt := { c with netMismatch := wrapAdd c.netMismatch 1 }

/-- One further window in DETECT (R243). -/
def detectWindow (f : Nat) (w : IcWin) (s : State) : State :=
  let r := (s.icingAt f).rx
  let n := r.grade
  let passed := winPasses n (s.detDb f) w
  let set (g : IcRx → IcRx) := s.icingMod f (fun i => { i with rx := g i.rx })
  let miss := if passed then icAbort f cntNet s else icAbort f cntFalse s
  if r.step = 0 then
    if passed && nearBin n w.bin r.bin then
      if maxRun n < r.run + 1 then icAbort f cntFalse s
      else s.icingMod f (fun i => { i with rx := { i.rx with
        run := i.rx.run + 1, peak := w.peak, rest := w.rest, level := i.levelOf w } })
    else if passed && nearBin n w.bin (wordBin n r.bin (r.net.toNat / 16)) then set (fun r => { r with step := 1 })
    else miss
  else if r.step = 1 then
    if passed && nearBin n w.bin (wordBin n r.bin (r.net.toNat % 16)) then set (fun r => { r with step := 2 })
    else miss
  else if !passed then icAbort f cntFalse s
  else if r.step = 2 then set (fun r => { r with step := 3 })
  else set (fun r => { r with st := .header, step := 0 })

/-- ICING_DETECT_WINDOW, R243: a window of the run being received, and what the secondary searcher has seen of another run
meanwhile (R245). -/
def execIcingDetectWindow (face : BitVec 1) (win : IcWin) (second : Option (BitVec 4 × IcWin)) (s : State) : Result :=
  let f := face.toNat
  eventIf (decide ((s.icingAt f).rx.st = .detect)) (fun s =>
    detectWindow f win (s.icingMod f (fun i =>
      { i with rx := { i.rx with second := secondNext i.cfg.detThresh.toNat i.rx.second second } }))) s

/-- A run of the secondary searcher lies within ±2 bins and ±1 chip of the frame being received: it is that frame (R245). -/
def IcRx.sameRun (r : IcRx) (g bin : Nat) (chips : Int) : Bool :=
  r.grade == g && nearBins 2 g bin r.bin && decide (chips.natAbs ≤ 1)

/-- ICING_CAPTURE, R245: the windows of a run of the secondary searcher with the last one, and its timing against the symbols of the frame being
received. -/
def execIcingCapture (face : BitVec 1) (grade : BitVec 4) (wins : List IcWin) (last : IcWin) (chips : Int)
    (s : State) : Result :=
  let f := face.toNat
  let g := grade.toNat
  let i := s.icingAt f
  let r := i.rx
  let bin := (wins.headD last).bin
  let diff := i.levelOf last - r.level
  let ignored := icCount f (fun c => { c with secIgnored := wrapAdd c.secIgnored 1 })
  eventIf ((decide (r.st = .detect) || decide (r.st = .header) || decide (r.st = .body)) && s.isRun f g 0 (wins ++ [last])
      && !r.sameRun g bin chips)
    (fun s =>
      if r.st = .detect then
        if higherRatio g last r.grade r.peak r.rest then icDetect f g bin last s else ignored s
      else if 16 * (i.cfg.capThresh.toNat : Int) ≤ diff then
        let s1 := icDetect f g bin last (icCount f (fun c => { c with capture := wrapAdd c.capture 1 }) s)
        s1.icingMod f (fun i =>
          { i with rx := { i.rx with gain := (clampInt 0 40 (i.rx.gain - roundEven diff 24)).toNat } })
      else ignored s) s

/-- ICING_HEADER_DECODE, R244: the first codeword holds LEN and the first 4 bits of MTYPE, which decide nothing yet. -/
def execIcingHeaderDecode (face : BitVec 1) (firstOk : Bool) (len : Byte) (_mtypeHigh : BitVec 4) (s : State) : Result :=
  let f := face.toNat
  eventIf (decide ((s.icingAt f).rx.st = .header)) (fun s =>
    if firstOk && decide (6 ≤ len.toNat) then
      s.icingMod f (fun i => { i with rx := { i.rx with st := .body, len := len } })
    else icToSearch f (icCount f (fun c => { c with hdrFail := wrapAdd c.hdrFail 1 }) s)) s

/-- A level in 1/16 dB in a signed field of 16 bits. -/
def level16 (v : Int) : W16 := BitVec.ofInt 16 (clampInt (-32768) 32767 v)

/-- SNR of R246 in 1/16 dB, from the energy of the decided bins and that of all other bins over the body's symbols: E_peak
over 2^N times E_rest, each a mean. Where one of them is nothing the field holds its limit (DESIGN CHOICE, log entry 118). -/
def snr16 (grade peak rest : Nat) : W16 :=
  if rest = 0 then level16 32767
  else if peak = 0 then level16 (-32768)
  else level16 (dbIn 16 (peak * (2 ^ grade - 1)) (2 ^ grade * rest))

/-- ICING_RSSI: the power of the up-chirps with the AGC gain removed, referred to the tap by TAP_CAL (R246). -/
def Icing.rssi (i : Icing) : W16 := level16 (i.rx.level + i.rx.cal)

/-- Record the levels of R246 for a source. -/
def recordLevels (f : Nat) (src rssi snr : W16) (grade : Byte) (s : State) : State :=
  chooseFar f (s.icingMod f (fun i =>
    { i with
      heard := i.heard.filter (fun h => h.addr != src) ++ [{ addr := src, rssi := rssi, snr := snr, grade := grade }]
      nbrs := i.nbrs.map (fun n => if n.addr == src then { n with rssi := rssi, snr := snr } else n) }))

/-- A frame with a good CRC, in the order of R244. -/
def goodFrame (f : Nat) (info : Bytes) (rssi snr : W16) (s : State) : State :=
  let mtype := (byteAt info 1).toNat
  let dst : W16 := BitVec.ofNat 16 (ofBe (slice info 2 2))
  let src : W16 := BitVec.ofNat 16 (ofBe (slice info 4 2))
  let len := (byteAt info 0).toNat
  let own := (s.icingAt f).rx.addr
  if src = own then icCount f (fun c => { c with ownEcho := wrapAdd c.ownEcho 1 }) s
  else
    let s1 := recordLevels f src rssi snr (u8 (s.icingAt f).rx.grade) s
    if dst ≠ own ∧ dst ≠ 0xFFFF then icCount f (fun c => { c with addrFiltered := wrapAdd c.addrFiltered 1 }) s1
    else if !icTypeOk mtype (len - 6) then icCount f (fun c => { c with unknownType := wrapAdd c.unknownType 1 }) s1
    else if inToffee s ∧ mtype ≠ 0x3E then icCount f (fun c => { c with watchIgnored := wrapAdd c.watchIgnored 1 }) s1
    else countSource 0x50 f 1 (icCount f (fun c => { c with rxOk := wrapAdd c.rxOk 1 }) s1)

/-- A frame with a good CRC is a WAKE for the node with address `own` (R262). -/
def isWake (own : W16) (info : Bytes) : Bool :=
  let dst : W16 := BitVec.ofNat 16 (ofBe (slice info 2 2))
  byteAt info 1 == 0x3E && byteAt info 0 == 7 && (dst == own || dst == 0xFFFF)
    && BitVec.ofNat 16 (ofBe (slice info 4 2)) != own

/-- ICING_FRAME_END, R244, R246: `info` is header, payload and CRC as decoded, `peak` and `rest` the energies over its body.
After a WAKE for this node in Toffee watch the tick goes on until the device wakes (R262). -/
def execIcingFrameEnd (face : BitVec 1) (info : Bytes) (peak rest : Nat) (s : State) : Result :=
  let f := face.toNat
  eventIf (decide ((s.icingAt f).rx.st = .body)) (fun s =>
    let i := s.icingAt f
    let n := i.rx.len.toNat
    let crcOk := info.length == n + 2 && decide ((crc16 (info.take n)).toNat = ofBe (info.drop n))
    let s1 := if crcOk then goodFrame f info i.rssi (snr16 i.rx.grade peak rest) s
      else icCount f (fun c => { c with crcFail := wrapAdd c.crcFail 1 }) s
    if inToffee s && crcOk && isWake i.rx.addr info then
      s1.icingMod f (fun i => { i with rx := { i.rx with st := .watchSleep, step := 0, run := 0 } })
    else icToSearch f s1) s

/-- ICING_AVG_LEVEL_UPDATE, R246: the 1 ms average at the tap's front end, referred by TAP_CAL. -/
def execIcingAvgLevelUpdate (face : BitVec 1) (level : Int) (s : State) : Result :=
  eventIf (s.icingOn face.toNat) (fun s =>
    s.icingMod face.toNat (fun i => { i with rx := { i.rx with avgLevel := level16 (level + i.cfg.tapCal) } })) s

/-! ### Discovery and reports, R254 to R256 -/

/-- The table with a DISCOVERY taken in; none when every entry is FOUND (R254). -/
def takeDiscovery (now : W64) (src : W16) (p : Bytes) (rssi snr : W16) (ns : List Nbr) : Option (List Nbr) :=
  let e : Nbr := { addr := src, found := true, disc := p, at_ := now, rssi := rssi, snr := snr }
  if ns.any (fun n => n.addr == src) then some (ns.map (fun n => if n.addr == src then e else n))
  else if ns.length < 8 then some (ns ++ [e])
  else match ns.findIdx? (fun n => !n.found) with
  | some k => some (ns.set k e)
  | none => none

/-- Lanes of a face whose mode disagrees with the far end's DISCOVERY while no hand-over is in progress (R260). -/
def disagreeing (f : Nat) (p : Bytes) (s : State) : List Nat :=
  (lanesOf f).filter (fun l =>
    let far := s.farLane l
    faceOf far == (byteAt p 1).toNat % 2 && (bitOf (byteAt p 6) (far % 8)) != (s.rxAt l).stretch
      && (s.stretchAt l).handOver.isNone)

/-- DISCOVERY_RECEIVE, R254, R255, R260. -/
def execDiscoveryReceive (face : BitVec 1) (src : W16) (payload : Bytes) (rssi snr : W16) (s : State) : Result :=
  let f := face.toNat
  eventIf (s.icingOn f && !inToffee s) (fun s =>
    match takeDiscovery s.pwr.time src payload rssi snr (s.icingAt f).nbrs with
    | none => icCount f (fun c => { c with nbrFull := wrapAdd c.nbrFull 1 }) s
    | some ns =>
      let was := (((s.icingAt f).nbr src).map (·.found)).getD false
      let s1 := s.icingMod f (fun i => { i with nbrs := ns })
      let s2 := if was then s1 else raise 0x8901 ([u8 f] ++ le16 src ++ [0]) s1
      let s3 := chooseFar f s2
      if (s3.icingAt f).far = src then
        forEach (disagreeing f payload s3) (fun l t => raise 0x8906 [u8 f, u8 l] t) s3
      else s3) s

/-- NEIGHBOUR_TIMEOUT, R254. -/
def execNeighbourTimeout (face : BitVec 1) (addr : W16) (s : State) : Result :=
  let f := face.toNat
  eventIf (s.icingOn f && (((s.icingAt f).nbr addr).map (·.found)).getD false) (fun s =>
    chooseFar f (raise 0x8901 ([u8 f] ++ le16 addr ++ [1])
      (s.icingMod f (fun i => { i with nbrs := i.nbrs.map (fun n => if n.addr == addr then { n with found := false } else n) })))) s

/-- Bits of the eight lanes of a face. -/
def laneBits (f : Nat) (p : Nat → Bool) : Byte := u8 (packBits ((lanesOf f).map p))

/-- HEARD_SNR of DISCOVERY: 0.25 dB, −128 when unknown (R254). -/
def heardSnr (i : Icing) : Byte :=
  match i.heard.find? (fun h => h.addr == i.far) with
  | some h => if i.far = 0 then 0x80 else BitVec.ofInt 8 (clampInt (-127) 127 (roundEven h.snr.toInt 4))
  | none => 0x80

/-- The DISCOVERY payload of a face (R254). -/
def State.discovery (s : State) (f : Nat) : Bytes :=
  let i := s.icingAt f
  [0x11, u8 f, 0x1C + s.sys.tier.setWidth 8, i.cfg.rxGrades.setWidth 8, u8 (s.icLane f),
   laneBits f (fun l => decide ((s.rxAt l).st = .locked)), laneBits f (fun l => (s.txAt l).stretch)]
   ++ be16 i.far ++ [heardSnr i, i.cfg.discPeriod]

/-- DISCOVERY_PERIOD, R254. -/
def execDiscoveryPeriod (face : BitVec 1) (s : State) : Result :=
  eventIf (s.icTxAvail face.toNat) (fun s => icQueue face.toNat 0x01 0xFFFF (s.discovery face.toNat) s) s

/-- The LEVEL_REPORT payload of a face (R256). -/
def State.levelReport (s : State) (f : Nat) (qseq : Byte) (unsolicited : Bool) : Bytes :=
  let i := s.icingAt f
  let h := (i.heard.find? (fun h => h.addr == i.far && i.far != 0)).getD { addr := 0, rssi := 0, snr := 0, grade := 0 }
  [qseq, u8 (packBits [f == 1, unsolicited])] ++ be16 i.far ++ [h.grade, 0] ++ be16 i.rx.avgLevel
    ++ be16 h.rssi ++ be16 h.snr
    ++ [laneBits f (fun l => !(s.rxAt l).sigDetect), laneBits f (fun l => decide ((s.rxAt l).st = .locked))]

/-- REPORT_PERIOD, R256. -/
def execReportPeriod (face : BitVec 1) (s : State) : Result :=
  eventIf (s.icingOn face.toNat && !inToffee s && (s.icingAt face.toNat).cfg.reportPeriod != 0) (fun s =>
    icQueue face.toNat 0x03 0xFFFF (s.levelReport face.toNat 0 true) s) s

/-- LEVEL_QUERY_RECEIVE, R256. -/
def execLevelQueryReceive (face : BitVec 1) (src : W16) (qseq : Byte) (s : State) : Result :=
  eventIf (s.icingOn face.toNat && !inToffee s) (fun s =>
    icQueue face.toNat 0x03 src (s.levelReport face.toNat qseq false) s) s

/-- LEVEL_REPORT_RECEIVE, R256. -/
def execLevelReportReceive (face : BitVec 1) (src : W16) (payload : Bytes) (s : State) : Result :=
  eventIf (s.icingOn face.toNat && !inToffee s) (raise 0x8902 ([u8 face.toNat] ++ le16 src ++ slice payload 0 14)) s

/-! ### General messages, R261 -/

/-- The latest GSEQ delivered from a source. -/
def Icing.lastGenOf (i : Icing) (src : W16) : Option Byte := (i.lastGen.find? (fun p => p.1 == src)).map (·.2)

/-- GEN_MSG_RECEIVE, R261. -/
def execGenMsgReceive (face : BitVec 1) (src : W16) (payload : Bytes) (grade : Byte) (rssi snr : W16)
    (broadcast : Bool) (s : State) : Result :=
  let f := face.toNat
  let g := byteAt payload 0
  let ack (t : State) := if bitOf (byteAt payload 1) 0 && !broadcast then icQueue f 0x31 src [g] t else t
  eventIf (s.icingOn f && !inToffee s) (fun s =>
    let i := s.icingAt f
    if i.lastGenOf src = some g then ack s
    else if 16 ≤ i.genRx.length then icCount f (fun c => { c with rxOverflow := wrapAdd c.rxOverflow 1 }) s
    else
      let m : GenRx := { src := src, grade := grade, rssi := rssi, snr := snr, gseq := g, data := payload.drop 2 }
      let s1 := s.icingMod f (fun i => { i with
        genRx := i.genRx ++ [m], lastGen := i.lastGen.filter (fun p => p.1 != src) ++ [(src, g)] })
      ack (if i.genRx.isEmpty then raise 0x8903 [u8 f] s1 else s1)) s

/-- A GEN_MSG awaited with this GSEQ and destination. -/
def genMatch (gseq : Byte) (dst : W16) (w : GenWait) : Bool := w.gseq == gseq && w.dst == dst

/-- GEN_ACK_RECEIVE, R261. -/
def execGenAckReceive (face : BitVec 1) (src : W16) (gseq : Byte) (s : State) : Result :=
  eventIf (s.icingOn face.toNat && !inToffee s) (fun s =>
    s.icingMod face.toNat (fun i => { i with genWait := i.genWait.filter (fun w => !genMatch gseq src w) })) s

/-- GEN_MSG_RETRY_TIMEOUT, R261: a resend at the next grade, or after the third ICING_MSG_FAIL. -/
def execGenMsgRetryTimeout (face : BitVec 1) (gseq : Byte) (s : State) : Result :=
  let f := face.toNat
  let w? := (s.icingAt f).genWait.find? (fun w => w.gseq == gseq)
  eventIf w?.isSome (fun s => match w? with
    | none => s
    | some w =>
      if 3 ≤ w.resends then
        raise 0x8904 ([u8 f] ++ le16 w.dst ++ [gseq])
          (s.icingMod f (fun i => { i with genWait := i.genWait.filter (fun v => !genMatch gseq w.dst v) }))
      else
        icQueueAt f 0x30 w.dst w.payload (.after w.grade) 0 (s.icingMod f (fun i => { i with genWait := i.genWait.map (fun v =>
          if genMatch gseq w.dst v then { v with resends := v.resends + 1 } else v) }))) s

/-! ### Bursts, R248 to R250 -/

/-- The first frame of the lowest class. -/
def firstFrame (q : List IcFrame) : Option IcFrame :=
  [0, 1, 2, 3].findSome? (fun c => q.find? (fun fr => fr.cls == c))

/-- The first `n` frames of a queue, by class and then by order. -/
def takeFrames : Nat → List IcFrame → List IcFrame
  | 0, _ => []
  | n + 1, q =>
    match firstFrame q with
    | none => []
    | some fr => fr :: takeFrames n (q.erase fr)

/-- The burst that the queue of a face would make now, and what it would leave: by class, of one grade, with one frame
toward an SG1608 (R247, R248, R263). -/
def State.nextBurst (s : State) (f : Nat) : Option (Burst × List IcFrame) :=
  let i := s.icingAt f
  (firstFrame i.queue).map (fun fr =>
    let single := s.far1608 f || s.dst1608 f fr.dst
    let g := s.frameGrade f fr
    let fs := if single then [fr] else takeFrames 4 (i.queue.filter (fun x => !s.dst1608 f x.dst && s.frameGrade f x == g))
    ({ frames := fs, grade := g, lane := i.lane, single := single, blanks := !i.cfg.duplex, ramp := i.cfg.ramp },
     fs.foldl List.erase i.queue))

/-- A burst goes on air: its frames leave the queue, and acknowledgements in it are sent (R259). -/
def burstOnAir (f : Nat) (b : Burst) (rest : List IcFrame) (s : State) : State :=
  forEach b.frames (frameOnAir f b.grade)
    (s.icingMod f (fun i => { i with burst := some b, queue := rest, waiting := false, defers := 0, slots := 0 }))

/-- A ready burst finds the receiver out of SEARCH (R249). -/
def deferBurst (f : Nat) (b : Burst) (rest : List IcFrame) (s : State) : State :=
  let s1 := icCount f (fun c => { c with txDefer := wrapAdd c.txDefer 1 }) s
  let d := (s.icingAt f).defers
  if 15 ≤ d then
    raise 0x8905 [u8 f, (b.frames.head?.map (·.mtype)).getD 0, 1]
      (icCount f (fun c => { c with txFail := wrapAdd c.txFail 1 })
        (s1.icingMod f (fun i => { i with queue := rest, waiting := false, defers := 0, slots := 0 })))
  else
    let k := s1.drawBelow (2 ^ min (3 + d) 6)
    k.2.icingMod f (fun i => { i with waiting := true, defers := d + 1, slots := k.1 })

/-- The access rule of R249 for the burst that is ready: its frames stay in the queue until it begins, so one of a higher
class that comes meanwhile goes first (log entry 115). -/
def tryBurst (f : Nat) (s : State) : State :=
  let i := s.icingAt f
  match s.nextBurst f with
  | none => s
  | some (b, rest) => if i.cfg.duplex || i.rx.st = .search then burstOnAir f b rest s else deferBurst f b rest s

/-- ICING_BURST_START, R247 to R249. -/
def execIcingBurstStart (face : BitVec 1) (s : State) : Result :=
  let f := face.toNat
  let i := s.icingAt f
  eventIf (s.icTxAvail f && i.burst.isNone && !i.waiting && !i.queue.isEmpty) (tryBurst f) s

/-- ICING_BACKOFF_END, R249. -/
def execIcingBackoffEnd (face : BitVec 1) (s : State) : Result :=
  let f := face.toNat
  eventIf (s.icTxAvail f && (s.icingAt f).waiting && !(s.icingAt f).queue.isEmpty) (tryBurst f) s

/-- A burst is on air whose lane still sends it. -/
def Icing.sending (i : Icing) : Bool := (i.burst.map (fun b => !b.stopped)).getD false

/-- ICING_BURST_END, R248: a burst whose lane has left DATA and ICING_ONLY ends by its abort alone (R250). -/
def execIcingBurstEnd (face : BitVec 1) (s : State) : Result :=
  let f := face.toNat
  eventIf (s.icingAt f).sending (fun s =>
    let n := (((s.icingAt f).burst.map (·.frames)).getD []).length
    icCount f (fun c => { c with txFrames := wrapAdd c.txFrames n }) (burstOver f s)) s

/-- ICING_BURST_ABORT, R250: `done` frames had been sent whole; the next is lost, the others stay queued first. -/
def execIcingBurstAbort (face : BitVec 1) (done : BitVec 2) (s : State) : Result :=
  let f := face.toNat
  let i := s.icingAt f
  let lane := 8 * f + (i.burst.map (·.lane)).getD i.lane
  eventIf (i.burst.isSome && (!i.sending || ((s.txAt lane).st != .data && (s.txAt lane).st != .icingOnly))) (burstAbort f done.toNat) s

/-- ICING_TX_UNAVAILABLE, R247: the frame queued longest is discarded; with none left nothing waits any more. -/
def execIcingTxUnavailable (face : BitVec 1) (s : State) : Result :=
  let f := face.toNat
  eventIf (s.icingOn f && !s.icTxAvail f && !(s.icingAt f).queue.isEmpty) (fun s =>
    raise 0x8905 [u8 f, ((s.icingAt f).queue.head?.map (·.mtype)).getD 0, 0]
      (icCount f (fun c => { c with txUnavail := wrapAdd c.txUnavail 1 })
        (s.icingMod f (fun i =>
          let q := i.queue.drop 1
          { i with
            queue := q
            waiting := i.waiting && !q.isEmpty
            defers := if q.isEmpty then 0 else i.defers, slots := if q.isEmpty then 0 else i.slots })))) s

end Sys2Proof.Machine
end

