-- ==== Sys2Proof/Machine/Fec.lean ====
section
/-! DEFINITION. The lane multiframe as bits (chapter 05): blocks and nesting (R96, R125, R126), the scrambler (R127), the
outer code RS(544,514) (R128, R129), the inner code (170,160) with its Chase decoder (R131, R132) and the overhead
channel (R133). No row of the command table moves single codewords, so no command calls these (log entry 22). -/

namespace Sys2Proof.Machine

/-! ### Blocks and scrambling -/

/-- A block: 256 payload bits, then the overhead bit (R126). -/
structure Block where
  payload  : Bits
  overhead : Bool
  deriving DecidableEq, Repr

/-- The payload bits of 32 octets (R126). -/
def payloadOf (octets : Bytes) : Bits := octets.flatMap (fun o => bitsOf 8 o.toNat)

/-- The octets of payload bits (R126). -/
def octetsOf (b : Bits) : Bytes := (chunks 8 b).map (fun x => BitVec.ofNat 8 (natOf x))

/-- The lane slot of a block of the multiframe (R96). -/
def blockSlot (slots i : Nat) : Nat := i % slots

/-- The scrambler's state at the first payload bit of a multiframe (R127). -/
def scrSeed (lane : Nat) : Nat := 0x7FFFFFF0 + lane

/-- Payload bits through the scrambler from a state, and the state after them (R127). -/
def scramble : Nat → Bits → Bits × Nat
  | st, [] => ([], st)
  | st, p :: r =>
    let fb := st.testBit 30 != st.testBit 27
    let q := scramble ((2 * st + fb.toNat) % 2 ^ 31) r
    ((p != fb) :: q.1, q.2)

/-- The blocks of a multiframe scrambled from a state: overhead bits pass, and the state does not move on them (R127). -/
def scrambleBlocks : Nat → List Block → List Block
  | _, [] => []
  | st, b :: r =>
    let q := scramble st b.payload
    { b with payload := q.1 } :: scrambleBlocks q.2 r

/-- The overhead bytes of a multiframe's blocks (R133). -/
def overheadOf (blocks : List Block) : Bytes := octetsOf (blocks.map (·.overhead))

/-- Blocks of these payloads that carry the overhead bytes (R133). -/
def withOverhead (payloads : List Bits) (overhead : Bytes) : List Block :=
  List.zipWith (fun p o => { payload := p, overhead := o }) payloads (payloadOf overhead)

/-! ### GF(2^10) and the outer code -/

/-- Product in GF(2^10) with x^10 + x^3 + 1 (R128). -/
def gfMul (a b : Nat) : Nat :=
  (List.range 10).foldl
    (fun acc i =>
      let d := 2 * acc
      let r := if d < 1024 then d else d ^^^ 0x409
      if b.testBit (9 - i) then r ^^^ a else r) 0

/-- α^i (R128). -/
def gfExp : Nat → Nat
  | 0 => 1
  | i + 1 => gfMul 2 (gfExp i)

/-- The inverse a^1022 of a non-zero element. -/
def gfInv (a : Nat) : Nat :=
  ((List.range 9).foldl (fun p _ => let q := gfMul p.1 p.1; (q, gfMul p.2 q)) (a, 1)).2

/-- Value of a polynomial, coefficients from the highest power down. -/
def polyEval (p : List Nat) (x : Nat) : Nat := p.foldl (fun a c => gfMul a x ^^^ c) 0

/-- The product of a polynomial (highest power first) with x − r. -/
def polyTimes (p : List Nat) (r : Nat) : List Nat :=
  List.zipWith (· ^^^ ·) (p ++ [0]) (0 :: p.map (gfMul r))

/-- g(x) = (x − α^0) … (x − α^29), highest power first (R128). -/
def rsGen : List Nat := (List.range 30).foldl (fun p i => polyTimes p (gfExp i)) [1]

/-- The 30 parity symbols of a message: the remainder of Σ M(k) · x^(543−k) modulo g(x) (R128). -/
def rsParity (msg : List Nat) : List Nat :=
  let g := rsGen.drop 1
  msg.foldl
    (fun reg m =>
      let fb := m ^^^ reg.headD 0
      List.zipWith (· ^^^ ·) (reg.drop 1 ++ [0]) (g.map (gfMul fb))) (List.replicate 30 0)

/-- The codeword of 514 message symbols (R128). -/
def rsEncode (msg : List Nat) : List Nat := msg ++ rsParity msg

/-- Symbols of message or codeword bits, first bit most significant (R128). -/
def rsSymbols (b : Bits) : List Nat := (chunks 10 b).map natOf

/-- The bits of symbols (R128). -/
def rsBits (w : List Nat) : Bits := w.flatMap (bitsOf 10)

/-- The 30 syndromes of a received word (R128). -/
def rsSyndromes (w : List Nat) : List Nat := (List.range 30).map (fun i => polyEval w (gfExp i))

/-- The search for the error locator: its coefficients and the last kept ones from the constant up, its length, the
gap and the last discrepancy. -/
structure Locator where
  lam  : List Nat := [1]
  old  : List Nat := [1]
  len  : Nat := 0
  gap  : Nat := 1
  disc : Nat := 1
  deriving DecidableEq, Repr

/-- Sum of two polynomials, constant first. -/
def polyAdd : List Nat → List Nat → List Nat
  | [], q => q
  | p, [] => p
  | a :: p, b :: q => (a ^^^ b) :: polyAdd p q

/-- One syndrome taken into the search (Berlekamp and Massey's steps). -/
def Locator.next (syn : List Nat) (l : Locator) (n : Nat) : Locator :=
  let d := (List.range (l.len + 1)).foldl (fun a i => a ^^^ gfMul (l.lam.getD i 0) (if i ≤ n then syn.getD (n - i) 0 else 0)) 0
  let upd := polyAdd l.lam (List.replicate l.gap 0 ++ l.old.map (gfMul (gfMul d (gfInv l.disc))))
  if d = 0 then { l with gap := l.gap + 1 }
  else if 2 * l.len ≤ n then { lam := upd, old := l.lam, len := n + 1 - l.len, gap := 1, disc := d }
  else { l with lam := upd, gap := l.gap + 1 }

/-- The error locator of 30 syndromes. -/
def rsLocator (syn : List Nat) : Locator := (List.range 30).foldl (Locator.next syn) {}

/-- Value of a polynomial, constant first. -/
def polyEvalUp (p : List Nat) (x : Nat) : Nat := polyEval p.reverse x

/-- The positions, as powers of x from 0 to 543, at which the locator has a root, each with its α power (R129). -/
def rsRoots (lam : List Nat) : List (Nat × Nat) :=
  ((List.range 544).foldl
    (fun (acc : List (Nat × Nat) × Nat) p =>
      (if polyEvalUp lam (gfInv acc.2) = 0 then (p, acc.2) :: acc.1 else acc.1, gfMul 2 acc.2)) ([], 1)).1

/-- The error value at a position, from the syndromes and the locator. -/
def rsValue (syn lam : List Nat) (x : Nat) : Nat :=
  let xi := gfInv x
  let omega := (List.range 30).map (fun n =>
    (List.range (n + 1)).foldl (fun a i => a ^^^ gfMul (lam.getD i 0) (syn.getD (n - i) 0)) 0)
  let deriv := (List.range lam.length).map (fun i => if i % 2 = 0 then lam.getD (i + 1) 0 else 0)
  gfMul (gfMul x (polyEvalUp omega xi)) (gfInv (polyEvalUp deriv xi))

/-- The degree of a polynomial, constant first. -/
def degree (p : List Nat) : Nat := (p.reverse.dropWhile (· == 0)).length - 1

/-- The codeword that RS decoding gives and its number of corrected symbols; `none` for an uncorrectable codeword: a
locator above degree 15, or another number of roots within the 544 positions (R129). -/
def rsDecode (w : List Nat) : Option (List Nat × Nat) :=
  let syn := rsSyndromes w
  if syn.all (· == 0) then some (w, 0)
  else
    let lam := (rsLocator syn).lam
    let roots := rsRoots lam
    if 15 < degree lam ∨ roots.length ≠ degree lam then none
    else some (roots.foldl (fun a p =>
      let i := 543 - p.1
      a.set i (a.getD i 0 ^^^ rsValue syn lam p.2)) w, roots.length)

/-- The message symbols passed on: those of an uncorrectable codeword as received (R129). -/
def rsMessage (w : List Nat) : List Nat := ((rsDecode w).elim w (·.1)).take 514

/-! ### The inner code -/

/-- Remainder modulo g(x) = 0x633 of bits taken from the highest power down (R131). -/
def innerRem (b : Bits) : Nat :=
  b.foldl (fun r x => let d := 2 * r + x.toNat; if d < 1024 then d else d ^^^ 0x633) 0

/-- The codeword of 160 message bits (R131). -/
def innerEncode (m : Bits) : Bits := m ++ bitsOf 10 (innerRem (m ++ List.replicate 10 false))

/-- The syndrome of a single error at line position `i` (R132). -/
def innerSyndrome (i : Nat) : Nat := innerRem (true :: List.replicate (169 - i) false)

/-- The positions of the `n` smallest reliabilities; on a tie, the lower position first (R132). -/
def leastReliable (r : List Nat) : Nat → List Nat → List Nat
  | 0, acc => acc
  | n + 1, acc =>
    let free := (List.range r.length).filter (fun i => !acc.contains i)
    let best := free.foldl (fun (b : Option Nat) i =>
      match b with
      | none => some i
      | some j => if r.getD i 0 < r.getD j 0 then some i else some j) none
    leastReliable r n (acc ++ best.toList)

/-- A word with the bit at a position inverted. -/
def flipAt (b : Bits) (i : Nat) : Bits := b.set i (!b.getD i false)

/-- The candidate of one test pattern (R132). -/
def chaseCandidate (h : Bits) (lr : List Nat) (p : Nat) : Option Bits :=
  let t := (List.range 4).foldl (fun t q => if p.testBit q then flipAt t (lr.getD q 0) else t) h
  let s := innerRem t
  if s = 0 then some t
  else ((List.range 170).find? (fun j => innerSyndrome j == s)).map (flipAt t)

/-- The cost of a candidate: reliability + 1 for each position that differs (R132). -/
def chaseCost (h c : Bits) (r : List Nat) : Nat :=
  ((List.range 170).map (fun i => if c.getD i false != h.getD i false then r.getD i 0 + 1 else 0)).sum

/-- The inner decoder's output for 170 soft values, `none` where no pattern gives a candidate (R132): the lowest cost,
and on a tie the lower pattern. -/
def chaseDecode (soft : List Soft) : Option Bits :=
  let h := soft.map (·.hard)
  let r := soft.map (·.rel)
  let lr := leastReliable r 4 []
  (List.range 16).foldl (fun best p =>
    match chaseCandidate h lr p, best with
    | none, b => b
    | some c, none => some c
    | some c, some b => if chaseCost h c r < chaseCost h b r then some c else some b) none

/-- What the inner decoder delivers and counts (R132, R145): 160 message bits, whether it failed, and the bits changed. -/
def innerDecode (soft : List Soft) : Bits × Bool × Nat :=
  let h := soft.map (·.hard)
  let out := (chaseDecode soft).getD h
  (out.take 160, (chaseDecode soft).isNone, ((List.zip out h).filter (fun p => p.1 != p.2)).length)

/-! ### The multiframe -/

/-- The 5,440 codeword bits of 20 blocks (R125, R128). -/
def rsCodewordBits (blocks : List Block) : Bits :=
  rsBits (rsEncode (rsSymbols (blocks.flatMap (fun b => b.payload ++ [b.overhead]))))

/-- The line bits of one RS codeword: 34 inner codewords (R125, R131). -/
def innerBits (cw : Bits) : Bits := (chunks 160 cw).flatMap innerEncode

/-- The line bits of a multiframe of a lane from its blocks (R125 to R131). -/
def lineBits (lane : Nat) (blocks : List Block) : Bits :=
  (chunks 20 (scrambleBlocks (scrSeed lane) blocks)).flatMap (fun b => innerBits (rsCodewordBits b))

/-- The level indices that a PAM4 transmitter sends for line bits, after the index sent last (R66, R67). -/
def lineIndices (precoding : Bool) (prev : Nat) (bits : Bits) : List Nat := precode precoding prev (grayMap bits)

end Sys2Proof.Machine
end

