-- ==== Sys2Proof/Machine/StretchCodes.lean ====
section
/-! DEFINITION. The Stretch multiframe as symbols (chapter 04): its layout (R95), the mapping of line bits to subcarriers
(R97), the sync word and its variants (R98) and the pilots (R99). No row of the command table moves single symbols, so no
command calls these (log entry 22). -/

namespace Sys2Proof.Machine

/-- A point of a constellation before scaling. -/
structure QamPoint where
  re : Int
  im : Int
  deriving DecidableEq, Repr

/-- The pilot symbols of a multiframe (R95). -/
def isPilot (symbol : Nat) : Bool := symbol % 1401 == 0

/-- The first sample of a DMT symbol, after the sync word of 448 samples (R95). -/
def symbolStart (symbol : Nat) : Nat := 448 + 528 * symbol

/-- A bit of BPSK: 0 → +1, 1 → −1 (R97). -/
def bpsk (b : Bool) : Int := if b then -1 else 1

/-- The 4-level Gray code of R66. -/
def gray4 (b1 b0 : Bool) : Int := levelOf (grayIndex b1 b0)

/-- The 8-level Gray code of R97: 000, 001, 011, 010, 110, 111, 101, 100 are −7 to +7. -/
def gray8 (b2 b1 b0 : Bool) : Int :=
  let n := b2.toNat * 4 + (b2 != b1).toNat * 2 + ((b2 != b1) != b0).toNat
  2 * (n : Nat) - 7

/-- The point of a subcarrier's bits, first bit leftmost (R97); no bits, no point. -/
def constellation : Bits → QamPoint
  | [a] => { re := bpsk a, im := 0 }
  | [a, b] => { re := bpsk a, im := bpsk b }
  | [a, b, c] => { re := gray4 a b, im := bpsk c }
  | [a, b, c, d] => { re := gray4 a b, im := gray4 c d }
  | [a, b, c, d, e] => { re := gray8 a b c, im := gray4 d e }
  | [a, b, c, d, e, f] => { re := gray8 a b c, im := gray8 d e f }
  | _ => { re := 0, im := 0 }

/-- The mean power of a constellation of `n` bits, whose root scales its points to unit power (R97). -/
def meanPower : Nat → Nat
  | 1 => 1 | 2 => 2 | 3 => 6 | 4 => 10 | 5 => 26 | 6 => 42 | _ => 0

/-- Line bits dealt to the subcarriers of one data symbol: `b(n)` bits to each, in ascending order (R97). -/
def symbolPoints : List Nat → Bits → List QamPoint
  | [], _ => []
  | n :: r, bits => constellation (bits.take n) :: symbolPoints r (bits.drop n)

/-- B = Σ b(n) (R97). -/
def bitsPerSymbol (loading : List Nat) : Nat := loading.sum

/-- The bits of a multiframe's data symbols: the line bits, then fill bits of PRBS13 (R97). -/
def dataBits (loading : List Nat) (line : Bits) : Bits :=
  line ++ prbs13 (5600 * bitsPerSymbol loading - line.length)

/-- The 5,600 data symbols of a multiframe, each as its subcarriers' points (R97). -/
def dataSymbols (loading : List Nat) (line : Bits) : List (List QamPoint) :=
  (groupsOf (bitsPerSymbol loading) 5600 (dataBits loading line)).map (symbolPoints loading)

/-- The halves of the sync word that are negated when a table changes at the `n`th boundary from the end of this
multiframe, 0 = no change pending: NORMAL, C1, C2, C3 (R98). -/
def syncSigns : Nat → Bool × Bool
  | 3 => (false, true)
  | 2 => (true, false)
  | 1 => (true, true)
  | _ => (false, false)

/-- The 448 samples of a sync word (R98). -/
def syncWord (rms n : Nat) : List Int :=
  let half := (prbs13 224).map (fun b => if b then -(2 * rms : Int) else 2 * rms)
  let part := fun (neg : Bool) => if neg then half.map (- ·) else half
  part (syncSigns n).1 ++ part (syncSigns n).2

/-- TABLE_ID negates the pilot point of subcarrier `n` of pilot symbol 0 (R99). -/
def pilotNegated (tableId : Byte) (n : Nat) : Bool := decide (8 ≤ n) && bitOf tableId ((n - 8) / 31)

/-- The pilot points of subcarriers 1 to 255 from 510 bits of PRBS31; `tableId` for pilot symbol 0 (R99). -/
def pilotPoints (tableId : Option Byte) (bits : Bits) : List QamPoint :=
  List.zipWith (fun n b =>
    let p := constellation b
    if tableId.any (pilotNegated · n) then { re := -p.re, im := -p.im } else p) ((List.range 255).map (· + 1)) (chunks 2 bits)

end Sys2Proof.Machine
end

