-- ==== Sys2Proof/Machine/StretchPath.lean ====
section
/-! DEFINITION. The sample paths of a Stretch lane: the multitone transmitter that takes the place of stages 1 to 5 (R65, R94,
R95, R97 to R100), and the receiver after stage 4 (R101). As in LineCodes, no command moves single samples (log entry 22).
The spec gives no sign of the transform's exponent and no phase reference: sample t of a symbol is the sum of
Re(X(n) · e^(j·2πnt/512)) (PRESUMED, log entry 110). -/

namespace Sys2Proof.Machine

/-! ### Transmit -/

/-- A subcarrier of a symbol: its point, the power of its constellation and its gain in steps of 0.5 dB. -/
structure Tone where
  point : QamPoint
  power : Nat
  gain  : Int
  deriving DecidableEq, Repr

/-- The amplitude of a tone of unit scale, times 10^60: 10^(k/40) over the root of its constellation's power (R97). -/
def toneAmp (t : Tone) : Nat :=
  if t.power = 0 then 0 else rootFloor 40 ((10 ^ (2400 + t.gain).toNat) / t.power ^ 20) 210

/-- The scale that holds the RMS of symbols of these gains at `rms` codes, times 10^60 (R100): a tone of power p gives the
samples a mean square of p/2. -/
def symbolScale (rms : Nat) (gains : List Int) : Nat :=
  let total := (gains.map dbPower).sum
  if total = 0 then 0 else rootFloor 2 (2 * rms ^ 2 * 10 ^ 180 / total) 230

/-- The 512 samples of a symbol, tones 1 to 255 in order, rounded to codes (R94, R100). -/
def symbolSamples (scale : Nat) (tones : List Tone) : List Int :=
  (List.range 512).map (fun t =>
    let v := (List.range tones.length).map (fun i =>
      let x := tones.getD i { point := { re := 0, im := 0 }, power := 0, gain := 0 }
      let a := (i + 1) * t * 2 ^ 23
      (toneAmp x : Int) * (x.point.re * fixCos a - x.point.im * fixSin a))
    roundEven (v.sum * scale) (10 ^ 120 * fixOne))

/-- A symbol with its cyclic prefix of 16 samples (R95). -/
def withPrefix (x : List Int) : List Int := x.drop 496 ++ x

/-- The tones of a data symbol from a table and its points (R97). -/
def dataTones (t : BitTable) (points : List QamPoint) : List Tone :=
  (List.range 255).map (fun i =>
    { point := points.getD i { re := 0, im := 0 }, power := meanPower (t.bits.getD i 0), gain := t.gains.getD i 0 })

/-- The tones of a pilot symbol: QPSK at 0 dB on every subcarrier (R99). -/
def pilotTones (points : List QamPoint) : List Tone := points.map (fun p => { point := p, power := 2, gain := 0 })

/-- The state of the pilots' generator after `n` bits (R99). -/
def prbs31State (n st : Nat) : Nat :=
  n.fold (fun _ _ st => (2 * st + (st.testBit 30 != st.testBit 27).toNat) % 2 ^ 31) st

/-- The symbols of a multiframe: pilots where they stand, data symbols between them; without a table a probe frame, of
pilots alone (R95, R97, R99). -/
def frameSymbols (rms : Nat) (tab : Option BitTable) (line : Bits) (pilotSt : Nat) : List (List Int) :=
  let data := match tab with
    | some t => dataSymbols t.bits line
    | none => []
  let scale := match tab with
    | some t => symbolScale rms t.loaded
    | none => 0
  let pilotScale := symbolScale rms (List.replicate 255 0)
  (List.range 5604).map (fun k =>
    match tab with
    | none =>
      symbolSamples pilotScale (pilotTones (pilotPoints (if k = 0 then some 0 else none) (prbs31 510 (prbs31State (510 * k) pilotSt))))
    | some t =>
      if isPilot k then
        symbolSamples pilotScale (pilotTones (pilotPoints (if k = 0 then some t.id else none)
          (prbs31 510 (prbs31State (510 * (k / 1401)) pilotSt))))
      else symbolSamples scale (dataTones t (data.getD (k - k / 1401 - 1) [])))

/-- The 2,959,360 samples of a Stretch multiframe before Icing is added; `n` is the countdown's variant (R95, R98). -/
def frameSamples (rms n : Nat) (tab : Option BitTable) (line : Bits) (pilotSt : Nat) : List Int :=
  syncWord rms n ++ (frameSymbols rms tab line pilotSt).flatMap withPrefix

/-- Pilot symbols that a multiframe holds (R95, R99). -/
def pilotsPerFrame (tab : Option BitTable) : Nat := if tab.isSome then 4 else 5604

/-- The samples of the multiframe that a Stretch lane in DATA sends, saturated with the Icing samples added, and its delay
(R65, R71, R100, R109). -/
def State.stretchPath (s : State) (lane : Nat) (line : Bits) (icing : List Int) : List (Int × Bool) × Nat :=
  let x := s.stretchAt lane
  let t := s.txAt lane
  (dacSamples false (frameSamples x.rms.toNat (x.countTx.getD 0) x.txTab line x.pilotSt) icing,
    skewDelay false t.set.coarse t.set.fine)

/-! ### Receive, R101 -/

/-- The TEQ: 32 taps with an LSB of 2^-12 over the results of stage 4; the first tap takes the present sample. -/
def teqStage (taps xs : List Int) : List Int :=
  (List.range xs.length).map (fun (k : Nat) =>
    requant 5 (((List.range 32).map (fun (j : Nat) => tapAt taps j * tapAt xs ((k : Int) - j))).sum)
      (4096 * 2 ^ Config.stageFraction 4))

/-- What the Stretch stages take: the samples after stages 3 and 4 of the lane and the TEQ (R25, R94, R101). -/
def equalised (r : Rx) (x : Stretch) (adc : List Int) : List Int :=
  teqStage x.teq (digitalGain r.coef.digGain (icingFilter r.irejUse adc))

/-- The correlation of 224 samples with a half of the sync word. -/
def syncCorrelation (xs : List Int) : Int :=
  (List.zipWith (fun b x => if b then -x else x) (prbs13 224) xs).sum

/-- The variant of the sync word that 448 samples carry, as the boundaries to the table's change (R98). -/
def syncVariant (xs : List Int) : Nat :=
  match decide (syncCorrelation xs < 0), decide (syncCorrelation (xs.drop 224) < 0) with
  | false, false => 0
  | false, true => 3
  | true, false => 2
  | true, true => 1

/-- How strongly a sync word, whatever its variant, shows at sample `o`. -/
def syncStrength (xs : List Int) (o : Nat) : Nat :=
  (syncCorrelation (xs.drop o)).natAbs + (syncCorrelation (xs.drop (o + 224))).natAbs

/-- The place of the sync word in a multiframe's length of samples. DESIGN CHOICE (log entry 141): the strongest, the first
of equal ones. -/
def syncPlace (xs : List Int) : Nat :=
  (List.range 2959360).foldl (fun best o => if syncStrength xs best < syncStrength xs o then o else best) 0

/-- Sync detection: the sync word stands at one place in 8 consecutive multiframes (R102). -/
def syncDetected (xs : List Int) : Bool :=
  (List.range 8).all (fun k => syncPlace (xs.drop (2959360 * k)) == syncPlace xs)

/-- The transform of the 512 samples after a prefix at subcarriers 1 to 255: (real, imaginary), with the resolution of
stage 6. -/
def transform (xs : List Int) : List (Int × Int) :=
  (List.range 255).map (fun i =>
    let part (f : Nat → Int) : Int :=
      requant 6 (((List.range 512).map (fun t => xs.getD t 0 * f ((i + 1) * t * 2 ^ 23))).sum) (fixOne * 2 ^ Config.stageFraction 5)
    (part fixCos, -part fixSin))

/-- The FEQ: one complex coefficient per subcarrier, LSB 2^-12. -/
def feqStage (feq : List Int) (xs : List (Int × Int)) : List (Int × Int) :=
  (List.range 255).map (fun i =>
    let a := feq.getD (2 * i) 0
    let b := feq.getD (2 * i + 1) 0
    let x := xs.getD i (0, 0)
    (requant 7 (a * x.1 - b * x.2) (4096 * 2 ^ Config.stageFraction 6),
     requant 7 (a * x.2 + b * x.1) (4096 * 2 ^ Config.stageFraction 6)))

/-- The product of a point of the FEQ's output and the conjugate of another. -/
def conjProduct (a b : Int × Int) : Int × Int := (a.1 * b.1 + a.2 * b.2, a.2 * b.1 - a.1 * b.2)

/-- The phase slope of a pilot symbol: the sum over neighbouring subcarriers of the turn from one quotient by the known
pilot point to the next (R101). -/
def pilotSlope (zs : List (Int × Int)) (pilots : List QamPoint) : Int × Int :=
  let q := List.zipWith (fun z p => conjProduct z (p.re, p.im)) zs pilots
  (List.zipWith (fun a b => conjProduct b a) q (q.drop 1)).foldl (fun s v => (s.1 + v.1, s.2 + v.2)) (0, 0)

/-- The delay in 1/64 UI that a phase slope shows, of −16,384 to 16,383: a sample of delay turns each subcarrier by 1/512 of
a turn against its neighbour (R95, R101). -/
def slopeDelay (v : Int × Int) : Int :=
  let near (d : Int) : Int := v.1 * fixCos ((d % 32768).toNat * 2 ^ 17) - v.2 * fixSin ((d % 32768).toNat * 2 ^ 17)
  ((List.range 32768).map (fun (i : Nat) => (i : Int) - 16384)).foldl (fun best d => if near best < near d then d else best) (-16384)

/-- The frequency difference in 1/64 ppm between two pilot symbols 1,401 symbols apart, from their delays (R32, R101). -/
def pilotFreq (before now : Int) : Int := roundEven ((now - before) * 10 ^ 6) (528 * 1401)

/-- The squared distance of a point of the FEQ from a constellation's point of `n` bits at unit power: the root of that
power is taken to 60 places. -/
def pointDistance (n : Nat) (z : Int × Int) (p : QamPoint) : Nat :=
  let root : Int := rootFloor 2 (meanPower n * 10 ^ 120) 210
  let unit : Int := 2 ^ Config.stageFraction 7 * 10 ^ 60
  (z.1 * root - p.re * unit).natAbs ^ 2 + (z.2 * root - p.im * unit).natAbs ^ 2

/-- The squared FEQ decision error of a subcarrier of `n` bits, normalised to unit constellation power and in units of
1/2,730 of the resolution that `pointDistance` has (R117): 2,730 is a multiple of every constellation's power. -/
def decisionError (n : Nat) (z : Int × Int) : Nat :=
  least ((List.range (2 ^ n)).map (fun v => pointDistance n z (constellation (bitsOf n v)))) * (2730 / meanPower n)

/-- The MSE of a run of data symbols: the mean squared FEQ decision error over the loaded subcarriers (R117). -/
def stretchMse (t : BitTable) (symbols : List (List (Int × Int))) : W32 :=
  let errs := symbols.flatMap (fun z => ((List.range 255).filter (fun i => t.bits.getD i 0 != 0)).map (fun i =>
    decisionError (t.bits.getD i 0) (z.getD i (0, 0))))
  f32Ratio errs.sum (errs.length * 2730 * (2 ^ Config.stageFraction 7 * 10 ^ 60) ^ 2)

/-- The groups of `n` bits with bit `i` at a value. -/
def groupsWith (n i : Nat) (b : Bool) : List Bits := ((List.range (2 ^ n)).map (bitsOf n)).filter (fun g => g.getD i false == b)

/-- The max-log soft values of a subcarrier's bits: the nearest point with the bit at 0 against the nearest with it at 1;
the metric's unit is the implementation's, as in PAM4. -/
def demap (n shift : Nat) (z : Int × Int) : List Soft :=
  (List.range n).map (fun i =>
    let best (b : Bool) : Nat := least ((groupsWith n i b).map (fun g => pointDistance n z (constellation g)))
    { hard := decide (best true < best false)
      rel := reliability ((best false : Int) - best true).natAbs (10 ^ 120 * (Config.metricUnit + 1)) shift })

/-- The soft values of one data symbol, by the table in force (R97, R101). -/
def demapSymbol (t : BitTable) (x : Stretch) (shift : Nat) (xs : List Int) : List Soft :=
  let z := feqStage x.feq (transform xs)
  (List.range 255).flatMap (fun i => demap (t.bits.getD i 0) shift (z.getD i (0, 0)))

/-- The line bits' soft values of a received multiframe: its data symbols in order, without the fill bits (R95, R97). -/
def receiveFrame (t : BitTable) (x : Stretch) (shift : Nat) (samples : List Int) : List Soft :=
  (((List.range 5604).filter (fun k => !isPilot k)).flatMap (fun k =>
    demapSymbol t x shift ((samples.drop (symbolStart k + 16)).take 512))).take (92480 * t.slots)

/-- The receive stages of a Stretch lane in order, from ADC codes to the soft values of the multiframe whose sync word the
equalised samples hold (R25, R94, R101). -/
def stretchReceive (r : Rx) (x : Stretch) (t : BitTable) (adc : List Int) : List Soft :=
  let xs := equalised r x adc
  receiveFrame t x r.use.softShift.toNat (xs.drop (syncPlace xs))

end Sys2Proof.Machine
end

