-- ==== Sys2Proof/Machine/Multiframe.lean ====
section
/-! DEFINITION. The multiframe of a lane from and to its slots (chapter 05): what is sent (R125, R126, R133, R144), the
precoder's memory over it (R67), what is received (R127, R129, R133, R138), and the searches for its alignment and start
(R140, R142). -/

namespace Sys2Proof.Machine

/-! ### Sending -/

/-- Block `i` of those that a transmit slot sends in a multiframe; a PARKED or FONDANT slot, and one that gave no block,
carries fondant octets (R150). -/
def State.slotBlock (s : State) (slot i : Nat) : Bytes :=
  let k := entKind (s.slotEntry slot)
  slice (if k = 2 ∨ k = 3 then (s.txSlotAt slot).blocks.getD i [] else []) 0 32

/-- The blocks of the multiframe that a lane in DATA sends (R96, R125, R126, R133). -/
def State.txBlocks (s : State) (lane : Nat) : List Block :=
  let n := s.txS lane
  withOverhead ((List.range (320 * n)).map (fun i => payloadOf (s.slotBlock (slotOf lane (blockSlot n i)) (i / n))))
    (s.framerAt lane).ohTx

/-- The line bits of that multiframe (R144). -/
def State.multiframe (s : State) (lane : Nat) : Bits := lineBits lane (s.txBlocks lane)

/-- The level indices u(k) of a multiframe in PAM4: the framer's, or a test pattern's from where it stands (R66, R88). -/
def State.sourceIndices (s : State) (lane : Nat) : List Nat :=
  let t := s.txAt lane
  if t.st = .pattern then patternRun t.gen t.half else grayMap (s.multiframe lane)

/-- A multiframe has been sent: the precoder keeps the last index, and a pattern and the generator of the pilots stand
further on (R67, R88, R99). The last of looped symbols is the line's, a free value (log entry 98). -/
def endMultiframe (lane : Nat) (s : State) : State :=
  let t := s.txAt lane
  if !t.st.steps then s
  else if t.stretch then
    s.stretchMod lane (fun x => { x with pilotSt := prbs31State (510 * pilotsPerFrame x.txTab) x.pilotSt })
  else if t.looped then (if s.looping lane then loseMemory lane s else s)
  else
    s.txMod lane (fun t =>
      { t with
        lastSent := (precode t.precoding t.lastSent (s.sourceIndices lane)).getLastD t.lastSent
        gen := if t.st = .pattern then
            { t.gen with pos := (t.gen.pos + multiframeSymbols t.half) % patternLength t.gen.pattern }
          else t.gen })

/-! ### Receiving -/

/-- The 20 blocks of a received RS codeword, still scrambled, and whether it was uncorrectable (R125, R129). -/
def codewordBlocks (cw : Bits) : List Block × Bool :=
  let w := rsSymbols cw
  ((chunks 257 (rsBits (rsMessage w))).map (fun b => { payload := b.take 256, overhead := b.getD 256 false }), (rsDecode w).isNone)

/-- The blocks of a received multiframe from the soft values of its inner codewords (R127, R129, R132): the descrambler
runs with the sending lane's number (DEDUCED, log entry 106: that of LANE_ID of the latest valid header). -/
def receiveBlocks (sender : Nat) (soft : List Soft) : List Block × List Bool :=
  let cws := (chunks 5440 ((chunks 170 soft).flatMap (fun c => (innerDecode c).1))).map codewordBlocks
  (scrambleBlocks (scrSeed sender) (cws.flatMap (·.1)), cws.map (·.2))

/-- The sections of a received overhead channel (R133). -/
def sectionHeader (oh : Bytes) : Bytes := slice oh 0 96
def sectionEntry (oh : Bytes) (k : Nat) : Bytes := slice oh (96 + 10 * k) 10
def sectionGcc (slots : Nat) (oh : Bytes) : Bytes := slice oh (96 + 10 * slots) (gccLen slots)

/-- No bit of the `n` overhead bytes from `o` lies in an uncorrectable codeword (R138): overhead bit j is in block j. -/
def sectionOk (uncorrectable : List Bool) (o n : Nat) : Bool :=
  (List.range (8 * n)).all (fun j => !uncorrectable.getD ((8 * o + j) / 20) false)

/-! ### Alignment and the start of the multiframe, R140, R142 -/

/-- `n` bits of a stream from a place. -/
def bitsFromStream (stream : Nat → Bool) (o n : Nat) : Bits := (List.range n).map (fun i => stream (o + i))

/-- An inner codeword with a zero syndrome or that of a single error. -/
def innerNear (cw : Bits) : Bool :=
  let s := innerRem cw
  s == 0 || (List.range 170).any (fun i => innerSyndrome i == s)

/-- The criterion of an inner window: at least 192 of its 256 codewords. -/
def windowOk (near : Nat) : Bool := within 192 256 near

/-- The criterion of an RS phase: 4 codewords, each decoded with at most 8 symbols in error. -/
def phaseOk (errors : List (Option Nat)) : Bool := errors.length == 4 && errors.all (fun e => (e.map (fun n => decide (n ≤ 8))).getD false)

/-- An offset qualifies by the candidate codewords of the window from a place. -/
def innerQualifies (stream : Nat → Bool) (o : Nat) : Bool :=
  windowOk ((List.range 256).filter (fun i => innerNear (bitsFromStream stream (o + 170 * i) 170))).length

/-- The windows of the 85 symbol offsets, taken from the line one after another: the place where offset `i`'s begins. -/
def innerWindow (o i : Nat) : Nat := o + (256 * 170 + 2) * i

/-- The inner alignment found from a place on: the place of a codeword of the first offset that qualifies; the search
starts again at offset 0 while `fuel` lasts. -/
def innerSearch (stream : Nat → Bool) : Nat → Nat → Option Nat
  | 0, _ => none
  | fuel + 1, o =>
    match (List.range 85).find? (fun i => innerQualifies stream (innerWindow o i)) with
    | some i => some (innerWindow o i)
    | none => innerSearch stream fuel (innerWindow o 85)

/-- An RS phase qualifies: 4 consecutive codewords of 34 inner messages from message `o`. -/
def rsQualifies (msgs : Nat → Bits) (o : Nat) : Bool :=
  phaseOk ((List.range 4).map (fun i =>
    (rsDecode (rsSymbols ((List.range 34).flatMap (fun q => msgs (o + 34 * i + q))))).map (·.2)))

/-- The RS phase found at an inner alignment, the 34 phases taken one after another. -/
def rsSearch (msgs : Nat → Bits) (o : Nat) : Option Nat :=
  ((List.range 34).map (fun p => o + 137 * p)).find? (rsQualifies msgs)

/-- Message `q` of the inner codewords that begin at bit `o` of a line's soft values. -/
def innerMessage (line : Nat → Soft) (o q : Nat) : Bits :=
  (innerDecode ((List.range 170).map (fun i => line (o + 170 * q + i)))).1

/-- The alignment search of PAM4 from a place of the line on: the inner alignment, and at it an RS phase; with no phase the
framer returns to the inner search where the line has got to. The answer is the place of the first bit of an RS codeword. -/
def alignSearch (line : Nat → Soft) : Nat → Nat → Option Nat
  | 0, _ => none
  | fuel + 1, o =>
    match innerSearch (fun i => (line i).hard) fuel o with
    | none => none
    | some a =>
      match rsSearch (innerMessage line a) 0 with
      | some m => some (a + 170 * m)
      | none => alignSearch line fuel (a + 170 * (137 * 34))

/-- In Stretch mode the one alignment is that of R97: both criteria at the first bit of data symbol 1. -/
def stretchAligned (line : Nat → Soft) : Bool :=
  innerQualifies (fun i => (line i).hard) 0 && rsQualifies (innerMessage line 0) 0

/-- A candidate multiframe start qualifies (R142): SYNC there and 16·S codewords later, and the header that follows is
valid with the lane's own FMT; in Stretch mode it is the start that the sync word gives. -/
def State.startOk (s : State) (lane : Nat) (x : StartSeen) : Bool :=
  decide (syncErrors x.first ≤ 2) && x.apart == 16 * s.rxS lane && headerValid x.second x.ok
    && byteAt x.second 5 == s.ownFmt lane && (!(s.rxAt lane).stretch || x.fromSync == 0)

/-- What the framer sees at RS codeword boundary `k` of the overhead bits of a line; `bad` names the uncorrectable codewords. -/
def State.startAt (s : State) (lane : Nat) (oh bad : Nat → Bool) (k : Nat) : StartSeen :=
  let n := 16 * s.rxS lane
  { first := octetsOf (bitsFromStream oh (20 * k) 32), second := octetsOf (bitsFromStream oh (20 * (k + n)) 768), apart := n
    ok := (List.range 768).all (fun j => !bad (k + n + j / 20)), fromSync := k }

/-- The search for the multiframe: the first RS codeword boundary that qualifies as its start (R142). -/
def State.mfSearch (s : State) (lane : Nat) (oh bad : Nat → Bool) (tried : Nat) : Option Nat :=
  (List.range tried).find? (fun k => s.startOk lane (s.startAt lane oh bad k))

end Sys2Proof.Machine
end

