-- ==== Sys2Proof/Machine/LaneRx.lean ====
section
/-! DEFINITION. The line receive commands and events (chapter 02), the pattern checkers (R89, R90) and the received
overhead (R138, R143). -/

namespace Sys2Proof.Machine

/-! ### Commands -/

/-- LANE_CONFIG. -/
def cmdLaneConfig (lane : Byte) (mask : W16) (cls precode sdLevel agcTarget echoThresh softShift : Byte)
    (eqfLow : W16) (kp ki upd irej : Byte) (s : State) : Cmd :=
  { range := laneOk lane && decide (mask.toNat < 2 ^ 11)
      && maskedOk mask 0 (decide (cls.toNat ≤ 3)) && maskedOk mask 1 (decide (precode.toNat ≤ 2))
      && maskedOk mask 2 (within 1 8 sdLevel.toNat) && maskedOk mask 3 (within 16 64 agcTarget.toNat)
      && maskedOk mask 4 (echoThresh == 0 || withinI (-45) (-30) (sInt8 echoThresh))
      && maskedOk mask 5 (decide (softShift.toNat ≤ 15))
      && maskedOk mask 7 (within 4 12 kp.toNat) && maskedOk mask 8 (within 10 20 ki.toNat)
      && maskedOk mask 9 (decide (upd.toNat ≤ 8)) && maskedOk mask 10 (isFlag irej)
    run := fun _ => ok (s.rxMod lane.toNat (fun r =>
      let c := r.cfg
      { r with cfg := {
          cls := masked mask 0 cls c.cls, precode := masked mask 1 precode c.precode
          sdLevel := masked mask 2 sdLevel c.sdLevel, agcTarget := masked mask 3 agcTarget c.agcTarget
          echoThresh := masked mask 4 echoThresh c.echoThresh, softShift := masked mask 5 softShift c.softShift
          eqfLow := masked mask 6 eqfLow c.eqfLow, kp := masked mask 7 kp c.kp, ki := masked mask 8 ki c.ki
          upd := masked mask 9 upd c.upd, irej := masked mask 10 (irej == 1) c.irej } })) }
def execLaneConfig (lane : Byte) (mask : W16) (cls precode sdLevel agcTarget echoThresh softShift : Byte)
    (eqfLow : W16) (kp ki upd irej : Byte) (s : State) : Result :=
  parax 0x0101 (cmdLaneConfig lane mask cls precode sdLevel agcTarget echoThresh softShift eqfLow kp ki upd irej) s

/-- LANE_START, R53. -/
def cmdLaneStart (lane : Byte) (s : State) : Cmd :=
  let l := lane.toNat
  { ready := s.rxOn (l % 16)
    range := laneOk lane
    run := fun _ => if (s.rxAt l).st ≠ .off then deny .busy s else ok (toWait l s) }
def execLaneStart (lane : Byte) (s : State) : Result := parax 0x0102 (cmdLaneStart lane) s

/-- LANE_STOP, R59, R48. -/
def cmdLaneStop (lane : Byte) (s : State) : Cmd :=
  let l := lane.toNat
  { ready := s.rxOn (l % 16)
    range := laneOk lane
    run := fun _ =>
      if (s.rxAt l).snapBusy then ok (s.rxMod l (fun r => { r with defStop := true })) else ok (stopLane l s) }
def execLaneStop (lane : Byte) (s : State) : Result := parax 0x0103 (cmdLaneStop lane) s

/-- A lane's checker holds it in MLSD_TRAIN: the flag CHECKING (R89). -/
def State.checking (s : State) (l : Nat) : Bool :=
  (s.txAt l).check.on && decide ((s.rxAt l).st = .mlsdTrain) && (s.rxAt l).checkHold

/-- LANE_STATUS, R64. -/
def cmdLaneStatus (lane : Byte) (s : State) : Cmd :=
  let r := s.rxAt lane.toNat
  { range := laneOk lane
    run := fun _ => okWith ([r.st.code, boolByte (s.checking lane.toNat)] ++ le32 r.lockLoss ++ le32 r.acqRetry
      ++ le32 r.warmFail ++ [r.retrySt, r.lossCause]) s }
def execLaneStatus (lane : Byte) (s : State) : Result := parax 0x0104 (cmdLaneStatus lane) s

/-- The quality record's 42 bytes in the order of R60. -/
def Quality.bytes (q : Quality) : Bytes :=
  le32 q.period ++ le16 q.eqfLower ++ le16 q.eqfMid ++ le16 q.eqfUpper ++ le16 q.eqfMin ++ le32 q.mse ++ le32 q.ber
    ++ le32 q.flipped ++ le16 q.rsUncorr ++ le16 q.freq ++ [q.agcGain] ++ le32 q.adcOver ++ q.delays.flatMap le16 ++ [q.flags]

/-- LANE_QUALITY, R60. -/
def cmdLaneQuality (lane : Byte) (s : State) : Cmd :=
  { range := laneOk lane
    run := fun _ => okWith (s.rxAt lane.toNat).quality.bytes s }
def execLaneQuality (lane : Byte) (s : State) : Result := parax 0x0105 (cmdLaneQuality lane) s

/-- LANE_ADAPT, R43, R44, R47: releasing a block also releases GUARD_FROZEN; the answer is the freeze in force. -/
def cmdLaneAdapt (lane freeze setExp : Byte) (expAcq expTrk : Bytes) (s : State) : Cmd :=
  let l := lane.toNat
  let expOk (b : Bytes) : Bool := b.all (fun x => within 6 20 x.toNat)
  { form := if expAcq.length = 3 ∧ expTrk.length = 3 then none else some .badLength
    range := laneOk lane && flagsOk 3 freeze && isFlag setExp && (setExp == 0 || (expOk expAcq && expOk expTrk))
    run := fun _ =>
      let s1 := s.rxMod l (fun r =>
        { r with
          freeze := freeze.setWidth 3
          guard := { r.guard with frozen := r.guard.frozen && freeze == 7 }
          expAcq := if setExp = 1 then expAcq.map BitVec.toNat else r.expAcq
          expTrk := if setExp = 1 then expTrk.map BitVec.toNat else r.expTrk })
      okWith [if (s1.rxAt l).guard.frozen then 7 else freeze] s1 }
def execLaneAdapt (lane freeze setExp : Byte) (expAcq expTrk : Bytes) (s : State) : Result :=
  parax 0x0106 (cmdLaneAdapt lane freeze setExp expAcq expTrk) s

/-- A range of crumbs of a bank. -/
def crumbsOk (first count : Byte) : Bool := within 1 32 count.toNat && decide (first.toNat + count.toNat ≤ 32)

/-- LANE_COEF_READ, R52: DATA needs BUF. -/
def cmdLaneCoefRead (lane first count : Byte) (buf : W32) (s : State) : Cmd :=
  let l := lane.toNat
  let n := 258 * count.toNat
  { ready := s.rxOn (l % 16)
    range := laneOk lane && crumbsOk first count && respRange buf 0 n
    run := fun _ => respond buf []
      (((List.range count.toNat).map (first.toNat + ·)).flatMap (fun c =>
        s.bankRead l c ++ le16 (s.bank.check (bankCrumb l c)))) s }
def execLaneCoefRead (lane first count : Byte) (buf : W32) (s : State) : Result :=
  parax 0x0107 (cmdLaneCoefRead lane first count buf) s

/-- The FREEZE bits that a written crumb needs (R52). -/
def freezeFor (c : Nat) : BitVec 3 :=
  if c = 0 ∨ c = 8 ∨ c = 9 ∨ c = 10 ∨ c = 16 ∨ c = 17 then 7
  else if c = 1 ∨ c = 15 then 1
  else if c = 2 then 6
  else if c = 3 ∨ c = 11 ∨ c = 12 ∨ c = 13 ∨ c = 14 then 2
  else 0

/-- LANE_COEF_WRITE, R52: SOURCE = 1, and SRC_LANE 0 with it (R49). -/
def cmdLaneCoefWrite (lane first count : Byte) (buf : W32) (data : Bytes) (s : State) : Cmd :=
  let l := lane.toNat
  let n := 256 * count.toNat
  let cs := (List.range count.toNat).map (first.toNat + ·)
  { form := bufForm buf 7 n data.length
    ready := s.rxOn (l % 16)
    range := laneOk lane && crumbsOk first count && bufRange buf n
    run := fun _ =>
      let r := s.rxAt l
      let need := cs.foldl (fun a c => a ||| freezeFor c) 0
      if r.st ≠ .off ∧ r.freeze &&& need ≠ need then deny .busy s
      else if first ≠ 0 ∧ ¬ s.bank.ok (bankCrumb l 0) then deny .crumb s
      else
        let d := bufData buf n data s
        let s1 := forEach (List.range count.toNat) (fun i t =>
          bankWrite l (first.toNat + i) (slice d (256 * i) 256) t) (s.bufRead buf n)
        ok (bankWrite l 0 (putAt (s1.bankRead l 0) 5 [1, 0, 0]) s1) }
def execLaneCoefWrite (lane first count : Byte) (buf : W32) (data : Bytes) (s : State) : Result :=
  parax 0x0108 (cmdLaneCoefWrite lane first count buf data) s

/-- LANE_COEF_COPY, R52. -/
def cmdLaneCoefCopy (src dst : Byte) (s : State) : Cmd :=
  let a := src.toNat
  let b := dst.toNat
  { ready := s.rxOn (a % 16) && s.rxOn (b % 16)
    range := laneOk src && laneOk dst
    run := fun _ =>
      if (s.rxAt b).st ≠ .off then deny .busy s
      else if !(s.badBank a [0, 1, 2, 3]).isEmpty then deny .crumb s
      else
        let s1 := forEach [1, 2, 3] (fun c t => bankWrite b c (s.bankRead a c) t) s
        ok (bankWrite b 0 (putAt (s.bankRead a 0) 5 ([2] ++ leN 2 a)) s1) }
def execLaneCoefCopy (src dst : Byte) (s : State) : Result := parax 0x0109 (cmdLaneCoefCopy src dst) s

/-- LANE_ECHO_SEARCH, R39: allowed in LOCKED. -/
def cmdLaneEchoSearch (lane : Byte) (s : State) : Cmd :=
  let l := lane.toNat
  { ready := s.rxOn (l % 16)
    range := laneOk lane
    run := fun _ =>
      if (s.rxAt l).st ≠ .locked then deny .busy s
      else ok (s.rxMod l (fun r => { r with echo := { r.echo with restart := true } })) }
def execLaneEchoSearch (lane : Byte) (s : State) : Result := parax 0x010A (cmdLaneEchoSearch lane) s

/-- LANE_CAPTURE_ARM, R63. -/
def cmdLaneCaptureArm (lane source mode : Byte) (stride : W32) (trigger pre : Byte) (s : State) : Cmd :=
  let l := lane.toNat
  let c : Capture := { source := source, strided := mode, stride := stride, trigger := trigger, pre := pre }
  { ready := s.rxOn (l % 16)
    range := laneOk lane && decide (source.toNat ≤ 4) && isFlag mode && decide (trigger.toNat ≤ 5)
      && decide (pre.toNat ≤ 7) && (mode == 0 || within 1 65536 stride.toNat)
    run := fun _ => ok (s.rxMod l (fun r =>
      { r with cap := if r.cap.running.isSome then { r.cap with deferred := some c } else { r.cap with armed := some c } })) }
def execLaneCaptureArm (lane source mode : Byte) (stride : W32) (trigger pre : Byte) (s : State) : Result :=
  parax 0x010B (cmdLaneCaptureArm lane source mode stride trigger pre) s

/-! ### Pattern checkers, R89, R90, R231 -/

/-- Change the checker of a test target. -/
def checkMod (target : Byte) (g : Checker → Checker) (s : State) : State :=
  if bitOf target 7 then s.hlaneMod (target.toNat % 32) (fun h => { h with check := g h.check })
  else s.txMod target.toNat (fun t => { t with check := g t.check })
def State.checkAt (s : State) (target : Byte) : Checker :=
  if bitOf target 7 then (s.hlaneAt (target.toNat % 32)).check else (s.txAt target.toNat).check

/-- The checker of a target stops: what it has compared in pattern lock is counted, and its lock ends with TEST_CHECK_LOCK
(R90, log entry 150). -/
def checkEnds (target : Byte) (s : State) : State :=
  if !bitOf target 7 then checkerIdle target.toNat s
  else if (s.checkAt target).locked then
    raise 0x8204 [target, 0] (checkMod target (fun c => { c.upToDate s.free with locked := false }) { s with free := s.free + 3 })
  else s

/-- The checker of a target gets symbols: a host lane's always, a line lane's in MLSD_TRAIN (R89, R231). -/
def State.checkerFed (s : State) (target : Byte) : Bool :=
  bitOf target 7 || decide ((s.rxAt target.toNat).st = .mlsdTrain)

/-- A test target in range (R401). -/
def checkTargetOk (t : Byte) : Bool := if bitOf t 7 then decide (t.toNat < 0xA0) else laneOk t

/-- TEST_CHECK: on a line lane it acquires from OFF and stays in MLSD_TRAIN (R89); on a host lane of a DISABLED port
the checker runs (R231). -/
def cmdTestCheck (target action pattern : Byte) (s : State) : Cmd :=
  let l := target.toNat
  { ready := bitOf target 7 || s.rxOn (l % 16)
    range := checkTargetOk target && isFlag action && decide (pattern.toNat ≤ 2)
    run := fun _ =>
      if bitOf target 7 then
        if s.hostLaneUsed (l % 32) then deny .busy s
        else ok (checkMod target (fun c => { c with on := action == 0, pattern := pattern }) (checkEnds target s))
      else if action = 0 then
        if (s.rxAt l).st ≠ .off then deny .busy s
        else
          let s1 := checkMod target (fun c => { c with on := true, pattern := pattern }) s
          ok (toWait l s1)
      else if (s.txAt l).check.on then
        ok (stopLane l (checkMod target (fun c => { c with on := false }) (checkEnds target s)))
      else ok s }
def execTestCheck (target action pattern : Byte) (s : State) : Result := parax 0x020C (cmdTestCheck target action pattern) s

/-- TEST_CHECK_READ, R90: a read in pattern lock covers what was compared up to then. -/
def cmdTestCheckRead (target flags : Byte) (s : State) : Cmd :=
  { range := checkTargetOk target && flagsOk 1 flags
    run := fun _ =>
      let s1 := if (s.checkAt target).locked then
          checkMod target (Checker.upToDate s.free) { s with free := s.free + 3 }
        else s
      let c := s1.checkAt target
      okWith (leN 8 c.bits.toNat ++ leN 8 c.errBits.toNat ++ leN 8 c.errSyms.toNat ++ leN 8 c.losses.toNat
          ++ [boolByte c.locked])
        (if clearFlag flags then checkMod target (fun c => { c with bits := 0, errBits := 0, errSyms := 0, losses := 0 }) s1
         else s1) }
def execTestCheckRead (target flags : Byte) (s : State) : Result := parax 0x020D (cmdTestCheckRead target flags) s

/-- PATTERN_LOCK_CHANGE: lock is gained after a run of matching symbols, or lost over a window of mismatching ones, with what
was compared in lock since the latest change or read (R90). -/
def execPatternLockChange (target : Byte) (seen : LockSeen) (bits errBits errSymbols : Nat) (s : State) : Result :=
  let c := s.checkAt target
  eventIf (checkTargetOk target && c.on && s.checkerFed target && c.locked != seen.locked
      && (if seen.locked then locksOn seen.run else losesLock seen.bad)) (fun s =>
    raise 0x8204 [target, boolByte seen.locked] (checkMod target (fun c =>
      { c.count bits errBits errSymbols with
        locked := seen.locked, losses := if seen.locked then c.losses else wrapAdd c.losses 1 }) s)) s

/-! ### Acquisition, R27 to R32, R53 to R57 -/

/-- SIGNAL_DETECT_ASSERT, R27, R54; the first assertion after a resume wake comes after 10 µs (R355). -/
def execSignalDetectAssert (lane : BitVec 4) (s : State) : Result :=
  let l := lane.toNat
  eventIf (s.rxOn l && !(s.rxAt l).sigDetect) (fun s =>
    let s1 := s.rxMod l (fun r => { r with sigDetect := true, fastDetect := false })
    let r := s1.rxAt l
    if r.st = .waitSignal ∧ ¬ r.backoff then choosePath l s1 else s1) s

/-- SIGNAL_DETECT_DEASSERT: LOS (R27, R57, R58). -/
def execSignalDetectDeassert (lane : BitVec 4) (s : State) : Result :=
  let l := lane.toNat
  eventIf (s.rxOn l && (s.rxAt l).sigDetect) (fun s =>
    let s1 := s.rxMod l (fun r => { r with sigDetect := false })
    if (s1.rxAt l).st.acquires then declareLoss l 0 (rxEnter l .waitSignal (checkerIdle l s1)) else declareLoss l 0 s1) s

/-- One AGC window of acquisition (R28): `ms` is the mean square of its ADC codes, held against AGC_TARGET. A window exactly
on target moves nothing (DESIGN CHOICE, log entry 137). -/
def agcWindow (lane : Nat) (ms : Ratio) (s : State) : State :=
  let r := s.rxAt lane
  let p := r.coef.pga
  let t := r.use.agcTarget.toNat
  let run := if rmsOff 10 t ms then 0 else r.agcRun + 1
  if (p = 0 ∨ p = 60) ∧ rmsOff 60 t ms = false then
    rxEnter lane .timing (s.rxMod lane (fun r => { r with agcLimit := true }))
  else if 4 ≤ run then rxEnter lane .timing (s.rxMod lane (fun r => { r with agcLimit := false }))
  else
    let step : Int := if rmsOff 60 t ms then 12 else 1
    let q := if rmsAbove 0 t ms then clampInt 0 60 (p - step) else if rmsBelow 0 t ms then clampInt 0 60 (p + step) else p
    s.rxMod lane (fun r => { r with agcRun := run, coef := { r.coef with pga := q.toNat } })

/-- AGC_WINDOW_END, R28. -/
def execAgcWindowEnd (lane : BitVec 4) (meanSquare : Ratio) (s : State) : Result :=
  eventIf (decide ((s.rxAt lane.toNat).st = .agc)) (agcWindow lane.toNat meanSquare) s

/-- TIMING_LOCK, R32, R53: to no difference beyond ±200 ppm. -/
def execTimingLock (lane : BitVec 4) (freq : W16) (s : State) : Result :=
  let l := lane.toNat
  eventIf (decide ((s.rxAt l).st = .timing) && withinI (-12800) 12800 freq.toInt) (fun s =>
    let s1 := s.rxMod l (fun r => { r with coef := { r.coef with freq := freq.toInt } })
    match (s1.rxAt l).path with
    | .cold => rxEnter l .ffeAdapt s1
    | .warm => (rxEnter l .warmVerify s1).rxMod l (fun r => { r with verifying := true })
    | .seeded => rxEnter l .seededAdapt s1) s

/-- The exponent of block `k` in a state (R43); a lane with its checker tracks in MLSD_TRAIN (R89). -/
def State.expOf (s : State) (l k : Nat) : Nat :=
  let r := s.rxAt l
  if r.st = .locked || s.checking l then r.expTrk.getD k 20 else r.expAcq.getD k 20

/-- Block `k` is frozen (R44, R47). -/
def State.blockFrozen (s : State) (l k : Nat) : Bool :=
  let r := s.rxAt l
  !r.st.adapts || bitOf r.freeze k || r.lossFrozen || r.guard.frozen || s.cal.frozen

/-- One coefficient stepped by the mean, in its LSBs, scaled by 2^-K, and whether it saturated (R34, R35, R43). -/
def lmsStep (lo hi v m : Int) (k : Nat) (sign : Int) : Int × Bool :=
  let w := v + sign * roundEven m (2 ^ k)
  (clampInt lo hi w, decide (w < lo) || decide (hi < w))

/-- The FFE stepped; the main tap stays at 256 (R33, R34). -/
def ffeStep (k : Nat) (c ms : List Int) : List (Int × Bool) :=
  (List.range c.length).map (fun i =>
    if i = 8 ∧ c.length = 56 then (256, false) else lmsStep (-512) 511 (c.getD i 0) (ms.getD i 0) k (-1))

/-- A group stepped: placed taps adapt, a relocating group's taps ramp to zero (R35, R38). -/
def groupStep (k : Nat) (g : EchoGroup) (ms : List Int) (ramp : Option Nat) : List (Int × Bool) :=
  match ramp with
  | some left => g.taps.map (fun v => (if left ≤ 1 then 0 else roundEven (v * (left - 1)) left, false))
  | none =>
    if g.delay = 0 then g.taps.map (·, false)
    else (List.range 8).map (fun i => lmsStep (-512) 511 (g.taps.getD i 0) (ms.getD i 0) k 1)

/-- The guard sees an update: its run of saturating updates, latched at 16 for the multiframe boundary (R46). -/
def RxGuard.update (g : RxGuard) (sat : Bool) : RxGuard :=
  let n := if sat then g.satRun + 1 else 0
  { g with satRun := n, satHit := g.satHit || decide (16 ≤ n), saturated := g.saturated || sat }

/-- One update period in PAM4 (R43): `ffe` and `canc` are the means of e(k) times each regressor, in LSBs. -/
def adaptPam (l : Nat) (ffe canc : List Int) (alpha : Int) (s : State) : State :=
  let r := s.rxAt l
  let c := r.coef
  let f := if s.blockFrozen l 0 then c.ffe.map (·, false) else ffeStep (s.expOf l 0) c.ffe ffe
  let cancOn := !s.blockFrozen l 1 && r.st != .ffeAdapt
  let g (m : Nat) : List (Int × Bool) :=
    let gr := c.groups.getD m {}
    if cancOn then groupStep (s.expOf l 1) gr ((canc.drop (8 * m)).take 8)
        ((r.echo.ramps.find? (fun p => p.1 == m)).map (fun p => p.2.1))
    else gr.taps.map (·, false)
  let a := if s.blockFrozen l 2 then (c.alpha : Int) else (lmsStep 0 63 c.alpha alpha (s.expOf l 2) 1).1
  let sat := f.any (·.2) || (List.range 4).any (fun m => (g m).any (·.2))
  s.rxMod l (fun r =>
    { r with
      coef := { c with
        ffe := f.map (·.1), alpha := a.toNat
        groups := (List.range 4).map (fun m => { delay := (c.groups.getD m {}).delay, taps := (g m).map (·.1) }) }
      echo := { r.echo with ramps := if cancOn then r.echo.ramps.map (fun p => (p.1, p.2.1 - 1, p.2.2)) else r.echo.ramps }
      guard := r.guard.update sat })

/-- One update period in Stretch mode: TEQ and FEQ, signed 16-bit (R101, R118). -/
def adaptStretch (l : Nat) (teq feq : List Int) (s : State) : State :=
  let x := s.stretchAt l
  let st (k : Nat) (c ms : List Int) : List (Int × Bool) :=
    if s.blockFrozen l k then c.map (·, false)
    else (List.range c.length).map (fun i => lmsStep (-32768) 32767 (c.getD i 0) (ms.getD i 0) (s.expOf l k) (-1))
  let t := st 0 x.teq teq
  let f := st 1 x.feq feq
  let sat := t.any (·.2) || f.any (·.2)
  (s.stretchMod l (fun x => { x with teq := t.map (·.1), feq := f.map (·.1) })).rxMod l (fun r =>
    { r with guard := r.guard.update sat })

/-- ADAPT_UPDATE, R43. -/
def execAdaptUpdate (lane : BitVec 4) (ffe canc : List Int) (alpha : Int) (s : State) : Result :=
  let l := lane.toNat
  eventIf (s.rxOn l && (s.rxAt l).st.adapts) (fun s =>
    if (s.rxAt l).stretch then adaptStretch l ffe canc s else adaptPam l ffe canc alpha s) s

/-- ECHO_GROUP_RELOCATE: the ramp of 16 updates is over (R38). -/
def execEchoGroupRelocate (lane : BitVec 4) (group : BitVec 2) (s : State) : Result :=
  let l := lane.toNat
  let m := group.toNat
  let p? := (s.rxAt l).echo.ramps.find? (fun p => p.1 == m && p.2.1 == 0)
  eventIf p?.isSome (fun s => s.rxMod l (fun r =>
    { r with
      coef := { r.coef with groups := r.coef.groups.set m { delay := (p?.map (fun p => p.2.2)).getD 0 } }
      echo := { r.echo with ramps := r.echo.ramps.filter (fun p => p.1 != m) } })) s

/-- FFE_ADAPT_DONE, R53; ECHO_SEARCH is passed in zero time on CLASS 3 and in Stretch mode (R51, R102). -/
def execFfeAdaptDone (lane : BitVec 4) (s : State) : Result :=
  let l := lane.toNat
  eventIf (decide ((s.rxAt l).st = .ffeAdapt)) (fun s =>
    if (s.rxAt l).stretch then
      rxEnter l .mlsdTrain (s.stretchMod l (fun x => { x with phase := .probe }))
    else if (s.rxAt l).use.echoLimit.isNone then rxEnter l .mlsdTrain s
    else (rxEnter l .echoSearch s).rxMod l (fun r => { r with echo := {} })) s

/-- The qualifying echoes found, and the placement of R37, recorded in crumb 3 (R39). -/
def placeEchoes (l : Nat) (s : State) : State :=
  let r := s.rxAt l
  match r.use.echoLimit with
  | none => s
  | some lim =>
    let qual := sortEchoes (r.echo.found.filter (fun e => decide (lim ≤ e.2)))
    let far := qual.filter (fun e => decide (64 ≤ e.1))
    let p := placeGroups (far.map (·.1)) far r.coef.groups
    let unc := qual.any (fun e => decide (e.1 < 64))
    bankStore l 3 (crumb3 qual p.2 unc) (s.rxMod l (fun r =>
      { r with coef := { r.coef with groups := p.1 }
               echo := { r.echo with placed := true, overflow := p.2, uncovered := unc } }))

/-- ECHO_SEARCH_PASS_END, R38. -/
def execEchoSearchPassEnd (lane : BitVec 4) (echoes : List (Nat × Int)) (s : State) : Result :=
  let l := lane.toNat
  eventIf (decide ((s.rxAt l).st = .echoSearch) && decide ((s.rxAt l).echo.pass < 64)) (fun s =>
    let s1 := s.rxMod l (fun r => { r with echo := { r.echo with pass := r.echo.pass + 1, found := r.echo.found ++ echoes } })
    if (s1.rxAt l).echo.pass = 64 then placeEchoes l s1 else s1) s

/-- ECHO_PLACEMENT_DONE, R37, R53. -/
def execEchoPlacementDone (lane : BitVec 4) (s : State) : Result :=
  let l := lane.toNat
  eventIf (decide ((s.rxAt l).st = .echoSearch) && (s.rxAt l).echo.placed) (rxEnter l .mlsdTrain) s

/-- MLSD_TRAIN_DONE: the exit condition of MLSD_TRAIN is met (R53); a lane with its checker on stays and tracks (R89). -/
def execMlsdTrainDone (lane : BitVec 4) (s : State) : Result :=
  let l := lane.toNat
  eventIf (decide ((s.rxAt l).st = .mlsdTrain) && !(s.rxAt l).stretch) (trained l) s

/-- PRECODE_TRIAL_TIMEOUT, R42. -/
def execPrecodeTrialTimeout (lane : BitVec 4) (s : State) : Result :=
  let l := lane.toNat
  let r := s.rxAt l
  eventIf (decide (r.st = .align) && !r.stretch && r.use.precode == 2 && !r.otherTried) (fun s =>
    s.rxMod l (fun r => { r with precode := !r.precode, otherTried := true })) s

/-- ALIGNMENT_FOUND, R140: both criteria hold. -/
def execAlignmentFound (seen : AlignSeen) (s : State) : Result :=
  let l := seen.lane.toNat
  eventIf (decide ((s.rxAt l).st = .align) && windowOk seen.near && phaseOk seen.errors) (rxEnter l .mfSearch) s

/-- MF_LOCK: the first SYNC match, and the second 16·S codewords later with a valid header of the lane's own FMT (R142). -/
def execMfLock (lane : BitVec 4) (start : StartSeen) (s : State) : Result :=
  let l := lane.toNat
  eventIf (decide ((s.rxAt l).st = .mfSearch) && s.startOk l start) (fun s =>
    let s1 := s.framerMod l (fun f => { f with lock := true, syncRun := 0, fmtRun := 0 })
    enterLocked l (takeHeader l start.second s1)) s

/-- WARM_CRUMB_CHECK_DONE, R54, R119: crumbs 0 to 2, and those of Stretch mode, are checked and loaded. -/
def execWarmCrumbCheckDone (lane : BitVec 4) (s : State) : Result :=
  let l := lane.toNat
  let r := s.rxAt l
  eventIf (decide (r.st = .warmVerify) && !r.verifying) (fun s =>
    let cs := if r.stretch then [0, 1, 2, 8, 9, 10, 11, 12, 13, 14, 15] else [0, 1, 2]
    let bad := s.badBank l cs
    if !bad.isEmpty then warmFail l (rejectBank l bad s)
    else
      let h := s.bankRead l 0
      let s1 := s.rxMod l (fun r =>
        { r with
          coef := coefOf (s.bankRead l 1) (s.bankRead l 2), precode := byteAt h 4 == 1
          use := { r.use with softShift := softOf (s.bankRead l 2) } })
      let s2 := if r.stretch then
          s1.stretchMod l (fun x =>
            let c8 := s.bankRead l 8
            { x.loadEq (s.bankRead l) with
              rxTab := some (tableOf (byteAt c8 2) (byteAt c8 0).toNat (slice (s.bankRead l 9) 1 255)) })
        else s1
      rxEnter l .agc s2) s

/-- The TABLE_IDs that the pilots of the verification carried are the restored table's, in two multiframes (R119). -/
def Stretch.tableVerified (x : Stretch) (ids : List Byte) : Bool :=
  ids.length == 2 && (match x.rxTab with | some t => ids.all (· == t.id) | none => false)

/-- WARM_MSE_VERIFY_DONE, R54, R119: `mse` is the mean of the 8 multiframe MSEs, a binary32 image; the relock passes
unless it is more than 3 dB above SNAP_MSE. -/
def execWarmMseVerifyDone (lane : BitVec 4) (mse : W32) (pilotIds : List Byte) (s : State) : Result :=
  let l := lane.toNat
  let r := s.rxAt l
  eventIf (decide (r.st = .warmVerify) && r.verifying) (fun s =>
    if !mseOver 3 mse (hdrMse (s.bankRead l 0)) && (!r.stretch || (s.stretchAt l).tableVerified pilotIds) then
      toAlign l (if r.stretch then s.stretchMod l (fun x => { x with phase := .data }) else s)
    else warmFail l s) s

/-- SEEDED_ADAPT_DONE, R56. -/
def execSeededAdaptDone (lane : BitVec 4) (s : State) : Result :=
  eventIf (decide ((s.rxAt lane.toNat).st = .seededAdapt)) (toAlign lane.toNat) s

/-- ACQ_STATE_TIMEOUT, R54, R57; MLSD_TRAIN has no maximum with the checker on (R89). -/
def execAcqStateTimeout (lane : BitVec 4) (s : State) : Result :=
  let l := lane.toNat
  let r := s.rxAt l
  eventIf (r.st.acquires && !s.checking l) (fun s =>
    if r.path = .warm then warmFail l s else acqRetry l s) s

/-- RETRY_BACKOFF_END, R57. DESIGN CHOICE (log entry 90): the further attempt is chosen in WAIT_SIGNAL as R54 chooses every
attempt, so it may be a warm relock. -/
def execRetryBackoffEnd (lane : BitVec 4) (s : State) : Result :=
  let l := lane.toNat
  eventIf (decide ((s.rxAt l).st = .waitSignal) && (s.rxAt l).backoff) (fun s =>
    toWait l (s.rxMod l (fun r => { r with backoff := false }))) s

/-! ### In LOCKED, R46 to R48, R58, R60, R138, R143 -/

/-- The condition of a cause holds (R58, R143): LOS, signal detect is not asserted; TIMING, the frequency estimate in
1/64 ppm is at ±200 ppm or the phase detector's mean has exceeded 1/4 UI in `run` consecutive multiframes, 8 of them;
FRAME, `run` consecutive RS codewords are uncorrectable, 64 of them. -/
def State.lossHolds (s : State) (l : Nat) (cause : BitVec 2) (freq : W16) (run : Nat) : Bool :=
  if cause = 0 then !(s.rxAt l).sigDetect
  else if cause = 1 then decide (12800 ≤ freq.toInt.natAbs) || decide (8 ≤ run)
  else decide (cause = 2) && decide (64 ≤ run)

/-- LOCK_LOSS_DECLARE (R58); the framer's other conditions are declared where they are found. -/
def execLockLossDeclare (lane : BitVec 4) (loss : LossSeen) (s : State) : Result :=
  let l := lane.toNat
  eventIf (s.lossHolds l loss.cause loss.freq loss.run && (decide ((s.rxAt l).st = .locked) || (s.rxAt l).loss.isSome))
    (declareLoss l loss.cause) s

/-- LOCK_LOSS_CAUSE_SETTLE, R58. -/
def execLockLossCauseSettle (lane : BitVec 4) (s : State) : Result :=
  let l := lane.toNat
  eventIf (s.rxAt l).loss.isSome (fun s =>
    let c := u8 (((s.rxAt l).loss.getD 0).toNat)
    raise 0x8102 [u8 l, c] (s.rxMod l (fun r => { r with loss := none, lossCause := c }))) s

/-- The bank holds a snapshot: a header that passes its check and is VALID (R46, R49). -/
def State.hasSnap (s : State) (l : Nat) : Bool := s.bank.ok (bankCrumb l 0) && hdrValid (s.bankRead l 0)

/-- The guard trips (R46, R47): the snapshot is restored where the bank holds one, and tracking slows; at the third trip
within 1,024 multiframes adaptation is frozen. DESIGN CHOICE (log entry 93): where a crumb of the snapshot fails its check
(R22) it is rejected, the coefficients stay, and the rest of the trip is made. -/
def guardTrip (l : Nat) (sat : Bool) (s : State) : State :=
  let r := s.rxAt l
  let c := coefOf (s.bankRead l 1) (s.bankRead l 2)
  let bad := if s.hasSnap l then s.badBank l (if r.stretch then [11, 12, 13, 14, 15] else [1, 2]) else []
  let snap := s.hasSnap l && bad.isEmpty
  let s := if bad.isEmpty then s else rejectBank l bad s
  let trips := 0 :: r.guard.trips
  let s1 := s.rxMod l (fun r =>
    { r with
      coef := if r.stretch || !snap then r.coef else c
      expTrk := r.expTrk.map (fun k => min 20 (k + 1))
      guard := { r.guard with mseRun := 0, satRun := 0, satHit := false, tripped := true, trips := trips } })
  let s2 := if r.stretch && snap then
      s1.stretchMod l (Stretch.loadEq (s.bankRead l))
    else s1
  let s3 := raise 0x8104 [u8 l, boolByte sat] s2
  if 3 ≤ trips.length then
    raise 0x8105 [u8 l] (s3.rxMod l (fun r => { r with guard := { r.guard with frozen := true, trips := [] } }))
  else s3

/-- The codewords of a multiframe received with another table than it was sent with all count as uncorrectable (R110). -/
def lateCounts (c : FecCounts) : FecCounts :=
  let n := c.rsUncorr + (c.rsHist.take 16).sum
  { c with rsHist := [], rsUncorr := n, rsSym := 0, rsBits := 0 }

/-- A multiframe counted as it decoded is counted again as uncorrectable. -/
def recount (l : Nat) (c : FecCounts) (s : State) : State :=
  let n := (c.rsHist.take 16).sum
  (fecCount l (fun k =>
    { k with
      rsHist := (List.range 16).foldl (fun t i => Tab.upd 0 t i (fun v => v - BitVec.ofNat 64 (c.rsHist.getD i 0))) k.rsHist
      rsUncorr := wrapAdd k.rsUncorr n, rsSym := k.rsSym - BitVec.ofNat 64 c.rsSym
      rsBits := k.rsBits - BitVec.ofNat 64 c.rsBits, blkErr := wrapAdd k.blkErr (20 * n) }) s).rxMod l (fun r =>
    { r with guard := { r.guard with uncorr := r.guard.uncorr + n } })

/-- The TABLE_ID of pilot 0 differs from the active table's and names the pending table (R110). -/
def State.namesPending (s : State) (l : Nat) (pilotId : Byte) : Option BitTable :=
  let x := s.stretchAt l
  if (s.rxAt l).stretch ∧ x.rxTab.isSome ∧ (x.rxTab.map (·.id)) ≠ some pilotId then
    x.rxNext.filter (fun t => t.id == pilotId)
  else none

/-- It differs for the second multiframe in a row: a late switch (R110). -/
def State.lateSwitch (s : State) (l : Nat) (pilotId : Byte) : Option BitTable :=
  if (s.stretchAt l).pilotRun = 1 then s.namesPending l pilotId else none

/-- The TABLE_ID of pilot 0 against the active table, and this multiframe's decoder counts (R110): a run of 2 multiframes
is a late switch, with the codewords of both counted as uncorrectable, or a mismatch that loses lock. -/
def pilotCheck (l : Nat) (pilotId : Byte) (fec : FecCounts) (s : State) : State :=
  let x := s.stretchAt l
  match x.rxTab with
  | none => s
  | some act =>
    if pilotId = act.id then s.stretchMod l (fun x => { x with pilotRun := 0 })
    else if x.pilotRun + 1 < 2 then s.stretchMod l (fun x => { x with pilotRun := x.pilotRun + 1, lateFec := fec })
    else match s.lateSwitch l pilotId with
    | some t =>
      rxTableSwitch l t (recount l x.lateFec (s.stretchMod l (fun x => { x with lateSwitch := wrapAdd x.lateSwitch 1 })))
    | none => declareLoss l 2 (s.stretchMod l (fun x => { x with pilotRun := 0, mismatch := wrapAdd x.mismatch 1 }))

/-- The counts and runs of one received multiframe (R29, R31, R46, R60, R135, R143). DESIGN CHOICE (log entry 94): a change
of the Icing rejection filter takes effect at a receive multiframe boundary, of which a lane outside LOCKED has none. -/
def mfCounts (l : Nat) (mse : W32) (syncBad : Bool) (fec : FecCounts) (s : State) : State :=
  let s1 := fecAdd l fec s
  let s2 := (if syncBad then fecCount l (fun k => { k with syncErr := wrapAdd k.syncErr 1 }) s1 else s1).framerMod l (fun f =>
    { f with age := f.age + 1, syncRun := if syncBad then f.syncRun + 1 else 0 })
  let deg := ((List.range 16).filter (fun n => decide ((s.framerAt l).degSym.toNat ≤ n))).map (fun n => fec.rsHist.getD n 0)
  let s3 := s2.rxMod l (fun r =>
    let g := r.guard
    { r with
      irejUse := r.cfg.irej
      coef := { r.coef with digGain := r.coef.digGain - r.coef.digGain.sign }
      guard := { g with
        mseRun := if s.hasSnap l && mseOver 6 mse (hdrMse (s.bankRead l 0)) then g.mseRun + 1 else 0
        trips := (g.trips.map (· + 1)).filter (fun t => decide (t < 1024))
        mfs := g.mfs + 1, uncorr := g.uncorr + fec.rsUncorr, flipped := g.flipped + fec.innerBits + fec.rsBits
        deg := g.deg + deg.sum, mses := mse :: g.mses } })
  let s4 := forEach ((s3.rxSlot.map (·.1)).filter (fun k => laneOfSlot k == l)) (fun k t =>
    t.rxSlotMod k (fun x => { x with feLast := x.feErr, feErr := false })) s3
  match s4.cal.strobe with
  | some b =>
    if b.committed then { s4 with cal := { s4.cal with strobe := some { b with uncorr := Tab.upd 0 b.uncorr l (· + fec.rsUncorr) } } }
    else s4
  | none => s4

/-- RX_MULTIFRAME_BOUNDARY: `mse` is the multiframe MSE, a binary32 image (R46). DESIGN CHOICE (log entry 95): with
GUARD_FROZEN set the lane goes on with its frozen coefficients (R47), so the guard neither trips nor restores. DEDUCED (log
entry 138): the codewords of a multiframe whose pilot names the pending table make no run of R143, for R110 keeps the lane
in LOCKED. -/
def execRxMultiframeBoundary (lane : BitVec 4) (mse : W32) (syncBad : Bool) (pilotId : Byte)
    (inner : InnerCounts) (rs : RsCounts) (runs : UncorrRuns) (s : State) : Result :=
  let l := lane.toNat
  let fec : FecCounts := { toInnerCounts := inner, toRsCounts := rs, toUncorrRuns := runs }
  eventIf (decide ((s.rxAt l).st = .locked)) (fun s =>
    let fec := if (s.lateSwitch l pilotId).isSome then lateCounts fec else fec
    let late := (s.namesPending l pilotId).isSome
    let s0 := mfCounts l mse syncBad fec
      { s with skew := { s.skew with errLanes := setBit s.skew.errLanes l false } }
    let s1 := if late then s0.framerMod l (fun f => { f with uncorrRun := 0 }) else s0
    let g := (s1.rxAt l).guard
    let s2 := if g.frozen then s1
      else if 4 ≤ g.mseRun then guardTrip l false s1
      else if g.satHit then guardTrip l true s1
      else s1
    if 4 ≤ (s2.framerAt l).syncRun ∨ (late = false ∧ 64 ≤ longestRun (s.framerAt l).uncorrRun fec) then declareLoss l 2 s2
    else if (s2.rxAt l).stretch then pilotCheck l pilotId fec s2
    else s2) s

/-- OVERHEAD_HEADER_RECEIVE, R138, R139, R143. -/
def execOverheadHeaderReceive (lane : BitVec 4) (header : Bytes) (codewordsOk : Bool) (s : State) : Result :=
  let l := lane.toNat
  eventIf ((s.framerAt l).lock) (fun s =>
    if headerValid header codewordsOk then
      let s1 := takeHeader l header s
      if 4 ≤ (s1.framerAt l).fmtRun then declareLoss l 2 s1 else s1
    else fecCount l (fun k => { k with ohFail := wrapAdd k.ohFail 1 }) s) s

/-- The smaller of two words. -/
def minW (a b : W16) : W16 := if a.toNat ≤ b.toNat then a else b

/-- The quality record of a period (R60, R61, R117). -/
def qualityOf (s : State) (l : Nat) (q : QualityMeas) : Quality :=
  let r := s.rxAt l
  let low := ((s.stretchAt l).rxTab.map (fun t =>
    minMargin (t.margins ((t.serviceSnr q.snr).map (fun v => (v.toNat : Int)))))).getD 0
  let eye (v : Ratio) : W16 := if r.stretch then 0 else eqfOf v
  { period := wrapAdd r.quality.period 1
    eqfLower := eye q.eyeLower, eqfMid := eye q.eyeMid, eqfUpper := eye q.eyeUpper
    eqfMin := if r.stretch then BitVec.ofNat 16 (clampInt 0 65535 low).toNat
      else minW (eye q.eyeLower) (minW (eye q.eyeMid) (eye q.eyeUpper))
    mse := f32Mean r.guard.mses
    ber := f32Ratio r.guard.flipped (5918720 * s.rxS l)
    flipped := BitVec.ofNat 32 r.guard.flipped
    rsUncorr := BitVec.ofNat 16 (min 65535 r.guard.uncorr)
    freq := q.freq, agcGain := u8 r.coef.pga
    adcOver := BitVec.ofNat 32 (min (2 ^ 32 - 1) q.adcOver)
    delays := if r.stretch then [0, 0, 0, 0] else r.coef.groups.map (fun g => BitVec.ofNat 16 g.delay)
    flags := u8 (packBits [r.agcLimit, r.echo.overflow, r.echo.uncovered, r.guard.frozen, r.precode]) }

/-- The AGC of LOCKED moves the PGA by one step at most, and the digital gain the other way (R29, R30). -/
def agcTrack (target : Nat) (q : QualityMeas) (c : RxCoef) : RxCoef :=
  if rmsAbove 15 target q.meanSquare ∨ q.adcTotal < q.adcOver * 10000 then
    if 0 < c.pga then { c with pga := c.pga - 1, digGain := c.digGain + 1024 } else c
  else if rmsBelow 15 target q.meanSquare then
    if c.pga < 60 then { c with pga := c.pga + 1, digGain := c.digGain - 1024 } else c
  else c

/-- The background search of one period (R38, R39). -/
def backgroundSearch (l : Nat) (q : QualityMeas) (s : State) : State :=
  let r := s.rxAt l
  match r.use.echoLimit with
  | none => s
  | some lim =>
    if r.stretch then s
    else if r.echo.restart then
      s.rxMod l (fun r => { r with echo := { r.echo with restart := false, pass := 0, found := [] } })
    else
      let new := sortEchoes (q.echoes.filter (fun e => decide (lim ≤ e.2)))
      let found := r.echo.found ++ new
      let far := new.filter (fun e => decide (64 ≤ e.1))
      let s1 := s.rxMod l (fun r =>
        far.foldl (backgroundEcho (far.map (·.1))) { r with echo := { r.echo with pass := r.echo.pass + 1, found := found } })
      if (s1.rxAt l).echo.pass < 64 then s1
      else
        let all := sortEchoes found
        let gs := (s1.rxAt l).coef.groups
        let ovf := gs.all (fun g => g.delay != 0) && all.any (fun e => decide (64 ≤ e.1) && !gs.any (fun g => g.covers e.1))
        let unc := all.any (fun e => decide (e.1 < 64))
        bankStore l 3 (crumb3 all ovf unc) (s1.rxMod l (fun r =>
          { r with echo := { r.echo with pass := 0, found := [], overflow := ovf, uncovered := unc } }))

/-- LANE_EQF_LOW (R62). -/
def eqfCheck (l : Nat) (s : State) : State :=
  let r := s.rxAt l
  if r.stretch then s
  else
    let e := r.quality.eqfMin.toNat
    let low := if e < r.use.eqfLow.toNat then r.guard.lowRun + 1 else 0
    let high := if r.use.eqfLow.toNat + 256 ≤ e then r.guard.highRun + 1 else 0
    let rearmed := if 4 ≤ high then false else r.guard.eqfRaised
    let fire := decide (4 ≤ low) && !rearmed
    let s1 := s.rxMod l (fun r => { r with guard := { r.guard with lowRun := low, highRun := high, eqfRaised := rearmed || fire } })
    if fire then raise 0x8106 ([u8 l] ++ le16 r.quality.eqfMin) s1 else s1

/-- FEC_UNCORR and FEC_DEGRADE (R146). -/
def fecCheck (l uncorr deg : Nat) (s : State) : State :=
  let f := s.framerAt l
  let s1 := if uncorr ≠ 0 ∧ ¬ f.lastUncorr then raise 0x8401 ([u8 l] ++ leN 4 uncorr) s else s
  let bad := decide (f.degCount.toNat ≤ deg)
  let degRun := if bad then f.degRun + 1 else 0
  let clearRun := if bad then 0 else f.clearRun + 1
  let nowSet := if f.degSet then decide (clearRun < 4) else decide (2 ≤ degRun)
  let s2 := s1.framerMod l (fun f =>
    { f with lastUncorr := decide (uncorr ≠ 0), degRun := degRun, clearRun := clearRun, degSet := nowSet })
  if nowSet = f.degSet then s2 else raise 0x8402 [u8 l, boolByte nowSet] s2

/-- PD_FB owed by a lane (R258): the first period after the request is measured, then answered. -/
def answerFeedback (l : Nat) (q : QualityMeas) (s : State) : State :=
  let f := faceOf l
  let mine := (s.icingAt f).fbOwed.filter (fun o => o.lane == l)
  let kept := (s.icingAt f).fbOwed.filter (fun o => o.lane != l || !o.armed)
  let owed := kept.map (fun o => if o.lane == l then { o with armed := true } else o)
  let s1 := s.icingMod f (fun i => { i with fbOwed := owed })
  forEach (mine.filter (·.armed)) (fun o t => icQueue f 0x14 o.dst
    ([o.txLane, o.fbSeq, 0] ++ leN 8 (packBits (q.pdOk.take 64)) ++ slice (q.pdMean.flatMap be16) 0 128) t) s1

/-- The SNR of a Stretch lane's active table at the end of a period, and what R116 makes of it (R103, R116). -/
def stretchPeriod (l : Nat) (ms : List Ratio) (uncorr : Nat) (s : State) : State :=
  match (s.stretchAt l).rxTab with
  | some t => stretchQuality l (t.serviceSnr ms) uncorr s
  | none => s

/-- QUALITY_PERIOD_END, R29, R38, R48, R60 to R62, R116, R146, R258. -/
def execQualityPeriodEnd (lane : BitVec 4) (q : QualityMeas) (s : State) : Result :=
  let l := lane.toNat
  eventIf (decide ((s.rxAt l).st = .locked) && decide (64 ≤ (s.rxAt l).guard.mfs)) (fun s =>
    let g := (s.rxAt l).guard
    let s1 := s.rxMod l (fun r => { r with quality := qualityOf s l q, coef := { agcTrack r.use.agcTarget.toNat q r.coef with freq := q.freq.toInt } })
    let s2 := backgroundSearch l q s1
    let s3 := if g.uncorr = 0 ∧ ¬ g.tripped ∧ ¬ g.saturated then
        (writeSnapshot l (f32Mean g.mses) q.freq s2).rxMod l (fun r => { r with snapBusy := true })
      else s2
    let s4 := fecCheck l g.uncorr g.deg (eqfCheck l s3)
    let s5 := if (s.rxAt l).stretch then stretchPeriod l q.snr g.uncorr s4 else s4
    let s6 := answerFeedback l q s5
    s6.rxMod l (fun r =>
      { r with guard := { r.guard with mfs := 0, tripped := false, saturated := false, uncorr := 0, flipped := 0, deg := 0, mses := [] } })) s

/-- SNAPSHOT_WRITE_DONE: what waited for the write takes effect (R48). -/
def execSnapshotWriteDone (lane : BitVec 4) (s : State) : Result :=
  let l := lane.toNat
  eventIf (s.rxAt l).snapBusy (fun s =>
    let r := s.rxAt l
    let s1 := rxModeDue l (s.rxMod l (fun r => { r with snapBusy := false, defStop := false, defLoss := none }))
    if r.defStop then stopLane l s1
    else match r.defLoss with
    | some c => declareLoss l c s1
    | none => s1) s

/-! ### Capture, R63 -/

/-- The armed capture of a lane runs. -/
def runCapture (l : Nat) (s : State) : State :=
  s.rxMod l (fun r => { r with cap := { r.cap with armed := none, running := r.cap.armed } })

/-- The lane's capture is armed with this trigger. -/
def State.armedWith (s : State) (l : Nat) (t : Byte) : Bool :=
  match (s.rxAt l).cap.armed with
  | some c => c.trigger == t
  | none => false

/-- CAPTURE_TRIGGER; FACE_SYNC triggers every lane of the face that is armed with it. -/
def execCaptureTrigger (lane : BitVec 4) (trigger : Byte) (s : State) : Result :=
  let l := lane.toNat
  eventIf (s.rxOn l && s.armedWith l trigger && (s.rxAt l).cap.running.isNone) (fun s =>
    if trigger = 5 then forEach ((lanesOf (faceOf l)).filter (fun k => s.armedWith k 5)) runCapture s else runCapture l s) s

/-- CAPTURE_COMPLETE: the samples are the line's (a free value); a waiting arm takes effect. -/
def execCaptureComplete (lane : BitVec 4) (s : State) : Result :=
  let l := lane.toNat
  eventIf (s.rxAt l).cap.running.isSome (fun s =>
    let trig := ((s.rxAt l).cap.running.map (·.trigger)).getD 0
    let n := s.free + 1
    raise 0x8107 [u8 l, trig] ({ s with free := n }.rxMod l (fun r =>
      { r with cap := { armed := r.cap.deferred, running := none, deferred := none, held := n } }))) s

end Sys2Proof.Machine
end

