-- ==== Sys2Proof/Machine/LaneTx.lean ====
section
/-! DEFINITION. The line transmit commands and events (chapter 03); the pattern checkers are in Machine/LaneRx.lean. -/

namespace Sys2Proof.Machine

/-- TX_CONFIG, R68, R79. -/
def cmdTxConfig (lane mask precode level : Byte) (s : State) : Cmd :=
  { range := laneOk lane && flagsOk 2 mask && maskedOk mask 0 (isFlag precode)
      && maskedOk mask 1 (withinI (-24) (-12) (sInt8 level))
    run := fun _ => ok (txSet lane.toNat (fun x =>
      { x with precodeP := masked mask 0 (some (precode == 1)) x.precodeP,
               levelP := masked mask 1 (some (sInt8 level)) x.levelP }) s) }
def execTxConfig (lane mask precode level : Byte) (s : State) : Result := parax 0x0201 (cmdTxConfig lane mask precode level) s

/-- TX_ENABLE, R82, R83. DESIGN CHOICE (log entry 147): in DATA it answers BUSY, as the command table's "QUIET, ICING_ONLY" has
it, although the table of states lets DATA leave for ICING_ONLY on command. -/
def cmdTxEnable (lane mode : Byte) (s : State) : Cmd :=
  let l := lane.toNat
  { ready := s.txTakes (l % 16) && !s.stopped 4
    range := laneOk lane && isFlag mode
    run := fun _ =>
      let st := (s.txAt l).st
      if st ≠ .quiet ∧ st ≠ .icingOnly then deny .busy s
      else if mode = 0 then ok (s.txMod l (fun t => { t with next := some .data }))
      else if s.icLane (faceOf l) ≠ l then deny .notReady s
      else ok (txEnter l .icingOnly s) }
def execTxEnable (lane mode : Byte) (s : State) : Result := parax 0x0202 (cmdTxEnable lane mode) s

/-- TX_SQUELCH, R82 to R84. -/
def cmdTxSquelch (lane flags : Byte) (s : State) : Cmd :=
  let l := lane.toNat
  { ready := s.txTakes (l % 16)
    range := laneOk lane && flagsOk 1 flags
    run := fun _ =>
      let t := s.txAt l
      if t.st = .hiz then deny .busy s
      else if clearFlag flags && (s.faceAt (faceOf l)).faultIn then deny .faultActive s
      else if t.st = .fault then
        if clearFlag flags then ok (s.txMod l (fun t => { Tx.enter .quiet t with latched := false })) else ok s
      else if t.st.steps then ok (s.txMod l (fun t => { t with next := some .quiet }))
      else ok (txEnter l .quiet s) }
def execTxSquelch (lane flags : Byte) (s : State) : Result := parax 0x0203 (cmdTxSquelch lane flags) s

/-- The tap set of R69 is accepted. -/
def firOk (taps : Bytes) : Bool :=
  decide ((taps.map (fun b => b.toInt.natAbs)).sum ≤ 64) && decide (16 ≤ (byteAt taps 2).toInt)

/-- TX_FIR_SET, R69, R70. -/
def cmdTxFirSet (lane : Byte) (taps : Bytes) (s : State) : Cmd :=
  { form := if taps.length = 9 then none else some .badLength
    range := laneOk lane && firOk taps
    run := fun _ => ok (txSet lane.toNat (fun x => { x with firP := some (taps.map BitVec.toInt) }) s) }
def execTxFirSet (lane : Byte) (taps : Bytes) (s : State) : Result := parax 0x0204 (cmdTxFirSet lane taps) s

/-- TX_PD_WRITE, R72, R74. -/
def cmdTxPdWrite (lane : Byte) (table : Bytes) (s : State) : Cmd :=
  { form := if table.length = 64 then none else some .badLength
    range := laneOk lane && table.all (fun b => withinI (-32) 31 b.toInt)
    run := fun _ => ok ((txSet lane.toNat (fun x => { x with pdP := some (table.map BitVec.toInt) }) s).txMod lane.toNat
      (fun t => { t with pdLimit := false })) }
def execTxPdWrite (lane : Byte) (table : Bytes) (s : State) : Result := parax 0x0205 (cmdTxPdWrite lane table) s

/-- TX_PD_READ, R72. -/
def cmdTxPdRead (lane : Byte) (s : State) : Cmd :=
  { range := laneOk lane
    run := fun _ => okWith ((s.txAt lane.toNat).set.pd.map (BitVec.ofInt 8)) s }
def execTxPdRead (lane : Byte) (s : State) : Result := parax 0x0206 (cmdTxPdRead lane) s

/-- TX_PD_TRAIN, R73, R74, R263: NOT_READY outside DATA or with no far end found, and with a far end found that is an
SG1608 the status of R263 (DEDUCED, log entry 102). -/
def cmdTxPdTrain (lane iter step : Byte) (s : State) : Cmd :=
  let l := lane.toNat
  let f := faceOf l
  { ready := s.txOn (l % 16)
    range := laneOk lane && decide (iter.toNat ≤ 64) && decide (step.toNat ≤ 4)
    run := fun _ =>
      if iter = 0 then ok (endTrain l 4 s)
      else if (s.txAt l).st ≠ .data ∨ !s.farFound f then deny .notReady s
      else if s.far1608 f then deny .notSupported s
      else if s.icFull f then deny .full s
      else ok (askFeedback l (s.txMod l (fun t =>
        { t with train := some { iter := iter.toNat, step := step.toNat }, pdLimit := false }))) }
def execTxPdTrain (lane iter step : Byte) (s : State) : Result := parax 0x0207 (cmdTxPdTrain lane iter step) s

/-- TX_SWING, R75, R76. -/
def cmdTxSwing (lane swing : Byte) (s : State) : Cmd :=
  { range := laneOk lane && decide (swing.toNat ≤ 31)
    run := fun _ => ok (s.txMod lane.toNat (fun t => { t with set :=
      { t.set with swingT := swing.toNat, swing := if t.st.steps then t.set.swing else swing.toNat } })) }
def execTxSwing (lane swing : Byte) (s : State) : Result := parax 0x0208 (cmdTxSwing lane swing) s

/-- TX_SKEW, R80, R81. -/
def cmdTxSkew (lane mask coarse fine : Byte) (s : State) : Cmd :=
  { range := laneOk lane && flagsOk 2 mask && maskedOk mask 1 (decide (fine.toNat ≤ 63))
    run := fun _ =>
      let t := s.txAt lane.toNat
      let still := t.st = .hiz ∨ t.st = .quiet ∨ t.st = .fault
      if bitOf mask 0 ∧ coarse.toNat ≠ t.set.coarse ∧ ¬ still then deny .busy s
      else ok (s.txMod lane.toNat (fun t => { t with set :=
        { t.set with coarse := masked mask 0 coarse.toNat t.set.coarse,
                     fineT := masked mask 1 fine.toNat t.set.fineT,
                     fine := if bitOf mask 1 && !t.st.steps then fine.toNat else t.set.fine } })) }
def execTxSkew (lane mask coarse fine : Byte) (s : State) : Result := parax 0x0209 (cmdTxSkew lane mask coarse fine) s

/-- TX_STATUS: TX_DAC_CLIP holds what has been limited up to now (R77). -/
def cmdTxStatus (lane : Byte) (s : State) : Cmd :=
  let s1 := clipsUpToDate lane.toNat s
  let t := s1.txAt lane.toNat
  { range := laneOk lane
    run := fun _ => okWith ([t.st.code, u8 (packBits [t.looped, t.pdLimit, t.precoding]), u8 t.set.swing,
      u8 t.set.swingT, u8 t.set.fine, u8 t.set.fineT, u8 t.set.coarse] ++ le32 t.clips ++ le32 t.clipPer
      ++ le32 t.loopSlip) s1 }
def execTxStatus (lane : Byte) (s : State) : Result := parax 0x020A (cmdTxStatus lane) s

/-- A test target in range: a line lane, or with bit 7 a host lane (R401). -/
def targetOk (t : Byte) : Bool := if bitOf t 7 then decide (t.toNat < 0xA0) else laneOk t

/-- The state of a code of R82 in which TEST_GEN may leave a transmitter. -/
def stopTo (code : Byte) : Option TxSt :=
  if code = 1 then some .quiet else if code = 2 then some .icingOnly else if code = 3 then some .data else none

/-- TEST_GEN on a host lane of a DISABLED port (R231). -/
def genHost (target action pattern override : Byte) (s : State) : Reply :=
  let h := target.toNat % 32
  if s.hostLaneUsed h then deny .busy s
  else ok (s.hlaneMod h (fun x =>
    { x with gen := if action = 0 then { on := true, pattern := pattern, override := override } else { x.gen with on := false } }))

/-- TEST_GEN on a line lane (R83, R88). -/
def genLine (lane : Nat) (action pattern override stopState : Byte) (s : State) : Reply :=
  let st := (s.txAt lane).st
  if action = 0 then
    if st ≠ .quiet ∧ st ≠ .icingOnly ∧ st ≠ .data then deny .busy s
    else ok (s.txMod lane (fun t =>
      { t with next := some .pattern, gen := { on := true, pattern := pattern, override := override } }))
  else if st ≠ .pattern ∧ (s.txAt lane).next ≠ some .pattern then deny .busy s
  else match stopTo stopState with
    | some .icingOnly =>
      if s.icLane (faceOf lane) ≠ lane then deny .notReady s
      else ok (s.txMod lane (fun t => { t with next := some .icingOnly }))
    | some x => ok (s.txMod lane (fun t => { t with next := some x }))
    | none => deny .range s

/-- TEST_GEN, R88, R231. -/
def cmdTestGen (target action pattern precodeOverride stopState : Byte) (s : State) : Cmd :=
  { ready := bitOf target 7 || s.txTakes (target.toNat % 16)
    range := targetOk target && isFlag action && decide (pattern.toNat ≤ (if bitOf target 7 then 2 else 3))
      && decide (precodeOverride.toNat ≤ 2) && (action == 0 || bitOf target 7 || (stopTo stopState).isSome)
    run := fun _ =>
      if bitOf target 7 then genHost target action pattern precodeOverride s
      else genLine target.toNat action pattern precodeOverride stopState s }
def execTestGen (target action pattern precodeOverride stopState : Byte) (s : State) : Result :=
  parax 0x020B (cmdTestGen target action pattern precodeOverride stopState) s

/-- LOOPBACK_SET, R91: LINE_FAR brings the transmit side to DATA at the next boundary, out of HIZ once it has started up;
another point before then cancels that. -/
def cmdLoopbackSet (lane point : Byte) (s : State) : Cmd :=
  let l := lane.toNat
  { range := laneOk lane && decide (point.toNat ≤ 3)
    run := fun _ =>
      let t := s.txAt l
      let txFree := t.st = .hiz ∨ t.st = .quiet ∨ t.st = .icingOnly
      if (s.rxAt l).st ≠ .off ∨ ¬ txFree then deny .busy s
      else ok (s.txMod l (fun t =>
        { t with set := { t.set with loopback := point }, loopData := point == 3
                 next := if point = 3 ∧ t.st ≠ .hiz then some .data else if t.loopData then none else t.next })) }
def execLoopbackSet (lane point : Byte) (s : State) : Result := parax 0x020E (cmdLoopbackSet lane point) s

/-- A host lane in FAR loops its received symbols (R231). -/
def State.hostLoops (s : State) (h : Nat) : Bool := s.quadOn (h / 4) && (s.hlaneAt h).loopback == 2

/-- LINE_FAR_SLIP, R92; a target with bit 7 is a host lane in FAR (R231). -/
def execLineFarSlip (target : Byte) (fill : Nat) (s : State) : Result :=
  let l := target.toNat % 16
  let h := target.toNat % 32
  eventIf (fillSlips fill && (if bitOf target 7 then s.hostLoops h else (s.txAt l).looped)) (fun s =>
    if bitOf target 7 then s.hlaneMod h (fun x => { x with fill := 2048, loopSlip := wrapAdd x.loopSlip 1 })
    else s.txMod l (fun t => { t with fill := 2048, loopSlip := wrapAdd t.loopSlip 1 })) s

/-! ### The multiframe boundary, R83 -/

/-- The guard's trips grow older while the lane is not in LOCKED too (R47): a multiframe of the face's transmit timing is
as long as one received. -/
def tripsAge (lane : Nat) (s : State) : State :=
  if (s.rxAt lane).st = .locked then s
  else s.rxMod lane (fun r => { r with guard := { r.guard with
    trips := (r.guard.trips.map (· + 1)).filter (fun t => decide (t < 1024)) } })

/-- The end of a lane's multiframe, and the settings, FINE and the rate of the one that begins (R67 to R72, R81, R87). -/
def txRenew (lane : Nat) (s : State) : State :=
  let s0 := (countDown lane (tripsAge lane (endMultiframe lane s))).turnMod lane (fun t =>
    { t with left := if t.due then t.left - 1 else t.left })
  let s1 := s0.txMod lane (fun t =>
    { t with set := { t.set.apply with fine := if t.st.steps then stepTo t.set.fine t.set.fineT else t.set.fine } })
  match (s1.txAt lane).halfP with
  | some h => txRate lane h s1
  | none => s1

/-- The transition of a transmitter at a boundary (R81). One that is to power down leaves DATA or PATTERN for QUIET, and
QUIET for HIZ a multiframe later (R83; log entry 148). -/
def txMove (lane : Nat) (s : State) : State :=
  let t := s.txAt lane
  if t.shed then
    if t.st.steps then (if t.parking then txEnter lane .quiet s else txShed lane .quiet s)
    else if t.parking then parkEnd lane s else (txShed lane .hiz s).txMod lane (fun t => { t with shed := false })
  else match t.next with
    | some st => txEnter lane st s
    | none => s

/-- One lane at a multiframe boundary of its face: what ends and what is renewed, the transition, and the overhead of the
multiframe that begins (R144). -/
def txBoundary (lane : Nat) (s : State) : State :=
  formOverhead lane ((txMove lane (txRenew lane s)).framerMod lane (fun f => { f with seqDone := false }))

/-- ACTIVE and DROP bits of the client entries as applied on a face from this multiframe (R166). -/
def applyClients (f : Nat) (s : State) : State :=
  forEach (s.client.map (·.1)) (fun c t => t.clientMod c (fun k =>
    let b := byteAt k.entry 0 &&& 7
    if f = 0 then { k with liveE := b } else { k with liveW := b })) s

/-- The slots of a face that are listed. -/
def State.faceSlots (s : State) (f : Nat) : List Nat := (s.txSlot.map (·.1)).filter (fun k => k / 512 == f)

/-- What a slip errored until the end of the multiframe is past for the transmit lanes of a face (R18). DESIGN CHOICE
(log entry 87): a host quad has no multiframe of its own, so what crosses its FIFO counts by the transmit multiframes of
face East. -/
def Skew.boundary (f : Nat) (k : Skew) : Skew :=
  { k with
    errTx := (lanesOf f).foldl (fun m l => setBit m l false) k.errTx
    errQuads := if f = 0 then 0 else k.errQuads }

/-- The calendar, cross-connect and client links of a face at its multiframe boundary: client entries are applied (R166),
and at the start of b − 2 the slots that end are leaving (R168). -/
def calBoundary (f : Nat) (s : State) : State :=
  let s1 := applyClients f s
  match (s1.faceAt f).pending with
  | some b =>
    if b = (s1.faceAt f).mf + 2 then
      forEach ((List.range 1024).filter (fun c => (s1.clientAt c).up)) refreshClient (startLeaving f s1)
    else s1
  | none => s1

/-- TX_MULTIFRAME_BOUNDARY: the next multiframe of a face begins; the faces' transmit timing runs whenever RSYN is locked
(R459). -/
def execTxMultiframeBoundary (face : BitVec 1) (s : State) : Result :=
  let f := face.toNat
  eventIf s.sys.rsynLock (fun s =>
    let s1 := s.faceMod f (fun x => { x with mf := x.mf + 1, trace := x.traceP.getD x.trace, traceP := none })
    let s2 := forEach (lanesOf f) txBoundary s1
    let s3 := forEach (s2.faceSlots f) (fun k t => t.txSlotMod k (fun x =>
      { x with sinceSlip := min 1024 (x.sinceSlip + 1), blocks := [] })) s2
    let s4 := { s3 with
      streams := { s3.streams with sinceOver := if f = 0 then min 1024 (s3.streams.sinceOver + 1) else s3.streams.sinceOver }
      skew := s3.skew.boundary f }
    if s4.calOn f then calBoundary f s4 else s4) s

/-- TX_QUALITY_PERIOD_END, R76, R77: a period ends where a multiframe with MFC 0, 64, 128 or 192 begins (R459). -/
def execTxQualityPeriodEnd (lane : BitVec 4) (clips : W32) (s : State) : Result :=
  let l := lane.toNat
  let mf := (s.faceAt (faceOf l)).mf
  eventIf (s.sys.rsynLock && decide (mf % 64 = 0) && decide (mf ≠ (s.txAt l).periodAt)
      && decide ((s.txAt l).clipNow ≤ clips.toNat)) (fun s =>
    let s1 := s.txMod l (fun t =>
      { t with set := { t.set with swing := if t.st.steps then stepTo t.set.swing t.set.swingT else t.set.swing },
               clips := t.clips + BitVec.ofNat 32 (clips.toNat - t.clipNow), clipNow := 0, clipPer := clips, clipArmed := t.clipArmed || clips == 0, periodAt := mf })
    let t := s1.txAt l
    if t.clipArmed ∧ codesPerPeriod t.half < clips.toNat * 100000 then
      raise 0x8202 ([u8 l] ++ le32 clips) (s1.txMod l (fun t => { t with clipArmed := false }))
    else s1) s

/-- TX_DOMAIN_STARTUP_DONE, R82, R84; a wake returns the transmitter to DATA at the next boundary (R352), and so does
LINE_FAR set since the domain was last down (R91). -/
def execTxDomainStartupDone (lane : BitVec 4) (s : State) : Result :=
  let l := lane.toNat
  let t := s.txAt l
  eventIf (s.txOn l && decide (t.st = .hiz) && t.starting && !s.stopped 4) (fun s =>
    if t.latched || (s.faceAt (faceOf l)).faultIn then
      s.txMod l (fun t => { Tx.enter .fault t with starting := false, toData := false, latched := true })
    else
      s.txMod l (fun t => { Tx.enter .quiet t with
        starting := false, toData := false
        next := if t.toData || t.loopData then some .data else none })) s

/-- A powered transmitter meets its face's fault input (R84). -/
def txFault (lane : Nat) (s : State) : State :=
  if !s.txOn lane then s
  else
    let t := s.txAt lane
    let s1 := if t.st.steps then loseMemory lane s else s
    (if t.st = .hiz then s1 else txEnter lane .fault s1).txMod lane (fun t => { t with latched := true })

/-- FAULT_INPUT_ASSERT, R84. While the input is asserted already the command reports its level alone (DESIGN CHOICE, log entry
105: the table has no row for its release). -/
def execFaultInputAssert (face : BitVec 1) (fault : FaultSeen) (s : State) : Result :=
  let f := face.toNat
  let level (s : State) : State := s.faceMod f (fun x => { x with faultIn := fault.stays })
  pinEvent level (fun s =>
    let s1 := level s
    if (s.faceAt f).faultIn then s1
    else raise 0x8201 [u8 f] (burstAbort f fault.sent.toNat (forEach (lanesOf f) txFault s1))) s

/-! ### Predistortion feedback, R73, R74, R258 -/

/-- A PD_FB payload (R258). -/
def pdFb (txLane fbSeq status : Byte) (oks : List Bool) (means : List W16) : Bytes :=
  [txLane, fbSeq, status] ++ leN 8 (packBits (oks.take 64)) ++ slice (means.flatMap be16) 0 128

/-- PD_FB_REQ_RECEIVE: the lane's next complete quality period is measured, or the request is answered at once. -/
def execPdFbReqReceive (face : BitVec 1) (src : W16) (payload : Bytes) (s : State) : Result :=
  let f := face.toNat
  let lane := (byteAt payload 0).toNat % 16
  let q := byteAt payload 1
  eventIf (s.icingOn f && !inToffee s) (fun s =>
    let tx := u8 (s.farLane lane)
    if faceOf lane ≠ f ∨ (s.icingAt f).far ≠ src then icQueue f 0x14 src (pdFb tx q 2 [] []) s
    else if (s.rxAt lane).st ≠ .locked then icQueue f 0x14 src (pdFb tx q 1 [] []) s
    else s.icingMod f (fun i =>
      { i with fbOwed := i.fbOwed ++ [{ lane := lane, dst := src, txLane := tx, fbSeq := q }] })) s

/-- Whether mean `i` of a PD_FB rests on enough samples. -/
def fbOk (p : Bytes) (i : Nat) : Bool := bitOf (byteAt p (3 + i / 8)) (i % 8)
/-- Mean `i` of a PD_FB. -/
def fbMean (p : Bytes) (i : Nat) : Int := (BitVec.ofNat 16 (ofBe (slice p (11 + 2 * i) 2))).toInt

/-- One record of feedback applied to a table (R73 steps 3 and 4). -/
def pdUpdate (p : Bytes) (step : Nat) (table : List Int) : List (Int × Bool) :=
  (List.range 64).map (fun i =>
    let v := table.getD i 0
    if fbOk p i then pdStep v (fbMean p i) step else (v, false))

/-- A record arrived for a lane in training (R73, R74). -/
def takeFeedback (lane : Nat) (tr : Train) (p : Bytes) (s : State) : State :=
  if byteAt p 2 ≠ 0 then endTrain lane 2 s
  else
    let t := s.txAt lane
    let new := pdUpdate p tr.step (t.set.pdP.getD t.set.pd)
    let small := if (List.range 64).all (fun i => decide ((fbMean p i).natAbs < 16)) then tr.small + 1 else 0
    let tr1 : Train := { tr with done := tr.done + 1, small := small }
    let s1 := (txSet lane (fun x => { x with pdP := some (new.map (·.1)) }) s).txMod lane (fun t =>
      { t with train := some tr1, pdLimit := t.pdLimit || new.any (·.2) })
    if tr1.iter ≤ tr1.done then endTrain lane 0 s1
    else if 2 ≤ tr1.small then endTrain lane 1 s1
    else askFeedback lane s1

/-- PD_FB_RECEIVE, R258: a record whose FB_SEQ is not awaited is discarded. -/
def execPdFbReceive (face : BitVec 1) (src : W16) (payload : Bytes) (s : State) : Result :=
  let f := face.toNat
  let lane := (byteAt payload 0).toNat % 16
  let waits := (s.icingAt f).fbWait.any (fun w => w.lane == lane && w.fbSeq == byteAt payload 1)
  eventIf (s.icingOn f && waits && (s.icingAt f).far == src) (fun s =>
    match (s.txAt lane).train with
    | some tr => takeFeedback lane tr payload
        (s.icingMod f (fun i => { i with fbWait := i.fbWait.filter (fun w => w.lane != lane) }))
    | none => s) s

/-- PD_FEEDBACK_TIMEOUT, R74. -/
def execPdFeedbackTimeout (lane : BitVec 4) (s : State) : Result :=
  let l := lane.toNat
  eventIf ((s.txAt l).train.isSome && (s.icingAt (faceOf l)).fbWait.any (fun w => w.lane == l)) (endTrain l 3) s

end Sys2Proof.Machine
end

