-- ==== Sys2Proof/Machine/MonOps.lean ====
section
/-! DEFINITION. The filter chain of a monitor input and the frame boundary of an MADC (chapter 11). -/

namespace Sys2Proof.Machine

/-! ### Records and responses -/

/-- The image of a filter configuration record, R311. -/
def FiltRec.bytes (r : FiltRec) : Bytes :=
  [boolByte r.fallback, r.order] ++ le16 r.len ++ le16 r.decim ++ [r.notch, r.sos] ++ le16 r.fade ++ List.replicate 6 0

/-- The record of an image, R311. -/
def FiltRec.ofBytes (b : Bytes) : FiltRec :=
  { fallback := bitOf (byteAt b 0) 0
    order := byteAt b 1
    len := w16At b 2
    decim := w16At b 4
    notch := byteAt b 6
    sos := byteAt b 7
    fade := w16At b 8 }

/-- The ROM response of the path in use. -/
def FiltRec.entry (r : FiltRec) : Nat := if r.fallback then r.sos.toNat else r.notch.toNat

/-- The settling counts of the response ROM, R314. -/
def romSettle (entry : Nat) : Nat :=
  [0, 1112, 1280, 1112, 1112, 1280, 1112, 1112, 1280, 1200, 1280, 1112, 1112, 711, 711, 711, 711, 768, 768, 201, 371,
   41, 75, 11, 315, 157, 58, 14].getD entry 0

/-- The class of a response, R314: true = HIGH; NONE has none. -/
def romHigh (entry : Nat) : Option Bool := if entry = 0 then none else some (decide (13 ≤ entry) && decide (entry ≤ 23))

/-- The response of the path in use belongs to the path's output rate (R314). -/
def FiltRec.rateOk (windows : Nat) (r : FiltRec) : Bool :=
  match romHigh r.entry with
  | none => true
  | some true => decide (r.decim.toNat = windows)
  | some false => decide (r.decim.toNat = 64 * windows)

/-- The output samples that the averages of a configuration need to settle (R315). -/
def FiltRec.lead (r : FiltRec) : Nat :=
  if r.fallback then 1 else (r.order.toNat * (r.len.toNat - 1) + 1 + r.decim.toNat - 1) / r.decim.toNat

/-- The settling count of a configuration, R315. -/
def FiltRec.settle (r : FiltRec) : Nat := r.lead + romSettle r.entry

/-! ### The paths, R312, R313, R319 -/

/-- One input through the cascade of moving averages of length `len`: the histories and the sum that leaves. -/
def cascade (len : Nat) : Nat → List (List Nat) → Nat → List (List Nat) × Nat
  | 0, _, x => ([], x)
  | k + 1, st, x =>
    let h := (x :: st.headD []).take len
    let r := cascade len k st.tail h.sum
    (h :: r.1, r.2)

/-- Limit to the range of FOUT (R319, R320). -/
def foutSat (x : Int) : Int := clampInt (-(2 ^ 23)) (2 ^ 23 - 1) x

/-- An input code enters a running configuration; every D-th value is kept, in 1/256 code (R312, R313). -/
def Chain.feed (x : Nat) (c : Chain) : Chain :=
  let r := c.record
  let keep := decide (r.decim.toNat ≤ c.phase + 1)
  let phase := if keep then 0 else c.phase + 1
  if r.fallback then
    let sum := c.sum + x
    { c with
      phase := phase
      sum := if keep then 0 else sum
      due := if keep then some (roundEven (256 * sum) r.decim.toNat) else c.due }
  else
    let k := cascade r.len.toNat r.order.toNat c.stages x
    { c with
      phase := phase
      stages := k.1
      due := if keep then some (roundEven (256 * k.2) (r.len.toNat ^ r.order.toNat)) else c.due }

/-- A kept value passes the ROM response of the path: one output sample more (R312 to R314). -/
def Chain.sample (v : Int) (c : Chain) : Chain :=
  let o := if c.record.entry = 0 then (c.rom, v) else Config.romStep c.record.entry c.rom v
  { c with rom := o.1, latest := foutSat o.2, outs := c.outs + 1, lead := c.lead - 1, due := none }

/-- A configuration from zero state (R315). -/
def Chain.fresh (r : FiltRec) : Chain := { record := r, need := r.settle, lead := r.lead }

/-! ### The input -/

/-- A synchronising reset (R315, R316): the chain starts from zero state with `r`, and the register keeps its value
with VALID = 0. -/
def Mon.sync (r : FiltRec) (m : Mon) : Mon :=
  { m with cur := Chain.fresh r, valid := false, syncDue := false, loadDue := false }

/-- MON_FILTER_DONE for each of `n` requests, R318. -/
def monDones (i n : Nat) (s : State) : State :=
  forEach (List.range n) (fun _ t => raise 0x8C01 ([u8 i] ++ (s.monAt i).cur.record.bytes) t) s

/-- VALID is 1 again: the requests that waited for it are complete (R318). -/
def monSettled (i : Nat) (s : State) : State :=
  monDones i (s.monAt i).waiting
    (s.monMod i (fun m => { m with waiting := 0, req := if m.req = .fade then .fade else .none }))

/-- A request is under way that is complete when VALID returns to 1. -/
def Mon.await (q : FiltReq) (m : Mon) : Mon := { m with req := q, waiting := m.waiting + 1 }

/-- A request that changes nothing of the running path is complete at once, or when VALID returns to 1 (R318). -/
def monSame (i : Nat) (s : State) : State :=
  if (s.monAt i).valid then monDones i 1 s
  else s.monMod i (fun m => m.await (if m.req = .none then .sync else m.req))

/-- A request to take the record `r` starts at a frame boundary (R316, R317). -/
def startSet (i : Nat) (r : FiltRec) (s : State) : State :=
  let c := (s.monAt i).cur.record
  if c = r then monSame i s
  else if c.fallback || r.fallback then
    s.monMod i (fun m => { m with new := some (Chain.fresh r), req := .fade, weighs := false, fadeJ := 0 })
  else if c.order ≠ r.order ∨ c.len ≠ r.len ∨ c.decim ≠ r.decim then
    s.monMod i (fun m => (m.sync r).await .sync)
  else if c.notch ≠ r.notch then
    s.monMod i (fun m => { m.await .direct with cur := { m.cur with record := r }, loadDue := true })
  else monSame i (s.monMod i (fun m => { m with cur := { m.cur with record := r } }))

/-- A request waits for the cross-fade in progress, in place of one that waited (R318). -/
def Mon.hold (a : FiltAsk) (m : Mon) : Mon :=
  { m with pending := some a, replaced := if m.pending.isSome then m.replaced + 1 else m.replaced }

/-- A request starts at a frame boundary; behind one that began a cross-fade at it, it waits (R318, log entry 153). -/
def startAsk (i : Nat) (a : FiltAsk) (s : State) : State :=
  if (s.monAt i).new.isSome then s.monMod i (Mon.hold a)
  else match a with
    | .set r => startSet i r s
    | .sync => s.monMod i (fun m => (m.sync m.cur.record).await .sync)

/-- The register's VALID: 0 while the MADC's domain is unpowered (R310). -/
def State.monValid (s : State) (i : Nat) : Bool := (s.monAt i).valid && s.madcOn (i / 64)

/-- The output register of R320 as it stands. -/
def Mon.word (m : Mon) : W32 :=
  flagAt 31 m.valid ||| flagAt 30 m.cur.record.fallback ||| flagAt 29 m.new.isSome ||| (BitVec.ofInt 24 m.fout).setWidth 32

/-- The frame boundary of an input: requests start, in the order in which they came, and the register is latched for
MON_READ (R316, R318, R320). -/
def monBoundary (i : Nat) (s : State) : State :=
  let s1 := if (s.monAt i).syncDue then
      s.monMod i (fun m =>
        { m.sync m.cur.record with
          new := m.new.map (fun c => Chain.fresh c.record), weighs := false, fadeJ := 0 })
    else s
  let s2 := forEach (s1.monAt i).start (startAsk i) (s1.monMod i (fun m => { m with start := [] }))
  s2.monMod i (fun m => { m with shown := m.word })

/-- The output register as MON_READ returns it: that of the latest frame boundary, with VALID 0 while the MADC's domain is
unpowered (R310, R320). -/
def State.monWord (s : State) (i : Nat) : W32 :=
  if s.madcOn (i / 64) then (s.monAt i).shown else setBit (s.monAt i).shown 31 false

/-- The inputs of an MADC. -/
def madcInputs (m : Nat) : List Nat := (List.range 64).map (64 * m + ·)

/-- An input as the scan of its MADC changes (R310, R316): newly selected or a new mode resets it, deselection leaves
its output with VALID = 0. -/
def Mon.rescan (was now mode : Bool) (m : Mon) : Mon :=
  if (now && !was) || mode then { m with syncDue := true } else if was && !now then { m with valid := false } else m

/-- A waiting MON_SCAN_CONFIG or MON_REFBUF takes effect (R310). -/
def madcApply (k : Nat) (s : State) : State :=
  let a := s.madcAt k
  let s1 := match a.pending with
    | none => s
    | some (mask, win, compat) =>
      forEach (List.range 64) (fun i s =>
          s.monMod (64 * k + i) (Mon.rescan (bitOf a.mask i) (bitOf mask i) (compat != a.compat)))
        (s.madcMod k (fun a => { a with mask := mask, windows := win, compat := compat, pending := none }))
  match a.pendRef with
  | none => s1
  | some e => s1.madcMod k (fun a => { a with refbuf := e, pendRef := none })

/-- The frame boundary of MADC `k` and its inputs: its scan begins again (R307, R310, R316, R318). -/
def madcBoundary (k : Nat) (s : State) : State :=
  forEach (madcInputs k) monBoundary ((madcApply k s).madcMod k (fun a => { a with conv := 0 }))

/-- The MADC pair `p` loses or gains its domain: its inputs read VALID = 0, and are reset once it is back with the
configuration last asked for (R310, R316, R337). -/
def madcPower (p : Nat) (s : State) : State :=
  forEach (madcInputs (2 * p) ++ madcInputs (2 * p + 1)) (fun i s => s.monMod i (fun m =>
    { m with
      cur := Chain.fresh m.record
      new := none
      req := .none
      waiting := 0
      loadDue := false
      start := []
      pending := none
      weighs := false
      fadeJ := 0
      valid := false
      syncDue := true })) s

/-! ### What an input measures, R306 -/

/-- The source of a monitor input (R306). -/
inductive MonSource where
  | loop (n : Nat) | laneTemp (lane : Nat) | island (k : Nat) | dieTemp (k : Nat) | general (k : Nat)
  deriving DecidableEq, Repr

/-- The source of input M`i` (R306). -/
def monSource (i : Nat) : MonSource :=
  if i < 192 then .loop i else if i < 208 then .laneTemp (i - 192) else if i < 216 then .island (i - 208)
  else if i < 224 then .dieTemp (i - 216) else .general (i - 224)

/-- The physical quantity of a FOUT in 1/256 code, as a numerator and a denominator (R306, R320): volts, or degrees
Celsius for the temperatures. -/
def monQuantity (i : Nat) (fout : Int) : Int × Nat :=
  match monSource i with
  | .laneTemp _ | .dieTemp _ => (100 * fout - 27315 * 8192, 819200)
  | .island _ => (3 * fout, 2 * 16384 * 256)
  | .loop _ | .general _ => (5 * fout, 4 * 16384 * 256)

end Sys2Proof.Machine
end

