-- ==== Sys2Proof/Machine/Loop.lean ====
section
/-! DEFINITION. The commands of the optics control engine and its control frame (chapter 10). -/

namespace Sys2Proof.Machine

/-- A loop number in range (R265). -/
def loopOk (loop : Byte) : Bool := decide (loop.toNat < 192)

/-! ### Commands -/

/-- The output range of a template's function (R286); none for a spare. -/
def templateRange (f : Nat) : Option (BitVec 2) := if f ≤ 1 then some 2 else if f ≤ 6 then some 0 else none

/-- The words that the template of loop `n` sets (R286). -/
def templateWords (n : Nat) : List (Nat × W32) :=
  let f := n % 12
  let lock := f = 2 ∨ f = 3
  let cfg := flagAt 20 true ||| (4#32 <<< 16) ||| (BitVec.ofNat 32 n <<< 8) ||| flagAt 6 (decide lock)
    ||| flagAt 3 (decide (f ≤ 1))
  let full := f32OfInt 65535
  (if lock then [(1, (BitVec.ofNat 32 n <<< 16) ||| (6#32 <<< 12) ||| ((if f = 2 then 2#32 else 1#32) <<< 10))] else [])
    ++ [(0, cfg), (2, f32One), (3, 0), (4, 0), (5, full), (6, 0), (7, full)]
    ++ (List.range 8).map (fun i => (8 + i, 0))
    ++ [(17, f32OfInt 64), (18, f32OfInt 4), (19, f32One), (20, f32OfInt 256), (21, f32OfInt 64), (23, 0)]

/-- LOOP_TEMPLATE_APPLY, R286: with OUTPUT the range must be one that the output may take at once (R300). -/
def cmdLoopTemplateApply (loop output : Byte) (s : State) : Cmd :=
  let n := loop.toNat
  let b := s.biasAt n
  { ready := s.coreOn (n / 48 % 4)
    range := loopOk loop && isFlag output
    run := fun _ =>
      let range := if output = 1 then templateRange (n % 12) else none
      let moves := match range with | some r => decide (r ≠ b.rangeNow) | none => false
      if (s.loopAt n).st ≠ 0 then deny .busy s
      else if moves && b.st != .hiz then deny .busy s
      else if s.loopRej.contains (n / 2) then deny .crumb s
      else
        let ws := templateWords n
        let s1 := setWords n [] (s.loopMod n (fun l => ws.foldl (fun l p => l.take p.1 p.2) l))
        let s2 := s1.coreMod (n / 48) (fun c => { c with writes := c.writes.map (fun w =>
          { w with words := w.words.filter (fun p => !(p.1 == n && ws.any (fun q => q.1 == p.2.1))) }) })
        let s3 := loopCrumbStore (n / 2) s2
        ok (match range with
          | some r => s3.biasMod n (fun b => { b with record := { b.record with range := r }, rangeNow := r })
          | none => s3) }
def execLoopTemplateApply (loop output : Byte) (s : State) : Result :=
  parax 0x0A01 (cmdLoopTemplateApply loop output) s

/-- The words of a LOOP_WRITE: with ALL those of both loops of the crumb (R274). -/
def writeWords (n : Nat) (all : Bool) (first count : Nat) (d : Bytes) : List (Nat × Nat × W32) :=
  if all then (List.range 64).map (fun k => (n / 2 * 2 + k / 32, k % 32, w32At d (4 * k)))
  else (List.range count).map (fun k => (n, first + k, w32At d (4 * k)))

/-- Loop `n` as it will stand once the writes that wait are applied. -/
def State.loopAhead (s : State) (n : Nat) (more : List (Nat × Nat × W32)) : Loop :=
  let ws := (s.coreAt (n / 48)).writes.flatMap (fun w => w.words) ++ more
  (ws.filter (fun p => p.1 == n)).foldl (fun l p => l.put p.2.1 p.2.2) (s.loopAt n)

/-- The values of a LOOP_WRITE are allowed (R274). -/
def State.writeOk (s : State) (ws : List (Nat × Nat × W32)) : Bool :=
  ws.all (fun p => wordOk p.2.1 p.2.2)
    && ws.all (fun p => (s.loopAhead p.1 ws).pairsOk (fun i => ws.any (fun q => q.1 == p.1 && q.2.1 == i)))

/-- LOOP_WRITE, R274. -/
def cmdLoopWrite (loop flags first count : Byte) (buf : W32) (data : Bytes) (s : State) : Cmd :=
  let n := loop.toNat
  let all := bitOf flags 0
  let len := if all then 256 else 4 * count.toNat
  let ws := writeWords n all first.toNat count.toNat (bufData buf len data s)
  { form := bufForm buf 8 len data.length
    ready := s.coreOn (n / 48 % 4)
    range := loopOk loop && flagsOk 1 flags && bufRange buf len
      && (all || (decide (1 ≤ count.toNat) && decide (first.toNat + count.toNat ≤ 32))) && s.writeOk ws
    run := fun _ =>
      if ws.any (fun p => decide (24 ≤ p.2.1) && (s.loopAt p.1).on) then deny .busy s
      else if s.loopRej.contains (n / 2) && !all then deny .crumb s
      else ok ((s.bufRead buf len).coreMod (n / 48) (fun c =>
        { c with writes := c.writes ++ [{ crumb := if all then some (n / 2) else none, words := ws }] })) }
def execLoopWrite (loop flags first count : Byte) (buf : W32) (data : Bytes) (s : State) : Result :=
  parax 0x0A02 (cmdLoopWrite loop flags first count buf data) s

/-- LOOP_READ, R270. -/
def cmdLoopRead (loop : Byte) (s : State) : Cmd :=
  { range := loopOk loop
    run := fun _ => okWith ((s.loopAt loop.toNat).words.flatMap le32) s }
def execLoopRead (loop : Byte) (s : State) : Result := parax 0x0A03 (cmdLoopRead loop) s

/-- The state change that LOOP_MODE asks of a loop (R275); none where its state forbids it. -/
def Loop.mode (mode : Nat) (target : W32) (l : Loop) : Option Loop :=
  if mode = 0 then some l.toOff
  else if mode = 1 then some l.toHold
  else if l.st = 0 ∨ l.st = 5 then none
  else if mode = 2 then some { l.toOpen with openPath := none }
  else if l.st = 1 ∨ l.st = 2 then some (l.toHandover target) else none

/-- The test of a loop ends when the loop leaves OPEN or CLOSED (R287). -/
def modeEndsTest (before after : Nat) : Bool := decide (before ≠ after) && (decide (before = 2) || decide (before = 4))

/-- LOOP_MODE, R275, R280, R290: a loop that is taken into use has its crumb checked (R22), and a crumb found bad here
puts both its loops into FAULT (R289); one rejected before answers CRUMB and no more (log entry 121). -/
def cmdLoopMode (loop mode flags : Byte) (spTarget vmax amax jmax : W32) (s : State) : Cmd :=
  let n := loop.toNat
  let limits := bitOf flags 0
  { ready := mode == 0 || s.coreOn (n / 48 % 4)
    range := loopOk loop && (mode.toNat ≤ 2 || mode == 4) && flagsOk 1 flags && f32Finite spTarget
      && (!limits || [vmax, amax, jmax].all (fun v => f32Finite v && f32Pos v))
    run := fun _ =>
      let l := s.loopAt n
      let up := decide (mode = 1) && (decide (l.st = 0) || decide (l.st = 5))
      if up && s.loopRej.contains (n / 2) then deny .crumb s
      else if up && !s.loopCrumbOk (n / 2) then deny .crumb (loopCrumbFail (n / 2) s)
      else match l.mode mode.toNat spTarget with
        | none => deny .busy s
        | some l1 =>
          let kv := (if mode = 4 then [] else [(16, spTarget)])
            ++ (if limits then [(17, vmax), (18, amax), (19, jmax)] else [])
          let s1 := s.loopMod n (fun _ => { l1 with liRestart := true, resume := false, errRun := 0, staleRun := 0 })
          let s2 := if modeEndsTest l.st l1.st then endTestOf n 2 s1 else s1
          ok (setWords n kv s2) }
def execLoopMode (loop mode flags : Byte) (spTarget vmax amax jmax : W32) (s : State) : Result :=
  parax 0x0A04 (cmdLoopMode loop mode flags spTarget vmax amax jmax) s

/-- LOOP_TARGET, R278. -/
def cmdLoopTarget (loop flags : Byte) (spTarget : W32) (s : State) : Cmd :=
  let n := loop.toNat
  { ready := s.coreOn (n / 48 % 4)
    range := loopOk loop && flagsOk 1 flags && f32Finite spTarget
    run := fun _ =>
      let st := (s.loopAt n).st
      if st ≠ 2 ∧ st ≠ 4 then deny .busy s
      else ok (setWords n [(16, spTarget)] (s.loopMod n (fun l => { l.flag 3 false with event := bitOf flags 0 }))) }
def execLoopTarget (loop flags : Byte) (spTarget : W32) (s : State) : Result :=
  parax 0x0A05 (cmdLoopTarget loop flags spTarget) s

/-- LOOP_STATUS, R292. -/
def cmdLoopStatus (loop flags : Byte) (s : State) : Cmd :=
  let n := loop.toNat
  let l := s.loopAt n
  { range := loopOk loop && flagsOk 1 flags
    run := fun _ => okWith (le32 (l.w 31) ++ le32 l.missCount ++ le32 l.satFrames ++ le32 l.liShort ++ le16 l.faultCount)
      (if clearFlag flags then s.loopMod n (fun l =>
        { l.flag 2 false with missCount := 0, satFrames := 0, liShort := 0, faultCount := 0 }) else s) }
def execLoopStatus (loop flags : Byte) (s : State) : Result := parax 0x0A06 (cmdLoopStatus loop flags) s

/-- The parameters of a test are in range (R287). -/
def testOk (point signal : Byte) (ampl : W32) (hold pre length : W16) : Bool :=
  isFlag point && decide (signal.toNat ≤ 2) && f32Finite ampl
    && (signal != 2 || within 1 256 hold.toNat) && decide (pre.toNat ≤ 256) && within 1 (1024 - pre.toNat) length.toNat

/-- LOOP_TEST_START, R287. -/
def cmdLoopTestStart (loop action point signal : Byte) (ampl inc : W32) (hold pre length : W16) (s : State) : Cmd :=
  let n := loop.toNat
  { ready := s.coreOn (n / 48 % 4)
    range := loopOk loop && isFlag action && (action == 1 || testOk point signal ampl hold pre length)
    run := fun _ =>
      let st := (s.loopAt n).st
      let test := (s.coreAt (n / 48)).test
      if action = 1 then
        if (test.map (·.loop)) = some n then ok (endTest (n / 48) 1 s) else deny .busy s
      else if test.isSome ∨ (st ≠ 2 ∧ st ≠ 4) then deny .busy s
      else ok (s.coreMod (n / 48) (fun c =>
        { c with records := []
                 test := some { loop := n, atOut := point == 1, signal := signal, ampl := ampl, inc := inc,
                                hold := hold.toNat, pre := pre.toNat, length := length.toNat } })) }
def execLoopTestStart (loop action point signal : Byte) (ampl inc : W32) (hold pre length : W16) (s : State) : Result :=
  parax 0x0A07 (cmdLoopTestStart loop action point signal ampl inc hold pre length) s

/-- LOOP_ENGINE_STATUS, R267. -/
def cmdLoopEngineStatus (s : State) : Cmd :=
  let cores := List.range 4
  { run := fun _ => okWith (cores.flatMap (fun q => le16 (s.coreAt q).peak)
      ++ [u8 (packBits (cores.map s.coreOn)), u8 (packBits (cores.map (fun q => (s.coreAt q).test.isSome)))]) s }
def execLoopEngineStatus (s : State) : Result := parax 0x0A09 cmdLoopEngineStatus s

/-! ### The control frame -/

/-- The loop is computed in this frame (R285): with lock-in, HANDOVER and CLOSED only where a result arrives. -/
def Loop.due (l : Loop) : Bool :=
  l.st == 1 || l.st == 2 || ((l.st == 3 || l.st == 4) && (!l.lockin || l.liResult.isSome))

/-- The measurement of the loop is valid at the latch (R277). -/
def State.loopValid (s : State) (l : Loop) : Bool :=
  s.monValid l.meas && (!l.lockin || ((l.liResult.map (·.2)).getD true))

/-- The loop is held in this frame (R277). -/
def State.loopHeld (s : State) (n : Nat) : Bool :=
  let l := s.loopAt n
  (l.st == 3 || l.st == 4) && (!s.loopValid l || (s.biasAt n).idle)

/-- The y of a frame (R269, R285): where no valid measurement arrives, that of the frame computed last. -/
def State.loopY (s : State) (l : Loop) : Option W32 :=
  if l.lockin then
    match l.liResult with
    | some (z, true) => l.measure z
    | _ => some (f32Flush (l.w 29))
  else if s.monValid l.meas then l.measure (foutCodes (s.monAt l.meas).fout) else some (f32Flush (l.w 29))

/-- The test of loop `n`, where one runs. -/
def State.testOf (s : State) (n : Nat) : Option Test := (s.coreAt (n / 48)).test.filter (fun t => t.loop == n)

/-- The cycles of a loop in this frame (R267). -/
def State.loopCost (s : State) (n : Nat) : Nat :=
  let l := s.loopAt n
  if !l.due || s.loopHeld n then 1
  else
    let moves := (l.st == 2 && !l.swapDue) || (l.st == 4 && !l.swapDue) || (l.st == 3 && l.openPath.isSome)
    22 + (if moves then (if bitOf (l.w 0) 3 then 8 else 2) else 0)
      + (if l.lockin && l.liResult.isSome then 6 else 0)
      + (if (s.testOf n).isSome then 4 else 0)
      + (if l.swapDue || l.st == 3 then 10 else 0)

/-- The injected value of a test in its current frame (R287); a sine is rounded once before it meets AMPL (log
entry 17). -/
def Test.value (t : Test) : W32 :=
  if t.done < t.pre then 0
  else if t.signal = 0 then f32Flush t.ampl
  else if t.signal = 1 then f32Mul t.ampl (fixF32 (fixSin t.psi.toNat))
  else f32Flush (if bitOf t.prbs 8 then f32Neg t.ampl else t.ampl)

/-- A test after a computed frame: ψ advances by INC, and PRBS9 x^9 + x^5 + 1 after HOLD frames (R287). -/
def Test.next (t : Test) : Test :=
  if t.done < t.pre then { t with done := t.done + 1 }
  else
    let shift := decide (t.hold ≤ t.held + 1)
    { t with
      done := t.done + 1
      psi := t.psi + t.inc
      held := if shift then 0 else t.held + 1
      prbs := if shift then (t.prbs <<< 1) ||| (if bitOf t.prbs 8 != bitOf t.prbs 4 then 1 else 0) else t.prbs }

/-- Append a record to the capture memory of a core, which holds 1,024 (R288). -/
def addRecord (q : Nat) (r : W32 × W32 × W32 × W32) (s : State) : State :=
  s.coreMod q (fun c => if c.records.length < 1024 then { c with records := c.records ++ [r] } else c)

/-- The record of a computed frame, and the end of a test whose length is complete (R287, R288). -/
def testFrame (n : Nat) (t : Test) (y : W32) (s : State) : State :=
  let q := n / 48
  let l := s.loopAt n
  let s1 := (addRecord q (l.w 24, y, l.w 30, t.value) s).coreMod q (fun c => { c with test := some t.next })
  if t.pre + t.length ≤ t.done + 1 then endTest q 0 s1 else s1

/-- The record of a missed frame: the one before, with y marked (R288). -/
def testMissed (n : Nat) (s : State) : State :=
  match s.testOf n with
  | none => s
  | some _ =>
    let l := s.loopAt n
    let p := ((s.coreAt (n / 48)).records.getLast?).getD (l.w 24, 0, l.w 30, 0)
    addRecord (n / 48) (p.1, 0x7FC00001, p.2.2) s

/-- One frame more for a loop that is in HANDOVER in it, up to 64 (R280). -/
def Loop.countHandover (inHandover : Bool) (l : Loop) : Loop :=
  if inHandover then l.status 15 7 (min 64 (l.hoCount + 1)) else l

/-- A loop that misses the frame (R268). -/
def loopMissed (n : Nat) (s : State) : State :=
  let s1 := s.loopMod n (fun l =>
    { (l.flag 2 true).countHandover (l.st == 3) with
      staleRun := 0
      missCount := l.missCount + 1
      missRun := l.missRun + 1
      sinceMiss := if l.sinceMiss < 1024 then l.sinceMiss else 0 })
  let s2 := countSource 0x60 n 1 (testMissed n s1)
  if (s.loopAt n).sinceMiss < 1024 then s2 else raise 0x8A01 [u8 n] s2

/-- A held loop (R277, R289): HELD sets, HO_COUNT and the run of invalid measurements count. -/
def loopHold (n : Nat) (s : State) : State :=
  let bad := !s.loopValid (s.loopAt n)
  s.loopMod n (fun l => { (l.flag 7 true).countHandover (l.st == 3) with
    missRun := 0
    staleRun := if bad then l.staleRun + 1 else 0 })

/-- What a computed frame makes of a loop, before its runs are counted: none where a value is not finite. The error
e is given in CLOSED, where the law of R276 ran or a swap was made (R283, R284). -/
def Loop.frame (fi : FrameIn) (l : Loop) : Option (Loop × Option W32 × Bool) :=
  if l.st = 3 then (l.handoverFrame fi).map (fun p => (p.1, none, p.2))
  else if l.swapDue then (l.swapFrame fi).map (fun p => (p.1, if l.st = 4 then some p.2 else none, false))
  else if l.st = 2 then (l.openFrame fi).map (fun l => (l, none, false))
  else if l.st = 4 then (l.lawFrame fi).map (fun p => (p.1, some p.2, false))
  else some (l.put 29 fi.y, none, false)

/-- The runs of R284 and R289 after a computed frame with the error `e`; a frame to which R284 does not apply ends its
run. -/
def Loop.countError (e : W32) (l : Loop) : Loop :=
  let a := f32Abs e
  let exceeds := !f32Eq (l.w 23) 0 && f32Lt (l.w 23) a
  let l1 := { l with errRun := if exceeds then l.errRun + 1 else 0 }
  l1.status 24 3
    (if bitOf (l.w 0) 5 && !l.setB && !bitOf (l.w 31) 5 && f32Le a (l.w 22) then min 4 (l.swapRun + 1) else 0)

/-- A computed loop after its law: counters of runs, HELD, the code, and a lock-in period that begins anew where the
code changes in CLOSED (R285). -/
def Loop.settle (before : Loop) (e : Option W32) (l : Loop) : Loop :=
  let l1 := match e with | some e => l.countError e | none => l
  let l2 := (l1.countHandover (before.st == 3)).flag 7 false
  let c := codeOf (l2.w 30)
  { l2 with
    missRun := 0
    staleRun := 0
    code := c
    liRestart := l2.liRestart || (before.st == 4 && l2.lockin && decide (c ≠ codeOf (before.w 30))) }

/-- The events of a computed frame: arrival, a swap by R284, an agreed hand-over. -/
def loopEvents (n : Nat) (before after : Loop) (agreed : Bool) (s : State) : State :=
  let s1 := if !bitOf (before.w 31) 3 && bitOf (after.w 31) 3 && after.event then raise 0x8A05 [u8 n] s else s
  let s2 := if before.swapDue && before.autoSwap && !after.swapDue then raise 0x8A04 [u8 n] s1 else s1
  if agreed then raise 0x8A03 [u8 n, 0] s2 else s2

/-- A loop computed in this frame (R266 step 3, R268, R269). -/
def loopCompute (n : Nat) (s : State) : State :=
  let l := s.loopAt n
  if l.swapDue && !s.loopCrumbOk (n / 2) then loopCrumbFail (n / 2) s
  else
    let t := s.testOf n
    let v := (t.map Test.value).getD 0
    let atOut := (t.map (·.atOut)).getD false
    let res := do
      let y ← s.loopY l
      let v ← fin32 v
      let r ← l.frame { y := y, tSet := if atOut then 0 else v, tOut := if atOut then v else 0 }
      return (y, r)
    match res with
    | none => loopFault n 3 s
    | some (y, l1, e, agreed) =>
      let l2 := Loop.settle l e l1
      let s1 := biasBlock n l2.code (s.loopMod n (fun _ => l2))
      let s2 := loopEvents n l l2 agreed s1
      match t with
      | some t => testFrame n t y s2
      | none => s2

/-- A frame in progress: the cycles used and the first loop that missed. -/
structure FrameRun where
  s      : State
  cycles : Nat
  first  : Option Nat := none

/-- One loop in its turn (R267, R268): once one misses, every later one does. -/
def frameLoop (r : FrameRun) (n : Nat) : FrameRun :=
  let cost := r.s.loopCost n
  let due := (r.s.loopAt n).due
  if r.first.isSome || decide (1920 < r.cycles + cost) then
    { r with s := if due then loopMissed n r.s else r.s, first := some (r.first.getD n) }
  else
    { r with s := if !due then r.s else if r.s.loopHeld n then loopHold n r.s else loopCompute n r.s
             cycles := r.cycles + cost }

/-- The loops of core `q`. -/
def coreLoops (q : Nat) : List Nat := (List.range 48).map (48 * q + ·)

/-- The order of a frame: from the first loop that missed in the frame before (R266). -/
def frameOrder (q : Nat) (start : Nat) : List Nat :=
  (coreLoops q).filter (fun n => decide (start ≤ n)) ++ (coreLoops q).filter (fun n => decide (n < start))

/-- The crumbs that a LOOP_WRITE touches. -/
def LoopWrite.crumbs (w : LoopWrite) : List Nat := (w.words.map (fun p => p.1 / 2)).eraseDups

/-- A LOOP_WRITE takes effect as a whole-crumb rewrite with a new check word (R274, R21); one with ALL makes a rejected
crumb valid again (R22). -/
def applyWrite (w : LoopWrite) (s : State) : State :=
  let s1 := w.words.foldl (fun s p => s.loopMod p.1 (fun l => l.take p.2.1 p.2.2)) s
  match w.crumb with
  | some m => loopCrumbStore m { s1 with loopRej := s1.loopRej.filter (· != m) }
  | none => forEach (w.crumbs.filter (fun m => !s.loopRej.contains m)) loopCrumbStore s1

/-- The first two writes that wait take effect (R267). -/
def applyWrites (q : Nat) (s : State) : State :=
  ((s.coreAt q).writes.take 2).foldl (fun s w => applyWrite w s)
    (s.coreMod q (fun c => { c with writes := c.writes.drop 2 }))

/-- The frame boundary of a loop's lock-in (R285) and, after a resume wake, the return to CLOSED once its input is
valid (R352). -/
def loopBoundary (n : Nat) (s : State) : State :=
  let l := s.loopAt n
  let bad := !s.monValid l.meas
  let s1 := if !l.lockin then s else s.loopMod n (fun l =>
    if l.liRestart then { l with liSamples := [], liFrames := 1, liInvalid := bad, liRestart := false, liResult := none }
    else { l with liFrames := l.liFrames + 1, liInvalid := l.liInvalid || bad })
  if l.resume && l.st == 1 && !bad then
    s1.loopMod n (fun l => { l.toHandover (l.w 16) with resume := false, liRestart := true })
  else s1

/-- The end of a frame for a loop: the result is spent, the frame counts toward SAT_FRAMES and the next LOOP_MISS. -/
def loopFrameEnd (n : Nat) (s : State) : State :=
  s.loopMod n (fun l =>
    { l with
      liResult := none
      sinceMiss := min 1024 (l.sinceMiss + 1)
      satFrames := if l.on && bitOf (l.w 31) 0 then l.satFrames + 1 else l.satFrames })

/-- A control frame of a powered core (R266, R267). -/
def coreFrame (q : Nat) (s : State) : State :=
  let writes := min 2 (s.coreAt q).writes.length
  let s1 := forEach (coreLoops q) (fun n s => s.biasMod n Bias.boundary) (applyWrites q s)
  let s2 := forEach (coreLoops q) loopBoundary s1
  let start := (s2.coreAt q).missed.getD (48 * q)
  let r := (frameOrder q start).foldl frameLoop { s := s2, cycles := 32 * writes }
  (forEach (coreLoops q) loopFrameEnd r.s).coreMod q (fun c =>
    { c with missed := r.first, peak := BitVec.ofNat 16 (max c.peak.toNat r.cycles) })

/-- CONTROL_FRAME, R266: the frame of core `q`, after the frame boundary of MADC `q` (log entry 18). -/
def execControlFrame (core : BitVec 2) (s : State) : Result :=
  event (fun s =>
    let q := core.toNat
    let s1 := if s.madcOn q then madcBoundary q s else s
    if s1.coreOn q then coreFrame q s1 else s1) s

/-! ### What a run of frames brings about -/

/-- HANDOVER_FORCE, R281: 64 frames without agreement. -/
def execHandoverForce (loop : Byte) (s : State) : Result :=
  let n := loop.toNat
  let l := s.loopAt n
  eventIf (loopOk loop && s.coreOn (n / 48) && l.st == 3 && decide (64 ≤ l.hoCount)) (fun s =>
    raise 0x8A03 [u8 n, 1] (s.loopMod n (fun l => (l.close l.preload).flag 5 true))) s

/-- AUTO_SWAP_DUE, R284: four computed frames within the band. -/
def execAutoSwapDue (loop : Byte) (s : State) : Result :=
  let n := loop.toNat
  let l := s.loopAt n
  eventIf (loopOk loop && s.coreOn (n / 48) && l.st == 4 && bitOf (l.w 0) 5 && !l.setB && !bitOf (l.w 31) 5
      && decide (4 ≤ l.swapRun) && !l.autoSwap)
    (fun s => s.loopMod n (fun l => { l.put 0 (setBit (l.w 0) 4 true) with swapDue := true, autoSwap := true })) s

/-- LOOP_ERR_LIMIT_FAULT, R289. -/
def execLoopErrLimitFault (loop : Byte) (s : State) : Result :=
  let n := loop.toNat
  let l := s.loopAt n
  eventIf (loopOk loop && s.coreOn (n / 48) && l.st == 4 && !f32Eq (l.w 23) 0
      && decide (2 ^ (getField (l.w 0) 16 4).toNat ≤ l.errRun))
    (loopFault n 4) s

/-- LOOP_STALE_FAULT, R289. -/
def execLoopStaleFault (loop : Byte) (s : State) : Result :=
  let n := loop.toNat
  let l := s.loopAt n
  eventIf (loopOk loop && s.coreOn (n / 48) && (l.st == 3 || l.st == 4) && decide (1024 ≤ l.staleRun)) (loopFault n 5) s

/-- LOOP_MISS_RUN_FAULT, R289. -/
def execLoopMissRunFault (loop : Byte) (s : State) : Result :=
  let n := loop.toNat
  let l := s.loopAt n
  eventIf (loopOk loop && s.coreOn (n / 48) && decide (1 ≤ l.st) && decide (l.st ≤ 4) && decide (64 ≤ l.missRun))
    (loopFault n 6) s

/-- z = 2 · Σ x · c / N of R285 over the samples (code, reference angle) of one period, rounded once (log entry 17). -/
def lockinResult (quadrature : Bool) (xs : List (Nat × W32)) : W32 :=
  let sum : Int := (xs.map (fun p => (p.1 : Int) * (if quadrature then fixSin p.2.toNat else fixCos p.2.toNat))).sum
  let z := f32Ratio (2 * sum.natAbs) (xs.length * fixOne)
  if sum < 0 then f32Neg z else z

/-- LOCKIN_PERIOD_END, R285: the period's result, or LI_SHORT for one with too few samples. -/
def execLockinPeriodEnd (loop : Byte) (s : State) : Result :=
  let n := loop.toNat
  let l := s.loopAt n
  eventIf (loopOk loop && s.coreOn (n / 48) && l.on && l.lockin && !l.liRestart && decide (2 ^ l.liLen ≤ l.liFrames))
    (fun s => s.loopMod n (fun l =>
      if l.liSamples.length < 2 ^ l.liLen then
        { l with liShort := l.liShort + 1, liSamples := [], liFrames := 0, liInvalid := false }
      else
        { l with
          liResult := some (lockinResult (bitOf (l.w 1) 24) l.liSamples, !l.liInvalid)
          liSamples := []
          liFrames := 0
          liInvalid := false })) s

end Sys2Proof.Machine
end

