-- ==== Sys2Proof/Machine/Monitor.lean ====
section
/-! DEFINITION. The commands of the monitor inputs, the conversions of the MADCs and the samples of the filter chains
(chapter 11). -/

namespace Sys2Proof.Machine

/-- An MADC number in range. -/
def madcOk (m : Byte) : Bool := decide (m.toNat < 4)

/-- The window counts of R307. -/
def windowsOk (w : Byte) : Bool := [1, 2, 4, 8].contains w.toNat

/-- The number of inputs a scan mask selects. -/
def maskSize (m : W64) : Nat := ((List.range 64).filter (bitOf m)).length

/-- The WINDOWS that will be in force at the next frame boundary. -/
def Madc.windowsAhead (a : Madc) : Nat := ((a.pending.map (·.2.1)).getD a.windows).toNat

/-- MON_SCAN_CONFIG, R307, R308, R310. -/
def cmdMonScanConfig (madc : Byte) (mask : W64) (windows compat : Byte) (s : State) : Cmd :=
  { range := madcOk madc && windowsOk windows && isFlag compat && decide (maskSize mask * windows.toNat ≤ 128)
      && (madcInputs madc.toNat).all (fun i => (s.monAt i).record.rateOk windows.toNat)
    run := fun _ => ok (s.madcMod madc.toNat (fun a => { a with pending := some (mask, windows, compat == 1) })) }
def execMonScanConfig (madc : Byte) (mask : W64) (windows compat : Byte) (s : State) : Result :=
  parax 0x0C01 (cmdMonScanConfig madc mask windows compat) s

/-- MON_REFBUF, R309, R310. -/
def cmdMonRefbuf (madc enable : Byte) (s : State) : Cmd :=
  { range := madcOk madc && isFlag enable
    run := fun _ => ok (s.madcMod madc.toNat (fun a => { a with pendRef := some (enable == 1) })) }
def execMonRefbuf (madc enable : Byte) (s : State) : Result := parax 0x0C02 (cmdMonRefbuf madc enable) s

/-- The record's values are in range (R311, R314). -/
def filtOk (windows : Nat) (b : Bytes) : Bool :=
  let r := FiltRec.ofBytes b
  isFlag (byteAt b 0) && within 1 4 r.order.toNat && within 1 4096 r.len.toNat && within 1 4096 r.decim.toNat
    && decide (r.notch.toNat ≤ 27) && decide (r.sos.toNat ≤ 27) && within 16 1024 r.fade.toNat
    && slice b 10 6 == List.replicate 6 0 && r.rateOk windows

/-- A request of the host: it starts at the next frame boundary, or waits for the cross-fade in progress (R318). -/
def monAsk (i : Nat) (a : FiltAsk) (s : State) : State :=
  s.monMod i (fun m => if m.new.isSome then m.hold a else { m with start := m.start ++ [a] })

/-- MON_FILTER_SET, R311 to R318. -/
def cmdMonFilterSet (input : Byte) (record : Bytes) (s : State) : Cmd :=
  let i := input.toNat
  { form := if record.length = 16 then none else some .badLength
    range := filtOk (s.madcAt (i / 64)).windowsAhead record
    run := fun _ =>
      let r := FiltRec.ofBytes record
      ok ((monAsk i (.set r) s).monMod i (fun m => { m with record := r })) }
def execMonFilterSet (input : Byte) (record : Bytes) (s : State) : Result := parax 0x0C03 (cmdMonFilterSet input record) s

/-- MON_FILTER_GET, R311. -/
def cmdMonFilterGet (input : Byte) (s : State) : Cmd := { run := fun _ => okWith (s.monAt input.toNat).record.bytes s }
def execMonFilterGet (input : Byte) (s : State) : Result := parax 0x0C04 (cmdMonFilterGet input) s

/-- MON_FILTER_SYNC, R316, R318. -/
def cmdMonFilterSync (input : Byte) (s : State) : Cmd := { run := fun _ => ok (monAsk input.toNat .sync s) }
def execMonFilterSync (input : Byte) (s : State) : Result := parax 0x0C05 (cmdMonFilterSync input) s

/-- MON_READ, R320. -/
def cmdMonRead (first count : Byte) (buf : W32) (s : State) : Cmd :=
  { range := within 1 64 count.toNat && decide (first.toNat + count.toNat ≤ 256) && respRange buf 0 (4 * count.toNat)
    run := fun _ => respond buf [] ((List.range count.toNat).flatMap (fun k => le32 (s.monWord (first.toNat + k)))) s }
def execMonRead (first count : Byte) (buf : W32) (s : State) : Result := parax 0x0C06 (cmdMonRead first count buf) s

/-- The ACTIVE codes of MON_STATUS. -/
def FiltReq.code : FiltReq → Byte
  | .none => 0 | .direct => 1 | .sync => 2 | .fade => 3

/-- MON_STATUS, R321. -/
def cmdMonStatus (input flags : Byte) (s : State) : Cmd :=
  let i := input.toNat
  let m := s.monAt i
  let c := m.new.getD m.cur
  { range := flagsOk 1 flags
    run := fun _ =>
      okWith (le32 m.replaced ++ [m.req.code, boolByte (m.pending.isSome || !m.start.isEmpty)]
          ++ leN 2 (min c.outs c.need) ++ le32 (s.madcAt (i / 64)).early)
        (if clearFlag flags then
          (s.monMod i (fun m => { m with replaced := 0 })).madcMod (i / 64) (fun a => { a with early := 0 })
         else s) }
def execMonStatus (input flags : Byte) (s : State) : Result := parax 0x0C07 (cmdMonStatus input flags) s

/-! ### Conversions and samples -/

/-- The reference angle of a lock-in sample (R285 steps 2 and 3), in 2^-32 turn. -/
def State.liAngle (s : State) (l : Loop) : W32 :=
  let harm := getField (l.w 1) 10 2
  let phase := getField (l.w 1) 0 10
  harm.setWidth 32 * (s.biasAt (getField (l.w 1) 16 8).toNat).phi + (phase.setWidth 32 <<< 22)

/-- A conversion of input `i` reaches the lock-in of loop `n` (R285). -/
def liSample (i : Nat) (code : Nat) (n : Nat) (s : State) : State :=
  let l := s.loopAt n
  if l.on && l.lockin && l.meas == i && !l.liRestart && s.coreOn (n / 48) then
    s.loopMod n (fun l => { l with liSamples := l.liSamples ++ [(code, s.liAngle l)] })
  else s

/-- The inputs that the MASK selects, ascending. -/
def Madc.inputs (a : Madc) : List Nat := (List.range 64).filter (bitOf a.mask)
/-- W of R307: the slots of a window. -/
def Madc.window (a : Madc) : Nat := 128 / a.windows.toNat
/-- The pipeline stays powered throughout: in compatibility mode, and for more than W − 3 inputs (R308, R309). -/
def Madc.alwaysOn (a : Madc) : Bool := a.compat || decide (a.window - 3 < a.inputs.length)
/-- Slots of a window before its first conversion: the pipeline's start-up (R308). -/
def Madc.startUp (a : Madc) : Nat := if a.alwaysOn then 0 else 2
/-- The slot of the frame in which conversion `n` of a frame is made (R307, R308). -/
def Madc.slotOf (a : Madc) (n : Nat) : Nat := n / a.inputs.length * a.window + a.startUp + n % a.inputs.length
/-- The pipeline is powered in a slot of the frame (R308). -/
def Madc.pipelineOn (a : Madc) (slot : Nat) : Bool :=
  a.alwaysOn || (!a.inputs.isEmpty && decide (slot % a.window < a.startUp + a.inputs.length))
/-- The reference buffer is on: in native mode with the domain, in compatibility mode by REFBUF_EN (R308, R309). -/
def Madc.bufferOn (a : Madc) (powered : Bool) : Bool := powered && (!a.compat || a.refbuf)
/-- The input that is converted next in the frame; none when each has been converted in every window (R307). -/
def Madc.next (a : Madc) : Option Nat :=
  if a.conv < a.inputs.length * a.windows.toNat then a.inputs[a.conv % a.inputs.length]? else none

/-- A conversion made before the reference buffer is ready is counted (R309). -/
def earlyConversion (k : Nat) (settled : Bool) (s : State) : State :=
  let a := s.madcAt k
  if a.compat && !(a.bufferOn true && settled) then
    let s1 := s.madcMod k (fun a => { a with early := a.early + 1, earlyRaised := true })
    if a.earlyRaised then s1 else raise 0x8C02 [u8 k] s1
  else s

/-- MADC_CONVERSION, R307, R309, R285: of the input whose turn it is in the scan. -/
def execMadcConversion (input : Byte) (code : BitVec 14) (refbufSettled : Bool) (s : State) : Result :=
  let i := input.toNat
  let k := i / 64
  eventIf (s.pwr.cur == 1 && s.madcOn k && (s.madcAt k).next == some (i % 64)) (fun s =>
    let s1 := ((earlyConversion k refbufSettled s).madcMod k (fun a => { a with conv := a.conv + 1 })).monMod i (fun m =>
      { m with cur := m.cur.feed code.toNat, new := m.new.map (Chain.feed code.toNat) })
    forEach (List.range 192) (liSample i code.toNat) s1) s

/-- A sample of the configuration in force: a direct load is made at it, and the register shows it once the chain has
settled, unless a cross-fade weighs (R315, R317). -/
def curSample (v : Int) (m : Mon) : Mon :=
  let c0 := if m.loadDue then
      { m.cur with rom := 0, outs := 0, need := (if m.valid then 0 else m.cur.lead) + romSettle m.cur.record.notch.toNat }
    else m.cur
  let c := c0.sample v
  let valid := m.valid && !(m.loadDue && decide (0 < c0.need))
  { m with cur := c, loadDue := false, valid := valid, fout := if valid && !m.weighs then c.latest else m.fout }

/-- A sample of the new configuration during a cross-fade (R317 step 2). -/
def newSample (v : Int) (c0 : Chain) (m : Mon) : Mon :=
  let c := c0.sample v
  if !m.weighs then { m with new := some c }
  else
    let j := m.fadeJ + 1
    let n := c.record.fade.toNat
    let o := m.cur.latest
    let shown := if m.valid then foutSat (roundEven (o * n + (c.latest - o) * j) n) else c.latest
    { m with new := some c, fadeJ := j, fout := shown }

/-- FILTER_OUTPUT_SAMPLE, R312, R313, R315, R317. -/
def execFilterOutputSample (input : Byte) (newConfig : Bool) (s : State) : Result :=
  let i := input.toNat
  event (fun s =>
    let m := s.monAt i
    if newConfig then
      match m.new with
      | none => s
      | some c => match c.due with
        | none => s
        | some v => s.monMod i (newSample v c)
    else match m.cur.due with
      | none => s
      | some v =>
        let s1 := s.monMod i (curSample v)
        if m.loadDue && (s1.monAt i).valid then monSettled i s1 else s1) s

/-- The configuration in force has settled while VALID is 0. -/
def Mon.curSettles (m : Mon) : Bool := !m.valid && !m.loadDue && decide (m.cur.need ≤ m.cur.outs)
/-- The new configuration of a cross-fade has settled, and the weighting has not begun. -/
def Mon.newSettles (m : Mon) : Bool := !m.weighs && (m.new.map (fun c => decide (c.need ≤ c.outs))).getD false

/-- FILTER_SETTLED, R315, R317, R318: VALID returns to 1, or the weighting begins. -/
def execFilterSettled (input : Byte) (s : State) : Result :=
  let i := input.toNat
  let m := s.monAt i
  eventIf (s.madcOn (i / 64) && bitOf (s.madcAt (i / 64)).mask (i % 64) && !m.syncDue && (m.curSettles || m.newSettles)) (fun s =>
    if m.curSettles then
      monSettled i (s.monMod i (fun m => { m with valid := true, fout := if m.weighs then m.fout else m.cur.latest }))
    else s.monMod i (fun m => { m with weighs := true, fadeJ := 0 })) s

/-- CROSS_FADE_END, R317, R318: the new configuration alone, and the pending request may start. -/
def execCrossFadeEnd (input : Byte) (s : State) : Result :=
  let i := input.toNat
  let m := s.monAt i
  eventIf (m.weighs && (m.new.map (fun c => decide (c.record.fade.toNat ≤ m.fadeJ))).getD false) (fun s =>
    monDones i (m.waiting + 1) (s.monMod i (fun m => match m.new with
      | none => m
      | some c =>
        { m with
          req := .none
          waiting := 0
          cur := c
          new := none
          weighs := false
          fadeJ := 0
          loadDue := false
          valid := true
          fout := c.latest
          start := m.start ++ m.pending.toList
          pending := none }))) s

end Sys2Proof.Machine
end

