-- ==== Sys2Proof/Machine/Negotiation.lean ====
section
/-! DEFINITION. The negotiations of the Icing channel: the hand-over between PAM4 and Stretch mode (R119 to R122, R259)
and the Tier procedure of a lane (R260, R380 to R383), with their resends and cancellations. -/

namespace Sys2Proof.Machine

/-! ### Requests sent -/

/-- The message type of a request. -/
def ReqOut.mtype (r : ReqOut) : Nat := if r.cancel then 0x22 else if r.tier then 0x24 else 0x20

/-- Send a request of this node and keep it for its resends. -/
def sendReq (f : Nat) (r : ReqOut) (s : State) : State :=
  icQueue f r.mtype r.dst r.payload
    (s.icingMod f (fun i => { i with reqOut := i.reqOut ++ [{ r with grade := s.gradeFor f r.dst }] }))

/-- Forget a request. -/
def dropReq (f : Nat) (mseq : Byte) (s : State) : State :=
  s.icingMod f (fun i => { i with reqOut := i.reqOut.filter (fun r => r.mseq != mseq) })

/-- Give a request up: MODE_CANCEL three times, 20 ms apart (R259). -/
def cancelReq (f : Nat) (mseq : Byte) (s : State) : State :=
  match (s.icingAt f).reqOut.find? (fun r => r.mseq == mseq && !r.cancel) with
  | none => s
  | some r => sendReq f { r with cancel := true, resends := 0, payload := [mseq, u8 (s.farLane r.lane)] } (dropReq f mseq s)

/-- ICING_REQ_RESEND_TIMEOUT, R259: at most two resends with the same MSEQ, each at the next grade (R251). -/
def execIcingReqResendTimeout (face : BitVec 1) (mseq : Byte) (s : State) : Result :=
  let f := face.toNat
  let r? := (s.icingAt f).reqOut.find? (fun r => r.mseq == mseq)
  eventIf ((r?.map (fun r => decide (r.resends < 2))).getD false) (fun s => match r? with
    | none => s
    | some r =>
      let n := r.resends + 1
      let s1 := icQueueAt f r.mtype r.dst r.payload (.after r.grade) 0 s
      if r.cancel ∧ n = 2 then dropReq f mseq s1
      else s1.icingMod f (fun i => { i with reqOut := i.reqOut.map (fun q =>
        if q.mseq == mseq then { q with resends := n } else q) })) s

/-! ### Requests received -/

/-- Keep a received request, at most the latest 16 of a face (log entry 16). -/
def keepReq (f : Nat) (r : ReqIn) (s : State) : State :=
  s.icingMod f (fun i =>
    let rs := i.reqIn ++ [r]
    { i with reqIn := rs.drop (rs.length - 16) })

/-- A Tier change is in progress on a lane. -/
def TierLane.busy (t : TierLane) : Bool :=
  t.due || t.await || decide (t.st = .requested) || decide (t.st = .switching) || decide (t.st = .settling)

/-- Another hand-over or a Tier change is in progress on a lane: begun, or accepted with its acknowledgement not yet on air
(R259). -/
def State.laneBusy (s : State) (l : Nat) : Bool :=
  (s.turnAt l).busy || (s.stretchAt l).handOver.isSome || s.ackQueued l

/-! ### The hand-over between modes, R120, R121, R259 -/

/-- STRETCH_ENTER and STRETCH_EXIT: the MODE_REQ of a hand-over (R120, R121, R259). DESIGN CHOICE (log entry 161): BUSY while the
lane is in another hand-over or a Tier change, and PRECODE 0 in the request. -/
def cmdStretchMove (stretch : Bool) (lane : Byte) (s : State) : Cmd :=
  let l := lane.toNat
  let f := faceOf l
  { range := laneOk lane
    run := fun _ =>
      if !s.farFound f then deny .notReady s
      else if s.far1608 f then deny .notSupported s
      else if s.laneBusy l then deny .busy s
      else if s.icFull f then deny .full s
      else
        let m := (s.icingAt f).mseq + 1
        let far := u8 (s.farLane l)
        let s1 := s.icingMod f (fun i => { i with mseq := m })
        let s2 := s1.stretchMod l (fun x => { x with handOver := some { stretch := stretch, mseq := m, farLane := far } })
        ok (sendReq f { mseq := m, tier := false, lane := l, dst := (s.icingAt f).far,
                        payload := [m, far, boolByte stretch, 0], resends := 0 } s2) }
/-- STRETCH_ENTER, R120. -/
def execStretchEnter (lane : Byte) (s : State) : Result := parax 0x0302 (cmdStretchMove true lane) s
/-- STRETCH_EXIT, R120. -/
def execStretchExit (lane : Byte) (s : State) : Result := parax 0x0303 (cmdStretchMove false lane) s

/-- A lane's two sides are in a mode. -/
def State.inMode (s : State) (l : Nat) (stretch : Bool) : Bool :=
  (s.rxAt l).stretch == stretch && (s.txAt l).stretch == stretch

/-- This end accepts a hand-over (R121): its record, and the answer. -/
def acceptMode (f : Nat) (src : W16) (p : Bytes) (s : State) : State :=
  let l := (byteAt p 1).toNat % 16
  let m := byteAt p 0
  let h : HandOver :=
    { stretch := byteAt p 2 == 1, mseq := m, initiator := false, farLane := u8 (s.farLane l), prec := byteAt p 3 }
  let s1 := s.stretchMod l (fun x => { x with handOver := some h })
  answerReq f false src m [m, byteAt p 1, resAccept] s1

/-- A MODE_REQ that has not been received before (R121, R259). -/
def newModeReq (f : Nat) (src : W16) (p : Bytes) (s : State) : State :=
  let l := (byteAt p 1).toNat % 16
  let m := byteAt p 0
  let mode := byteAt p 2
  let x := s.stretchAt l
  let s1 := keepReq f { mseq := m, tier := false, src := src, payload := p, answer := none } s
  let ans (r : Byte) := answerReq f false src m [m, byteAt p 1, r] s1
  if 2 ≤ mode.toNat then ans resNotSupported
  else if s.laneBusy l || s.reqAsked l then ans resBusy
  else if s.inMode l (mode == 1) then ans resAccept
  else if (if mode = 1 then x.accept else (s.icingAt f).cfg.modeAccept) then acceptMode f src p s1
  else raise 0x8301 [u8 l, m, mode] s1

/-- MODE_REQ_RECEIVE, R259: a repeat is answered with the first answer. -/
def execModeReqReceive (face : BitVec 1) (src : W16) (payload : Bytes) (s : State) : Result :=
  let f := face.toNat
  eventIf (s.icingOn f && !inToffee s) (fun s =>
    match (s.icingAt f).reqInOf false src (byteAt payload 0) with
    | some r => (match r.answer with
      | some a => icQueue f 0x21 src a s
      | none => s)
    | none => newModeReq f src payload s) s

/-- The MODE_REQ for a lane that waits for this host's answer. -/
def State.askedMode (s : State) (f l : Nat) (mseq : Byte) : Option ReqIn :=
  (s.icingAt f).reqIn.find? (fun r =>
    !r.tier && r.answer.isNone && r.mseq == mseq && (byteAt r.payload 1).toNat % 16 == l)

/-- STRETCH_REPLY, R121, R259: an answer to no request that waits is ignored. -/
def cmdStretchReply (lane mseq accept : Byte) (s : State) : Cmd :=
  let l := lane.toNat
  let f := faceOf l
  { range := laneOk lane && isFlag accept
    run := fun _ =>
      match s.askedMode f l mseq with
      | none => ok s
      | some r =>
        if s.icFull f then deny .full s
        else if accept = 0 then ok (answerReq f false r.src mseq [mseq, byteAt r.payload 1, resReject] s)
        else if s.laneBusy l then
          ok (answerReq f false r.src mseq [mseq, byteAt r.payload 1, resBusy] s)
        else ok (acceptMode f r.src r.payload s) }
def execStretchReply (lane mseq accept : Byte) (s : State) : Result := parax 0x0309 (cmdStretchReply lane mseq accept) s

/-- HOST_REPLY_TIMEOUT, R121, R383: a request that still waits is answered with no acceptance. -/
def execHostReplyTimeout (face : BitVec 1) (mseq : Byte) (s : State) : Result :=
  let f := face.toNat
  let r? := (s.icingAt f).reqIn.find? (fun r => r.answer.isNone && r.mseq == mseq)
  eventIf r?.isSome (fun s => match r? with
    | none => s
    | some r =>
      answerReq f r.tier r.src mseq (if r.tier then [mseq, 0, resReject] else [mseq, byteAt r.payload 1, resReject]) s) s

/-- A hand-over ends without an agreement (R121). -/
def modeFail (l : Nat) (s : State) : State := stretchFail l 2 (s.stretchMod l (fun x => { x with handOver := none }))

/-- MODE_ACK_RECEIVE, R121, R259. -/
def execModeAckReceive (face : BitVec 1) (src : W16) (payload : Bytes) (s : State) : Result :=
  let f := face.toNat
  let m := byteAt payload 0
  let r? := (s.icingAt f).reqOut.find? (fun r => r.mseq == m && !r.tier && !r.cancel && r.dst == src)
  eventIf r?.isSome (fun s => match r? with
    | none => s
    | some r =>
      let s1 := dropReq f m s
      if byteAt payload 2 = resAccept then
        s1.stretchMod r.lane (fun x => { x with handOver := x.handOver.map (fun h => { h with agreed := true }) })
      else modeFail r.lane s1) s

/-- The lane has asked for a hand-over and no answer has come. -/
def Stretch.asking (x : Stretch) : Bool := (x.handOver.map (fun h => h.initiator && !h.agreed)).getD false

/-- MODE_ACK_TIMEOUT, R121, R259. -/
def execModeAckTimeout (lane : BitVec 4) (s : State) : Result :=
  let l := lane.toNat
  eventIf (s.stretchAt l).asking (fun s =>
    modeFail l (cancelReq (faceOf l) (((s.stretchAt l).handOver.map (·.mseq)).getD 0) s)) s

/-- The transmit table that a lane's bank holds: crumb 10, with S_TX of crumb 8 (R118, R119), and with it the capacity mask:
the bits that crumb 8 has kept and those at or above S (R111, R119); a crumb that fails its check is rejected (R22). -/
def restoreTxTable (l : Nat) (s : State) : State :=
  let bad := s.badBank l [8, 10]
  let c8 := s.bankRead l 8
  let c10 := s.bankRead l 10
  if !bad.isEmpty then rejectBank l bad s
  else if byteAt c10 0 = 0 then s
  else
    let s1 := s.stretchMod l (fun x => { x with txTab := some (tableOf (byteAt c10 0) (byteAt c8 1).toNat (slice c10 1 255)) })
    resource s1 [l] (s1.maskMod l (fun m =>
      { m with stretch := m.stretch ||| BitVec.ofNat 64 (leAt c8 8 8) ||| bitsFrom (byteAt c8 1).toNat }))

/-- A lane's transmitter changes mode (R120, R121): into Stretch mode with the table that its bank holds from its last time
there, and otherwise with probe frames (R119; DEDUCED, log entry 109); into framed PAM4 at the rate of the device's Tier. -/
def txMode (l : Nat) (stretch : Bool) (s : State) : State :=
  let s1 := s.txMod l (fun t => { t with stretch := stretch })
  let s2 := s1.stretchMod l (fun x =>
    { x with txTab := none, txNext := none, txLater := none, countTx := none, segs := [] })
  txRate l (!stretch && decide (s.sys.tier = 1)) (if stretch then restoreTxTable l s2 else s2)

/-- The precoding that a request's PRECODE byte gives this end's transmitter and the far one (R259). -/
def takePrecode (l : Nat) (prec : Byte) (initiator : Bool) (s : State) : State :=
  if bitOf prec 7 then
    let own := bitOf prec (if initiator then 0 else 1)
    let far := bitOf prec (if initiator then 1 else 0)
    (s.txMod l (fun t => { t with set := { t.set with precode := own, precodeP := none } })).rxMod l (fun r => { r with negotiated := far })
  else s

/-- MODE_SWITCH_BOUNDARY, R121, R259. -/
def execModeSwitchBoundary (lane : BitVec 4) (s : State) : Result :=
  let l := lane.toNat
  let h? := (s.stretchAt l).handOver.filter (·.agreed)
  eventIf h?.isSome (fun s => match h? with
    | none => s
    | some h =>
      let s1 := s.stretchMod l (fun x => { x with handOver := none })
      if s.inMode l h.stretch then s1
      else
        let s2 := s1.stretchMod l (fun x => { x with lastMode := if h.initiator then none else some h.mseq })
        rxMode l h.stretch (reframe l (txMode l h.stretch (takePrecode l h.prec h.initiator s2)))) s

/-- A recipient undoes a hand-over (R259): one not yet made is dropped, one made is made back. -/
def undoMode (l : Nat) (mseq : Byte) (mode : Byte) (s : State) : State :=
  match (s.stretchAt l).handOver with
  | some h => if h.mseq = mseq ∧ ¬ h.initiator then s.stretchMod l (fun x => { x with handOver := none }) else s
  | none =>
    if (s.stretchAt l).lastMode = some mseq ∧ s.inMode l (mode == 1) then
      let h : HandOver :=
        { stretch := mode != 1, mseq := mseq, initiator := false, farLane := u8 (s.farLane l), agreed := true }
      s.stretchMod l (fun x => { x with handOver := some h })
    else s

/-- A lane's agreed Tier change is undone at its recipient (R259, R260). -/
def undoTier (l : Nat) (s : State) : State :=
  let t := s.turnAt l
  let s1 := if (s.rxAt l).st = .locked then s else s.rxMod l (fun r => { r with half := t.old })
  let d := s1.drawBelow 2
  d.2.turnMod l (fun t =>
    if t.due then { t with due := false, await := false }
    else { t with due := t.half != t.old, half := t.old, await := false, left := 153 + d.1 })

/-- MODE_CANCEL_RECEIVE, R259, R260: the first of the three copies acts. -/
def execModeCancelReceive (face : BitVec 1) (src : W16) (payload : Bytes) (s : State) : Result :=
  let f := face.toNat
  let m := byteAt payload 0
  let mine (r : ReqIn) : Bool := r.src == src && r.mseq == m
  let r? := (s.icingAt f).reqIn.find? mine
  eventIf r?.isSome (fun s => match r? with
    | none => s
    | some r =>
      let s1 := s.icingMod f (fun i => { i with reqIn := i.reqIn.filter (fun q => !mine q) })
      match r.answer with
      | none => s1
      | some a =>
        if r.tier then
          if byteAt a 2 = resAccept ∧ r.acted then forEach ((lanesOf f).filter (fun l => bitOf (byteAt a 1) (l % 8))) undoTier s1 else s1
        else if byteAt a 2 = resAccept then undoMode ((byteAt r.payload 1).toNat % 16) m (byteAt r.payload 2) s1
        else s1) s

/-! ### The Tier procedure, R260, R380, R381, R383 -/

/-- The lanes of a request that this end may accept: those not in Stretch mode (R260). -/
def State.tierOffer (s : State) (f : Nat) (lanes : Byte) : Byte :=
  lanes &&& u8 (packBits ((lanesOf f).map (fun l => !(s.rxAt l).stretch && !(s.txAt l).stretch)))

/-- Answer a Tier request with the lanes accepted. -/
def answerTier (f : Nat) (src : W16) (mseq lanes : Byte) (s : State) : State :=
  answerReq f true src mseq [mseq, lanes, if lanes = 0 then resReject else resAccept] s

/-- A change is in progress on one of the lanes (R259). -/
def State.lanesBusy (s : State) (f : Nat) (lanes : Byte) : Bool :=
  (lanesOf f).any (fun l => bitOf lanes (l % 8) && s.laneBusy l)

/-- A change is in progress, or awaits this host's answer, on one of the lanes (R259). -/
def State.tierBusy (s : State) (f : Nat) (lanes : Byte) : Bool :=
  s.lanesBusy f lanes || (lanesOf f).any (fun l => bitOf lanes (l % 8) && s.reqAsked l)

/-- TIER_REQ_RECEIVE, R260, R383; an SG1608 is answered for TIER = 1 only (R263). -/
def execTierReqReceive (face : BitVec 1) (src : W16) (payload : Bytes) (s : State) : Result :=
  let f := face.toNat
  let m := byteAt payload 0
  let lanes := byteAt payload 1
  let tier := byteAt payload 2
  eventIf (s.icingOn f && !inToffee s) (fun s =>
    match (s.icingAt f).reqInOf true src m with
    | some r => (match r.answer with
      | some a => icQueue f 0x25 src a s
      | none => s)
    | none =>
      let s1 := keepReq f { mseq := m, tier := true, src := src, payload := payload, answer := none } s
      if s.dst1608 f src ∧ tier ≠ 1 then s
      else if tier ≠ 1 ∧ tier ≠ 2 then answerReq f true src m [m, 0, resNotSupported] s1
      else if s.tierBusy f lanes then answerReq f true src m [m, 0, resBusy] s1
      else if (s.icingAt f).cfg.tierAccept then answerTier f src m (s.tierOffer f lanes) s1
      else raise 0x8007 [u8 f, m, lanes, tier, byteAt payload 3] s1) s

/-- TIER_REPLY, R383. -/
def cmdTierReply (face mseq lanes : Byte) (s : State) : Cmd :=
  let f := face.toNat
  { range := faceOk face
    run := fun _ =>
      match (s.icingAt f).reqIn.find? (fun r => r.tier && r.answer.isNone && r.mseq == mseq) with
      | none => ok s
      | some r =>
        if s.icFull f then deny .full s
        else if s.lanesBusy f (byteAt r.payload 1) then ok (answerReq f true r.src mseq [mseq, 0, resBusy] s)
        else ok (answerTier f r.src mseq (s.tierOffer f (byteAt r.payload 1 &&& lanes)) s) }
def execTierReply (face mseq lanes : Byte) (s : State) : Result := parax 0x0005 (cmdTierReply face mseq lanes) s

/-- The device's Tier as a rate: half at Tier 1 (R125, R380). -/
def State.tierHalf (s : State) : Bool := decide (s.sys.tier ≠ 2)

/-- A lane takes its turn in TIER_SET's mask. -/
def State.waits (s : State) (l : Nat) : Bool := decide ((s.turnAt l).st = .waiting)

/-- A lane is eligible for its turn, but for what its far end is (R381 step 1). -/
def State.eligible (s : State) (l : Nat) : Bool :=
  let r := s.rxAt l
  decide (r.st = .locked) && !r.stretch && decide ((s.txAt l).st = .data) && s.farFound (faceOf l)

/-- A lane has its turn: steps 2 to 5 (R381). -/
def State.turning (s : State) : Bool :=
  (List.range 16).any (fun l =>
    let t := s.turnAt l
    decide (t.st = .requested) || decide (t.st = .switching) || decide (t.st = .settling))

/-- RESULT of TIER_DONE for a lane (R381). -/
def State.tierResult (s : State) (l : Nat) : Byte :=
  if !bitOf s.tierp.mask l then 0xFF else if s.waits l then 7 else (s.turnAt l).result

/-- Raise TIER_DONE when no lane has its turn and none that waits is eligible (R381). -/
def tierCheck (s : State) : State :=
  if s.tierp.doneRaised || s.turning || (List.range 16).any (fun l => s.waits l && s.eligible l) then s
  else raise 0x8005 ((List.range 16).map s.tierResult) { s with tierp := { s.tierp with doneRaised := true } }

/-- A lane's turn ends with a result: TIER_FAIL on a cause; after TIER_DONE it is reported alone; a lane whose turn
began for an earlier target waits for the new one (R381). -/
def endTurn (l : Nat) (code : Byte) (s : State) : State :=
  let again := !s.waits l && bitOf s.tierp.mask l && (s.turnAt l).half != s.tierHalf && (s.txAt l).half != s.tierHalf
  let s1 := s.turnMod l (fun t => { t with st := if again then .waiting else .none, result := code })
  let s2 := if code = 0 then s1 else raise 0x8006 [u8 l, code] s1
  if s.tierp.doneRaised && !again then raise 0x8005 ((List.range 16).map (fun k => if k = l then code else 0xFF)) s2
  else tierCheck s2

/-- Step 2 of a lane's turn: TIER_REQ for the paired lane (R260, R381). -/
def startTurn (l : Nat) (s : State) : State :=
  let f := faceOf l
  let m := (s.icingAt f).mseq + 1
  let far := s.farLane l
  let s1 := (s.icingMod f (fun i => { i with mseq := m })).turnMod l (fun t => { t with st := .requested, mseq := m, half := s.tierHalf })
  sendReq f { mseq := m, tier := true, lane := l, dst := (s.icingAt f).far, resends := 0
              payload := [m, u8 (2 ^ (far % 8)), if s.tierHalf then 1 else 2, 0] } s1

/-- The waiting lanes that are eligible with an SG1608 at the far end end their turn with PEER_LIMIT (R381 step 1). -/
def peerLimits (s : State) : State :=
  forEach ((List.range 16).filter (fun l => s.waits l && s.eligible l && s.far1608 (faceOf l))) (fun l t => endTurn l 5 t) s

/-- The next eligible lane, ascending. -/
def State.nextLane (s : State) : Option Nat := (List.range 16).find? (fun l => s.waits l && s.eligible l)

/-- TIER_LANE_TURN_START, R381 steps 1 and 2. -/
def execTierLaneTurnStart (s : State) : Result :=
  eventIf (!s.turning && (List.range 16).any s.waits) (fun s =>
    let s1 := peerLimits s
    match s1.nextLane with
    | some l => startTurn l s1
    | none => tierCheck s1) s

/-- The cause of TIER_FAIL for a RESULT (R381 step 3). -/
def causeOf (result : Byte) : Byte := if result = resBusy then 3 else if result = resNotSupported then 4 else 2

/-- TIER_ACK_RECEIVE, R381 steps 3 and 4. -/
def execTierAckReceive (face : BitVec 1) (src : W16) (payload : Bytes) (s : State) : Result :=
  let f := face.toNat
  let m := byteAt payload 0
  let r? := (s.icingAt f).reqOut.find? (fun r => r.mseq == m && r.tier && !r.cancel && r.dst == src)
  eventIf r?.isSome (fun s => match r? with
    | none => s
    | some r =>
      let l := r.lane
      if byteAt payload 2 = resAccept ∧ bitOf (byteAt payload 1) (s.farLane l % 8) then
        tierAgree (s.turnAt l).half 0 l ((dropReq f m s).turnMod l (fun t => { t with st := .switching }))
      else endTurn l (causeOf (byteAt payload 2)) (cancelReq f m s)) s

/-- TIER_ACK_TIMEOUT, R381 step 3. -/
def execTierAckTimeout (lane : BitVec 4) (s : State) : Result :=
  let l := lane.toNat
  eventIf (decide ((s.turnAt l).st = .requested)) (fun s =>
    endTurn l 1 (cancelReq (faceOf l) (s.turnAt l).mseq s)) s

/-- TIER_RATE_SWITCH, R87, R260, R381 step 4. -/
def execTierRateSwitch (lane : BitVec 4) (s : State) : Result :=
  let l := lane.toNat
  let t := s.turnAt l
  eventIf (t.due && t.left == 0) (fun s =>
    let s1 := s.turnMod l (fun t => { t with due := false, st := if t.st = .switching then .settling else t.st })
    reframe l (txRate l t.half (takePrecode l t.prec false s1))) s

/-- TIER_AWAIT_END, R381 steps 4 and 5. -/
def execTierAwaitEnd (lane : BitVec 4) (s : State) : Result :=
  let l := lane.toNat
  let t := s.turnAt l
  eventIf (!t.due && (t.await || decide (t.st = .settling))) (fun s =>
    let s1 := s.turnMod l (fun t => { t with await := false })
    if t.st = .settling then endTurn l 6 s1 else s1) s

/-- TIER_TURN_END, R381 step 5: FE_RX.LOCKED of the latest header reads 1. -/
def execTierTurnEnd (lane : BitVec 4) (s : State) : Result :=
  let l := lane.toNat
  let t := s.turnAt l
  let r := s.rxAt l
  eventIf (decide (t.st = .settling) && decide (r.st = .locked) && r.half == t.half && bitOf (s.framerAt l).feRx 3) (endTurn l 0) s

/-- An accepted TIER_SET: the mask and the target replace those before; lanes at another rate wait for their turn, and
with FORCE a lane whose transmitter is not in DATA changes at once (R381). -/
def tierBegin (force : Bool) (lanes : W16) (s : State) : State :=
  let half := s.tierHalf
  let s1 := { s with tierp := { s.tierp with mask := lanes, doneRaised := false } }
  let s2 := forEach (List.range 16) (fun l t =>
    let x := t.turnAt l
    if x.st ≠ .none ∧ x.st ≠ .waiting then t
    else
      let differs := bitOf lanes l && !(t.txAt l).stretch && (t.txAt l).half != half
      if differs && force && decide ((t.txAt l).st ≠ .data) then
        rxRate l half (txAskRate l half (t.turnMod l (fun x => { x with st := .none, result := 0 })))
      else t.turnMod l (fun x => { x with st := if differs then .waiting else .none, result := 0 })) s1
  tierCheck s2

end Sys2Proof.Machine
end

