-- ==== Sys2Proof/Machine/BringOps.lean ====
section
/-! DEFINITION. The shared operations of reset, bring-up and RSYN loss (R16, R336, R339, R354, R372, R379, R448, R458)
and of every loss of a block's clock or power: lanes, transmitters, negotiations, loops and ports that stop. -/

namespace Sys2Proof.Machine

/-- The 16 lanes. -/
def allLanes : List Nat := List.range 16

/-! ### Blocks that stop -/

/-- A lane's receive side that is not PARKED goes to OFF, without a count or an event (R346, R458, R460). The cause of a
loss that the lane has counted before is still reported once it is settled (R58). A mode change that waits for a snapshot is
made as on a lane that has no lock to lose (R48, R119). -/
def laneOff (l : Nat) (s : State) : State :=
  if (s.rxAt l).st = .parked then s
  else (rxModeDue l (leaveQuietly l .off (checkerIdle l s))).rxMod l (fun r =>
    { r with
      backoff := false, retries := 0, snapBusy := false, defStop := false, defLoss := none
      fastDetect := false })

/-- The clocks of a lane's receive side stop: a loss not yet settled is not reported any more (R458, R460). -/
def lossDropped (l : Nat) (s : State) : State := s.rxMod l (fun r => { r with loss := none })

/-- A lane's hand-over and table exchange end without a change of mode (R349). -/
def stretchEnd (l : Nat) (s : State) : State :=
  let s1 := if (s.stretchAt l).asking then
      modeFail l (cancelReq (faceOf l) (((s.stretchAt l).handOver.map (·.mseq)).getD 0) s)
    else s
  stopLeaving l (s1.stretchMod l (fun x =>
    { x with
      handOver := none, rxNext := none, txNext := none, txLater := none, segs := [], acked := false, sends := 0, countTx := none
      reload := false, count := 0
      phase := if x.rxTab.isSome then .data else .none }))

/-- A lane's Tier change ends as a lost acknowledgement would end it (R349, R381). -/
def turnEnd (l : Nat) (s : State) : State :=
  let t := s.turnAt l
  if t.st = .requested then endTurn l 1 (cancelReq (faceOf l) t.mseq s)
  else
    let s1 := s.turnMod l (fun t => { t with due := false, await := false })
    if t.st = .switching ∨ t.st = .settling then endTurn l 6 s1 else s1

/-- Negotiations of both kinds end (R349); requests that no host has answered are forgotten. -/
def negotiationsEnd (s : State) : State :=
  let s1 := forEach allLanes turnEnd (forEach allLanes stretchEnd s)
  forEach [0, 1] (fun f t => t.icingMod f (fun i => { i with reqIn := i.reqIn.filter (fun r => r.answer.isSome) })) s1

/-- A host port that is not DISABLED stops and has to acquire again; its egress buffer is lost (R217, R337). -/
def portStop (p : Nat) (s : State) : State :=
  if (s.portAt p).st = .disabled then s
  else (enterPort p .acquire false (locksTo p 0xFF false s)).portMod p (fun x => { x with egress := [] })

/-- The loops that are listed. -/
def State.loops (s : State) : List Nat := s.loop.map (·.1)
/-- The bias outputs that are listed. -/
def State.outs (s : State) : List Nat := s.bias.map (·.1)
/-- The receive slots and transmit slots that are listed. -/
def State.rxSlots (s : State) : List Nat := s.rxSlot.map (·.1)
def State.txSlots (s : State) : List Nat := s.txSlot.map (·.1)

/-- Icing on a face stops: a burst on air is aborted after a free number of its frames, for its lane stops sending; queued
frames are kept (R250, R344). -/
def icingStop (f : Nat) (s : State) : State :=
  let d := match (s.icingAt f).burst with
    | some b => s.drawBelow b.frames.length
    | none => (0, s)
  (burstAbort f d.1 d.2).icingMod f (fun i => { i with rx := { i.rx with st := .off, step := 0, run := 0, second := none } })

/-- What is lost with the stream and client domains: frames in the lookup queues and the elastic stores (R337). -/
def framesLost (s : State) : State :=
  let s1 := strMod (fun e => { e with queueAdd := [], queueDrop := [], bulk := none }) s
  let s2 := forEach s1.rxSlots (fun k t => t.rxSlotMod k (fun r =>
    { r with sync := false, left := 0, hdr := [], held := [], nxt2 := none, routed := false })) s1
  forEach s2.txSlots (fun k t => t.txSlotMod k (fun x =>
    { x with
      queue := [], sending := [], owed := 1, store := [], started := false, frameLeft := 0, sent := [], aborting := false
      cut := false, skip := 0, slipping := false, blocks := [] })) s2

/-! ### Domains that come up -/

/-- PD 78 to PD 85 are powered: Icing receivers search, monitor chains take their reset (R372, R316). -/
def tier0Domains (s : State) : State :=
  let s1 := s.setPd [78, 79, 80, 81, 82, 83, 84, 85] true
  madcPower 1 (madcPower 0 (icToSearch 1 (icToSearch 0 s1)))

/-- The domains of a lane that is not parked come up: at half rate, or at full rate in Stretch mode (R120); OFF, and HIZ
until its start-up has passed (R82, R379). -/
def laneUp (l : Nat) (s : State) : State :=
  if (s.rxAt l).st = .parked then s
  else
    let s1 := (s.setPd (laneDomains l) true).rxMod l (fun r => { r with half := !r.stretch })
    txPowerUp l false (txRate l (!(s.txAt l).stretch) s1)

/-- R379: the clock moves, PD 72 to PD 77 and the lanes are powered, and the Tier is 1; stream tables that are not yet
clear are cleared (R206). -/
def tierOne (s : State) : State :=
  let s1 := (moveClock s).setPd [72, 73, 74, 75, 76, 77] true
  setTier 1 (forEach allLanes laneUp s1)

/-- TIER0_REACHED, R372, R391, R325. -/
def tier0Start (s : State) : State :=
  let s1 := tier0Domains s
  let s2 := mbxInit s1.sys.readyCause { s1 with sys := { s1.sys with tier0 := true } }
  let s3 := match imageCheck s2.nvmImage with
    | some c => raise 0x8D04 [c] s2
    | none => s2
  { s3 with sys := { s3.sys with readyCause := 0 } }

/-! ### Reset, R339, R448 -/

/-- What a reset leaves: the always-on timestamp, EPOCH, the NVM, the levels on the pins, and the model's own draws and
queue; everything else has its reset value (R50, R153, R165, R336, R391). -/
def State.cold (s : State) : State :=
  { mbx := { epoch := s.mbx.epoch }
    pwr := { time := s.pwr.time, holdLow := s.pwr.holdLow, supplyOk := s.pwr.supplyOk }
    face := (s.face.filter (fun p => p.2.faultIn)).map (fun p => (p.1, { faultIn := true }))
    cal := { nvm := s.cal.nvm }
    biasLow := s.biasLow
    resp := s.resp
    free := s.free
    pending := s.pending }

/-- PD 87 alone is powered. -/
def onlyAlwaysOn : BitVec 88 := setBit 0 87 true

/-- The device is in reset (R448): everything but PD 87 is down. -/
def resetEnter (s : State) : State :=
  let c := s.cold
  { c with
    sys := { c.sys with inReset := true, aonDown := s.sys.aonDown, resetLow := s.sys.resetLow }
    pwr := { c.pwr with cur := 0, domains := onlyAlwaysOn } }

/-- Bring-up begins (R372): PD 86 is powered, the boot ROM checks the Acsor image and loads the trims (R325). -/
def bringUp (s : State) : State :=
  loadTrims { s with pwr := { s.pwr with cur := 1, bringUpWaits := false, domains := setBit onlyAlwaysOn 86 true } }

/-- RESET_N rises, or VDD_AON has risen (R339, R372): the straps are sampled; with HOLD_N low bring-up waits in PD 87
(R354). -/
def resetLeave (addr : BitVec 6) (boot : BitVec 2) (s : State) : State :=
  let c := s.cold
  let s1 := { c with sys := { c.sys with addr := addr, boot := boot } }
  if s.pwr.holdLow then
    { s1 with pwr := { s1.pwr with cur := 0, bringUpWaits := true, domains := onlyAlwaysOn } }
  else bringUp s1

/-! ### RSYN loss, R16, R458 -/

/-- A transmitter stops with its clock: HIZ, and LANE_DOWN where it was in DATA (R458). -/
def txClockLost (l : Nat) (s : State) : State := periodCut l (txPowerDown l (txEnter l .hiz s))

/-- A lane that is being parked is parked with the loss of its clock or its power (R346). -/
def parkDue (l : Nat) (s : State) : State := if (s.txAt l).parking then parkEnd l s else s

/-- A loop becomes OFF with its state kept (R291). -/
def loopOff (n : Nat) (s : State) : State :=
  if (s.loopAt n).on then (endTestOf n 2 s).loopMod n (fun l => { l.toOff with liRestart := true }) else s

/-- RSYN loses lock (R16, R458). -/
def rsynLost (s : State) : State :=
  let s1 := negotiationsEnd s
  let s2 := forEach allLanes (fun l t => rxPowerDown l (txClockLost l (lossDropped l (laneOff l (parkDue l t))))) s1
  let s3 := forEach s2.outs (fun n t => t.biasMod n Bias.toHiz) (forEach s2.loops loopOff s2)
  let s4 := framesLost (bulkCut (forEach allLanes captureDown (forEach (List.range 16) portStop s3)))
  let s5 := madcPower 1 (madcPower 0 (icingStop 1 (icingStop 0 s4)))
  let s6 := s5.setPd (List.range 64 ++ [72, 73, 74, 75, 76, 77]) false
  let s7 := { s6 with
    sys := { s6.sys with rsynLock := false, fio := true }, irq := { s6.irq with fatal := true } }
  let s8 := setTier 0 s7
  if s8.mbxReady then raise 0x8004 (le64 s.pwr.time) s8
  else { s8 with sys := { s8.sys with rsynLost := some s.pwr.time } }

end Sys2Proof.Machine
end

