-- ==== Sys2Proof/Machine/PowerOps.lean ====
section
/-! DEFINITION. The shared operations of sleep (chapter 13): the retention save (R350), the stop and the restart of each
block (R344, R345, R349), the domains going down and coming up (R337, R365), the retention checks (R362), the wake record
(R363) and the watch tick (R358 to R360). -/

namespace Sys2Proof.Machine

/-! ### Retention save, R350 -/

/-- A lane in LOCKED whose quality period has a completed multiframe and meets the conditions of a snapshot. -/
def Rx.saves (r : Rx) : Bool :=
  decide (r.st = .locked) && decide (1 ≤ r.guard.mfs) && r.guard.uncorr == 0 && !r.guard.tripped && !r.guard.saturated

/-- The retention save of a lane, R350. -/
def retentionSave (l : Nat) (s : State) : State :=
  let r := s.rxAt l
  if r.saves then writeSnapshot l (f32Mean r.guard.mses) (BitVec.ofInt 16 r.coef.freq) s else s

/-! ### Blocks that stop, R344, R349 -/

/-- An entry begins: what the blocks were doing is recorded from here on; a park in progress is complete (R346). -/
def sleepBegin (s : State) : State :=
  let s := forEach allLanes parkDue s
  forEach s.outs (fun n t => t.biasMod n (fun b => { b with bySleep := false }))
    (pwrMod (fun p => { p with domBefore := p.domains, laneOn := 0, txWas := [], patOn := 0 }) s)

/-- A lane that was neither in OFF nor PARKED; one whose LANE_STOP waits for a snapshot counts as OFF (R460). -/
def Rx.started (r : Rx) : Bool := decide (r.st ≠ .off) && decide (r.st ≠ .parked) && !r.defStop

/-- Record what a lane was doing, make its retention save, and stop its receive side (R350, R460). -/
def laneStop (l : Nat) (s : State) : State :=
  let t := s.txAt l
  lossDropped l <| laneOff l (retentionSave l (pwrMod (fun p =>
    { p with
      laneOn := setBit p.laneOn l (s.rxAt l).started
      txWas := Tab.set 0 p.txWas l t.st.code
      patOn := setBit p.patOn l t.gen.on }) s))

/-- Step 4 of R344 for one lane: a transmitter in DATA or PATTERN leaves it at its next multiframe boundary, and every one
passes QUIET before HIZ (R83, log entry 148). -/
def lanePlanned (l : Nat) (s : State) : State :=
  let s1 := laneStop l s
  let t := s1.txAt l
  if t.st.steps then s1.txMod l (fun t => { t with next := none, shed := true })
  else if t.st = .icingOnly then (txShed l .quiet s1).txMod l (fun t => { t with shed := true })
  else txShed l .hiz s1

/-- A transmitter that sends enters QUIET at once (R349). -/
def txQuiet (l : Nat) (s : State) : State :=
  let st := (s.txAt l).st
  if st = .data ∨ st = .pattern ∨ st = .icingOnly then txShed l .quiet s else s

/-- H0 for one lane: its receive side stops, its transmitter enters QUIET (R349). -/
def laneShed (l : Nat) (s : State) : State := txQuiet l (laneStop l s)

/-- PREV_MODE of a loop state, R273, R291; none in OFF and FAULT. -/
def prevMode (st : Nat) : Option Nat :=
  match st with
  | 1 => some 1
  | 2 => some 2
  | 3 => some 3
  | 4 => some 3
  | _ => none

/-- An enabled loop records its mode and holds; a hand-over is abandoned with the target of its LOOP_MODE kept (R291). -/
def Loop.sleep (l : Loop) : Loop :=
  match prevMode l.st with
  | none => l
  | some m =>
    let l1 := if l.st = 3 then l.put 16 l.hoTarget else l
    { (l1.toHold.status 22 2 m) with resume := false, liRestart := true }

/-- Entry to a sleep for one output, R303. -/
def Bias.sleep (b : Bias) : Bias :=
  match b.st with
  | .drive => { b.toSafe with bySleep := true }
  | .range =>
    if b.rangeStep = .hiz then { b.toHiz with left := true } else { ({ b with rangeNow := b.oldRange }).toSafe with bySleep := true }
  | _ => b

/-- Step 6 of R344, and H0, for the loops and outputs; tests end with their loops (R287, R291, R303). -/
def coresStop (s : State) : State :=
  let s1 := forEach [0, 1, 2, 3] (fun q t => endTest q 2 t) s
  forEach s1.outs (fun n t => t.biasMod n Bias.sleep) (forEach s1.loops (fun n t => t.loopMod n Loop.sleep) s1)

/-! ### Domains that go down, R337, R365, R458 -/

/-- The latch of an output in SAFE holds its safe code (R303). -/
def Bias.latch (b : Bias) : Bias :=
  if b.st = .safe then { b with highZ := b.record.safeHiz, out := if b.record.safeHiz then 0 else b.record.safeCode }
  else { b with left := false }

/-- A switch that is pending when a sleep is entered is abandoned (R158). -/
def Face.abandon (x : Face) : Face := if x.pending.isSome then { x with pending := none, abandoned := true } else x

/-- Every domain but PD 87 is off (R337), and the REF clock with them. -/
def domainsOff (s : State) : State :=
  { s with
    sys := { s.sys with rsynLock := false }
    pwr := { s.pwr with domains := onlyAlwaysOn, step := 0, entryTime := s.pwr.time } }

/-- Every domain but PD 87 powers down: DMA stops, and what is not retained is lost (R337, R365). -/
def domainsDown (s : State) : State :=
  let s1 := dmaDomainDown (bulkCut <| strobeStop (calDrop (negotiationsEnd s)))
  let s2 := forEach allLanes (fun l t => rxPowerDown l (periodCut l (txPowerDown l t))) s1
  let s3 := forEach (List.range 16) portStop (icingStop 1 (icingStop 0 s2))
  let s4 := madcPower 1 (madcPower 0 (framesLost s3))
  let s5 := forEach allLanes stopLeaving (forEach [0, 1] (fun f t => t.faceMod f Face.abandon) s4)
  let s6 := forEach [0, 1, 2, 3] (fun q t => t.coreMod q (fun c => { c with records := [], peak := 0 })) s5
  domainsOff (forEach s6.outs (fun n t => t.biasMod n Bias.latch) s6)

/-- PWR_STATE takes a new state; TARGET reads 0 outside ENTERING and WAKING (R340). -/
def toPower (cur target : BitVec 4) (s : State) : State :=
  pwrMod (fun p => { p with prev := p.cur, cur := cur, target := target }) s

/-! ### Waking, R351, R354, R363 -/

/-- The blocks of bring-up are as RESET_N leaves them (R50, R153, R165, R206); the rest is as the sleep kept it. -/
def startResets (s : State) : State :=
  { s with
    bank := {}
    calMem := {}
    cliMem := {}
    client := []
    face := s.face.map (fun p => (p.1, { p.2 with active := 0, pending := none, abandoned := false, crumbFail := 0 }))
    streams := { s.streams with ready := false, wakeSweep := false } }

/-! ### Retention checks, R362 -/

/-- Bytes that a loss of retention leaves: free values (log entry 3). -/
def State.lostBytes (s : State) (base n : Nat) : Bytes := (List.range n).map (fun i => Config.lostByte s.free (base + i))

/-- A memory of `n` crumbs after a loss of retention: contents open, and every crumb rejected until it is rewritten. -/
def lostCrumbs (s : State) (base n : Nat) (m : CrumbMem) : CrumbMem :=
  { m with bytes := Tab.ofList 0 0 (s.lostBytes base (256 * n)), rejected := List.range n }

/-- The transmit shadow and the counters of a lane whose shadow failed (R362). -/
def laneDefaults (l : Nat) (s : State) : State :=
  let s1 := s.txMod l (fun t =>
    { t with
      set := {}, latched := false, pdLimit := false, clips := 0, loopSlip := 0 })
  let s2 := s1.rxMod l (fun r =>
    { r with
      lockLoss := 0, acqRetry := 0, warmFail := 0, retrySt := 0xFF, lossCause := 0xFF })
  (s2.stretchMod l (fun x => { x with mismatch := 0, lateSwitch := 0 })).framerMod l (fun f => { f with cnt := {} })

/-- What a loss of retention leaves of the bias outputs: the state and the latch stand on VDD_BIAS, the record and the
counters are open. -/
def lostBias (n : Nat) (s : State) : State :=
  s.biasMod n (fun b =>
    let w := BiasRec.ofBytes (s.lostBytes (0x400000 + 32 * n) 16)
    { b with
      record := { w with range := BitVec.ofNat 2 (w.range.toNat % 3) }
      clip := w32At (s.lostBytes (0x402000 + 8 * n) 4) 0
      faults := w16At (s.lostBytes (0x402004 + 8 * n) 2) 0 })

/-- What a loss of retention leaves of a loop: every word but STATUS is open, its counters too. -/
def lostLoop (n : Nat) (s : State) : State :=
  s.loopMod n (fun l =>
    let b := 0x300000 + 256 * n
    { l with
      words := (List.range 31).map (fun i => w32At (s.lostBytes (b + 4 * i) 4) 0) ++ [l.w 31]
      missCount := w32At (s.lostBytes (b + 128) 4) 0
      satFrames := w32At (s.lostBytes (b + 132) 4) 0
      liShort := w32At (s.lostBytes (b + 136) 4) 0
      faultCount := w16At (s.lostBytes (b + 140) 2) 0 })

/-- What a loss of retention leaves of a loop-state crumb's check word: any that fails the check (R362). -/
def State.lostCheck (s : State) (m : Nat) : W16 :=
  let v := w16At (s.lostBytes (0x420000 + 2 * m) 2) 0
  if v = 0 then 1 else v

/-- The stream tables are to be cleared again, and STREAM_TABLE_LOST is due (R206). -/
def streamsLost (s : State) : State :=
  { s with
    streams := { s.streams with ready := false, lost := true, wakeSweep := false }
    pwr := { s.pwr with streamsOut := false, wakeRec := { s.pwr.wakeRec with streamLost := true } } }

/-- Every wake but one that finds the tables lost in Toffee watch starts a new epoch (R200). -/
def epochNext (s : State) : State :=
  if s.pwr.streamsOut then s
  else strMod (fun e => { e with epoch := e.epoch + 1, sweepDue := true }) s

/-- The tables on a wake: lost where nothing retained them (R206, R362). -/
def streamsKept (s : State) : State :=
  if s.pwr.wakeRec.retLost || s.pwr.streamsOut then streamsLost s else s

/-- What the management SRAM reads after its retention failed: free bytes (log entry 3). -/
def State.lostSram (s : State) : Memory := Tab.ofList 0 0 (s.lostBytes 0x800000 0x100000)

/-- The memories and the configuration that only retention kept are lost (R362). -/
def memoriesLost (s : State) : State :=
  { s with
    bank := lostCrumbs s 0 512 s.bank
    calMem := lostCrumbs s 0x100000 32 s.calMem
    cliMem := lostCrumbs s 0x200000 64 s.cliMem
    sram := s.lostSram
    sramBad := []
    sramSoft := []
    icing := []
    mon := []
    madc := []
    dma := {}
    hlane := []
    port := []
    etype := 0x88B5
    nodeAddr := 0
    netId := 0x4D
    qry := [] }

/-- The contents of every bank after a loss of retention, as R362 states on failure; what it does not state is open. -/
def banksLost (s : State) : State :=
  let s2 := forEach allLanes laneDefaults (memoriesLost s)
  let s3 := s2.client.foldl (fun t p => t.clientMod p.1 (fun c => { c.cleared with up := c.up })) s2
  let s4 := forEach (List.range 192) (fun n t => lostLoop n (lostBias n t)) s3
  loadTrims { s4 with
    streams := { s4.streams with cnt := {} }
    loopSyn := Tab.ofList 0 0 ((List.range 96).map s.lostCheck)
    free := s4.free + 1
    pwr := { s4.pwr with wakeRec := { s4.pwr.wakeRec with txDefault := 0xFFFF } } }

/-- The wake of R354 when firmware has not run since RESET_N rose: the start of R372 again. -/
def startAgain (s : State) : State :=
  let s0 := if s.pwr.retLost then banksLost s else s
  let s1 := startResets (streamsKept (epochNext s0))
  let r := { s1.pwr.wakeRec with fwReload := true }
  bringUp { s1 with
    sys := { s1.sys with
      rsynLock := false, fio := true, tier := 0, tier0 := false, fwLoad := none, flashNext := 0, restartDue := false
      readyCause := 1 }
    mbx := { s1.mbx with mode := .down, exec := none }
    pwr := { s1.pwr with prev := s1.pwr.cur, target := 0, wakeRec := r, wakeDue := true, retLost := false, tick := false } }

/-- T_W: the wake record is written, PD 86 powers, FIO starts (R352, R363); RSYN stays locked when the decision was made
in a watch tick. -/
def wakeStart (source : BitVec 4) (reason : Byte) (compare : BitVec 4) (face : BitVec 1) (s : State) : State :=
  let p := s.pwr
  let toffee := p.cur == 4
  let r : WakeRec :=
    { valid := true, shedReturn := p.roseInShed, retLost := p.retLost, origin := if toffee then 2 else 1
      reason := reason, compare := compare, face := face, source := source, wakeTime := p.time
      cycles := if toffee then p.ticks else 0, entryTime := p.entryTime }
  let s1 := { s with
    sys := { s.sys with fio := true }
    pwr := { p with wakeRec := r, roseInShed := false, resuming := if toffee then p.watch.resume else p.holdResume } }
  if s.sys.fwEver then
    pwrMod (fun p => { p with domains := setBit p.domains 86 true, tick := false }) (toPower 5 p.cur s1)
  else startAgain s1

/-- The calendar of a face is checked: the slots of a lane whose crumb fails are in force as PARKED (R22, R362). -/
def calendarCheck (f : Nat) (s : State) : State :=
  let bad := s.badCalCrumbs (s.faceAt f).active.toNat f
  if bad.isEmpty then s
  else
    let s1 := forEach bad (fun i t => crumbError 1 f i { t with calMem := t.calMem.reject i }) s
    let s2 := s1.faceMod f (fun x => { x with crumbFail := bad.foldl (fun m i => setBit m (i % 8) true) 0 })
    let s3 := resource s (lanesOf f) s2
    pwrMod (fun p => { p with wakeRec := { p.wakeRec with calFail := setBit p.wakeRec.calFail f true } }) s3

/-- The client table is checked: the 16 clients of a crumb that fails are inactive (R22, R362). -/
def clientCheck (s : State) : State :=
  let bad := (List.range 64).filter (fun i => !s.cliMem.ok i)
  let s1 := forEach bad (fun i t =>
    forEach ((List.range 16).map (16 * i + ·)) (fun c t => t.clientMod c (fun k =>
      { k with entry := List.replicate 16 0, liveE := 0, liveW := 0 }))
      (crumbError 2 0 i { t with cliMem := t.cliMem.reject i })) s
  pwrMod (fun p => { p with wakeRec := { p.wakeRec with clientFail := u8 bad.length } }) s1

/-- The loop state is checked when an enabled loop is taken into use (R291, R362): every crumb after a loss of
retention. -/
def loopCheck (s : State) : State :=
  let taken (m : Nat) : Bool := !s.loopCrumbOk m
    && [2 * m, 2 * m + 1].any (fun n => (s.loopAt n).on && (s.loopAt n).st != 5)
  let bad := if s.pwr.retLost then List.range 96 else (List.range 96).filter taken
  pwrMod (fun p => { p with wakeRec := { p.wakeRec with loopFail := u8 bad.length } }) (forEach bad loopCrumbFail s)

/-- Firmware that does not pass its load digest is loaded again, and the mailbox starts again (R362, R391). -/
def firmwareCheck (s0 : State) : State :=
  let s := fwSeen s0
  if s0.fwIntact && !s.pwr.retLost then s
  else
    mbxInit 1 { s with
      sys := { s.sys with fwRun := false, fwSrc := 0, fwVer := 0, fwLoad := none, flashNext := 0, restartDue := false }
      pwr := { s.pwr with wakeRec := { s.pwr.wakeRec with fwReload := true } } }

/-- The stream banks on a wake: a new epoch, and cleared after a loss, or else in use after the wake sweep (R200, R201,
R206). -/
def streamCheck (s : State) : State :=
  let t := streamsKept (epochNext s)
  if t.streams.ready then strMod (fun e => { e with wakeSweep := true }) t else t

/-! ### Blocks that start again, R345, R352 -/

/-- The receive side of a lane after a wake: WAIT_SIGNAL, with the short first assertion of signal detect where its bank
header is valid (R352, R355). -/
def laneWakeRx (l : Nat) (s : State) : State :=
  toWait l (s.rxMod l (fun r => { r with fastDetect := hdrValid (s.bankRead l 0) }))

/-- A lane after a wake (R352): its transmitter powers up, and in a resume wake goes on to DATA; a lane that was started
waits for its signal. -/
def laneWake (resume : Bool) (l : Nat) (s : State) : State :=
  if (s.rxAt l).st = .parked ∨ s.txOn l = false then s
  else
    let s1 := txPowerUp l (resume && Tab.get 0 s.pwr.txWas l == TxSt.data.code) s
    if resume && bitOf s.pwr.laneOn l then laneWakeRx l s1 else s1

/-- A loop resumes its mode: OPEN at once, CLOSED when its input is valid (R352). -/
def Loop.wake (l : Loop) : Loop :=
  if l.st = 1 then
    match (getField (l.w 31) 22 2).toNat with
    | 2 => l.toOpen
    | 3 => { l with resume := true }
    | _ => l
  else l

/-- An output that entered SAFE at the entry is released (R302, R352). -/
def Bias.wake (b : Bias) : Bias := if b.st = .safe ∧ b.bySleep then b.drive b.releaseLevel else b

/-- Outputs are released and loops resume their modes (R345, R352). -/
def coresWake (s : State) : State :=
  forEach s.loops (fun n t => t.loopMod n Loop.wake) (forEach s.outs (fun n t => t.biasMod n Bias.wake) s)

/-- CAL_COMMIT_FAIL with status HOLD for a switch that the sleep abandoned (R158). -/
def abandonedReport (f : Nat) (s : State) : State :=
  if (s.faceAt f).abandoned then raise 0x8502 [u8 f, Status.hold.code] (s.faceMod f (fun x => { x with abandoned := false }))
  else s

/-- Every window starts again from zero with its SEQ kept (R427). -/
def windowsRestart (s : State) : State :=
  (s.dma.wins.map (·.1)).foldl (fun t i => t.winMod i (fun w => { w with octets := 0, frames := 0 })) s

/-- The transmit shadow and the counters of each lane are checked at its restore: a lane that fails has its defaults (R362). -/
def shadowCheck (s : State) : State :=
  let m := s.pwr.shadowBad
  let s1 := forEach (allLanes.filter (fun l => bitOf m l)) laneDefaults s
  pwrMod (fun p => { p with shadowBad := 0, wakeRec := { p.wakeRec with txDefault := p.wakeRec.txDefault ||| m } }) s1

/-- The retained domains are up, the crossing FIFOs of their regions centred (R18): the checks of R362, then the blocks
start by a resume wake or a plain wake (R352); host quads whose ports are lost stay off (R211). -/
def wakeDomainsUp (s : State) : State :=
  let s1 := pwrMod (fun p => { p with domains := p.domBefore }) { s with skew := { s.skew with fifo := [] } }
  let s2 := if s1.pwr.retLost then hostQuads (banksLost s1) else s1
  let s3 := firmwareCheck (shadowCheck s2)
  let s4 := streamCheck (loopCheck (clientCheck (calendarCheck 1 (calendarCheck 0 s3))))
  let s5 := toPower 1 0 (madcPower 1 (madcPower 0 (windowsRestart s4)))
  let s6 := forEach [0, 1] (fun f t => if t.icingOn f then icToSearch f t else t) s5
  let s7 := forEach allLanes (laneWake s.pwr.resuming) s6
  let s8 := if s.pwr.resuming then coresWake s7 else s7
  let s9 := pwrMod (fun p => { p with laneOn := 0xFFFF, retLost := false, wakeDue := true })
    (abandonedReport 1 (abandonedReport 0 (execEnd .interrupted s8)))
  wakeEvent (if s9.sys.fwRun then moveClock s9 else s9)

/-! ### A handshake that is undone, R345 -/

/-- The state whose code is recorded (R82). -/
def txOfCode (c : Byte) : TxSt :=
  match c.toNat with
  | 1 => .quiet
  | 2 => .icingOnly
  | 3 => .data
  | 4 => .pattern
  | 5 => .fault
  | _ => .hiz

/-- A lane returns to what it did before the handshake, with no LANE_DOWN bit; a fault that came meanwhile stays. -/
def laneRestart (l : Nat) (s : State) : State :=
  let st := txOfCode (Tab.get 0 s.pwr.txWas l)
  let t := s.txAt l
  let fault := t.latched || (s.faceAt (faceOf l)).faultIn
  let s0 := s.txMod l (fun t => { t with shed := false })
  let s1 := if st = .hiz then s0
    else if fault then s0.txMod l (fun t => { Tx.enter .fault t with latched := true })
    else s0.txMod l (fun t =>
      let u := Tx.enter st t
      { u with gen := { u.gen with on := bitOf s.pwr.patOn l } })
  if bitOf s.pwr.laneOn l then toWait l s1 else s1

/-- Every block that stopped is restarted, and PWR_ENTRY_FAILED is raised (R345). -/
def handshakeUndo (s : State) : State :=
  let p := s.pwr
  let s1 := toPower 1 0 s
  let s2 := if 6 < p.step.toNat then coresWake s1 else s1
  let s3 := if 4 < p.step.toNat then forEach allLanes laneRestart s2 else s2
  raise 0x8E02 [p.refusal.step, p.refusal.cause, p.refusal.block]
    (pwrMod (fun p => { p with step := 0, restarting := false, laneOn := 0 }) s3)

/-! ### H0, R349 -/

/-- H0: the device sheds without asking any block; what a handshake has stopped stays stopped. -/
def holdShed (s : State) : State :=
  let awake := s.pwr.cur == 1
  let s := if s.pwr.cur == 5 then epochNext s else s
  let s1 := storeDrop (strobeDrop (calDrop (negotiationsEnd (if awake then sleepBegin s else s))))
  let s2 := if s.pwr.cur == 5 || s.stopped 4 then forEach allLanes txQuiet s1 else forEach allLanes laneShed s1
  let s3 := if s.pwr.cur == 5 || s.stopped 6 then s2 else coresStop s2
  let s4 := forEach (List.range 16) portStop (icingStop 1 (icingStop 0 s3))
  toPower 2 3 (pwrMod (fun p => { p with step := 0, restarting := false, roseInShed := false, tick := false }) s4)

/-- A low level of HOLD_N has been qualified with HOLD_EN set (R348, R354). -/
def holdActs (s : State) : State :=
  if s.pwr.cur = 1 ∨ s.pwr.cur = 5 ∨ (s.pwr.cur = 2 ∧ s.pwr.target ≠ 3) then holdShed s
  else if s.pwr.cur = 4 then tickEnd s
  else pwrMod (fun p => { p with roseInShed := false }) s

/-- HOLD_N is low and acted on (R348). -/
def State.held (s : State) : Bool := s.pwr.holdLow && s.pwr.holdEn

/-- HOLD is reached (R349); a rise in the shedding wakes the device at once (R351). -/
def holdReached (s : State) : State :=
  let rose := s.pwr.roseInShed
  let s1 := toPower 3 0 (domainsDown s)
  if rose then wakeStart 1 0 0 0 s1 else s1

/-- TOFFEE is entered (R344, R358, R262). -/
def toffeeEntered (s : State) : State :=
  watchRx .watchSleep (toPower 4 0 (pwrMod (fun p =>
    { p with ticks := 0, runs := [], tick := false, streamsOut := p.streamsOut || !p.watch.streamRet }) (domainsDown s)))

/-- OFF is entered (R338, R343): only PD 87 is powered, with the wake record, the front end and PWR_CTRL as after
reset; the straps sampled and the latch of GCTL_TIME_HI stay (R369, R430). -/
def offEntered (s : State) : State :=
  let c := (domainsDown s).cold
  { c with
    spi := s.spi
    sys := { c.sys with addr := s.sys.addr, boot := s.sys.boot, timeHi := s.sys.timeHi }
    pwr := { c.pwr with cur := 0, prev := s.pwr.cur, domains := onlyAlwaysOn, wakeRec := s.pwr.wakeRec } }

end Sys2Proof.Machine
end

