-- ==== Sys2Proof/Machine/Power.lean ====
section
/-! DEFINITION. The commands and events of the power controller: planned sleeps, lane park, Hold, waking and Toffee watch
(chapter 13, R262). -/

namespace Sys2Proof.Machine

/-! ### Planned sleeps, R344, R345 -/

/-- A park, which runs steps 2 and 4 of the handshake, is not complete (R346). -/
def State.parkRuns (s : State) : Bool := (List.range 16).any (fun l => (s.txAt l).parking)

/-- PWR_ENTER, R344: BUSY while a handshake runs, that of a park among them (DEDUCED, log entry 148). -/
def cmdPwrEnter (target : Byte) (s : State) : Cmd :=
  { range := target == 0 || target == 4
    run := fun _ =>
      if s.pwr.cur ≠ 1 ∨ s.parkRuns = true then deny .busy s
      else ok (toPower 2 (target.setWidth 4) (pwrMod (fun p => { p with step := 1, refusal := {}, restarting := false })
        (sleepBegin s))) }
def execPwrEnter (target : Byte) (s : State) : Result := parax 0x0E01 (cmdPwrEnter target) s

/-- A face has a frame on air. -/
def State.onAir (s : State) (f : Nat) : Bool := ((s.icingAt f).burst.map (fun b => !b.stopped)).getD false

/-- The block that refuses at a step of R344, with the BLOCK that PWR_ENTRY_FAILED names: a face, a lane, or 0xFF. -/
def State.refuses (s : State) (step : Nat) (block : Byte) : Bool :=
  match step with
  | 1 => block == 0xFF && s.cal.store.isSome
  | 2 => faceOk block && s.onAir block.toNat
  | 3 => block == 0xFF && s.streams.bulk.isSome
  | 4 => laneOk block && s.laneBusy block.toNat
  | 6 => block == 0xFF && ([0, 1, 2, 3].any (fun q => (s.coreAt q).test.isSome)
      || s.outs.any (fun n => (s.biasAt n).st == .range))
  | _ => false

/-- Some block refuses at a step. -/
def State.anyRefuses (s : State) (step : Nat) : Bool :=
  s.refuses step 0xFF || (List.range 16).any (fun k => s.refuses step (u8 k))

/-- A handshake waits for the answer at its step. -/
def State.asked (s : State) : Bool :=
  s.pwr.cur == 2 && s.pwr.target != 3 && s.pwr.step != 0 && !s.pwr.restarting

/-- What the block of a step does when it agrees (R344). -/
def agree (step : Nat) (s : State) : State :=
  match step with
  | 1 => calDrop s
  | 4 => forEach allLanes lanePlanned s
  | 6 => coresStop s
  | _ => s

/-- A refusal of the step in progress is recorded, and the blocks that stopped are to be restarted (R344, R345). -/
def handshakeRefused (cause block : Byte) (s : State) : State :=
  pwrMod (fun p => { p with refusal := { step := p.step.setWidth 8, cause := cause, block := block }, restarting := true }) s

/-- HANDSHAKE_STEP_ANSWER, R344: a block agrees unless its condition refuses. -/
def execHandshakeStepAnswer (agrees : Bool) (block : Byte) (s : State) : Result :=
  let k := s.pwr.step.toNat
  eventIf (s.asked && (if agrees then !s.anyRefuses k else s.refuses k block)) (fun s =>
    if agrees then pwrMod (fun p => { p with step := if p.step = 8 then 0 else p.step + 1 }) (agree k s)
    else handshakeRefused 0 block s) s

/-- HANDSHAKE_TIMEOUT, R344. -/
def execHandshakeTimeout (block : Byte) (s : State) : Result := eventIf s.asked (handshakeRefused 1 block) s

/-- HANDSHAKE_RESTART_DONE, R345. -/
def execHandshakeRestartDone (s : State) : Result :=
  eventIf (s.pwr.cur == 2 && s.pwr.target != 3 && s.pwr.restarting) handshakeUndo s

/-- SLEEP_ENTERED, R344: every step has agreed, and every transmitter has left DATA and PATTERN. -/
def execSleepEntered (s : State) : Result :=
  eventIf (s.pwr.cur == 2 && s.pwr.target != 3 && s.pwr.step == 0 && !s.pwr.restarting
      && (List.range 16).all (fun l => !(s.txAt l).st.steps))
    (fun s => if s.pwr.target = 4 then toffeeEntered s else offEntered s) s

/-! ### Lane park, R346, R347 -/

/-- A refusal of PWR_LANE_PARK: BUSY with STEP, CAUSE and BLOCK, recorded and without an event. -/
def parkRefused (step block : Byte) (s : State) : Reply :=
  (pwrMod (fun p => { p with refusal := { step := step, cause := 0, block := block } }) s, .busy, [step, 0, block])

/-- A lane parks (R346): its receive side at once, its transmitter on its way through QUIET where it sends (R83, log entry
148). -/
def laneParked (l : Nat) (s : State) : State :=
  let s1 := stretchEnd l (retentionSave l s)
  let s2 := (laneOff l s1).rxMod l (fun r => { r with st := .parked })
  let st := (s2.txAt l).st
  if st.steps then s2.txMod l (fun t => { t with next := none, shed := true, parking := true })
  else if st = .icingOnly then (txEnter l .quiet s2).txMod l (fun t => { t with shed := true, parking := true })
  else parkEnd l s2

/-- PWR_LANE_PARK with PARK, R346. -/
def cmdPwrLanePark (lane flags : Byte) (s : State) : Cmd :=
  let l := lane.toNat
  let f := faceOf l
  { range := laneOk lane && flagsOk 1 flags
    run := fun _ =>
      if s.pwr.cur ≠ 1 ∨ s.parkRuns = true then deny .busy s
      else if (s.rxAt l).st = .parked then ok s
      else
        let s1 := pwrMod (fun p => { p with refusal := {} }) s
        if s.icLane f = l ∧ (!bitOf flags 0 ∨ s.onAir f) then parkRefused 2 (u8 f) s1
        else if s.laneBusy l then parkRefused 4 lane s1
        else ok (laneParked l s1) }
def execPwrLanePark (lane flags : Byte) (s : State) : Result := parax 0x0E03 (cmdPwrLanePark lane flags) s

/-- A lane is powered again at the device's Tier, in Stretch mode at full rate (R120, R347). -/
def laneUnparked (l : Nat) (s : State) : State :=
  let s1 := (s.setPd (laneDomains l) true).rxMod l (fun r => { r with half := s.tierHalf && !r.stretch })
  let s2 := toWait l (txPowerUp l false (txRate l (s.tierHalf && !(s.txAt l).stretch) s1))
  raise 0x8E03 [u8 l, 0] s2

/-- PWR_LANE_PARK with UNPARK, R347. -/
def cmdPwrLaneUnpark (lane : Byte) (s : State) : Cmd :=
  { range := laneOk lane
    run := fun _ =>
      if s.pwr.cur ≠ 1 ∨ s.parkRuns = true then deny .busy s
      else if (s.rxAt lane.toNat).st ≠ .parked then ok s
      else ok (laneUnparked lane.toNat s) }
def execPwrLaneUnpark (lane : Byte) (s : State) : Result := parax 0x0E03 (cmdPwrLaneUnpark lane) s

/-! ### Status, R340, R342, R344, R363 -/

/-- PWR_STATUS. -/
def cmdPwrStatus (s : State) : Cmd :=
  let p := s.pwr
  { run := fun _ => okWith (le32 p.stateWord ++ [0, 1, 2].flatMap (fun w => le32 (p.domainWord w))
      ++ le32 (p.wakeRec.word 4) ++ le32 (p.wakeRec.word 5) ++ (Tab.read 0 p.log 0 16).flatMap le16
      ++ [p.refusal.step, p.refusal.cause, p.refusal.block]) s }
def execPwrStatus (s : State) : Result := parax 0x0E04 cmdPwrStatus s

/-- VALID of the wake record clears (R341, R363). -/
def recClear (s : State) : State := pwrMod (fun p => { p with wakeRec := { p.wakeRec with valid := false } }) s

/-- PWR_WAKE_RECORD. -/
def cmdPwrWakeRecord (flags : Byte) (s : State) : Cmd :=
  { range := flagsOk 1 flags
    run := fun _ => okWith s.pwr.wakeRec.bytes (if clearFlag flags then recClear s else s) }
def execPwrWakeRecord (flags : Byte) (s : State) : Result := parax 0x0E05 (cmdPwrWakeRecord flags) s

/-! ### Toffee watch, R357 to R360, R262 -/

/-- COMPARE of the request. -/
def compareOf (b : Bytes) (k : Nat) : Compare :=
  let c := byteAt b (7 * k + 5)
  { input := byteAt b (7 * k), low := w16At b (7 * k + 1), high := w16At b (7 * k + 3), en := bitOf c 0, sense := bitOf c 1
    persist := getField c 2 4, avg := byteAt b (7 * k + 6) }

/-- An enabled compare is allowed (R357, R306). -/
def compareOk (madc : Byte) (b : Bytes) (k : Nat) : Bool :=
  let c := compareOf b k
  !c.en || (decide (c.input.toNat / 64 = madc.toNat) && decide (c.low.toNat ≤ 16383) && decide (c.high.toNat ≤ 16383)
    && decide (1 ≤ c.persist.toNat) && (byteAt b (7 * k + 5)).toNat < 64 && [1, 2, 4, 8, 16].contains c.avg.toNat)

/-- ΣAVG. -/
def avgSum (b : Bytes) : Nat := ((List.range 16).map (fun k => if (compareOf b k).en then (compareOf b k).avg.toNat else 0)).sum

/-- T_TICK of R358 in 64ths of a cycle of 28.22265625 GHz, of which 1,806,250 make 1 µs; `g` is the largest WATCH_GRADE
of the faces that watch. -/
def tTick (g : Option Nat) (avg : Nat) : Nat :=
  let adc := (2 + avg) * 2048 * 64
  270 * 1806250 + (match g with
    | some g => max (64 * 1806250 + 6 * 2 ^ g * 4096 * 64) adc
    | none => adc)

/-- The largest WATCH_GRADE of the faces that FLAGS lets watch. -/
def State.watchGrade (s : State) (flags : Byte) : Option Nat :=
  (([0, 1].filter (fun f => bitOf flags (1 + f))).map (fun f => (s.icingAt f).cfg.watchGrade.toNat)).max?

/-- PWR_WATCH_CONFIG, R357. -/
def cmdPwrWatchConfig (interval : W16) (flags watchMadc : Byte) (wakeAfter : W32) (compares : Bytes) (s : State) : Cmd :=
  { form := if compares.length = 112 then none else some .badLength
    range := within 1 10000 interval.toNat && flagsOk 4 flags && (decide (watchMadc.toNat ≤ 3) || watchMadc == 0xFF)
      && (List.range 16).all (compareOk watchMadc compares) && decide (avgSum compares ≤ 120)
      && decide (tTick (s.watchGrade flags) (avgSum compares) ≤ interval.toNat * 1806250000)
    run := fun _ => ok (pwrMod (fun p => { p with watch :=
      { interval := interval, streamRet := bitOf flags 0, icingE := bitOf flags 1, icingW := bitOf flags 2
        resume := bitOf flags 3, madc := watchMadc, wakeAfter := wakeAfter
        compares := Tab.ofList {} 0 ((List.range 16).map (compareOf compares)) } }) s) }
def execPwrWatchConfig (interval : W16) (flags watchMadc : Byte) (wakeAfter : W32) (compares : Bytes) (s : State) : Result :=
  parax 0x0E02 (cmdPwrWatchConfig interval flags watchMadc wakeAfter compares) s

/-- A tick may decide on a wake: the device is in TOFFEE with a tick in progress. -/
def State.ticking (s : State) : Bool := s.pwr.cur == 4 && s.pwr.tick && !s.held && !s.pwr.retLost

/-- The wake that the tick in progress owes: a compare, or the timer (R360). -/
def wakeOwed (s : State) : Option State :=
  match s.pwr.tripped with
  | some c => some (wakeStart 3 0 (BitVec.ofNat 4 c) 0 s)
  | none => if s.pwr.timerDue then some (wakeStart 4 0 0 0 s) else none

/-- Steps 1 to 5 of a tick (R358, R359); with no wake owed and no face that watches it ends at once. -/
def tickMade (codes : List (Byte × List (BitVec 14))) (s : State) : State :=
  let s1 := pwrMod (fun p => p.watch.enabled.foldl (Pwr.evalCompare codes) { p with ticks := p.ticks + 1 }) (tickOpen (tickEnd s))
  if s1.pwr.wakeDueNow || !s1.pwr.watch.faces.isEmpty then s1 else tickEnd s1

/-- TOFFEE_WATCH_TICK, R358: `codes` gives the MADC's conversions for each enabled compare. A tick that falls while a
frame is being received is not made; a wake that the tick before owes is made instead. -/
def execToffeeWatchTick (codes : List (Byte × List (BitVec 14))) (s : State) : Result :=
  eventIf (s.pwr.cur == 4 && !s.held && !s.pwr.retLost && s.pwr.watch.codesOk codes) (fun s =>
    match (if s.pwr.tick then wakeOwed s else none) with
    | some w => w
    | none => if s.pwr.tick && s.watchBusy then s else tickMade codes s) s

/-- WATCH_COMPARE_TRIP, R359, R360: the lowest compare that has tripped. -/
def execWatchCompareTrip (compare : BitVec 4) (s : State) : Result :=
  eventIf (s.ticking && s.pwr.tripped == some compare.toNat) (wakeStart 3 0 compare 0) s

/-- WATCH_WAKE_AFTER, R360: a compare that has tripped comes first. -/
def execWatchWakeAfter (s : State) : Result :=
  eventIf (s.ticking && s.pwr.tripped.isNone && s.pwr.timerDue) (wakeStart 4 0 0 0) s

/-- WAKE_RECEIVE, R262, R360: the tick goes on until the frame's wake (R262). -/
def execWakeReceive (face : BitVec 1) (dst : W16) (reason : Byte) (s : State) : Result :=
  eventIf (s.ticking && s.pwr.watch.face face.toNat && (dst == s.nodeAddr || dst == 0xFFFF)) (wakeStart 2 reason 0 face) s

/-! ### Hold and waking, R348 to R354 -/

/-- VDD_CORE_RETENTION_LOSS, R339: recorded in HOLD and TOFFEE; a watch tick in progress ends. -/
def execVddCoreRetentionLoss (s : State) : Result :=
  eventIf (s.pwr.cur == 3 || s.pwr.cur == 4) (fun s => tickEnd (pwrMod (fun p => { p with retLost := true }) s)) s

/-- HOLD_N_FALL, R348, R349, R354: in reset, and with HOLD_EN = 0 outside a Hold, the level alone is
noted. -/
def execHoldNFall (s : State) : Result :=
  let s1 := pwrMod (fun p => { p with holdLow := true }) s
  .next (if s.sys.inReset || s.pwr.holdLow then s1
    else if s.pwr.holdEn || (s.pwr.cur == 2 && s.pwr.target == 3) then holdActs s1
    else s1)

/-- HOLD_REACHED, R349, R351. -/
def execHoldReached (s : State) : Result := eventIf (s.pwr.cur == 2 && s.pwr.target == 3) holdReached s

/-- HOLD_N_RISE, R351, R354. -/
def execHoldNRise (s : State) : Result :=
  let s1 := pwrMod (fun p => { p with holdLow := false }) s
  .next (if s.sys.inReset || !s.pwr.holdLow then s1
    else if s.pwr.bringUpWaits then bringUp s1
    else if s.pwr.cur = 3 then wakeStart 1 0 0 0 s1
    else if s.pwr.cur = 2 ∧ s.pwr.target = 3 then pwrMod (fun p => { p with roseInShed := true }) s1
    else s1)

/-- WAKE_RSYN_LOCKED, R352, R353: `fast` is false for the full lock. -/
def execWakeRsynLocked (fast : Bool) (s : State) : Result :=
  eventIf (s.pwr.cur == 5 && !s.sys.rsynLock) (fun s =>
    pwrMod (fun p => { p with wakeRec := { p.wakeRec with slowClk := !fast } }) { s with sys := { s.sys with rsynLock := true } }) s

/-- WAKE_DOMAINS_UP, R352, R362. -/
def execWakeDomainsUp (s : State) : Result := eventIf (s.pwr.cur == 5 && s.sys.rsynLock) wakeDomainsUp s

/-! ### PWR_CTRL, R341, R343, R348, R364 -/

/-- The power block takes a write: not in reset, and not in OFF. -/
def State.pwrTakes (s : State) : Bool := !s.sys.inReset && s.pwr.cur != 0

/-- PWR_CTRL.WAKE, R341. -/
def execPwrCtrlWake (s : State) : Result :=
  eventIf (s.pwr.cur == 4 && !s.pwr.holdLow) (wakeStart 5 0 0 0) s

/-- PWR_CTRL.REC_CLR, R341, R343. -/
def execPwrCtrlRecClr (s : State) : Result := eventIf s.pwrTakes recClear s

/-- A write of FIO_PIN (R341, R364): 1 moves the clock to FIO; 0 lets running firmware move it back. -/
def writeFioPin (v : Bool) (s : State) : State :=
  let s1 := pwrMod (fun p => { p with fioPin := v }) s
  if s.pwr.cur ≠ 1 ∧ s.pwr.cur ≠ 2 then s1
  else if v then { s1 with sys := { s1.sys with fio := true } }
  else if s.sys.fwRun && s.sys.tier != 0 then moveClock s1 else s1

/-- PWR_CTRL.FIO_PIN, R364. -/
def execPwrCtrlFioPin (value : Bool) (s : State) : Result := eventIf s.pwrTakes (writeFioPin value) s

/-- A write of HOLD_EN (R341, R348): a low level counts from the moment it becomes 1. -/
def writeHoldEn (v : Bool) (s : State) : State :=
  let s1 := pwrMod (fun p => { p with holdEn := v }) s
  if v && !s.pwr.holdEn && s.pwr.holdLow then holdActs s1 else s1

/-- PWR_CTRL.HOLD_EN, R348. -/
def execPwrCtrlHoldEn (value : Bool) (s : State) : Result := eventIf s.pwrTakes (writeHoldEn value) s

end Sys2Proof.Machine
end

