-- ==== Sys2Proof/Machine/Query.lean ====
section
/-! DEFINITION. Quick queries: the selection, the sources, and a result (R395, R396). -/

namespace Sys2Proof.Machine

/-- The number of indices of a source of R396. -/
def qryCount (src : Nat) : Nat :=
  match src with
  | 0x01 => 16
  | 0x02 => 16
  | 0x03 => 16
  | 0x04 => 256
  | 0x05 => 192
  | 0x06 => 192
  | 0x07 => 16
  | 0x08 => 1024
  | 0x09 => 2
  | 0x0A => 1
  | _ => 0

/-- The byte that reports a lane's receive side: state code, Stretch mode, half rate (R394, R396). -/
def Rx.byte (r : Rx) : Byte := r.st.code ||| (if r.stretch then 0x10 else 0) ||| (if r.half then 0x20 else 0)

/-- VALUE of a source, R396: at Tier 0 the lanes, which are not powered, read 0. -/
def State.qryValue (s : State) (src i : Nat) : W24 :=
  match src with
  | 0x01 => if s.sys.tier = 0 then 0 else (s.rxAt i).byte.setWidth 24
  | 0x02 => if s.sys.tier = 0 ∨ (s.rxAt i).st ≠ .locked then 0 else (s.rxAt i).quality.eqfMin.setWidth 24
  | 0x03 => if s.sys.tier = 0 then 0 else (s.txAt i).st.code.setWidth 24
  | 0x04 => (BitVec.ofInt 16 ((s.monAt i).fout / 256)).setWidth 24 ||| (if s.monValid i then 0x10000 else 0)
  | 0x05 => (codeOf ((s.loopAt i).w 30)).setWidth 24 ||| BitVec.ofNat 24 (65536 * (s.loopAt i).st)
  | 0x06 => (s.biasAt i).st.code.setWidth 24
  | 0x07 => (s.portAt i).st.code.setWidth 24
  | 0x08 => if (s.clientAt i).up then 1 else 0
  | 0x09 => (s.icingAt i).rx.st.code.setWidth 24
  | 0x0A => s.sys.tier.setWidth 24 ||| BitVec.ofNat 24 (4 * packBits ((List.range 16).map (fun l => !(s.rxAt l).half)))
  | _ => 0

/-- MODE, SOURCE and INDEX of a selection. -/
def selMode (v : W32) : Nat := (getField v 30 2).toNat
def selSource (v : W32) : Nat := (getField v 16 8).toNat
def selIndex (v : W32) : Nat := (getField v 0 12).toNat

/-- A selection names nothing, or its MODE is the reserved one (R395, R396). -/
def selBad (v : W32) : Bool := selMode v == 3 || decide (qryCount (selSource v) ≤ selIndex v)

/-- A write of QRY_SELn (R395): the result clears, SEQ goes on. -/
def qryWrite (n : Nat) (v : W32) (s : State) : State :=
  s.qryMod n (fun q =>
    { q with
      sel := v &&& 0xFFFF0FFF, ready := false, repeat_ := false, bad := selBad v, value := 0
      armed := selMode v == 1 && !selBad v })

/-- A read of QRY_RESn consumes READY (R395). -/
def qryConsume (n : Nat) (s : State) : State :=
  s.qryMod n (fun q => if q.ready then { q with ready := false, repeat_ := true } else q)

/-- A channel makes results. -/
def Qry.makes (q : Qry) : Bool := q.armed || (selMode q.sel == 2 && !q.bad)

/-- A new result, R395. -/
def qryResult (n : Nat) (s : State) : State :=
  let s1 := s.qryMod n (fun q =>
    { q with
      value := s.qryValue (selSource q.sel) (selIndex q.sel), ready := true, repeat_ := false, seq := q.seq + 1
      armed := false })
  { s1 with irq := { s1.irq with qry := true } }

/-- QRY_RESULT, R395, R397. -/
def execQryResult (n : BitVec 4) (s : State) : Result :=
  eventIf (s.dmaAwake && (s.qryAt n.toNat).makes) (qryResult n.toNat) s

end Sys2Proof.Machine
end

