-- ==== Sys2Proof/Machine/Stream.lean ====
section
/-! DEFINITION. The stream engine's commands and events (chapter 07), and a frame that ends on a dropped slot. -/

namespace Sys2Proof.Machine

/-- The engine's tables are powered and clear (R206). -/
def State.strReady (s : State) : Bool := s.streamsOn && s.streams.ready

/-- A stream index in range. -/
def indexOk (i : W32) : Bool := decide (i.toNat < 262144)

/-- STREAM_CONFIG, R189, R202. -/
def cmdStreamConfig (mask dropKey : Byte) (ledPeriod : W16) (s : State) : Cmd :=
  { ready := s.strReady
    range := flagsOk 2 mask && maskedOk mask 0 (isFlag dropKey) && maskedOk mask 1 (within 1 10000 ledPeriod.toNat)
    run := fun _ => ok (strMod (fun e =>
      { e with dropKey := masked mask 0 (dropKey == 1) e.dropKey, ledPeriod := masked mask 1 ledPeriod e.ledPeriod }) s) }
def execStreamConfig (mask dropKey : Byte) (ledPeriod : W16) (s : State) : Result :=
  parax 0x0701 (cmdStreamConfig mask dropKey ledPeriod) s

/-- STREAM_PROFILE_SET, R186. -/
def cmdStreamProfileSet (prof histLen : Byte) (resetMs ledDiff : W16) (s : State) : Cmd :=
  { ready := s.strReady
    range := decide (prof.toNat < 16) && within 2 64 histLen.toNat && decide (1 ≤ resetMs.toNat) && decide (1 ≤ ledDiff.toNat)
    run := fun _ => ok (strMod (fun e =>
      { e with profiles := Tab.set {} e.profiles prof.toNat { histLen := histLen, resetMs := resetMs, ledDiff := ledDiff } }) s) }
def execStreamProfileSet (prof histLen : Byte) (resetMs ledDiff : W16) (s : State) : Result :=
  parax 0x0702 (cmdStreamProfileSet prof histLen resetMs ledDiff) s

/-- STREAM_PROFILE_GET, R186. -/
def cmdStreamProfileGet (prof : Byte) (s : State) : Cmd :=
  let p := s.profAt prof.toNat
  { ready := s.strReady
    range := decide (prof.toNat < 16)
    run := fun _ => okWith ([p.histLen] ++ le16 p.resetMs ++ le16 p.ledDiff) s }
def execStreamProfileGet (prof : Byte) (s : State) : Result := parax 0x0703 (cmdStreamProfileGet prof) s

/-- STREAM_ADD, R191. -/
def cmdStreamAdd (index : W32) (context : Bytes) (s : State) : Cmd :=
  { form := if context.length = 56 then none else some .badLength
    ready := s.strReady
    range := indexOk index && imageOk context
    run := fun _ =>
      let r := addStreamCtx index.toNat context s
      (r.2, r.1, []) }
def execStreamAdd (index : W32) (context : Bytes) (s : State) : Result := parax 0x0704 (cmdStreamAdd index context) s

/-- STREAM_DELETE, R192. -/
def cmdStreamDelete (index : W32) (s : State) : Cmd :=
  { ready := s.strReady
    range := indexOk index
    run := fun _ => ok (deleteStream index.toNat s) }
def execStreamDelete (index : W32) (s : State) : Result := parax 0x0705 (cmdStreamDelete index) s

/-- STREAM_BULK_LOAD, R193, R418; once step 3 of a handshake has agreed no batch starts (R344). -/
def cmdStreamBulkLoad (dma : Byte) (addr count : W32) (s : State) : Cmd :=
  { ready := s.strReady && !s.stopped 3
    range := decide (dma.toNat < 16) && bufOk addr (64 * count.toNat)
    run := fun _ =>
      if !(s.chanAt dma.toNat).free || s.streams.bulk.isSome then deny .busy s
      else ok ((strMod (fun e => { e with bulk := some { dma := dma, addr := addr, count := count } }) s).chanMod dma.toNat
        (fun c => { c with st := .cmd, err := 0, resid := BitVec.ofNat 24 (64 * count.toNat), pending := false, xfer := none })) }
def execStreamBulkLoad (dma : Byte) (addr count : W32) (s : State) : Result :=
  parax 0x0706 (cmdStreamBulkLoad dma addr count) s

/-- BULK_LOAD_COMPLETE, R193, R417, R418. -/
def execBulkLoadComplete (s : State) : Result :=
  eventIf (s.strReady && s.streams.bulk.isSome) (fun s => match s.streams.bulk with
    | none => s
    | some b =>
      let r := bulkRecords b.count.toNat (winToSram b.addr.toNat) s
      let left := r.2.2.1
      let s1 := (strMod (fun e => { e with bulk := none }) r.2.2.2).chanMod b.dma.toNat (fun c =>
        { c with st := .idle, err := if left = 0 then 0 else 7, resid := BitVec.ofNat 24 (64 * left) })
      raise 0x8704 (leN 4 r.1 ++ leN 4 r.2.1) s1) s

/-- The position of a key of a stream in STREAM_READ. -/
def State.keyPlace (s : State) (x : Nat) (alt : Bool) : Nat :=
  match s.streams.keys.find? (fun p => (p.2.map (fun e => e.index.toNat == x && e.alt == alt)).getD false) with
  | some p => 2 ^ 31 + p.1 / 131072 * 2 ^ 19 + p.1 % 2 * 2 ^ 18 + p.1 % 131072 / 2
  | none => 0

/-- The image of a context as a command reads it: the bytes of an uncorrectable word are free values (R195). -/
def State.readImage (s : State) (x : Nat) : Bytes :=
  let b := (s.ctxAt x).image
  (List.range 56).map (fun i =>
    if s.streams.failed.contains (ctxWord x (i / 8)) then Config.eccByte s.free (56 * x + i) else byteAt b i)

/-- STREAM_READ, R185. -/
def cmdStreamRead (index : W32) (s : State) : Cmd :=
  let x := index.toNat
  let k := (s.ctxAt x).cfg
  { ready := s.strReady
    range := indexOk index
    run := fun _ =>
      let t := forEach (k.keys.map k.key) readBuckets (readCtx x s)
      okWith (t.readImage x ++ leN 4 (t.keyPlace x false) ++ leN 4 (t.keyPlace x true)) { t with free := t.free + 1 } }
def execStreamRead (index : W32) (s : State) : Result := parax 0x0707 (cmdStreamRead index) s

/-- The fields that a mask of STREAM_WRITE selects, taken from the image (R205). -/
def writeFields (m : W16) (n : Ctx) (p : Nat → Profile) (x : Ctx) : Ctx :=
  let c := x.cfg
  let c1 : CtxCfg := { c with
    funcEn := masked m 0 n.cfg.funcEn c.funcEn
    strip := masked m 1 n.cfg.strip c.strip
    htag := masked m 2 n.cfg.htag c.htag
    ledEn := masked m 3 n.cfg.ledEn c.ledEn
    alg := masked m 4 n.cfg.alg c.alg
    prof := masked m 5 n.cfg.prof c.prof
    member0 := masked m 7 n.cfg.member0 c.member0
    member1 := masked m 8 n.cfg.member1 c.member1 }
  { x with
    cfg := c1
    takeAny := x.takeAny || c1.alg != c.alg
    genSeq := masked m 6 n.genSeq x.genSeq
    history := if bitOf m 5 then x.history &&& histMask (p c1.prof.toNat).histLen.toNat else x.history }

/-- The selected fields of an image are in range. -/
def fieldsOk (m : W16) (b : Bytes) : Bool :=
  maskedOk m 5 (decide ((byteAt b 1).toNat < 16)) && maskedOk m 7 (decide (leAt b 0x10 2 / 1024 % 16 = 0))
    && maskedOk m 8 (decide (leAt b 0x12 2 / 1024 % 16 = 0)) && maskedOk m 9 (imageOk b)

/-- STREAM_WRITE, R205; ALL also rewrites a context whose stored key cannot be read (R195). -/
def cmdStreamWrite (index : W32) (fields : W16) (context : Bytes) (s : State) : Cmd :=
  let x := index.toNat
  { form := if context.length = 56 then none else some .badLength
    ready := s.strReady
    range := indexOk index && decide (fields.toNat < 1024) && fieldsOk fields context
    run := fun _ =>
      let k := s.ctxAt x
      let n := ctxOf context
      let s1 := readCtx x s
      if !k.valid then deny .notFound s1
      else if bitOf fields 9 then
        if !s1.keyBad x && n.cfg.keys.map n.cfg.key != k.cfg.keys.map k.cfg.key then deny .keyExists s1
        else ok (rewritten ((List.range 7).map (ctxWord x)) (s1.ctxMod x (fun _ =>
          { n with valid := true, takeAny := true, epoch := s.streams.epoch })))
      else ok (s1.ctxMod x (writeFields fields n s.profAt)) }
def execStreamWrite (index : W32) (fields : W16) (context : Bytes) (s : State) : Result :=
  parax 0x0708 (cmdStreamWrite index fields context) s

/-- STREAM_FIND, R187. -/
def cmdStreamFind (key : Bytes) (s : State) : Cmd :=
  { form := if key.length = 10 then none else some .badLength
    ready := s.strReady
    run := fun _ =>
      let t := readLookup key s
      match t.lookup key with
      | some x => okWith (leN 4 x) t
      | none => (t, .notFound, []) }
def execStreamFind (key : Bytes) (s : State) : Result := parax 0x0709 (cmdStreamFind key) s

/-- STREAM_TAKE_ANY, R200, R201: 0xFFFF_FFFF is ALL. -/
def cmdStreamTakeAny (index : W32) (s : State) : Cmd :=
  let x := index.toNat
  { ready := s.strReady
    range := index == 0xFFFFFFFF || indexOk index
    run := fun _ =>
      if index = 0xFFFFFFFF then
        if s.streams.sweepDue then deny .busy s
        else ok (strMod (fun e => { e with epoch := e.epoch + 1, sweepDue := true }) s)
      else if !(s.ctxAt x).valid then deny .notFound s
      else ok ((readCtx x s).ctxMod x (fun k => { k with takeAny := true })) }
def execStreamTakeAny (index : W32) (s : State) : Result := parax 0x070A (cmdStreamTakeAny index) s

/-- The valid contexts, ascending. -/
def State.validCtxs (s : State) : List Nat := (s.streams.ctxs.filter (fun p => p.2.valid)).map (·.1)

/-- Re-insert the keys that cannot be found (R195): how many, and the state. -/
def reinsert : List (Nat × Bool) → State → Nat × State
  | [], s => (0, s)
  | (x, a) :: r, s =>
    let key := (s.ctxAt x).cfg.key a
    let s1 := readLookup key s
    if (s1.lookup key).isSome then reinsert r s1
    else
      let i := insertKeys x [a] s1
      let q := reinsert r i.2
      (if i.1 then q.1 + 1 else q.1, q.2)

/-- STREAM_REKEY, R195. -/
def cmdStreamRekey (bank : Byte) (bucket : W16) (s : State) : Cmd :=
  let w := bank.toNat
  let b := bucket.toNat
  { ready := s.strReady && !s.stopped 3
    range := decide (w < 4)
    run := fun _ =>
      let s1 := rewritten [(w, b)] (strMod (fun e => { e with keys := e.keys.filter (fun p => posBucket p.1 != (w, b)) }) s)
      let s2 := forEach s1.validCtxs readCtx s1
      let ks := (s2.validCtxs.filter (fun x => !s2.keyBad x)).flatMap (fun x => (s2.ctxAt x).cfg.keys.map (fun a => (x, a)))
      let r := reinsert ks s2
      okWith (leN 4 r.1) r.2 }
def execStreamRekey (bank : Byte) (bucket : W16) (s : State) : Result := parax 0x070B (cmdStreamRekey bank bucket) s

/-- STREAM_COUNTERS_READ, R209. -/
def cmdStreamCountersRead (index : W32) (flags : Byte) (s : State) : Cmd :=
  let x := index.toNat
  { ready := s.strReady
    range := indexOk index && flagsOk 1 flags
    run := fun _ =>
      let t := readCtx x s
      let b := t.readImage x
      let s1 := { t with free := t.free + 1 }
      okWith (slice b 0x18 20 ++ slice b 0x16 1 ++ slice b 0x14 2 ++ slice b 4 2 ++ slice b 6 2)
        (if clearFlag flags then s1.ctxMod x (fun k =>
          { k with passed := 0, discarded := 0, outOfOrder := 0, rogue := 0, resets := 0, wrap := 0 }) else s1) }
def execStreamCountersRead (index : W32) (flags : Byte) (s : State) : Result :=
  parax 0x070C (cmdStreamCountersRead index flags) s

/-- LED_SIGNALLED of a context as a command reads it. -/
def State.ledBit (s : State) (x : Nat) : Bool := bitOf (byteAt (s.readImage x) 0x16) 5

/-- STREAM_LED_LIST, R202. -/
def cmdStreamLedList (first buf : W32) (s : State) : Cmd :=
  let t := forEach s.validCtxs (fun x t => readWords x [2] t) s
  let xs := t.validCtxs.filter (fun x => t.ledBit x && decide (first.toNat ≤ x))
  { ready := s.strReady
    range := respRange buf 4 (4 * xs.length)
    run := fun _ => respond buf (leN 4 xs.length) (xs.flatMap (leN 4)) { t with free := t.free + 1 } }
def execStreamLedList (first buf : W32) (s : State) : Result := parax 0x070D (cmdStreamLedList first buf) s

/-- The engine counters in the order of STREAM_ENGINE_STATUS. -/
def EngCnt.list (c : EngCnt) : List Nat :=
  [c.lookAdd.toNat, c.lookDrop.toNat, c.overAdd.toNat, c.overDrop.toNat, c.noAdd.toNat, c.noDrop.toNat, c.badIndex.toNat,
   c.tagless.toNat, c.eccDrop.toNat]
    ++ (List.range 4).map (fun b => (Tab.get 0 c.eccCorr b).toNat) ++ (List.range 4).map (fun b => (Tab.get 0 c.eccFatal b).toNat)

/-- STREAM_ENGINE_STATUS, R210. -/
def cmdStreamEngineStatus (s : State) : Cmd :=
  { run := fun _ => okWith (s.streams.cnt.list.flatMap (leN 8) ++ leN 4 s.validCtxs.length ++ leN 4 s.streams.keys.length
      ++ [s.streams.epoch, boolByte s.streams.ready]) s }
def execStreamEngineStatus (s : State) : Result := parax 0x070E cmdStreamEngineStatus s

/-! ### Frames -/

/-- The frames that are handled when a frame of the queue's direction is, and those left waiting: those ahead of it go
first, in arrival order (R204); a frame that is not in the queue arrives at its end (log entry 50). -/
def handled {α : Type} [DecidableEq α] (r : α) (q : List α) : List α × List α :=
  if r ∈ q then ((q.takeWhile (· ≠ r)) ++ [r], (q.dropWhile (· ≠ r)).drop 1) else (q ++ [r], [])

/-- ADD_STREAM_FRAME, R188, R196, R197: no lookup is made before the wake sweep has ended (R201); a frame named by its index
is handled at once where no earlier frame of its stream waits (R204). -/
def execAddStreamFrame (client : BitVec 10) (idType : BitVec 2) (ident : BitVec 18) (frame : Frame) (s : State) : Result :=
  let r : AddReq := { client := client.toNat, idType := idType.toNat, ident := ident.toNat, frame := frame.octets }
  let now := idType == 1 && !s.mustWait ident.toNat
  eventIf (s.clientsOn && !s.stopped 3 && !(s.streams.wakeSweep && !now)) (fun s =>
    if now then addStream r.client 1 r.ident r.frame s
    else
      let h := handled r s.streams.queueAdd
      forEach h.1 (fun r t => addStream r.client r.idType r.ident r.frame t) (strMod (fun e => { e with queueAdd := h.2 }) s)) s

/-- DROP_STREAM_FRAME, R189, R198 to R203. -/
def execDropStreamFrame (client : BitVec 10) (face : BitVec 1) (frame : Frame) (s : State) : Result :=
  let r : DropReq := { client := client.toNat, face := face.toNat, frame := frame.octets }
  eventIf (s.clientsOn && !s.stopped 3 && !s.streams.wakeSweep) (fun s =>
    let h := handled r s.streams.queueDrop
    forEach h.1 (fun r t => dropStream r.client r.face r.frame t) (strMod (fun e => { e with queueDrop := h.2 }) s)) s

/-- DROP_FRAME_COMPLETE: a frame ends on a receive slot in SYNC that drops to a client; a good one goes on to the stream
engine (R171, R175, R182). -/
def execDropFrameComplete (slot : BitVec 10) (frame : Frame) (s : State) : Result :=
  let k := slot.toNat
  eventIf ((s.dropClient k).isSome && !(s.rxSlotAt k).mismatch && (s.rxSlotAt k).sync)
    (fun s => match s.dropClient k with
      | some c =>
        let s1 := dropFrame c frame s
        if dropGood frame then enterDrop { client := c, face := k / 512, frame := frame.octets } s1 else s1
      | none => s) s

/-! ### Sweeps, periods and errors -/

/-- The words that the sweep and the latent-error test read of every context: CTRL to TIMER, and LED_ACC to EPOCH. -/
def sweepWords : List Nat := [0, 2]
/-- The word of a context that holds RESETS: read where a timer ends. -/
def resetsWord (x : Nat) : Nat × Nat := ctxWord x 5

/-- The words that a sweep reads of a context cannot be read. -/
def State.sweepBad (s : State) (x : Nat) : Bool := sweepWords.any (fun k => s.streams.failed.contains (ctxWord x k))

/-- The reads of a sweep over all contexts, valid or not; the valid ones that can be read. -/
def sweepRead (s : State) : List Nat × State :=
  let t := forEach (s.erredWords.filter (fun w => decide (65536 ≤ w.2) && sweepWords.contains ((w.2 - 65536) % 7))) readEcc s
  (s.validCtxs.filter (fun x => !t.sweepBad x), t)

/-- The reset timer of a context ends: RESETS counts where its word can be read (R195, R201). -/
def Ctx.timerEnd (count : Bool) (x : Ctx) : Ctx :=
  let x1 := { x with timer := 0, takeAny := true }
  if count then x1.incResets else x1

/-- The visit of one context by the sweep of R201. -/
def Ctx.sweep (epoch : Byte) (count : Bool) (x : Ctx) : Ctx :=
  let x1 := if x.epoch = epoch then x else { x with takeAny := true, epoch := epoch }
  if x1.timer = 0 then x1
  else if x1.timer = 1 then x1.timerEnd count
  else { x1 with timer := x1.timer - 1 }

/-- STREAM_MS_SWEEP, R201. -/
def execStreamMsSweep (s : State) : Result :=
  eventIf s.strReady (fun s =>
    let r := sweepRead s
    let t := forEach (r.1.filter (fun x => (s.ctxAt x).timer == 1)) (fun x t => readEcc (resetsWord x) t) r.2
    strMod (fun e => { e with sweepDue := false }) (forEach r.1 (fun x u =>
      u.ctxMod x (Ctx.sweep s.streams.epoch (!t.streams.failed.contains (resetsWord x)))) t)) s

/-- STREAM_RESET_TIMER_EXPIRY, R201: the last millisecond of a running timer; a context that cannot be read is left as it
is (R195). -/
def execStreamResetTimerExpiry (index : BitVec 18) (s : State) : Result :=
  let x := index.toNat
  eventIf (s.strReady && (s.ctxAt x).valid && (s.ctxAt x).timer == 1) (fun s =>
    let t := readWords x sweepWords s
    if t.sweepBad x then t
    else
      let u := readEcc (resetsWord x) t
      u.ctxMod x (Ctx.timerEnd (!u.streams.failed.contains (resetsWord x)))) s

/-- STREAM_WAKE_SWEEP_DONE, R201. -/
def execStreamWakeSweepDone (s : State) : Result :=
  eventIf (s.strReady && s.streams.wakeSweep) (fun s =>
    let r := sweepRead s
    strMod (fun e => { e with wakeSweep := false })
      (forEach r.1 (fun x t => t.ctxMod x (fun k => { k with takeAny := true, epoch := s.streams.epoch })) r.2)) s

/-- A context is tested for latent errors (R202). -/
def Ctx.ledTested (x : Ctx) : Bool := x.valid && x.cfg.dir && x.cfg.ledEn && x.cfg.funcEn

/-- A context exceeds its threshold. -/
def State.ledOver (s : State) (x : Nat) : Bool :=
  decide (((s.profAt (s.ctxAt x).cfg.prof.toNat).ledDiff.toNat : Int) < (s.ctxAt x).ledAcc)

/-- LED_PERIOD_END, R202. -/
def execLedPeriodEnd (s : State) : Result :=
  eventIf s.strReady (fun s =>
    let r := sweepRead s
    let xs := r.1.filter (fun x => (s.ctxAt x).ledTested)
    let new := xs.filter (fun x => s.ledOver x && !(s.ctxAt x).ledSig)
    let s1 := forEach xs (fun x t => t.ctxMod x (fun k => { k with ledSig := s.ledOver x, ledAcc := 0 })) r.2
    if new.isEmpty then s1
    else raise 0x8701 (leN 4 new.length ++ [u8 (min 32 new.length)] ++ (new.take 32).flatMap (leN 4)) s1) s

/-- A word takes an upset: a second one makes it uncorrectable. -/
def upsetWord (u : (Nat × Nat) × Bool) (s : State) : State :=
  strMod (fun e => { e with
    upset := e.upset.filter (fun p => p.1 != u.1) ++ [(u.1, u.2 || (e.upset.lookup u.1).isSome)] }) s

/-- STREAM_SCRUB: the words that have taken an upset, and the scrubber's read of its next word (R194, R195; log entry
112). -/
def execStreamScrub (bank : BitVec 2) (word : BitVec 19) (upsets : List (BitVec 2 × BitVec 19 × Bool)) (s : State) :
    Result :=
  eventIf s.strReady (fun s =>
    readEcc (bank.toNat, word.toNat) (forEach upsets (fun u t => upsetWord ((u.1.toNat, u.2.1.toNat), u.2.2) t) s)) s

/-- STREAM_TABLE_CLEAR_DONE, R206. -/
def execStreamTableClearDone (s : State) : Result :=
  eventIf (s.streamsOn && !s.streams.ready) (fun s =>
    let s1 := strMod (fun e => { e with ready := true, lost := false, ctxs := [], keys := [], failed := [], upset := [] }) s
    if s.streams.lost then raise 0x8705 [] s1 else s1) s

end Sys2Proof.Machine
end

