-- ==== Sys2Proof/Machine/Stretch.lean ====
section
/-! DEFINITION. The Stretch mode commands and the bit-table exchange (chapter 04, R94 to R118); the hand-over between
modes is in Machine/Negotiation.lean. -/

namespace Sys2Proof.Machine

/-- STRETCH_CONFIG, R100, R103, R104, R109, R116. -/
def cmdStretchConfig (lane mask margin marginMin probeCount rms capHoldoff flags : Byte) (s : State) : Cmd :=
  { range := laneOk lane && flagsOk 6 mask && maskedOk mask 0 (decide (margin.toNat ≤ 36))
      && maskedOk mask 1 (decide (marginMin.toNat ≤ 24)) && maskedOk mask 2 (decide (probeCount.toNat ≤ 3))
      && maskedOk mask 3 (within 16 40 rms.toNat) && maskedOk mask 4 (decide (capHoldoff.toNat ≤ 15))
      && maskedOk mask 5 (flagsOk 2 flags)
    run := fun _ => ok (s.stretchMod lane.toNat (fun x =>
      { x with
        margin := masked mask 0 margin x.margin
        marginMin := masked mask 1 marginMin x.marginMin
        probe := masked mask 2 probeCount x.probe
        rms := masked mask 3 rms x.rms
        capHold := masked mask 4 capHoldoff x.capHold
        raiseEn := masked mask 5 (bitOf flags 0) x.raiseEn
        accept := masked mask 5 (bitOf flags 1) x.accept })) }
def execStretchConfig (lane mask margin marginMin probeCount rms capHoldoff flags : Byte) (s : State) : Result :=
  parax 0x0301 (cmdStretchConfig lane mask margin marginMin probeCount rms capHoldoff flags) s

/-- A lane's receive side uses Stretch mode in one of the states of R107 and R116 in which a table can be sent. -/
def State.tableState (s : State) (l : Nat) : Bool :=
  let r := s.rxAt l
  r.stretch && (decide (r.st = .mlsdTrain) || decide (r.st = .locked))

/-- STRETCH_RELOAD, R116. -/
def cmdStretchReload (lane : Byte) (s : State) : Cmd :=
  let l := lane.toNat
  { ready := s.rxOn (l % 16)
    range := laneOk lane
    run := fun _ =>
      if s.far1608 (faceOf l) then deny .notSupported s
      else if (s.rxAt l).stretch ∧ (s.rxAt l).st = .locked then ok (s.stretchMod l (fun x => { x with reload := true }))
      else deny .busy s }
def execStretchReload (lane : Byte) (s : State) : Result := parax 0x0304 (cmdStretchReload lane) s

/-- The code of a phase in STRETCH_STATUS. -/
def StPhase.code : StPhase → Byte
  | .none => 0 | .probe => 1 | .loading => 2 | .exchange => 3 | .countdown => 4 | .data => 5

/-- The lane slots of a lane whose ACTIVE entry is not PARKED and whose Stretch mask bit is set: MASKED_ENTRY (R111). -/
def State.stretchMasked (s : State) (l : Nat) : List Nat :=
  (List.range 64).filter (fun j =>
    bitOf (s.maskAt l).stretch j && entKind (s.activeEntry (faceOf l) (64 * (l % 8) + j)) != 0)

/-- STRETCH_STATUS. -/
def cmdStretchStatus (lane : Byte) (s : State) : Cmd :=
  let l := lane.toNat
  let x := s.stretchAt l
  let sOf (t : Option BitTable) : Byte := (t.map (fun t => u8 t.slots)).getD 0
  let idOf (t : Option BitTable) : Byte := (t.map (·.id)).getD 0
  let m := s.stretchMasked l
  { range := laneOk lane
    run := fun _ => okWith ([x.phase.code, sOf x.rxTab, sOf x.txTab, idOf x.rxTab, idOf x.txTab] ++ leInt 2 x.predMargin
      ++ le64 (s.maskAt l).stretch ++ le32 x.mismatch ++ le32 x.lateSwitch ++ [u8 m.length] ++ m.map u8) s }
def execStretchStatus (lane : Byte) (s : State) : Result := parax 0x0305 (cmdStretchStatus lane) s

/-- STRETCH_TABLE_READ, R118. -/
def cmdStretchTableRead (lane : Byte) (buf : W32) (s : State) : Cmd :=
  { range := laneOk lane && respRange buf 0 512
    run := fun _ => respond buf [] (s.bankRead lane.toNat 9 ++ s.bankRead lane.toNat 10) s }
def execStretchTableRead (lane : Byte) (buf : W32) (s : State) : Result := parax 0x0306 (cmdStretchTableRead lane buf) s

/-- The entries that STRETCH_TABLE_WRITE accepts for `slots` slots (R107). -/
def hostTableOk (slots : Nat) (es : Bytes) : Bool :=
  within 4 64 slots && es.all (fun x => decide (entryBits x ≤ 6)) && decide (92480 * slots ≤ 5600 * (es.map entryBits).sum)

/-- STRETCH_TABLE_WRITE, R106 to R108; a LOCKED lane whose direction may not change its table yet answers BUSY (R116; DESIGN
CHOICE, log entry 143). -/
def cmdStretchTableWrite (lane slots : Byte) (buf : W32) (data : Bytes) (s : State) : Cmd :=
  let l := lane.toNat
  let es := bufData buf 255 data s
  { form := bufForm buf 6 255 data.length
    ready := s.rxOn (l % 16)
    range := laneOk lane && bufRange buf 255 && hostTableOk slots.toNat es
    run := fun _ =>
      if s.far1608 (faceOf l) then deny .notSupported s
      else if !s.tableState l || (s.stretchAt l).rxNext.isSome then deny .busy s
      else if (s.rxAt l).st = .locked ∧ ¬ (s.stretchAt l).mayChange slots.toNat then deny .busy s
      else if s.icLacks (faceOf l) 2 then deny .full s
      else ok (startExchange l (tableOf 0 slots.toNat es) (s.bufRead buf 255)) }
def execStretchTableWrite (lane slots : Byte) (buf : W32) (data : Bytes) (s : State) : Result :=
  parax 0x0307 (cmdStretchTableWrite lane slots buf data) s

/-- The SNR record as STRETCH_SNR_READ returns it: snr(n), then m(n), for n = 1 to 255 (R117). -/
def Stretch.snrBytes (x : Stretch) : Bytes :=
  (List.range 255).flatMap (fun i => le16 (x.snr.getD i 0) ++ leInt 2 (clampInt (-32768) 32767 (x.margins.getD i 0)))

/-- STRETCH_SNR_READ, R117. -/
def cmdStretchSnrRead (lane : Byte) (buf : W32) (s : State) : Cmd :=
  { range := laneOk lane && respRange buf 0 1020
    run := fun _ =>
      if (s.rxAt lane.toNat).stretch then respond buf [] (s.stretchAt lane.toNat).snrBytes s else deny .busy s }
def execStretchSnrRead (lane : Byte) (buf : W32) (s : State) : Result := parax 0x0308 (cmdStretchSnrRead lane buf) s

/-! ### Probing, loading and the receiver's side of the exchange, R103 to R108 -/

/-- The receiver abandons its pending table (R108): STRETCH_FAIL with EXCHANGE; without an active table the lane starts
again at AGC. -/
def abandonTable (l : Nat) (s : State) : State :=
  let x := s.stretchAt l
  let s1 := stretchFail l 1 (s.stretchMod l (fun x =>
    { x with rxNext := none, acked := false, count := 0, phase := if x.rxTab.isSome then .data else .none }))
  if x.rxTab.isNone ∧ (s.rxAt l).st = .mlsdTrain then acqRetry l s1 else s1

/-- A table is built from the SNR values and sent, or the direction has too little capacity: STRETCH_FAIL, and a retry is
counted (R104, R105, R116). A LOCKED lane keeps its table and goes on (DEDUCED, log entry 124), and warns where the new
table cannot keep the active S. -/
def buildTable (l : Nat) (snr : List W16) (s : State) : State :=
  let x := s.stretchAt l
  let vals := snr.map (fun v => (v.toNat : Int))
  let new := loadTable (64 * (x.margin.toNat : Int)) 64 vals
  let keeps := (x.rxTab.map (fun act => decide (act.slots ≤ (new.map (·.slots)).getD 0))).getD true
  let ms := (x.rxTab.map (·.margins vals)).getD []
  let s1 := saveSnr l snr (s.stretchMod l (fun x => { x with measured := snr, reload := false }))
  let s2 := if (s.rxAt l).st = .locked ∧ keeps = false then raise 0x8306 ([u8 l] ++ leInt 2 (minMargin ms)) s1 else s1
  match new with
  | none => (if (s.rxAt l).st = .mlsdTrain then acqRetry l else countRetry l) (stretchFail l 0 s2)
  | some t => startExchange l t s2

/-- The pilot symbols of a measurement: PROBE_COUNT (R103). -/
def Stretch.probeCount (x : Stretch) : Nat := 4096 * 2 ^ x.probe.toNat

/-- A reload may change the table now (R116). -/
def Stretch.reloadNow (x : Stretch) (snr : List W16) : Bool :=
  match loadTable (64 * (x.margin.toNat : Int)) 64 (snr.map (fun v => (v.toNat : Int))) with
  | some t => x.mayChange t.slots
  | none => x.calm

/-- PROBE_MEASURE_DONE, R103 to R106: PROBE_COUNT pilot symbols are measured, in MLSD_TRAIN or for a reload in LOCKED. The
table is built in zero time, so the phase LOADING is never seen. -/
def execProbeMeasureDone (lane : BitVec 4) (probe : ProbeMeas) (s : State) : Result :=
  let l := lane.toNat
  let x := s.stretchAt l
  let r := s.rxAt l
  let snr := probe.sums.map (probeSnr probe.symbols)
  eventIf (r.stretch && x.rxNext.isNone && decide (probe.symbols = x.probeCount) &&
      (decide (r.st = .mlsdTrain) || (decide (r.st = .locked) && x.reload && x.reloadNow snr)))
    (buildTable l snr) s

/-- TABLE_ACK_RECEIVE, R108. -/
def execTableAckReceive (face : BitVec 1) (tableId txLane : Byte) (s : State) : Result :=
  let mine := (lanesOf face.toNat).filter (fun l =>
    s.farLane l == txLane.toNat % 16 && ((s.stretchAt l).rxNext.map (·.id)) == some tableId)
  eventIf (!mine.isEmpty) (forEach mine (fun l t =>
    t.stretchMod l (fun x => { x with acked := true, phase := if x.count = 0 then .countdown else x.phase }))) s

/-- TABLE_NAK_RECEIVE, R108: the check that failed has no further effect here. -/
def execTableNakReceive (face : BitVec 1) (tableId txLane _check : Byte) (s : State) : Result :=
  let mine := (lanesOf face.toNat).filter (fun l =>
    s.farLane l == txLane.toNat % 16 && ((s.stretchAt l).rxNext.map (·.id)) == some tableId)
  eventIf (!mine.isEmpty) (forEach mine abandonTable) s

/-- TABLE_ACK_TIMEOUT, R108: at most three resends, each at the next grade (R251). -/
def execTableAckTimeout (lane : BitVec 4) (s : State) : Result :=
  let l := lane.toNat
  let x := s.stretchAt l
  eventIf (x.rxNext.isSome && !x.acked && x.count == 0) (fun s =>
    if x.sends < 4 then
      sendSegments l (.after x.sentGrade)
        (s.stretchMod l (fun x => { x with sends := x.sends + 1 }))
    else abandonTable l s) s

/-- COUNTDOWN_WAIT_TIMEOUT, R108. -/
def execCountdownWaitTimeout (lane : BitVec 4) (s : State) : Result :=
  let l := lane.toNat
  let x := s.stretchAt l
  eventIf (x.rxNext.isSome && x.acked && x.count == 0) (abandonTable l) s

/-- COUNTDOWN_DETECT, R109: 3, 2, 1 for C3, C2, C1. A countdown without a pending table counts once: its later variants
have a lower number. -/
def execCountdownDetect (lane : BitVec 4) (variant : BitVec 2) (s : State) : Result :=
  let l := lane.toNat
  let x := s.stretchAt l
  eventIf (s.tableState l && variant != 0) (fun s =>
    if x.rxNext.isNone then
      let goesOn := decide (variant.toNat < x.count.toNat)
      s.stretchMod l (fun x =>
        { x with mismatch := if goesOn then x.mismatch else wrapAdd x.mismatch 1, count := if variant = 1 then 0 else variant })
    else if x.count = 0 then s.stretchMod l (fun x => { x with count := variant, phase := .countdown })
    else s) s

/-! ### The transmitter's side, R107, R109, R111 to R114 -/

/-- STRETCH_CAPACITY_DROP (R114): the new S, the MFC of the multiframe that begins at the switch boundary and its time.
The boundary is the third after the first one at least CAP_HOLDOFF from now at which no table is counted down; where in its multiframe the answer falls
is not in the model, so the last boundary counted and the microseconds within it are free values (log entry 15). -/
def capacityDrop (l newS : Nat) (s : State) : State :=
  let h := (s.stretchAt l).capHold.toNat
  let d := if h = 0 then (0, s) else s.drawBelow 2
  let n := max (4 + h * 10000000 / 131072 + d.1) (((s.stretchAt l).countTx.getD 0) + 3)
  let u := d.2.drawBelow 15
  raise 0x8305 ([u8 l, u8 newS, u8 ((s.faceAt (faceOf l)).mf + n)]
    ++ le64 (s.pwr.time + BitVec.ofNat 64 ((n - 1) * 131072 / 10000 + u.1))) u.2

/-- Both segments of a table for a lane's transmitter are present: the checks of R107 and the answer. A further table that
is accepted while one is counted down waits for its turn (DEDUCED, log entry 108). -/
def tableArrived (f l : Nat) (src : W16) (a b : Bytes) (s : State) : State :=
  let x := s.stretchAt l
  let tid := byteAt a 0
  let ack (t : State) := icQueue f 0x11 src [tid, byteAt a 1] t
  let s1 := s.stretchMod l (fun x => { x with segs := [] })
  let c := tableCheck a b (s.txAt l).stretch
  let t := tableOf tid (byteAt a 3).toNat (a.drop 12 ++ b.drop 12)
  if c ≠ 0 then icQueue f 0x12 src [tid, byteAt a 1, u8 c] s1
  else if (x.txTab.map (·.id)) = some tid then ack s1
  else if x.countTx.isSome ∧ (x.txNext.map (·.id)) = some tid then ack s1
  else
    let later := x.countTx.isSome
    let s2 := ack (s1.stretchMod l (fun x => if later then { x with txLater := some t } else { x with txNext := some t }))
    let before := if later then (x.txNext.map (·.slots)).getD x.oldS else x.oldS
    if t.slots < before then capacityDrop l t.slots s2 else s2

/-- BIT_TABLE_RECEIVE, R106, R107, R257. -/
def execBitTableReceive (face : BitVec 1) (src : W16) (record : Bytes) (s : State) : Result :=
  let f := face.toNat
  let l := (byteAt record 1).toNat % 16
  let k := (byteAt record 2).toNat % 2
  eventIf (s.icingOn f && !inToffee s) (fun s =>
    let s1 := s.stretchMod l (fun x => { x with segs := x.segs.filter (fun p => p.1 != k) ++ [(k, record)] })
    let seg (j : Nat) : Option Bytes := ((s1.stretchAt l).segs.find? (fun p => p.1 == j)).map (·.2)
    match seg 0, seg 1 with
    | some a, some b => tableArrived f l src a b s1
    | _, _ => s1) s

/-- SEGMENT_PARTNER_TIMEOUT, R107. -/
def execSegmentPartnerTimeout (lane : BitVec 4) (s : State) : Result :=
  let l := lane.toNat
  eventIf (!(s.stretchAt l).segs.isEmpty) (fun s => s.stretchMod l (fun x => { x with segs := [] })) s

/-- COUNTDOWN_START, R109: the multiframe that begins carries C3. -/
def execCountdownStart (lane : BitVec 4) (s : State) : Result :=
  let l := lane.toNat
  let x := s.stretchAt l
  eventIf ((s.txAt l).stretch && x.txNext.isSome && x.countTx.isNone) (fun s =>
    s.stretchMod l (fun x => { x with countTx := some 3 })) s

/-- The clients with an ADD entry in force in a lane's slots from `lo` on, each once, ascending. -/
def State.clientsFrom (s : State) (l lo : Nat) : List Nat :=
  let cs := (((List.range 64).filter (fun j => decide (lo ≤ j))).map (fun j => s.slotEntry (slotOf l j))).filter
    (fun e => entKind e == 2) |>.map entClient
  (List.range 1024).filter (fun c => cs.contains c)

/-- The transmitter takes its pending table into use; the slots above a smaller S are masked (R109, R111, R113), and the
overhead of the multiframe that begins is formed with the new S (R134, R144). DESIGN CHOICE (log entry 144):
STRETCH_TABLE_CHANGE is raised at every switch of the transmit table, one that masks no slot too. -/
def txTableSwitch (l : Nat) (t : BitTable) (s : State) : State :=
  let x := s.stretchAt l
  let old := x.oldS
  let lost := if t.slots < old then s.clientsFrom l t.slots else []
  let s1 := s.stretchMod l (fun x => { x with txTab := some t, txNext := x.txLater, txLater := none, countTx := none })
  let s2 := if t.slots < old then laneStretchMask l t.slots s1 else s1
  raise 0x8304 ([u8 l, u8 old, u8 t.slots, u8 lost.length] ++ lost.flatMap (leN 2)) (reframe l (saveTables l s2))

/-- STRETCH_TABLE_SWITCH, R109, R111: `transmit` names the side that switches. A lane with its checker on stays in
MLSD_TRAIN (R89). -/
def execStretchTableSwitch (lane : BitVec 4) (transmit : Bool) (s : State) : Result :=
  let l := lane.toNat
  let x := s.stretchAt l
  if transmit then
    eventIf ((s.txAt l).stretch && x.countTx == some 0 && x.txNext.isSome) (fun s => match x.txNext with
      | some t => txTableSwitch l t s
      | none => s) s
  else
    eventIf (s.tableState l && x.count != 0 && x.rxNext.isSome) (fun s => match x.rxNext with
      | some t =>
        let s1 := rxTableSwitch l t s
        if (s.rxAt l).st = .mlsdTrain then trained l s1 else s1
      | none => s) s

end Sys2Proof.Machine
end

