-- ==== Sys2Proof/Machine/System.lean ====
section
/-! DEFINITION. Resets, supplies, clocks, bring-up, firmware and the commands of the system group (chapters 13, 14
and 18). -/

namespace Sys2Proof.Machine

/-! ### Resets and supplies -/

/-- RESET_N_FALL, R448: it ends every state, and what a breach of the supply order has left undefined (R442). -/
def execResetNFall (s : State) : Result :=
  let c := resetEnter s
  .next { c with sys := { c.sys with resetLow := true }, pwr := { c.pwr with supplyOk := true } }

/-- RESET_N_RISE, R372: with VDD_AON below its threshold nothing starts until it has risen (R443, log entry 158). -/
def execResetNRise (addr : BitVec 6) (boot : BitVec 2) (s : State) : Result :=
  if !s.sys.resetLow then s.still
  else if s.sys.aonDown then .next { s with sys := { s.sys with resetLow := false } }
  else .next (resetLeave addr boot s)

/-- VDD_AON_POWER_ON_RESET, R339, R443: as a fall of RESET_N; the timestamp and EPOCH start again with VDD_AON
(R336, R391). -/
def execVddAonPowerOnReset (s : State) : Result :=
  let s1 := resetEnter s
  .next { s1 with
    sys := { s1.sys with aonDown := true }, mbx := { s1.mbx with epoch := 0 }, pwr := { s1.pwr with time := 0 } }

/-- VDD_AON_RESTART, R339: while RESET_N is low it keeps the device in reset. With a rail, REFCLK or a strap outside R372
the behaviour is undefined from here until RESET_N is held low: every other command but a fall of RESET_N then stops. -/
def execVddAonRestart (addr : BitVec 6) (boot : BitVec 2) (conditionsMet : Bool) (s : State) : Result :=
  let up := { s with sys := { s.sys with aonDown := false } }
  if !(s.sys.inReset && s.sys.aonDown) then s.still
  else if s.sys.resetLow then .next up
  else if conditionsMet && s.pwr.supplyOk then .next (resetLeave addr boot s)
  else .next { up with pwr := { up.pwr with supplyOk := false } }

/-! ### Clocks -/

/-- RSYN_LOCK, R16: in a bring-up, or after a loss, when the Tier 0 domains start again (R458); every region starts
with its crossing FIFO centred (R18). -/
def execRsynLock (s : State) : Result :=
  eventIf (s.pwr.cur == 1 && !s.sys.rsynLock) (fun s =>
    let s1 := { s with sys := { s.sys with rsynLock := true }, skew := { s.skew with fifo := [] } }
    if s1.sys.tier0 then tier0Domains s1 else s1) s

/-- RSYN_LOSS, R16, R458. -/
def execRsynLoss (s : State) : Result :=
  eventIf (s.sys.rsynLock && (s.pwr.cur == 1 || (s.pwr.cur == 2 && s.pwr.target != 3))) rsynLost s

/-! ### Bring-up -/

/-- TIER0_REACHED, R372: it waits for RSYN lock. -/
def execTier0Reached (s : State) : Result :=
  eventIf (s.pwr.cur == 1 && s.sys.rsynLock && !s.sys.tier0) tier0Start s

/-- FLASH_IMAGE_LOADED, R374, R376. -/
def execFlashImageLoaded (answered : Bool) (image : Bytes) (s : State) : Result :=
  eventIf (s.flashBusy && s.pwr.cur == 1) (flashImage answered image) s

/-- FIRMWARE_START, R379: with HOLD_AT_T0 = 0 as read when the firmware started. -/
def execFirmwareStart (s : State) : Result :=
  eventIf (s.sys.fwRun && s.sys.rsynLock && s.sys.tier == 0 && !s.sys.heldAtT0 && s.pwr.cur == 1) tierOne s

/-- The MCP runs: the device is awake and its mailbox has been initialised, or firmware is being loaded again. -/
def State.mcpUp (s : State) : Bool :=
  (s.mbxReady || s.sys.restartDue) && (s.pwr.cur == 1 || (s.pwr.cur == 2 && s.pwr.target != 3))

/-- MCP_WATCHDOG_EXPIRY, R398: the watchdog is the firmware's. -/
def execMcpWatchdogExpiry (s : State) : Result := eventIf (s.sys.fwRun && s.mcpUp) mcpRestart s

/-- MCP_EXCEPTION, R398. -/
def execMcpException (s : State) : Result := eventIf s.mcpUp mcpRestart s

/-! ### Commands of the system group -/

/-- SYS_IDENTITY, R373, R406; FW_VER reads 0 while the boot ROM answers. -/
def cmdSysIdentity (s : State) : Cmd :=
  { run := fun _ => okWith (le16 0x6416 ++ [0xC2, gradeCode.setWidth 8] ++ le32 (if s.sys.fwRun then s.sys.fwVer else 0)
      ++ le16 0x0302 ++ le16 s.nodeAddr ++ le64 Config.dieId ++ [s.sys.addr.setWidth 8, s.sys.boot.setWidth 8]) s }
def execSysIdentity (s : State) : Result := parax 0x0001 cmdSysIdentity s

/-- PWR of the resync digest: PWR_STATE.CUR and PREV (R394). -/
def State.pwrByte (s : State) : Byte := (s.pwr.prev ++ s.pwr.cur).setWidth 8

/-- SYS_STATUS, R406. -/
def cmdSysStatus (s : State) : Cmd :=
  { run := fun _ => okWith ([s.sys.tier.setWidth 8, s.pwrByte, if s.sys.fwRun then s.sys.fwSrc.setWidth 8 else 0, s.sys.bootErr]
      ++ le32 s.skew.word ++ le32 s.irqStat ++ le64 s.pwr.time) s }
def execSysStatus (s : State) : Result := parax 0x0002 cmdSysStatus s

/-- TIER_SET, R379 to R381: at Tier 0 it has the firmware do what R379 says. -/
def cmdTierSet (target force : Byte) (lanes : W16) (s : State) : Cmd :=
  { ready := s.sys.tier != 0 || s.sys.fwRun
    range := within 1 2 target.toNat && isFlag force
    run := fun _ =>
      if s.sys.tier = 0 ∧ target ≠ 1 then deny .notReady s else
      let s1 := if s.sys.tier = 0 then tierOne s else setTier (target.setWidth 2) s
      ok (tierBegin (force == 1) lanes s1) }
def execTierSet (target force : Byte) (lanes : W16) (s : State) : Result := parax 0x0004 (cmdTierSet target force lanes) s

/-! ### Host firmware load, R377 -/

/-- No host load is permitted: under BOOT 0b00, and once firmware runs. -/
def State.loadAllowed (s : State) : Bool := s.sys.boot != 0 && !s.sys.fwRun

/-- FW_LOAD_BEGIN, R377. -/
def cmdFwLoadBegin (length : W32) (s : State) : Cmd :=
  { ready := s.loadAllowed
    run := fun _ =>
      if s.flashBusy then deny .busy s
      else ok { s with sys := { s.sys with fwLoad := some { length := length, got := [] } } } }
def execFwLoadBegin (length : W32) (s : State) : Result := parax 0x0010 (cmdFwLoadBegin length) s

/-- A segment lies in the host area with a length that R377 allows. -/
def segOk (offset segLen : W32) : Bool :=
  segLen.toNat % 256 == 0 && decide (segLen.toNat ≤ 196608) && decide (0x108000 ≤ offset.toNat)
    && decide (offset.toNat + segLen.toNat ≤ 0x140000)

/-- FW_LOAD_SEG, R377. -/
def cmdFwLoadSeg (offset segLen : W32) (s : State) : Cmd :=
  { ready := s.loadAllowed
    range := segOk offset segLen
    run := fun _ =>
      if s.flashBusy then deny .busy s
      else match s.sys.fwLoad with
      | none => deny .notReady s
      | some f =>
        if 256 + f.length.toNat < f.got.length + segLen.toNat then deny .range s
        else
          let g : FwLoad := { f with got := f.got ++ s.mcpRead (winToSram offset.toNat) segLen.toNat }
          let s1 := s.afterRead (winToSram offset.toNat) segLen.toNat
          ok { s1 with sys := { s1.sys with fwLoad := some g } } }
def execFwLoadSeg (offset segLen : W32) (s : State) : Result := parax 0x0011 (cmdFwLoadSeg offset segLen) s

/-- FW_LOAD_END, R376, R377: the payload of BOOT_FAIL holds the code (R405). -/
def cmdFwLoadEnd (s : State) : Cmd :=
  { ready := s.loadAllowed
    run := fun _ =>
      if s.flashBusy then deny .busy s
      else match s.sys.fwLoad with
      | none => deny .notReady s
      | some f =>
        let s1 := { s with sys := { s.sys with fwLoad := none } }
        let whole := decide (f.got.length = 256 + f.length.toNat) && decide (imgLength f.got = f.length.toNat)
        match imageBad f.got whole with
        | none => ok (startFirmware 3 f.got s1)
        | some code => (bootFail 3 code s1, .bootFail, [code]) }
def execFwLoadEnd (s : State) : Result := parax 0x0012 cmdFwLoadEnd s

/-! ### The always-on clock -/

/-- A counter is assigned to the management clock (R420). -/
def State.countsCycles (s : State) : Bool := s.dma.cnts.any (fun p => p.2.source == 0x70)

/-- One LPO count of the always-on timestamp, which runs unless VDD_AON is down (R336); while the device is awake a
counter assigned to MGMT_CYCLES counts the clock cycles of that time, at most 512, their number being free (log entry
7). -/
def idleTick (s : State) : State :=
  if s.sys.aonDown then s
  else
    let s1 := { s with pwr := { s.pwr with time := s.pwr.time + 1 } }
    if s1.dmaAwake && s1.countsCycles then
      let d := s1.drawBelow 513
      countSource 0x70 0 d.1 d.2
    else s1

end Sys2Proof.Machine
end

