-- ==== Sys2Proof/Machine/ParaxTable.lean ====
section
/-! DEFINITION. The opcodes and request layouts of the Parax commands (R401, R406): what a message in a slot of the
host-to-device ring asks for. -/

namespace Sys2Proof.Machine

/-- A request layout: the bytes of its fixed fields, whether DATA follows them, and the command. -/
structure Layout where
  fixed : Nat
  data  : Bool := false
  cmd   : State → Cmd

/-- PWR_LANE_PARK by its ACTION (R346, R347); another ACTION, or a reserved flag, is out of range. -/
def cmdLanePark (lane action flags : Byte) (s : State) : Cmd :=
  if action = 0 then cmdPwrLanePark lane flags s
  else
    let c := cmdPwrLaneUnpark lane s
    { c with range := c.range && action == 1 && flagsOk 1 flags }

/-- Group 0x00. -/
def layoutSystem (n : Nat) (p : Bytes) : Option Layout :=
  match n with
  | 0x01 => some ⟨0, false, cmdSysIdentity⟩
  | 0x02 => some ⟨0, false, cmdSysStatus⟩
  | 0x04 => some ⟨4, false, cmdTierSet (byteAt p 0) (byteAt p 1) (w16At p 2)⟩
  | 0x05 => some ⟨3, false, cmdTierReply (byteAt p 0) (byteAt p 1) (byteAt p 2)⟩
  | 0x10 => some ⟨4, false, cmdFwLoadBegin (w32At p 0)⟩
  | 0x11 => some ⟨8, false, cmdFwLoadSeg (w32At p 0) (w32At p 4)⟩
  | 0x12 => some ⟨0, false, cmdFwLoadEnd⟩
  | _ => none

/-- Group 0x01. -/
def layoutLane (n : Nat) (p : Bytes) : Option Layout :=
  match n with
  | 0x01 => some ⟨15, false, cmdLaneConfig (byteAt p 0) (w16At p 1) (byteAt p 3) (byteAt p 4) (byteAt p 5)
      (byteAt p 6) (byteAt p 7) (byteAt p 8) (w16At p 9) (byteAt p 11) (byteAt p 12) (byteAt p 13) (byteAt p 14)⟩
  | 0x02 => some ⟨1, false, cmdLaneStart (byteAt p 0)⟩
  | 0x03 => some ⟨1, false, cmdLaneStop (byteAt p 0)⟩
  | 0x04 => some ⟨1, false, cmdLaneStatus (byteAt p 0)⟩
  | 0x05 => some ⟨1, false, cmdLaneQuality (byteAt p 0)⟩
  | 0x06 => some ⟨9, false, cmdLaneAdapt (byteAt p 0) (byteAt p 1) (byteAt p 2) (slice p 3 3) (slice p 6 3)⟩
  | 0x07 => some ⟨7, false, cmdLaneCoefRead (byteAt p 0) (byteAt p 1) (byteAt p 2) (w32At p 3)⟩
  | 0x08 => some ⟨7, true, cmdLaneCoefWrite (byteAt p 0) (byteAt p 1) (byteAt p 2) (w32At p 3) (p.drop 7)⟩
  | 0x09 => some ⟨2, false, cmdLaneCoefCopy (byteAt p 0) (byteAt p 1)⟩
  | 0x0A => some ⟨1, false, cmdLaneEchoSearch (byteAt p 0)⟩
  | 0x0B => some ⟨9, false, cmdLaneCaptureArm (byteAt p 0) (byteAt p 1) (byteAt p 2) (w32At p 3) (byteAt p 7)
      (byteAt p 8)⟩
  | 0x0C => some ⟨6, false, cmdLaneCaptureFetch (byteAt p 0) (byteAt p 1) (w32At p 2)⟩
  | _ => none

/-- Group 0x02. -/
def layoutTx (n : Nat) (p : Bytes) : Option Layout :=
  match n with
  | 0x01 => some ⟨4, false, cmdTxConfig (byteAt p 0) (byteAt p 1) (byteAt p 2) (byteAt p 3)⟩
  | 0x02 => some ⟨2, false, cmdTxEnable (byteAt p 0) (byteAt p 1)⟩
  | 0x03 => some ⟨2, false, cmdTxSquelch (byteAt p 0) (byteAt p 1)⟩
  | 0x04 => some ⟨10, false, cmdTxFirSet (byteAt p 0) (slice p 1 9)⟩
  | 0x05 => some ⟨65, false, cmdTxPdWrite (byteAt p 0) (slice p 1 64)⟩
  | 0x06 => some ⟨1, false, cmdTxPdRead (byteAt p 0)⟩
  | 0x07 => some ⟨3, false, cmdTxPdTrain (byteAt p 0) (byteAt p 1) (byteAt p 2)⟩
  | 0x08 => some ⟨2, false, cmdTxSwing (byteAt p 0) (byteAt p 1)⟩
  | 0x09 => some ⟨4, false, cmdTxSkew (byteAt p 0) (byteAt p 1) (byteAt p 2) (byteAt p 3)⟩
  | 0x0A => some ⟨1, false, cmdTxStatus (byteAt p 0)⟩
  | 0x0B => some ⟨5, false, cmdTestGen (byteAt p 0) (byteAt p 1) (byteAt p 2) (byteAt p 3) (byteAt p 4)⟩
  | 0x0C => some ⟨3, false, cmdTestCheck (byteAt p 0) (byteAt p 1) (byteAt p 2)⟩
  | 0x0D => some ⟨2, false, cmdTestCheckRead (byteAt p 0) (byteAt p 1)⟩
  | 0x0E => some ⟨2, false, cmdLoopbackSet (byteAt p 0) (byteAt p 1)⟩
  | _ => none

/-- Group 0x03. -/
def layoutStretch (n : Nat) (p : Bytes) : Option Layout :=
  match n with
  | 0x01 => some ⟨8, false, cmdStretchConfig (byteAt p 0) (byteAt p 1) (byteAt p 2) (byteAt p 3) (byteAt p 4)
      (byteAt p 5) (byteAt p 6) (byteAt p 7)⟩
  | 0x02 => some ⟨1, false, cmdStretchMove true (byteAt p 0)⟩
  | 0x03 => some ⟨1, false, cmdStretchMove false (byteAt p 0)⟩
  | 0x04 => some ⟨1, false, cmdStretchReload (byteAt p 0)⟩
  | 0x05 => some ⟨1, false, cmdStretchStatus (byteAt p 0)⟩
  | 0x06 => some ⟨5, false, cmdStretchTableRead (byteAt p 0) (w32At p 1)⟩
  | 0x07 => some ⟨6, true, cmdStretchTableWrite (byteAt p 0) (byteAt p 1) (w32At p 2) (p.drop 6)⟩
  | 0x08 => some ⟨5, false, cmdStretchSnrRead (byteAt p 0) (w32At p 1)⟩
  | 0x09 => some ⟨3, false, cmdStretchReply (byteAt p 0) (byteAt p 1) (byteAt p 2)⟩
  | _ => none

/-- Group 0x04. -/
def layoutFrame (n : Nat) (p : Bytes) : Option Layout :=
  match n with
  | 0x01 => some ⟨4, false, cmdFecConfig (byteAt p 0) (byteAt p 1) (w16At p 2)⟩
  | 0x02 => some ⟨2, false, cmdFecCountersRead (byteAt p 0) (byteAt p 1)⟩
  | 0x03 => some ⟨1, false, cmdFrameStatus (byteAt p 0)⟩
  | 0x04 => some ⟨6, false, cmdFrameIdExpect (byteAt p 0) (byteAt p 1) (byteAt p 2) (w16At p 3) (byteAt p 5)⟩
  | 0x05 => some ⟨17, false, cmdFrameTraceSet (byteAt p 0) (slice p 1 16)⟩
  | 0x06 => some ⟨2, true, cmdFrameGccSend (byteAt p 0) (byteAt p 1) (p.drop 2)⟩
  | 0x07 => some ⟨6, false, cmdFrameGccRead (byteAt p 0) (byteAt p 1) (w32At p 2)⟩
  | _ => none

/-- Group 0x05. -/
def layoutCalendar (n : Nat) (p : Bytes) : Option Layout :=
  match n with
  | 0x01 => some ⟨7, true, cmdCalWrite (byteAt p 0) (w16At p 1) (w32At p 3) (p.drop 7)⟩
  | 0x02 => some ⟨10, false, cmdCalRead (byteAt p 0) (byteAt p 1) (w16At p 2) (w16At p 4) (w32At p 6)⟩
  | 0x03 => some ⟨1, false, cmdCalCopy (byteAt p 0)⟩
  | 0x04 => some ⟨3, false, cmdCalCommit (byteAt p 0) (byteAt p 1) (byteAt p 2)⟩
  | 0x05 => some ⟨1, false, cmdCalCancel (byteAt p 0)⟩
  | 0x06 => some ⟨5, false, cmdCalStatusCalendar (byteAt p 0) (w32At p 1)⟩
  | 0x07 => some ⟨9, false, cmdCalRouteRead (byteAt p 0) (w16At p 1) (w16At p 3) (w32At p 5)⟩
  | _ => none

/-- Group 0x06. -/
def layoutClient (n : Nat) (p : Bytes) : Option Layout :=
  match n with
  | 0x01 => some ⟨18, false, cmdClientSet (w16At p 0) (slice p 2 16)⟩
  | 0x02 => some ⟨2, false, cmdClientGet (w16At p 0)⟩
  | 0x03 => some ⟨6, false, cmdClientStatus (w16At p 0) (w32At p 2)⟩
  | 0x04 => some ⟨3, false, cmdClientCountersRead (w16At p 0) (byteAt p 2)⟩
  | 0x05 => some ⟨3, false, cmdThroughStatus (w16At p 0) (byteAt p 2)⟩
  | _ => none

/-- Group 0x07. -/
def layoutStream (n : Nat) (p : Bytes) : Option Layout :=
  match n with
  | 0x01 => some ⟨4, false, cmdStreamConfig (byteAt p 0) (byteAt p 1) (w16At p 2)⟩
  | 0x02 => some ⟨6, false, cmdStreamProfileSet (byteAt p 0) (byteAt p 1) (w16At p 2) (w16At p 4)⟩
  | 0x03 => some ⟨1, false, cmdStreamProfileGet (byteAt p 0)⟩
  | 0x04 => some ⟨60, false, cmdStreamAdd (w32At p 0) (slice p 4 56)⟩
  | 0x05 => some ⟨4, false, cmdStreamDelete (w32At p 0)⟩
  | 0x06 => some ⟨9, false, cmdStreamBulkLoad (byteAt p 0) (w32At p 1) (w32At p 5)⟩
  | 0x07 => some ⟨4, false, cmdStreamRead (w32At p 0)⟩
  | 0x08 => some ⟨62, false, cmdStreamWrite (w32At p 0) (w16At p 4) (slice p 6 56)⟩
  | 0x09 => some ⟨10, false, cmdStreamFind (slice p 0 10)⟩
  | 0x0A => some ⟨4, false, cmdStreamTakeAny (w32At p 0)⟩
  | 0x0B => some ⟨3, false, cmdStreamRekey (byteAt p 0) (w16At p 1)⟩
  | 0x0C => some ⟨5, false, cmdStreamCountersRead (w32At p 0) (byteAt p 4)⟩
  | 0x0D => some ⟨8, false, cmdStreamLedList (w32At p 0) (w32At p 4)⟩
  | 0x0E => some ⟨0, false, cmdStreamEngineStatus⟩
  | _ => none

/-- Group 0x08. -/
def layoutHost (n : Nat) (p : Bytes) : Option Layout :=
  match n with
  | 0x01 => some ⟨2, false, cmdHostConfig (w16At p 0)⟩
  | 0x02 => some ⟨6, false, cmdHostPortConfig (byteAt p 0) (byteAt p 1) (byteAt p 2) (byteAt p 3) (byteAt p 4)
      (byteAt p 5)⟩
  | 0x03 => some ⟨10, false, cmdHostLaneEq (byteAt p 0) (byteAt p 1) (slice p 2 5) (byteAt p 7) (byteAt p 8)
      (byteAt p 9)⟩
  | 0x04 => some ⟨1, false, cmdHostPortStatus (byteAt p 0)⟩
  | 0x05 => some ⟨2, false, cmdHostLoopbackSet (byteAt p 0) (byteAt p 1)⟩
  | 0x06 => some ⟨6, false, cmdHostCountersRead (byteAt p 0) (byteAt p 1) (w32At p 2)⟩
  | _ => none

/-- Group 0x09. -/
def layoutIcing (n : Nat) (p : Bytes) : Option Layout :=
  match n with
  | 0x01 => some ⟨25, false, cmdIcingConfig (byteAt p 0) (w32At p 1) (w16At p 5) (byteAt p 7) (byteAt p 8)
      (byteAt p 9) (byteAt p 10) (byteAt p 11) (byteAt p 12) (byteAt p 13) (w16At p 14) (byteAt p 16) (byteAt p
        17) (byteAt p 18) (byteAt p 19) (byteAt p 20) (w16At p 21) (byteAt p 23) (byteAt p 24)⟩
  | 0x02 => some ⟨1, false, cmdIcingStatus (byteAt p 0)⟩
  | 0x03 => some ⟨1, false, cmdIcingNeighbours (byteAt p 0)⟩
  | 0x04 => some ⟨3, false, cmdIcingPin (byteAt p 0) (w16At p 1)⟩
  | 0x05 => some ⟨3, false, cmdIcingLaneMap (byteAt p 0) (byteAt p 1) (byteAt p 2)⟩
  | 0x06 => some ⟨3, false, cmdIcingLevelQuery (byteAt p 0) (w16At p 1)⟩
  | 0x07 => some ⟨5, true, cmdIcingMsgSend (byteAt p 0) (w16At p 1) (byteAt p 3) (byteAt p 4) (p.drop 5)⟩
  | 0x08 => some ⟨6, false, cmdIcingMsgRead (byteAt p 0) (byteAt p 1) (w32At p 2)⟩
  | 0x09 => some ⟨7, false, cmdIcingWakeSend (byteAt p 0) (w16At p 1) (byteAt p 3) (w16At p 4) (byteAt p 6)⟩
  | 0x0A => some ⟨2, false, cmdIcingCountersRead (byteAt p 0) (byteAt p 1)⟩
  | _ => none

/-- Group 0x0A. -/
def layoutLoop (n : Nat) (p : Bytes) : Option Layout :=
  match n with
  | 0x01 => some ⟨2, false, cmdLoopTemplateApply (byteAt p 0) (byteAt p 1)⟩
  | 0x02 => some ⟨8, true, cmdLoopWrite (byteAt p 0) (byteAt p 1) (byteAt p 2) (byteAt p 3) (w32At p 4) (p.drop 8)⟩
  | 0x03 => some ⟨1, false, cmdLoopRead (byteAt p 0)⟩
  | 0x04 => some ⟨19, false, cmdLoopMode (byteAt p 0) (byteAt p 1) (byteAt p 2) (w32At p 3) (w32At p 7) (w32At
      p 11) (w32At p 15)⟩
  | 0x05 => some ⟨6, false, cmdLoopTarget (byteAt p 0) (byteAt p 1) (w32At p 2)⟩
  | 0x06 => some ⟨2, false, cmdLoopStatus (byteAt p 0) (byteAt p 1)⟩
  | 0x07 => some ⟨18, false, cmdLoopTestStart (byteAt p 0) (byteAt p 1) (byteAt p 2) (byteAt p 3) (w32At p 4)
      (w32At p 8) (w16At p 12) (w16At p 14) (w16At p 16)⟩
  | 0x08 => some ⟨6, false, cmdLoopTestFetch (byteAt p 0) (byteAt p 1) (w32At p 2)⟩
  | 0x09 => some ⟨0, false, cmdLoopEngineStatus⟩
  | _ => none

/-- Group 0x0B. -/
def layoutBias (n : Nat) (p : Bytes) : Option Layout :=
  match n with
  | 0x01 => some ⟨20, false, cmdBiasConfig (byteAt p 0) (byteAt p 1) (slice p 2 16) (w16At p 18)⟩
  | 0x02 => some ⟨4, false, cmdBiasEnable (byteAt p 0) (byteAt p 1) (w16At p 2)⟩
  | 0x03 => some ⟨1, false, cmdBiasDisable (byteAt p 0)⟩
  | 0x04 => some ⟨3, false, cmdBiasCode (byteAt p 0) (w16At p 1)⟩
  | 0x05 => some ⟨2, false, cmdBiasSafe (byteAt p 0) (byteAt p 1)⟩
  | 0x06 => some ⟨2, false, cmdBiasRelease (byteAt p 0) (byteAt p 1)⟩
  | 0x07 => some ⟨2, false, cmdBiasStatus (byteAt p 0) (byteAt p 1)⟩
  | _ => none

/-- Group 0x0C. -/
def layoutMonitor (n : Nat) (p : Bytes) : Option Layout :=
  match n with
  | 0x01 => some ⟨11, false, cmdMonScanConfig (byteAt p 0) (w64At p 1) (byteAt p 9) (byteAt p 10)⟩
  | 0x02 => some ⟨2, false, cmdMonRefbuf (byteAt p 0) (byteAt p 1)⟩
  | 0x03 => some ⟨17, false, cmdMonFilterSet (byteAt p 0) (slice p 1 16)⟩
  | 0x04 => some ⟨1, false, cmdMonFilterGet (byteAt p 0)⟩
  | 0x05 => some ⟨1, false, cmdMonFilterSync (byteAt p 0)⟩
  | 0x06 => some ⟨6, false, cmdMonRead (byteAt p 0) (byteAt p 1) (w32At p 2)⟩
  | 0x07 => some ⟨2, false, cmdMonStatus (byteAt p 0) (byteAt p 1)⟩
  | _ => none

/-- Group 0x0D. -/
def layoutCalibration (n : Nat) (p : Bytes) : Option Layout :=
  match n with
  | 0x01 => some ⟨28, false, cmdCalRun (byteAt p 0) (byteAt p 1) (byteAt p 2) (slice p 3 24) (byteAt p 27)⟩
  | 0x02 => some ⟨2, false, cmdCalApply (byteAt p 0) (byteAt p 1)⟩
  | 0x03 => some ⟨1, false, cmdCalDiscard (byteAt p 0)⟩
  | 0x04 => some ⟨4, false, cmdCalStatusCalibration (w32At p 0)⟩
  | 0x05 => some ⟨0, false, cmdCalLoad⟩
  | 0x06 => some ⟨39, false, cmdCalStore (w16At p 0) (w32At p 2) (byteAt p 6) (slice p 7 32)⟩
  | 0x07 => some ⟨11, false, cmdCalImageWrite (w16At p 0) (w32At p 2) (byteAt p 6) (w32At p 7)⟩
  | 0x08 => some ⟨5, false, cmdCalImageExport (byteAt p 0) (w32At p 1)⟩
  | _ => none

/-- Group 0x0E. -/
def layoutPower (n : Nat) (p : Bytes) : Option Layout :=
  match n with
  | 0x01 => some ⟨1, false, cmdPwrEnter (byteAt p 0)⟩
  | 0x02 => some ⟨120, false, cmdPwrWatchConfig (w16At p 0) (byteAt p 2) (byteAt p 3) (w32At p 4) (slice p 8 112)⟩
  | 0x03 => some ⟨3, false, cmdLanePark (byteAt p 0) (byteAt p 1) (byteAt p 2)⟩
  | 0x04 => some ⟨0, false, cmdPwrStatus⟩
  | 0x05 => some ⟨1, false, cmdPwrWakeRecord (byteAt p 0)⟩
  | _ => none

/-- Group 0x0F. -/
def layoutCounter (n : Nat) (p : Bytes) : Option Layout :=
  match n with
  | 0x01 => some ⟨7, false, cmdCntAssign (w16At p 0) (w16At p 2) (w16At p 4) (byteAt p 6)⟩
  | 0x02 => some ⟨5, false, cmdCntWindowConfig (byteAt p 0) (w16At p 1) (w16At p 3)⟩
  | 0x03 => some ⟨3, false, cmdCntWindowRead (byteAt p 0) (w16At p 1)⟩
  | _ => none

/-- The layout of an opcode and its command on a payload; none for an unknown opcode (R388). -/
def layoutOf (op : Nat) (p : Bytes) : Option Layout :=
  match op / 256 with
  | 0x00 => layoutSystem (op % 256) p
  | 0x01 => layoutLane (op % 256) p
  | 0x02 => layoutTx (op % 256) p
  | 0x03 => layoutStretch (op % 256) p
  | 0x04 => layoutFrame (op % 256) p
  | 0x05 => layoutCalendar (op % 256) p
  | 0x06 => layoutClient (op % 256) p
  | 0x07 => layoutStream (op % 256) p
  | 0x08 => layoutHost (op % 256) p
  | 0x09 => layoutIcing (op % 256) p
  | 0x0A => layoutLoop (op % 256) p
  | 0x0B => layoutBias (op % 256) p
  | 0x0C => layoutMonitor (op % 256) p
  | 0x0D => layoutCalibration (op % 256) p
  | 0x0E => layoutPower (op % 256) p
  | 0x0F => layoutCounter (op % 256) p
  | _ => none

/-- The command that a message asks for, R404 steps 1 to 3: a payload shorter than the fixed fields, or longer where
no DATA follows, has the wrong length. -/
def paraxCommand (op : Nat) (p : Bytes) (s : State) : Cmd :=
  match layoutOf op p with
  | none => { form := some .badOpcode, run := fun _ => deny .badOpcode s }
  | some l =>
    if p.length < l.fixed || (!l.data && p.length != l.fixed) then
      { form := some .badLength, run := fun _ => deny .badLength s }
    else l.cmd s

end Sys2Proof.Machine
end

