-- ==== Sys2Proof/Machine/Mailbox.lean ====
section
/-! DEFINITION. The mailbox at work: taking a command with its sequence number (R387 to R389), the resync digest (R394)
and writing an event (R390). -/

namespace Sys2Proof.Machine

/-! ### The resync digest, R394 -/

/-- The CRC of a calendar copy of a face: its eight crumbs in order. -/
def State.calCrc (s : State) (f c : Nat) : W16 :=
  crc16 ((List.range 8).flatMap (fun k => s.calMem.read (calCrumb c f k)))

/-- The four bytes of a face. -/
def State.faceDigest (s : State) (f : Nat) : Bytes :=
  let x := s.faceAt f
  [u8 (packBits [x.active == 1, x.pending.isSome]), u8 (x.pending.getD 0)] ++ le16 (s.icingAt f).far

/-- The digest of 224 bytes. -/
def State.digest (s : State) : Bytes :=
  let m := s.mbx
  slice (le16 m.epoch ++ le16 m.nextHseq ++ leN 2 m.evq.length ++ le16 m.evDropped
    ++ le32 (if s.sys.fwRun then s.sys.fwVer else 0) ++ [s.sys.tier.setWidth 8, s.pwrByte, 0, 0]
    ++ allLanes.map (fun l => (s.rxAt l).byte)
    ++ allLanes.map (fun l => (s.txAt l).st.code ||| (if (s.txAt l).looped then 8 else 0))
    ++ s.faceDigest 0 ++ s.faceDigest 1
    ++ [(0, 0), (0, 1), (1, 0), (1, 1)].flatMap (fun p => le16 (s.calCrc p.1 p.2))
    ++ le16 (crc16 ((List.range 64).flatMap s.cliMem.read)) ++ leN 2 s.activeClients.length
    ++ leN 4 s.validCtxs.length ++ [s.streams.epoch, boolByte s.strReady, 0, 0]
    ++ (List.range 16).map (fun p => (s.portAt p).st.code) ++ le32 s.irqStat
    ++ leN 72 (((List.range 192).map (fun n => (s.loopAt n).st * 8 ^ n)).sum)
    ++ leN 24 (packBits ((List.range 192).map (fun n => (s.biasAt n).st == .drive)))
    ++ le32 (s.pwr.wakeRec.word 0) ++ [(s.icingAt 0).rx.st.code, (s.icingAt 1).rx.st.code]) 0 224

/-- PARAX_RESYNC establishes NEXT_HSEQ and clears the repeat history (R389). -/
def resyncSeq (hseq : W16) (s : State) : State :=
  { s with mbx := { s.mbx with sync := true, nextHseq := hseq + 1, history := [], lastHseq := hseq } }

/-- PARAX_RESYNC, R394: EV_DROPPED counts afresh from here. -/
def cmdParaxResync (s : State) : Cmd :=
  { run := fun _ => okWith s.digest { s with mbx := { s.mbx with evDropped := 0 } } }

/-- PARAX_RESYNC as its row gives it: with HSEQ = NEXT_HSEQ (R393). -/
def execParaxResync (s : State) : Result := if s.mcpRuns then parax 0x0003 cmdParaxResync (resyncSeq s.mbx.nextHseq s) else s.still

/-! ### Commands, R386 to R389 -/

/-- A command in a slot, R386. -/
structure Msg where
  op      : W16
  hseq    : W16
  payload : Bytes
  deriving DecidableEq, Repr

/-- The message in a slot; none for a bad slot (R388). -/
def msgOf (b : Bytes) : Option Msg :=
  let n := (byteAt b 8).toNat
  let payload := slice b 16 n
  if 240 < n then none
  else if crc16 (slice b 0 14 ++ payload) ≠ w16At b 14 then none
  else if (byteAt b 0).toNat / 16 ≠ 3 ∨ (byteAt b 1).toNat % 4 ≠ 0 then none
  else some { op := w16At b 2, hseq := w16At b 4, payload := payload }

/-- The command of a message: PARAX_RESYNC, or one of the layouts. -/
def Msg.command (m : Msg) (s : State) : Cmd :=
  if m.op = 0x0003 then { cmdParaxResync s with form := if m.payload.isEmpty then none else some .badLength }
  else paraxCommand m.op.toNat m.payload s

/-- A command is executed: it answers, or it waits for its transfer (R387, R418). -/
def execute (m : Msg) (s : State) : State :=
  let r := (m.command s).reply m.op.toNat s
  if (m.command s).pends m.op.toNat s then
    { r.1 with mbx := { r.1.mbx with exec := r.1.mbx.exec.map (fun e => { e with hseq := some m.hseq }) } }
  else respondTo m.op m.hseq r.2.1.code r.2.2 (Reply.record m.op.toNat r)

/-- A command takes its place in sequence. -/
def inSequence (m : Msg) (s : State) : State :=
  { s with mbx := { s.mbx with sync := true, nextHseq := m.hseq + 1, lastHseq := m.hseq } }

/-- HSEQ handling, R389: the first row that applies. -/
def handle (m : Msg) (s : State) : State :=
  let x := s.mbx
  let d := (m.hseq - x.nextHseq).toNat
  if m.op = 0x0003 then execute m (resyncSeq m.hseq s)
  else if !x.sync then execute m (inSequence m s)
  else match x.history.find? (fun h => h.hseq == m.hseq) with
  | some h => writeMessage (msgFlags 1 true false) h.opcode h.hseq h.status h.payload s
  | none =>
    if d = 0 then execute m (inSequence m s)
    else if d < 32768 then execute m (inSequence m (raise 0x8009 (le16 x.nextHseq ++ le16 m.hseq) s))
    else writeMessage (msgFlags 1 false false) m.op m.hseq Status.stale.code [] s

/-- A slot of the host-to-device ring is consumed (R385, R397). -/
def consumeSlot (s : State) : State :=
  { s with
    mbx := { s.mbx with h2dHead := s.mbx.h2dHead + 1 }
    irq := { s.irq with h2dSpace := s.irq.h2dSpace || s.mbx.h2dFull } }

/-- The device takes the slot at the head: a bad one is consumed and reported (R388). -/
def commandTake (s : State) : State :=
  let k := s.mbx.h2dHead
  let b := s.mcpRead (h2dSlot k) 256
  let s1 := consumeSlot (s.afterRead (h2dSlot k) 256)
  match msgOf b with
  | none => raise 0x8008 [k.setWidth 8] s1
  | some m => handle m s1

/-- SYS_READY is still to be written: it is the first message after an initialisation (R391). -/
def Mbx.readyDue (m : Mbx) : Bool :=
  match m.evq with
  | e :: _ => e.op == 0x8001
  | [] => false

/-- MBX_COMMAND_TAKE, R387 to R389. -/
def execMbxCommandTake (s : State) : Result :=
  eventIf (s.mcpRuns && s.mbx.h2dAny && decide (1 ≤ s.mbx.d2hFree) && !s.mbx.readyDue) commandTake s

/-! ### Events, R390 -/

/-- The oldest event is written into the device-to-host ring. -/
def eventWrite (s : State) : State :=
  match s.mbx.evq with
  | [] => s
  | e :: r =>
    writeMessage (msgFlags 2 false s.mbx.dropped) e.op s.mbx.lastHseq 0 e.bytes
      { s with mbx := { s.mbx with evq := r, dropped := false } }

/-- EVENT_WRITE, R387, R390: only while two slots are free. -/
def execEventWrite (s : State) : Result :=
  eventIf (s.mcpAwake && !s.mbx.evq.isEmpty && decide (2 ≤ s.mbx.d2hFree)) eventWrite s

end Sys2Proof.Machine
end

