-- ==== Sys2Proof/Machine/Regs.lean ====
section
/-! DEFINITION. The directly mapped registers and the SRAM window: which blocks answer (R343, R432), what each address
reads (R428), what a read consumes and what a write does (R5), and the SPI port that carries them (R367 to R371). -/

namespace Sys2Proof.Machine

/-! ### Which blocks answer, R343, R432 -/

/-- An address lies between two addresses, the second excluded. -/
def inBlock (lo hi a : Nat) : Bool := decide (lo ≤ a) && decide (a < hi)

/-- Only the power block answers: OFF, HOLD, TOFFEE, ENTERING toward HOLD, and a planned entry once step 8 has agreed. -/
def State.restricted (s : State) : Bool :=
  s.asleep || (s.pwr.cur == 2 && (s.pwr.target == 3 || s.pwr.step == 0))

/-- The front end answers an address (R432). -/
def State.answers (s : State) (a : Nat) : Bool :=
  if inBlock 0x010000 0x011000 a then true
  else if s.restricted then false
  else if inBlock 0 0x100 a then true
  else if s.pwr.cur = 5 then false
  else if inBlock 0x1000 0x2000 a then s.mbxReady
  else s.sys.tier0

/-! ### Reading -/

/-- Global and interrupt registers (R371, R373, R397, R429, R19). -/
def State.gctlReg (s : State) (a : Nat) : W32 :=
  match a with
  | 0x00 => gctlId
  | 0x04 => s.sys.strapWord
  | 0x08 => s.bootStat
  | 0x0C => flagAt 0 s.sys.holdAtT0
  | 0x10 => s.spi.word
  | 0x14 => s.sys.eccWord
  | 0x18 => fieldAt 3 s.sys.eccAddr
  | 0x1C => s.sys.scratch
  | 0x20 => Config.dieId.setWidth 32
  | 0x24 => (Config.dieId >>> 32).setWidth 32
  | 0x28 => s.pwr.time.setWidth 32
  | 0x2C => s.sys.timeHi
  | 0x40 => s.skew.word
  | 0x80 => s.irqStat
  | 0x84 => s.irq.maskWord
  | _ => 0

/-- Mailbox registers, R385. -/
def Mbx.reg (m : Mbx) (a : Nat) : W32 :=
  match a with
  | 0x1000 => fieldAt 0 m.h2dTail
  | 0x1004 => fieldAt 0 m.h2dHead
  | 0x1008 => fieldAt 0 m.d2hTail
  | 0x100C => fieldAt 0 m.d2hHead
  | 0x1010 => m.stateWord
  | 0x1014 => m.seqWord
  | _ => 0

/-- Power registers, R340 to R342, R363. -/
def Pwr.reg (p : Pwr) (a : Nat) : W32 :=
  if a = 0x010000 then p.stateWord
  else if a = 0x010004 then p.ctrlWord
  else if inBlock 0x010010 0x01001C a then p.domainWord ((a - 0x010010) / 4)
  else if inBlock 0x010040 0x010060 a then p.wakeRec.word ((a - 0x010040) / 4)
  else 0

/-- DMA_CTRL to DMA_LAST of a channel, R411. -/
def Chan.reg (c : Chan) (k : Nat) : W32 :=
  match k with
  | 0 => fieldAt 12 c.trig ||| fieldAt 8 c.tsel ||| flagAt 4 c.pace ||| flagAt 0 c.irqEn
  | 1 => fieldAt 0 c.head
  | 2 => fieldAt 28 (BitVec.ofNat 4 (match c.st with
      | .idle => 0 | .armed => 1 | .running => 2 | .done => 3 | .error => 4 | .cmd => 5))
      ||| fieldAt 24 c.err ||| flagAt 2 c.overrun ||| flagAt 1 c.errf ||| flagAt 0 c.donef
  | 3 => fieldAt 0 c.resid
  | 4 => fieldAt 0 c.last
  | _ => 0

/-- DMA_TMR_CTRL, R419. -/
def Timer.ctrl (t : Timer) : W32 := flagAt 31 t.run ||| flagAt 30 t.oneshot

/-- DMA registers, R411, R419; DMA_FENCE reads 0 (R415). -/
def State.dmaReg (s : State) (a : Nat) : W32 :=
  let o := a - 0x020000
  if o < 0x400 then (s.chanAt (o / 0x40)).reg (o % 0x40 / 4)
  else if inBlock 0x800 0x840 o then
    let t := s.timerAt ((o - 0x800) / 8)
    if o % 8 = 0 then t.ctrl else t.period
  else 0

/-- Quick-query registers, R395. -/
def State.qryReg (s : State) (a : Nat) : W32 :=
  let o := a - 0x040000
  if o < 0x80 then
    let q := s.qryAt (o / 8)
    if o % 8 = 0 then q.sel else q.word
  else 0

/-- The window word at an address (R431, R433): 0 where the SRAM word has an uncorrectable error. -/
def State.winWord (s : State) (a : Nat) : W32 :=
  let k := winToSram a
  if s.sramBad.contains (k / 8) then 0 else w32At (s.sramRead k 4) 0

/-- The register at a word address (R428). -/
def State.reg (s : State) (a : Nat) : W32 :=
  if a < 0x100 then s.gctlReg a
  else if inBlock 0x1000 0x2000 a then s.mbx.reg a
  else if inBlock 0x010000 0x011000 a then s.pwr.reg a
  else if inBlock 0x020000 0x021000 a then s.dmaReg a
  else if inBlock 0x030000 0x039000 a then s.cntReg a
  else if inBlock 0x040000 0x050000 a then s.qryReg a
  else if inBlock 0x100000 0x140000 a then s.winWord a
  else 0

/-- What a read of a word consumes or latches (R370, R371, R395, R429 to R431). -/
def readEffect (a : Nat) (s : State) : State :=
  if a = 0x10 then { s with spi := { s.spi with errors := 0 } }
  else if a = 0x14 then { s with sys := { s.sys with eccCorr := 0 } }
  else if a = 0x28 then { s with sys := { s.sys with timeHi := (s.pwr.time >>> 32).setWidth 32 } }
  else if inBlock 0x040000 0x040080 a && a % 8 == 4 then qryConsume ((a - 0x040000) / 8) s
  else if inBlock 0x100000 0x140000 a then s.sramSeen (winToSram a) 4
  else s

/-- A word as the front end reads it, and the state after. -/
def readWord (a : Nat) (s : State) : W32 × State := if s.answers a then (s.reg a, readEffect a s) else (0, s)

/-! ### Writing, R5 -/

/-- A RW1C flag after a write of its bit. -/
def rw1c (v : W32) (i : Nat) (b : Bool) : Bool := b && !bitOf v i

/-- A write of GCTL_SKEW_STAT: a bit whose condition persists stays 1 (R19). -/
def Skew.clear (v : W32) (k : Skew) : Skew :=
  { k with
    phase := rw1c v 26 k.phase || k.livePhase
    supply := rw1c v 25 k.supply || k.liveSupply
    temp := rw1c v 24 k.temp || k.liveTemp
    quads := (k.quads &&& ~~~(getField v 16 8)) ||| k.liveQuads
    lanes := (k.lanes &&& ~~~(getField v 0 16)) ||| k.liveLanes }

/-- A write of a global or interrupt register. -/
def gctlWrite (a : Nat) (v : W32) (s : State) : State :=
  match a with
  | 0x08 => { s with sys := { s.sys with mcpRestart := rw1c v 8 s.sys.mcpRestart } }
  | 0x0C => { s with sys := { s.sys with holdAtT0 := bitOf v 0 } }
  | 0x10 => { s with spi :=
      { s.spi with
        opErr := rw1c v 3 s.spi.opErr, lenErr := rw1c v 2 s.spi.lenErr, dcrcErr := rw1c v 1 s.spi.dcrcErr
        hcrcErr := rw1c v 0 s.spi.hcrcErr } }
  | 0x14 => { s with sys := { s.sys with eccFatal := rw1c v 1 s.sys.eccFatal } }
  | 0x1C => { s with sys := { s.sys with scratch := v } }
  | 0x40 => { s with skew := s.skew.clear v }
  | 0x80 =>
    let q := s.irq
    { s with irq :=
      { q with
        fatal := rw1c v 8 q.fatal, spi := rw1c v 7 q.spi, boot := rw1c v 6 q.boot, cnt := rw1c v 5 q.cnt
        dma := rw1c v 4 q.dma, qry := rw1c v 3 q.qry, h2dSpace := rw1c v 2 q.h2dSpace } }
  | 0x84 => { s with irq := { s.irq with mask := getField v 1 9 } }
  | _ => s

/-- The doorbell: MBX_H2D_TAIL takes a value (R385). -/
def doorbell (tail : BitVec 6) (s : State) : State := { s with mbx := { s.mbx with h2dTail := tail } }

/-- A write of MBX_D2H_HEAD is taken from the current HEAD forward to TAIL alone (R385). -/
def d2hHeadWrite (head : BitVec 6) (s : State) : State :=
  let m := s.mbx
  if (head - m.d2hHead).toNat ≤ (m.d2hTail - m.d2hHead).toNat then { s with mbx := { m with d2hHead := head } } else s

/-- A write of a mailbox register. -/
def mbxWrite (a : Nat) (v : W32) (s : State) : State :=
  if a = 0x1000 then doorbell (getField v 0 6) s
  else if a = 0x100C then d2hHeadWrite (getField v 0 6) s
  else s

/-- A write of PWR_CTRL, R341; OFF ignores it (R343). -/
def pwrCtrlWrite (v : W32) (s : State) : State :=
  if s.pwr.cur = 0 then s
  else
    let s1 := pwrMod (fun p => { p with holdResume := bitOf v 0 }) s
    let s2 := writeHoldEn (bitOf v 1) (writeFioPin (bitOf v 2) s1)
    let s3 := if bitOf v 30 then recClear s2 else s2
    if bitOf v 31 && s3.pwr.cur == 4 && !s3.pwr.holdLow then wakeStart 5 0 0 0 s3 else s3

/-- A write of a DMA channel's register, R411; in CMD every one is ignored (R418). -/
def chanWrite (n k : Nat) (v : W32) (s : State) : State :=
  if (s.chanAt n).st = .cmd then s else
  match k with
  | 0 =>
    let s1 := s.chanMod n (fun c =>
      let d := if c.free then { c with trig := getField v 12 4, tsel := getField v 8 4, pace := bitOf v 4 } else c
      { d with irqEn := bitOf v 0 })
    let s2 := if bitOf v 30 then dmaStop 1 n s1 else s1
    if bitOf v 31 then dmaStart n s2 else s2
  | 1 => s.chanMod n (fun c => { c with head := getField v 0 24 &&& 0xFFFFE0 })
  | 2 => s.chanMod n (fun c =>
      { c with overrun := rw1c v 2 c.overrun, errf := rw1c v 1 c.errf, donef := rw1c v 0 c.donef })
  | _ => s

/-- A write of a DMA or timer register, R411, R419. -/
def dmaWrite (a : Nat) (v : W32) (s : State) : State :=
  let o := a - 0x020000
  if o < 0x400 then chanWrite (o / 0x40) (o % 0x40 / 4) v s
  else if inBlock 0x800 0x840 o then
    s.timerMod ((o - 0x800) / 8) (fun t =>
      if o % 8 = 0 then { t with run := bitOf v 31, oneshot := bitOf v 30 } else { t with period := v })
  else s

/-- A host write into the window acts by region (R431, R433). -/
def windowWrite (a : Nat) (v : W32) (s : State) : State :=
  if inBlock 0x104000 0x108000 a then s else s.sramWrite (winToSram a) (le32 v)

/-- A write of a word to an address that answers. -/
def regWrite (a : Nat) (v : W32) (s : State) : State :=
  if a < 0x100 then gctlWrite a v s
  else if inBlock 0x1000 0x2000 a then mbxWrite a v s
  else if inBlock 0x010000 0x011000 a then (if a = 0x010004 then pwrCtrlWrite v s else s)
  else if inBlock 0x020000 0x021000 a then dmaWrite a v s
  else if inBlock 0x030000 0x039000 a then cntRegWrite a v s
  else if inBlock 0x040000 0x040080 a && a % 8 == 0 then qryWrite ((a - 0x040000) / 8) v s
  else if inBlock 0x100000 0x140000 a then windowWrite a v s
  else s

/-- A word as the front end writes it. -/
def writeWord (a : Nat) (v : W32) (s : State) : State := if s.answers a then regWrite a v s else s

/-! ### The SPI port, R367 to R371 -/

/-- The status byte of a read, R370. -/
def State.statusByte (s : State) : Byte :=
  0x80 ||| (if s.irqN then 0x20 else 0) ||| (if s.asleep then 0x10 else 0) ||| (if s.spi.prevFail then 0x08 else 0)

/-- The word address of word `i` of a transfer; ADDR[1:0] are ignored (R368). -/
def wordAddr (addr : W24) (i : Nat) : Nat := (addr.toNat / 4 * 4 + 4 * i) % 2 ^ 24

/-- Words read in ascending order, each with its effect (R370). -/
def spiWords (addr : W24) : Nat → Nat → State → Bytes × State
  | _, 0, s => ([], s)
  | i, n + 1, s =>
    let r := readWord (wordAddr addr i) s
    let t := spiWords addr (i + 1) n r.2
    (le32 r.1 ++ t.1, t.2)

/-- Words written in ascending order (R371); a broadcast passes over the mailbox and quick-query blocks. -/
def spiWriteWords (broadcast : Bool) (addr : W24) : Nat → List W32 → State → State
  | _, [], s => s
  | i, v :: r, s =>
    let a := wordAddr addr i
    let skip := broadcast && (inBlock 0x1000 0x2000 a || inBlock 0x040000 0x050000 a)
    spiWriteWords broadcast addr (i + 1) r (if skip then s else writeWord a v s)

/-- The words of the data bytes of a write. -/
def dataWords (b : Bytes) (n : Nat) : List W32 := (List.range n).map (fun i => w32At b (4 * i))

/-- A flag of GCTL_SPI_STAT sets: it is counted, and interrupts (R371, R397). -/
def spiFlag (f : Spi → Spi) (s : State) : State :=
  { s with spi := f { s.spi with errors := satAdd s.spi.errors 1 }, irq := { s.irq with spi := true } }

/-- A write that the device decodes is committed or discarded (R371): `tail` is what follows the header. -/
def spiCommit (broadcast : Bool) (addr : W24) (len : Byte) (tail : Bytes) (s : State) : State :=
  let n := len.toNat + 1
  if tail.length ≠ 4 * n + 1 then spiFlag (fun p => { p with lenErr := true, prevFail := true }) s
  else if crc8 (tail.take (4 * n)) ≠ byteAt tail (4 * n) then spiFlag (fun p => { p with dcrcErr := true, prevFail := true }) s
  else spiWriteWords broadcast addr 0 (dataWords tail n) { s with spi := { s.spi with prevFail := false } }

/-- A read: the bytes that the device drives, with DCRC when every word was begun (R368 to R370). -/
def spiRead (addr : W24) (len : Byte) (wordsBegun : Nat) (s : State) : State :=
  let n := len.toNat + 1
  let status := s.statusByte
  let r := spiWords addr 0 (min n wordsBegun) s
  let body := status :: r.1
  { r.2 with spi := { r.2.spi with miso := if n ≤ wordsBegun then body ++ [crc8 body] else body } }

/-- ADDR of a header: three bytes, the most significant first (R368). -/
def headerAddr (h : Bytes) : W24 := byteAt h 1 ++ byteAt h 2 ++ byteAt h 3

/-- What a transfer asks of the devices on the bus (R368, R369): `sent` is what the host sends from the fall of SPI_CS_N to
its rise, and `wordsBegun` how many data words a read has begun by then. With fewer than six header bytes none; with a
header whose HCRC fails, or whose OP is reserved, the command of that failure for the device that DEV names. LEN beyond 63
is taken as it stands (log entry 159). -/
def spiCommand (sent : Bytes) (wordsBegun : Nat) : Option Instr :=
  let h := slice sent 0 6
  let dev : BitVec 6 := getField (byteAt h 0) 0 6
  let tail := sent.drop 6
  if sent.length < 6 then none
  else if crc8 (h.take 5) ≠ byteAt h 5 then some (.spiHeaderCrcFail dev)
  else match (byteAt h 0).toNat / 64 with
    | 0 => some (.spiRead dev (headerAddr h) (byteAt h 4) wordsBegun)
    | 1 => some (.spiWrite dev (headerAddr h) (byteAt h 4) tail)
    | 2 => some (.spiBroadcastWrite (headerAddr h) (byteAt h 4) tail)
    | _ => some (.spiReservedOp dev)

/-- SPI_READ, R369, R370: only the device addressed acts. -/
def execSpiRead (dev : BitVec 6) (addr : W24) (len : Byte) (wordsBegun : Nat) (s : State) : Result :=
  eventIf (dev == s.sys.addr) (spiRead addr len wordsBegun) s

/-- SPI_WRITE, R369, R371. -/
def execSpiWrite (dev : BitVec 6) (addr : W24) (len : Byte) (tail : Bytes) (s : State) : Result :=
  eventIf (dev == s.sys.addr) (spiCommit false addr len tail) s

/-- SPI_BROADCAST_WRITE, R369, R371. -/
def execSpiBroadcastWrite (addr : W24) (len : Byte) (tail : Bytes) (s : State) : Result :=
  event (spiCommit true addr len tail) s

/-- SPI_RESERVED_OP, R368. -/
def execSpiReservedOp (dev : BitVec 6) (s : State) : Result :=
  eventIf (dev == s.sys.addr) (spiFlag (fun p => { p with opErr := true })) s

/-- SPI_HEADER_CRC_FAIL, R369. -/
def execSpiHeaderCrcFail (dev : BitVec 6) (s : State) : Result :=
  eventIf (dev == s.sys.addr) (spiFlag (fun p => { p with hcrcErr := true })) s

/-! ### Single registers -/

/-- A read of one register by the host: the word is kept as the latest one read. -/
def regRead (a : Nat) (s : State) : State :=
  let r := readWord a s
  { r.2 with spi := { r.2.spi with rdata := r.1 } }

/-- GCTL_SPI_STAT_ERRORS_READ, R371. -/
def execGctlSpiStatErrorsRead (s : State) : Result := event (regRead 0x10) s
/-- GCTL_ECC_CORR_READ, R429. -/
def execGctlEccCorrRead (s : State) : Result := event (regRead 0x14) s
/-- GCTL_TIME_LO_READ, R430. -/
def execGctlTimeLoRead (s : State) : Result := event (regRead 0x28) s

/-- A window address, low bits ignored. -/
def inWindow (addr : W24) : Bool := inBlock 0x100000 0x140000 addr.toNat

/-- SRAM_WINDOW_READ, R431, R433. -/
def execSramWindowRead (addr : W24) (s : State) : Result := eventIf (inWindow addr) (regRead (wordAddr addr 0)) s
/-- SRAM_WINDOW_WRITE, R431, R433. -/
def execSramWindowWrite (addr : W24) (value : W32) (s : State) : Result :=
  eventIf (inWindow addr) (writeWord (wordAddr addr 0) value) s

/-- MBX_DOORBELL, R385. -/
def execMbxDoorbell (tail : BitVec 6) (s : State) : Result := eventIf (s.answers 0x1000) (doorbell tail) s
/-- MBX_D2H_HEAD_WRITE, R385. -/
def execMbxD2hHeadWrite (head : BitVec 6) (s : State) : Result := eventIf (s.answers 0x100C) (d2hHeadWrite head) s

/-- QRY_SEL_WRITE, R395. -/
def execQrySelWrite (n : BitVec 4) (value : W32) (s : State) : Result :=
  eventIf (s.answers 0x040000) (qryWrite n.toNat value) s
/-- QRY_RES_READ, R395. -/
def execQryResRead (n : BitVec 4) (s : State) : Result := event (regRead (0x040004 + 8 * n.toNat)) s

end Sys2Proof.Machine
end

