-- ==== Sys2Proof/Machine/Skew.lean ====
section
/-! DEFINITION. Neighbour limits: the evaluation of temperature and supply differences and the crossing FIFOs (R17 to
R19). -/

namespace Sys2Proof.Machine

/-! ### What is compared, R17, R306 -/

/-- A reading of a monitor input in 1/256 code; none while its output is not valid (R18). -/
def State.reading (s : State) (i : Nat) : Option Int := if s.monValid i then some (s.monAt i).fout else none

/-- The difference of two readings, when both are valid. -/
def State.apart (s : State) (i j : Nat) : Option Nat :=
  match s.reading i, s.reading j with
  | some a, some b => some (a - b).natAbs
  | _, _ => none

/-- 20 K and 16 K, 32 codes each, in 1/256 code. -/
def tempSet : Nat := 20 * 32 * 256
def tempClear : Nat := 16 * 32 * 256

/-- A supply difference in 1/256 code, of which 16,384 codes make 1.5 V, exceeds a number of mV. -/
def beyondMv (d mv : Nat) : Bool := decide (mv * 16384 * 256 < d * 1500)

/-- The region of a tile: lane l is region l, host quad q region 16 + q. -/
def quadRegion (q : Nat) : Nat := 16 + q

/-- The temperature sensor of a region (M192 to M207, M220 to M223), and of the core sensor nearest to it. -/
def tempInput (r : Nat) : Nat := if r < 16 then 192 + r else 220 + (r - 16) / 2
def coreInput (r : Nat) : Nat := 216 + Config.nearCore r % 4

/-- The supply monitor of a region's island (M208 to M213), and that of the core's (M214). -/
def islandInput (r : Nat) : Nat := if r < 16 then 208 + r / 4 else if r < 20 then 212 else 213
def coreIsland : Nat := 214

/-- Neighbouring tiles: lanes of one face, host quads of one edge (R17). -/
def tilePairs : List (Nat × Nat) :=
  ((List.range 15).filter (fun k => k != 7)).map (fun k => (k, k + 1))
    ++ ((List.range 7).filter (fun q => q != 3)).map (fun q => (quadRegion q, quadRegion (q + 1)))

/-- Every pair: the tiles it reports, its two temperature inputs, its two supply inputs. -/
def allPairs : List (List Nat × (Nat × Nat) × (Nat × Nat)) :=
  tilePairs.map (fun p => ([p.1, p.2], (tempInput p.1, tempInput p.2), (islandInput p.1, islandInput p.2)))
    ++ (List.range 24).map (fun r => ([r], (tempInput r, coreInput r), (islandInput r, coreIsland)))

/-- The pairs whose temperature difference is above a limit. -/
def State.hotPairs (s : State) (limit : Nat) : List (List Nat) :=
  (allPairs.filter (fun p => ((s.apart p.2.1.1 p.2.1.2).map (fun d => decide (limit < d))).getD false)).map (·.1)

/-- The pairs whose supply difference is beyond a limit in mV. -/
def State.supplyPairs (s : State) (mv : Nat) : List (List Nat) :=
  (allPairs.filter (fun p => ((s.apart p.2.2.1 p.2.2.2).map (fun d => beyondMv d mv)).getD false)).map (·.1)

/-! ### GCTL_SKEW_STAT, R18, R19 -/

/-- TILE_SKEW carries GCTL_SKEW_STAT. -/
def raiseSkew (s : State) : State := raise 0x800A (le32 s.skew.word) s

/-- What an evaluation finds. -/
def State.skewNow (s : State) : Skew :=
  let hot := s.hotPairs tempSet
  let off := s.supplyPairs 25
  let tiles := (hot ++ off).flatten
  { s.skew with
    liveTemp := !hot.isEmpty, liveSupply := !off.isEmpty, pairQuads := quadBits tiles, pairLanes := faceBits tiles }

/-- NEIGHBOUR_LIMIT_EVAL, R18: a new condition raises TILE_SKEW; ACTIVE clears once every pair is back within the inner
limits and a whole evaluation has passed without a slip. DESIGN CHOICE (log entry 86): a pair with an output that is
not VALID is not compared, so it neither sets ACTIVE nor keeps it set. -/
def neighbourEval (s : State) : State :=
  let k := s.skewNow
  let beyond := k.liveTemp || k.liveSupply || k.livePhase
  let back := (s.hotPairs tempClear).isEmpty && (s.supplyPairs 20).isEmpty && decide (1 ≤ k.cleanEvals) && !k.livePhase
  let new := (k.liveTemp && !s.skew.liveTemp) || (k.liveSupply && !s.skew.liveSupply)
    || k.liveLanes &&& ~~~s.skew.liveLanes != 0 || k.liveQuads &&& ~~~s.skew.liveQuads != 0
  let k1 := { k.latch with active := beyond || (k.active && !back), cleanEvals := min 1 (k.cleanEvals + 1) }
  let s1 := { s with skew := k1 }
  if new then raiseSkew s1 else s1

def execNeighbourLimitEval (s : State) : Result :=
  eventIf (s.sys.rsynLock && [0, 1, 2, 3].any s.coreOn) neighbourEval s

/-- A region's crossing FIFO runs: its region's domain is powered and RSYN is locked. -/
def State.crossing (s : State) (r : Nat) : Bool :=
  s.sys.rsynLock && (if r < 16 then s.pd (4 * r + 1) else if r < 24 then s.pd (64 + (r - 16)) else decide (r = 24))

/-- The wander of a FIFO as it is now, 0 to 3, with its bits of GCTL_SKEW_STAT. -/
def wanderTo (r w : Nat) (s : State) : State :=
  let was := Tab.get 0 s.skew.fifo r
  let k := { s.skew with fifo := Tab.set 0 s.skew.fifo r w }
  if 3 ≤ w then
    let s1 := { s with skew := { k.latch with active := true } }
    if 3 ≤ was then s1 else raiseSkew s1
  else { s with skew := k }

/-- The lanes and host quads whose blocks cross the FIFO of a region: the tile's own, and every one for the core. -/
def slipLanes (r : Nat) : W16 := if r = 24 then BitVec.allOnes 16 else faceBits [r]
def slipQuads (r : Nat) : Byte := if r = 24 then BitVec.allOnes 8 else quadBits [r]

/-- A slip: the FIFO is centred again, and every block that crosses in the multiframe, in either direction, is errored
(R18). -/
def fifoSlip (r : Nat) (s : State) : State :=
  let s1 := wanderTo r 3 s
  let k := s1.skew
  raiseSkew { s1 with skew := { k with
    fifo := Tab.set 0 k.fifo r 0, cleanEvals := 0, active := true
    errLanes := k.errLanes ||| slipLanes r, errTx := k.errTx ||| slipLanes r, errQuads := k.errQuads ||| slipQuads r } }

/-- FIFO_WANDER, R18: the wander of a region's crossing FIFO from its centre; 4 is a slip. -/
def execFifoWander (region : Byte) (wander : BitVec 3) (s : State) : Result :=
  let r := region.toNat
  eventIf (s.crossing r && decide (wander.toNat ≤ 4)) (fun s =>
    if wander.toNat = 4 then fifoSlip r s else wanderTo r wander.toNat s) s

end Sys2Proof.Machine
end

