-- ==== Sys2Proof/Machine/Dispatch.lean ====
section
/-! DEFINITION. One arm per command: each calls its meaning. -/

namespace Sys2Proof.Machine

def exec (i : Instr) (s : State) : Host.Outcome State Fault Refusal :=
  match i with
  | .resetNFall => Sys2Proof.Machine.execResetNFall s
  | .resetNRise addr boot => Sys2Proof.Machine.execResetNRise addr boot s
  | .vddAonPowerOnReset => Sys2Proof.Machine.execVddAonPowerOnReset s
  | .vddAonRestart addr boot conditionsMet => Sys2Proof.Machine.execVddAonRestart addr boot conditionsMet s
  | .vddCoreRetentionLoss => Sys2Proof.Machine.execVddCoreRetentionLoss s
  | .rsynLock => Sys2Proof.Machine.execRsynLock s
  | .rsynLoss => Sys2Proof.Machine.execRsynLoss s
  | .tier0Reached => Sys2Proof.Machine.execTier0Reached s
  | .flashImageLoaded answered image => Sys2Proof.Machine.execFlashImageLoaded answered image s
  | .firmwareStart => Sys2Proof.Machine.execFirmwareStart s
  | .mcpWatchdogExpiry => Sys2Proof.Machine.execMcpWatchdogExpiry s
  | .mcpException => Sys2Proof.Machine.execMcpException s
  | .spiRead dev addr len wordsBegun => Sys2Proof.Machine.execSpiRead dev addr len wordsBegun s
  | .spiWrite dev addr len tail => Sys2Proof.Machine.execSpiWrite dev addr len tail s
  | .spiBroadcastWrite addr len tail => Sys2Proof.Machine.execSpiBroadcastWrite addr len tail s
  | .spiReservedOp dev => Sys2Proof.Machine.execSpiReservedOp dev s
  | .spiHeaderCrcFail dev => Sys2Proof.Machine.execSpiHeaderCrcFail dev s
  | .gctlSpiStatErrorsRead => Sys2Proof.Machine.execGctlSpiStatErrorsRead s
  | .gctlEccCorrRead => Sys2Proof.Machine.execGctlEccCorrRead s
  | .gctlTimeLoRead => Sys2Proof.Machine.execGctlTimeLoRead s
  | .sramWindowRead addr => Sys2Proof.Machine.execSramWindowRead addr s
  | .sramWindowWrite addr value => Sys2Proof.Machine.execSramWindowWrite addr value s
  | .mbxDoorbell tail => Sys2Proof.Machine.execMbxDoorbell tail s
  | .mbxD2hHeadWrite head => Sys2Proof.Machine.execMbxD2hHeadWrite head s
  | .mbxCommandTake => Sys2Proof.Machine.execMbxCommandTake s
  | .eventWrite => Sys2Proof.Machine.execEventWrite s
  | .pwrCtrlWake => Sys2Proof.Machine.execPwrCtrlWake s
  | .pwrCtrlRecClr => Sys2Proof.Machine.execPwrCtrlRecClr s
  | .pwrCtrlFioPin value => Sys2Proof.Machine.execPwrCtrlFioPin value s
  | .pwrCtrlHoldEn value => Sys2Proof.Machine.execPwrCtrlHoldEn value s
  | .qrySelWrite n value => Sys2Proof.Machine.execQrySelWrite n value s
  | .qryResult n => Sys2Proof.Machine.execQryResult n s
  | .qryResRead n => Sys2Proof.Machine.execQryResRead n s
  | .sysIdentity => Sys2Proof.Machine.execSysIdentity s
  | .sysStatus => Sys2Proof.Machine.execSysStatus s
  | .paraxResync => Sys2Proof.Machine.execParaxResync s
  | .tierSet target force lanes => Sys2Proof.Machine.execTierSet target force lanes s
  | .tierReply face mseq lanes => Sys2Proof.Machine.execTierReply face mseq lanes s
  | .fwLoadBegin length => Sys2Proof.Machine.execFwLoadBegin length s
  | .fwLoadSeg offset segLen => Sys2Proof.Machine.execFwLoadSeg offset segLen s
  | .fwLoadEnd => Sys2Proof.Machine.execFwLoadEnd s
  | .laneConfig lane mask cls precode sdLevel agcTarget echoThresh softShift eqfLow kp ki upd irej => Sys2Proof.Machine.execLaneConfig lane mask cls precode sdLevel agcTarget echoThresh softShift eqfLow kp ki upd irej s
  | .laneStart lane => Sys2Proof.Machine.execLaneStart lane s
  | .laneStop lane => Sys2Proof.Machine.execLaneStop lane s
  | .laneStatus lane => Sys2Proof.Machine.execLaneStatus lane s
  | .laneQuality lane => Sys2Proof.Machine.execLaneQuality lane s
  | .laneAdapt lane freeze setExp expAcq expTrk => Sys2Proof.Machine.execLaneAdapt lane freeze setExp expAcq expTrk s
  | .laneCoefRead lane first count buf => Sys2Proof.Machine.execLaneCoefRead lane first count buf s
  | .laneCoefWrite lane first count buf data => Sys2Proof.Machine.execLaneCoefWrite lane first count buf data s
  | .laneCoefCopy src dst => Sys2Proof.Machine.execLaneCoefCopy src dst s
  | .laneEchoSearch lane => Sys2Proof.Machine.execLaneEchoSearch lane s
  | .laneCaptureArm lane source mode stride trigger pre => Sys2Proof.Machine.execLaneCaptureArm lane source mode stride trigger pre s
  | .laneCaptureFetch lane dma addr => Sys2Proof.Machine.execLaneCaptureFetch lane dma addr s
  | .signalDetectAssert lane => Sys2Proof.Machine.execSignalDetectAssert lane s
  | .signalDetectDeassert lane => Sys2Proof.Machine.execSignalDetectDeassert lane s
  | .agcWindowEnd lane meanSquare => Sys2Proof.Machine.execAgcWindowEnd lane meanSquare s
  | .timingLock lane freq => Sys2Proof.Machine.execTimingLock lane freq s
  | .adaptUpdate lane ffe canc alpha => Sys2Proof.Machine.execAdaptUpdate lane ffe canc alpha s
  | .echoGroupRelocate lane group => Sys2Proof.Machine.execEchoGroupRelocate lane group s
  | .ffeAdaptDone lane => Sys2Proof.Machine.execFfeAdaptDone lane s
  | .echoSearchPassEnd lane echoes => Sys2Proof.Machine.execEchoSearchPassEnd lane echoes s
  | .echoPlacementDone lane => Sys2Proof.Machine.execEchoPlacementDone lane s
  | .mlsdTrainDone lane => Sys2Proof.Machine.execMlsdTrainDone lane s
  | .precodeTrialTimeout lane => Sys2Proof.Machine.execPrecodeTrialTimeout lane s
  | .alignmentFound seen => Sys2Proof.Machine.execAlignmentFound seen s
  | .mfLock lane start => Sys2Proof.Machine.execMfLock lane start s
  | .warmCrumbCheckDone lane => Sys2Proof.Machine.execWarmCrumbCheckDone lane s
  | .warmMseVerifyDone lane mse pilotIds => Sys2Proof.Machine.execWarmMseVerifyDone lane mse pilotIds s
  | .seededAdaptDone lane => Sys2Proof.Machine.execSeededAdaptDone lane s
  | .acqStateTimeout lane => Sys2Proof.Machine.execAcqStateTimeout lane s
  | .retryBackoffEnd lane => Sys2Proof.Machine.execRetryBackoffEnd lane s
  | .lockLossDeclare lane loss => Sys2Proof.Machine.execLockLossDeclare lane loss s
  | .lockLossCauseSettle lane => Sys2Proof.Machine.execLockLossCauseSettle lane s
  | .rxMultiframeBoundary lane mse syncBad pilotId inner rs runs => Sys2Proof.Machine.execRxMultiframeBoundary lane mse syncBad pilotId inner rs runs s
  | .qualityPeriodEnd lane q => Sys2Proof.Machine.execQualityPeriodEnd lane q s
  | .snapshotWriteDone lane => Sys2Proof.Machine.execSnapshotWriteDone lane s
  | .captureTrigger lane trigger => Sys2Proof.Machine.execCaptureTrigger lane trigger s
  | .captureComplete lane => Sys2Proof.Machine.execCaptureComplete lane s
  | .txConfig lane mask precode level => Sys2Proof.Machine.execTxConfig lane mask precode level s
  | .txEnable lane mode => Sys2Proof.Machine.execTxEnable lane mode s
  | .txSquelch lane flags => Sys2Proof.Machine.execTxSquelch lane flags s
  | .txFirSet lane taps => Sys2Proof.Machine.execTxFirSet lane taps s
  | .txPdWrite lane table => Sys2Proof.Machine.execTxPdWrite lane table s
  | .txPdRead lane => Sys2Proof.Machine.execTxPdRead lane s
  | .txPdTrain lane iter step => Sys2Proof.Machine.execTxPdTrain lane iter step s
  | .txSwing lane swing => Sys2Proof.Machine.execTxSwing lane swing s
  | .txSkew lane mask coarse fine => Sys2Proof.Machine.execTxSkew lane mask coarse fine s
  | .txStatus lane => Sys2Proof.Machine.execTxStatus lane s
  | .testGen target action pattern precodeOverride stopState => Sys2Proof.Machine.execTestGen target action pattern precodeOverride stopState s
  | .testCheck target action pattern => Sys2Proof.Machine.execTestCheck target action pattern s
  | .testCheckRead target flags => Sys2Proof.Machine.execTestCheckRead target flags s
  | .loopbackSet lane point => Sys2Proof.Machine.execLoopbackSet lane point s
  | .patternLockChange target seen bits errBits errSymbols => Sys2Proof.Machine.execPatternLockChange target seen bits errBits errSymbols s
  | .lineFarSlip target fill => Sys2Proof.Machine.execLineFarSlip target fill s
  | .txMultiframeBoundary face => Sys2Proof.Machine.execTxMultiframeBoundary face s
  | .txQualityPeriodEnd lane clips => Sys2Proof.Machine.execTxQualityPeriodEnd lane clips s
  | .txDomainStartupDone lane => Sys2Proof.Machine.execTxDomainStartupDone lane s
  | .faultInputAssert face fault => Sys2Proof.Machine.execFaultInputAssert face fault s
  | .pdFbReqReceive face src payload => Sys2Proof.Machine.execPdFbReqReceive face src payload s
  | .pdFbReceive face src payload => Sys2Proof.Machine.execPdFbReceive face src payload s
  | .pdFeedbackTimeout lane => Sys2Proof.Machine.execPdFeedbackTimeout lane s
  | .stretchConfig lane mask margin marginMin probeCount rms capHoldoff flags => Sys2Proof.Machine.execStretchConfig lane mask margin marginMin probeCount rms capHoldoff flags s
  | .stretchEnter lane => Sys2Proof.Machine.execStretchEnter lane s
  | .stretchExit lane => Sys2Proof.Machine.execStretchExit lane s
  | .stretchReload lane => Sys2Proof.Machine.execStretchReload lane s
  | .stretchStatus lane => Sys2Proof.Machine.execStretchStatus lane s
  | .stretchTableRead lane buf => Sys2Proof.Machine.execStretchTableRead lane buf s
  | .stretchTableWrite lane slots buf data => Sys2Proof.Machine.execStretchTableWrite lane slots buf data s
  | .stretchSnrRead lane buf => Sys2Proof.Machine.execStretchSnrRead lane buf s
  | .stretchReply lane mseq accept => Sys2Proof.Machine.execStretchReply lane mseq accept s
  | .probeMeasureDone lane probe => Sys2Proof.Machine.execProbeMeasureDone lane probe s
  | .bitTableReceive face src record => Sys2Proof.Machine.execBitTableReceive face src record s
  | .segmentPartnerTimeout lane => Sys2Proof.Machine.execSegmentPartnerTimeout lane s
  | .tableAckReceive face tableId txLane => Sys2Proof.Machine.execTableAckReceive face tableId txLane s
  | .tableNakReceive face tableId txLane check => Sys2Proof.Machine.execTableNakReceive face tableId txLane check s
  | .tableAckTimeout lane => Sys2Proof.Machine.execTableAckTimeout lane s
  | .countdownWaitTimeout lane => Sys2Proof.Machine.execCountdownWaitTimeout lane s
  | .countdownStart lane => Sys2Proof.Machine.execCountdownStart lane s
  | .countdownDetect lane variant => Sys2Proof.Machine.execCountdownDetect lane variant s
  | .stretchTableSwitch lane transmit => Sys2Proof.Machine.execStretchTableSwitch lane transmit s
  | .modeReqReceive face src payload => Sys2Proof.Machine.execModeReqReceive face src payload s
  | .modeAckReceive face src payload => Sys2Proof.Machine.execModeAckReceive face src payload s
  | .modeCancelReceive face src payload => Sys2Proof.Machine.execModeCancelReceive face src payload s
  | .icingReqResendTimeout face mseq => Sys2Proof.Machine.execIcingReqResendTimeout face mseq s
  | .modeAckTimeout lane => Sys2Proof.Machine.execModeAckTimeout lane s
  | .hostReplyTimeout face mseq => Sys2Proof.Machine.execHostReplyTimeout face mseq s
  | .modeSwitchBoundary lane => Sys2Proof.Machine.execModeSwitchBoundary lane s
  | .fecConfig lane sym count => Sys2Proof.Machine.execFecConfig lane sym count s
  | .fecCountersRead lane flags => Sys2Proof.Machine.execFecCountersRead lane flags s
  | .frameStatus lane => Sys2Proof.Machine.execFrameStatus lane s
  | .frameIdExpect lane mode flags nodeAddr srcLane => Sys2Proof.Machine.execFrameIdExpect lane mode flags nodeAddr srcLane s
  | .frameTraceSet face trace => Sys2Proof.Machine.execFrameTraceSet face trace s
  | .frameGccSend lane len data => Sys2Proof.Machine.execFrameGccSend lane len data s
  | .frameGccRead lane max buf => Sys2Proof.Machine.execFrameGccRead lane max buf s
  | .overheadHeaderReceive lane header codewordsOk => Sys2Proof.Machine.execOverheadHeaderReceive lane header codewordsOk s
  | .gccMessageReceive lane section_ codewordsOk => Sys2Proof.Machine.execGccMessageReceive lane section_ codewordsOk s
  | .calWrite face count buf data => Sys2Proof.Machine.execCalWrite face count buf data s
  | .calRead face copy first count buf => Sys2Proof.Machine.execCalRead face copy first count buf s
  | .calCopy face => Sys2Proof.Machine.execCalCopy face s
  | .calCommit face flags atMfc => Sys2Proof.Machine.execCalCommit face flags atMfc s
  | .calCancel face => Sys2Proof.Machine.execCalCancel face s
  | .calStatusCalendar face buf => Sys2Proof.Machine.execCalStatusCalendar face buf s
  | .calRouteRead face first count buf => Sys2Proof.Machine.execCalRouteRead face first count buf s
  | .calendarSwitch face => Sys2Proof.Machine.execCalendarSwitch face s
  | .joinGuardEnd face client => Sys2Proof.Machine.execJoinGuardEnd face client s
  | .receiveSlotRoute slot entry codewordsOk => Sys2Proof.Machine.execReceiveSlotRoute slot entry codewordsOk s
  | .clientSet client entry => Sys2Proof.Machine.execClientSet client entry s
  | .clientGet client => Sys2Proof.Machine.execClientGet client s
  | .clientStatus client buf => Sys2Proof.Machine.execClientStatus client buf s
  | .clientCountersRead client flags => Sys2Proof.Machine.execClientCountersRead client flags s
  | .throughStatus slot flags => Sys2Proof.Machine.execThroughStatus slot flags s
  | .addFrameArrive client face stream frame => Sys2Proof.Machine.execAddFrameArrive client face stream frame s
  | .dropFrameComplete slot frame => Sys2Proof.Machine.execDropFrameComplete slot frame s
  | .regenBlockStart slot => Sys2Proof.Machine.execRegenBlockStart slot s
  | .regenSlip slot => Sys2Proof.Machine.execRegenSlip slot s
  | .streamConfig mask dropKey ledPeriod => Sys2Proof.Machine.execStreamConfig mask dropKey ledPeriod s
  | .streamProfileSet prof histLen resetMs ledDiff => Sys2Proof.Machine.execStreamProfileSet prof histLen resetMs ledDiff s
  | .streamProfileGet prof => Sys2Proof.Machine.execStreamProfileGet prof s
  | .streamAdd index context => Sys2Proof.Machine.execStreamAdd index context s
  | .streamDelete index => Sys2Proof.Machine.execStreamDelete index s
  | .streamBulkLoad dma addr count => Sys2Proof.Machine.execStreamBulkLoad dma addr count s
  | .bulkLoadComplete => Sys2Proof.Machine.execBulkLoadComplete s
  | .streamRead index => Sys2Proof.Machine.execStreamRead index s
  | .streamWrite index fields context => Sys2Proof.Machine.execStreamWrite index fields context s
  | .streamFind key => Sys2Proof.Machine.execStreamFind key s
  | .streamTakeAny index => Sys2Proof.Machine.execStreamTakeAny index s
  | .streamRekey bank bucket => Sys2Proof.Machine.execStreamRekey bank bucket s
  | .streamCountersRead index flags => Sys2Proof.Machine.execStreamCountersRead index flags s
  | .streamLedList first buf => Sys2Proof.Machine.execStreamLedList first buf s
  | .streamEngineStatus => Sys2Proof.Machine.execStreamEngineStatus s
  | .addStreamFrame client idType ident frame => Sys2Proof.Machine.execAddStreamFrame client idType ident frame s
  | .dropStreamFrame client face frame => Sys2Proof.Machine.execDropStreamFrame client face frame s
  | .streamMsSweep => Sys2Proof.Machine.execStreamMsSweep s
  | .streamResetTimerExpiry index => Sys2Proof.Machine.execStreamResetTimerExpiry index s
  | .streamWakeSweepDone => Sys2Proof.Machine.execStreamWakeSweepDone s
  | .ledPeriodEnd => Sys2Proof.Machine.execLedPeriodEnd s
  | .streamScrub bank word upsets => Sys2Proof.Machine.execStreamScrub bank word upsets s
  | .streamTableClearDone => Sys2Proof.Machine.execStreamTableClearDone s
  | .hostConfig etype => Sys2Proof.Machine.execHostConfig etype s
  | .hostPortConfig port enable width tagMode polTx polRx => Sys2Proof.Machine.execHostPortConfig port enable width tagMode polTx polRx s
  | .hostLaneEq hlane mask taps hswing ctle ffeFreeze => Sys2Proof.Machine.execHostLaneEq hlane mask taps hswing ctle ffeFreeze s
  | .hostPortStatus port => Sys2Proof.Machine.execHostPortStatus port s
  | .hostLoopbackSet hlane point => Sys2Proof.Machine.execHostLoopbackSet hlane point s
  | .hostCountersRead port flags buf => Sys2Proof.Machine.execHostCountersRead port flags buf s
  | .hostFrameReceive port frame => Sys2Proof.Machine.execHostFrameReceive port frame s
  | .hostFrameTransmit port => Sys2Proof.Machine.execHostFrameTransmit port s
  | .hostPortAligned port => Sys2Proof.Machine.execHostPortAligned port s
  | .hostRemoteFault port => Sys2Proof.Machine.execHostRemoteFault port s
  | .hostPortLinkLoss lost => Sys2Proof.Machine.execHostPortLinkLoss lost s
  | .hostFaultClear port => Sys2Proof.Machine.execHostFaultClear port s
  | .icingConfig face mask nodeAddr netId rxEnable rxGrades gradeTx gradeMargin discGrade discPeriod reportPeriod icingLane access rampUs detThresh captureThresh tapCal watchGrade accept => Sys2Proof.Machine.execIcingConfig face mask nodeAddr netId rxEnable rxGrades gradeTx gradeMargin discGrade discPeriod reportPeriod icingLane access rampUs detThresh captureThresh tapCal watchGrade accept s
  | .icingStatus face => Sys2Proof.Machine.execIcingStatus face s
  | .icingNeighbours face => Sys2Proof.Machine.execIcingNeighbours face s
  | .icingPin face addr => Sys2Proof.Machine.execIcingPin face addr s
  | .icingLaneMap face lane farLane => Sys2Proof.Machine.execIcingLaneMap face lane farLane s
  | .icingLevelQuery face dst => Sys2Proof.Machine.execIcingLevelQuery face dst s
  | .icingMsgSend face dst flags len data => Sys2Proof.Machine.execIcingMsgSend face dst flags len data s
  | .icingMsgRead face max buf => Sys2Proof.Machine.execIcingMsgRead face max buf s
  | .icingWakeSend face dst grade wakeMs reason => Sys2Proof.Machine.execIcingWakeSend face dst grade wakeMs reason s
  | .icingCountersRead face flags => Sys2Proof.Machine.execIcingCountersRead face flags s
  | .icingAgcWindow face off => Sys2Proof.Machine.execIcingAgcWindow face off s
  | .icingSearchDetect face grades wins => Sys2Proof.Machine.execIcingSearchDetect face grades wins s
  | .icingDetectWindow face win second => Sys2Proof.Machine.execIcingDetectWindow face win second s
  | .icingCapture face grade wins last chips => Sys2Proof.Machine.execIcingCapture face grade wins last chips s
  | .icingHeaderDecode face firstOk len mtypeHigh => Sys2Proof.Machine.execIcingHeaderDecode face firstOk len mtypeHigh s
  | .icingFrameEnd face info peak rest => Sys2Proof.Machine.execIcingFrameEnd face info peak rest s
  | .discoveryReceive face src payload rssi snr => Sys2Proof.Machine.execDiscoveryReceive face src payload rssi snr s
  | .neighbourTimeout face addr => Sys2Proof.Machine.execNeighbourTimeout face addr s
  | .discoveryPeriod face => Sys2Proof.Machine.execDiscoveryPeriod face s
  | .reportPeriod face => Sys2Proof.Machine.execReportPeriod face s
  | .levelQueryReceive face src qseq => Sys2Proof.Machine.execLevelQueryReceive face src qseq s
  | .levelReportReceive face src payload => Sys2Proof.Machine.execLevelReportReceive face src payload s
  | .tierReqReceive face src payload => Sys2Proof.Machine.execTierReqReceive face src payload s
  | .tierAckReceive face src payload => Sys2Proof.Machine.execTierAckReceive face src payload s
  | .genMsgReceive face src payload grade rssi snr broadcast => Sys2Proof.Machine.execGenMsgReceive face src payload grade rssi snr broadcast s
  | .genAckReceive face src gseq => Sys2Proof.Machine.execGenAckReceive face src gseq s
  | .genMsgRetryTimeout face gseq => Sys2Proof.Machine.execGenMsgRetryTimeout face gseq s
  | .wakeReceive face dst reason => Sys2Proof.Machine.execWakeReceive face dst reason s
  | .icingBurstStart face => Sys2Proof.Machine.execIcingBurstStart face s
  | .icingBackoffEnd face => Sys2Proof.Machine.execIcingBackoffEnd face s
  | .icingBurstEnd face => Sys2Proof.Machine.execIcingBurstEnd face s
  | .icingBurstAbort face done => Sys2Proof.Machine.execIcingBurstAbort face done s
  | .icingTxUnavailable face => Sys2Proof.Machine.execIcingTxUnavailable face s
  | .loopTemplateApply loop output => Sys2Proof.Machine.execLoopTemplateApply loop output s
  | .loopWrite loop flags first count buf data => Sys2Proof.Machine.execLoopWrite loop flags first count buf data s
  | .loopRead loop => Sys2Proof.Machine.execLoopRead loop s
  | .loopMode loop mode flags spTarget vmax amax jmax => Sys2Proof.Machine.execLoopMode loop mode flags spTarget vmax amax jmax s
  | .loopTarget loop flags spTarget => Sys2Proof.Machine.execLoopTarget loop flags spTarget s
  | .loopStatus loop flags => Sys2Proof.Machine.execLoopStatus loop flags s
  | .loopTestStart loop action point signal ampl inc hold pre length => Sys2Proof.Machine.execLoopTestStart loop action point signal ampl inc hold pre length s
  | .loopTestFetch core dma addr => Sys2Proof.Machine.execLoopTestFetch core dma addr s
  | .loopEngineStatus => Sys2Proof.Machine.execLoopEngineStatus s
  | .controlFrame core => Sys2Proof.Machine.execControlFrame core s
  | .handoverForce loop => Sys2Proof.Machine.execHandoverForce loop s
  | .autoSwapDue loop => Sys2Proof.Machine.execAutoSwapDue loop s
  | .loopErrLimitFault loop => Sys2Proof.Machine.execLoopErrLimitFault loop s
  | .loopStaleFault loop => Sys2Proof.Machine.execLoopStaleFault loop s
  | .loopMissRunFault loop => Sys2Proof.Machine.execLoopMissRunFault loop s
  | .lockinPeriodEnd loop => Sys2Proof.Machine.execLockinPeriodEnd loop s
  | .biasConfig out mask record target => Sys2Proof.Machine.execBiasConfig out mask record target s
  | .biasEnable out flags code => Sys2Proof.Machine.execBiasEnable out flags code s
  | .biasDisable out => Sys2Proof.Machine.execBiasDisable out s
  | .biasCode out code => Sys2Proof.Machine.execBiasCode out code s
  | .biasSafe scope index => Sys2Proof.Machine.execBiasSafe scope index s
  | .biasRelease scope index => Sys2Proof.Machine.execBiasRelease scope index s
  | .biasStatus out flags => Sys2Proof.Machine.execBiasStatus out flags s
  | .biasTick lane tick => Sys2Proof.Machine.execBiasTick lane tick s
  | .rangeHizIntervalEnd out => Sys2Proof.Machine.execRangeHizIntervalEnd out s
  | .biasFaultDetect out cause => Sys2Proof.Machine.execBiasFaultDetect out cause s
  | .monScanConfig madc mask windows compat => Sys2Proof.Machine.execMonScanConfig madc mask windows compat s
  | .monRefbuf madc enable => Sys2Proof.Machine.execMonRefbuf madc enable s
  | .monFilterSet input record => Sys2Proof.Machine.execMonFilterSet input record s
  | .monFilterGet input => Sys2Proof.Machine.execMonFilterGet input s
  | .monFilterSync input => Sys2Proof.Machine.execMonFilterSync input s
  | .monRead first count buf => Sys2Proof.Machine.execMonRead first count buf s
  | .monStatus input flags => Sys2Proof.Machine.execMonStatus input flags s
  | .madcConversion input code refbufSettled => Sys2Proof.Machine.execMadcConversion input code refbufSettled s
  | .filterOutputSample input newConfig => Sys2Proof.Machine.execFilterOutputSample input newConfig s
  | .filterSettled input => Sys2Proof.Machine.execFilterSettled input s
  | .crossFadeEnd input => Sys2Proof.Machine.execCrossFadeEnd input s
  | .calRun kind mode action set ranges => Sys2Proof.Machine.execCalRun kind mode action set ranges s
  | .calApply kinds flags => Sys2Proof.Machine.execCalApply kinds flags s
  | .calDiscard kinds => Sys2Proof.Machine.execCalDiscard kinds s
  | .calStatusCalibration buf => Sys2Proof.Machine.execCalStatusCalibration buf s
  | .calLoad => Sys2Proof.Machine.execCalLoad s
  | .calStore confirmCount confirmId flags label => Sys2Proof.Machine.execCalStore confirmCount confirmId flags label s
  | .calImageWrite confirmCount confirmId flags addr => Sys2Proof.Machine.execCalImageWrite confirmCount confirmId flags addr s
  | .calImageExport dma addr => Sys2Proof.Machine.execCalImageExport dma addr s
  | .calRunPartEnd kind result => Sys2Proof.Machine.execCalRunPartEnd kind result s
  | .calStrobeCommit => Sys2Proof.Machine.execCalStrobeCommit s
  | .calApplyStrobe => Sys2Proof.Machine.execCalApplyStrobe s
  | .calStrobeFreezeEnd => Sys2Proof.Machine.execCalStrobeFreezeEnd s
  | .nvmStoreComplete => Sys2Proof.Machine.execNvmStoreComplete s
  | .pwrEnter target => Sys2Proof.Machine.execPwrEnter target s
  | .pwrWatchConfig interval flags watchMadc wakeAfter compares => Sys2Proof.Machine.execPwrWatchConfig interval flags watchMadc wakeAfter compares s
  | .pwrLanePark lane flags => Sys2Proof.Machine.execPwrLanePark lane flags s
  | .pwrLaneUnpark lane => Sys2Proof.Machine.execPwrLaneUnpark lane s
  | .pwrStatus => Sys2Proof.Machine.execPwrStatus s
  | .pwrWakeRecord flags => Sys2Proof.Machine.execPwrWakeRecord flags s
  | .handshakeStepAnswer agree block => Sys2Proof.Machine.execHandshakeStepAnswer agree block s
  | .handshakeTimeout block => Sys2Proof.Machine.execHandshakeTimeout block s
  | .handshakeRestartDone => Sys2Proof.Machine.execHandshakeRestartDone s
  | .sleepEntered => Sys2Proof.Machine.execSleepEntered s
  | .holdNFall => Sys2Proof.Machine.execHoldNFall s
  | .holdReached => Sys2Proof.Machine.execHoldReached s
  | .holdNRise => Sys2Proof.Machine.execHoldNRise s
  | .wakeRsynLocked fast => Sys2Proof.Machine.execWakeRsynLocked fast s
  | .wakeDomainsUp => Sys2Proof.Machine.execWakeDomainsUp s
  | .toffeeWatchTick codes => Sys2Proof.Machine.execToffeeWatchTick codes s
  | .watchCompareTrip compare => Sys2Proof.Machine.execWatchCompareTrip compare s
  | .watchWakeAfter => Sys2Proof.Machine.execWatchWakeAfter s
  | .neighbourLimitEval => Sys2Proof.Machine.execNeighbourLimitEval s
  | .fifoWander region wander => Sys2Proof.Machine.execFifoWander region wander s
  | .tierLaneTurnStart => Sys2Proof.Machine.execTierLaneTurnStart s
  | .tierAckTimeout lane => Sys2Proof.Machine.execTierAckTimeout lane s
  | .tierRateSwitch lane => Sys2Proof.Machine.execTierRateSwitch lane s
  | .tierAwaitEnd lane => Sys2Proof.Machine.execTierAwaitEnd lane s
  | .tierTurnEnd lane => Sys2Proof.Machine.execTierTurnEnd lane s
  | .dmaStart ch => Sys2Proof.Machine.execDmaStart ch s
  | .dmaAbort ch => Sys2Proof.Machine.execDmaAbort ch s
  | .dmaTrigger ch => Sys2Proof.Machine.execDmaTrigger ch s
  | .dmaDescriptorComplete ch => Sys2Proof.Machine.execDmaDescriptorComplete ch s
  | .dmaFenceRead => Sys2Proof.Machine.execDmaFenceRead s
  | .dmaCommandTransferDone ch => Sys2Proof.Machine.execDmaCommandTransferDone ch s
  | .timerStart t => Sys2Proof.Machine.execTimerStart t s
  | .timerTick t => Sys2Proof.Machine.execTimerTick t s
  | .cntAssign cnt source index flags => Sys2Proof.Machine.execCntAssign cnt source index flags s
  | .cntWindowConfig kind index windowMs => Sys2Proof.Machine.execCntWindowConfig kind index windowMs s
  | .cntWindowRead kind index => Sys2Proof.Machine.execCntWindowRead kind index s
  | .cntValWrite cnt value lost => Sys2Proof.Machine.execCntValWrite cnt value lost s
  | .counterWrap cnt => Sys2Proof.Machine.execCounterWrap cnt s
  | .counterWindowEnd kind index => Sys2Proof.Machine.execCounterWindowEnd kind index s
  | .receiveMapBlock slot octets errored => Sys2Proof.Machine.execReceiveMapBlock slot octets errored s
  | .addSlotBlock slot => Sys2Proof.Machine.execAddSlotBlock slot s
  | .hostLaneEqfUpdate hlane meas fec => Sys2Proof.Machine.execHostLaneEqfUpdate hlane meas fec s
  | .icingAvgLevelUpdate face level => Sys2Proof.Machine.execIcingAvgLevelUpdate face level s

end Sys2Proof.Machine
end

