-- ==== Sys2Proof/Safety.lean ====
section
/-! DEFINITION. The terms in which statements speak: a command that completes, what it leaves unchanged, and the
canonical form of the memories. -/

namespace Sys2Proof.Machine

/-- The command `c` completes at `s` and leaves `t`. -/
def Completes (c : Instr) (s t : State) : Prop := exec c s = .next t

/-- The MCP executes the Parax command of opcode `op` at `s`: it runs (R391, R344), and the Tier admits it (R378). -/
def Takes (op : Nat) (s : State) : Prop := s.mcpRuns = true ∧ tierAdmits op s = true

/-- The Parax command `c` completes at `s`, answers the status `st` with the payload `p`, and leaves `t` but for what
was answered (R404). -/
def Answers (c : Instr) (op : Nat) (st : Status) (p : Bytes) (s t : State) : Prop :=
  exec c s = .next { t with resp := { opcode := BitVec.ofNat 16 op, status := st.code, payload := p } }

/-- The device is not in reset. -/
def Live (s : State) : Prop := s.sys.inReset = false

/-- Only the receiver of lane `l` differs. -/
def OnlyRx (l : Nat) (s t : State) : Prop := (∀ k, k ≠ l → t.rxAt k = s.rxAt k) ∧ { t with rx := s.rx } = s

/-- Only the receiver of lane `l` differs, and what the mailbox queues. -/
def OnlyRxEv (l : Nat) (s t : State) : Prop :=
  (∀ k, k ≠ l → t.rxAt k = s.rxAt k) ∧ { t with rx := s.rx, mbx := s.mbx } = s

/-- Only the transmitter of lane `l` differs. -/
def OnlyTx (l : Nat) (s t : State) : Prop := (∀ k, k ≠ l → t.txAt k = s.txAt k) ∧ { t with tx := s.tx } = s

/-- Only the transmitter of lane `l` differs, and the burst of its face's Icing channel (R250). -/
def OnlyTxBurst (l : Nat) (s t : State) : Prop :=
  (∀ k, k ≠ l → t.txAt k = s.txAt k)
  ∧ (∀ f, t.icingAt f = { s.icingAt f with burst := (t.icingAt f).burst } ∧ (f ≠ faceOf l → t.icingAt f = s.icingAt f))
  ∧ { t with tx := s.tx, icing := s.icing } = s

/-- An event of opcode `op` with this payload is the last one queued (R390). -/
def Queued (op : Nat) (p : Bytes) (s : State) : Prop :=
  s.mbx.evq.getLast? = some { op := BitVec.ofNat 16 op, bytes := p }

/-- The mailbox takes one more event: it is initialised and its queue is not full (R390, R391). -/
def TakesEvents (s : State) : Prop := s.mbx.mode ≠ .down ∧ s.mbx.evq.length < 256

/-- Of management SRAM, at most the `n` bytes from SRAM address `a` differ, and what shares a 64-bit word with them that
had an uncorrectable error (R431). -/
def SramOnly (a n : Nat) (s t : State) : Prop :=
  ∀ k, (k < a ∨ a + n ≤ k) → k / 8 ∉ s.sramBad → t.sramByte k = s.sramByte k

/-- A crumb memory is canonical: its bytes and its check words are (R20 to R22). -/
def CrumbMem.wf (m : CrumbMem) : Bool := Memory.wf m.bytes && Tab.wf zeroCrumbCheck m.checks

/-- Every memory of the state is in its canonical form. -/
def State.memWf (s : State) : Bool :=
  Memory.wf s.sram && s.bank.wf && s.calMem.wf && s.cliMem.wf && Memory.wf s.cal.nvm

/-- The RS counters of a lane agree: RS_CW is RS_CW_UNCORR plus the histogram (R145). -/
def FecCnt.agrees (c : FecCnt) : Prop := c.rsCw = (List.range 16).foldl (fun a n => a + Tab.get 0 c.rsHist n) c.rsUncorr

/-- The counters of R145 agree on lane `l`. -/
def RsCountsAgree (l : Nat) (s : State) : Prop := (s.framerAt l).cnt.agrees

/-- At most 256 events wait (R390), the repeat history holds at most 16 responses (R389), and the odd counter of a
chained pair has SOURCE NONE (R423). -/
def bounded (events : List Ev) (history : List Hist) (cnts : Tab Cnt) : Prop :=
  events.length ≤ 256 ∧ history.length ≤ 16
  ∧ ∀ k, (Tab.get {} cnts (2 * k)).chain = true → (Tab.get {} cnts (2 * k + 1)).source = 0

/-- What every step keeps within bounds: the events that wait, the repeat history and the chained counters. -/
def State.InBounds (s : State) : Prop := bounded s.mbx.evq s.mbx.history s.dma.cnts

end Sys2Proof.Machine
end

