-- ==== Sys2Proof/Certificates/Slice0/Obligations.lean ====
section
/-! DEFINITION. The statements for the provers, chapter by chapter of the spec. -/

open Sys2Proof Sys2Proof.Machine

/-- R18, R19: an evaluation latches what it finds; a crossing FIFO that wanders 3 entries sets PHASE and its tile's
bit, and a slip (4) centres it and errors what crosses. The model's own readings in its clauses: log entries 77 and 86
(what a slip raises and errors, unmeasured pairs). -/
def Obligations.NeighbourLimits : Prop := ∀ s : State, Live s → s.sys.rsynLock = true →
  (s.coreOn 0 = true → ∃ t, Completes .neighbourLimitEval s t
    ∧ t.skew.temp = (s.skew.temp || !(s.hotPairs tempSet).isEmpty)
    ∧ t.skew.supply = (s.skew.supply || !(s.supplyPairs 25).isEmpty)
    ∧ t.skew.phase = (s.skew.phase || !s.skew.wandering.isEmpty)
    ∧ { t with skew := s.skew, mbx := s.mbx } = s)
  ∧ (∀ (r : Byte) (w : BitVec 3), s.crossing r.toNat = true → w.toNat ≤ 2 →
      ∃ t, Completes (.fifoWander r w) s t ∧ Tab.get 0 t.skew.fifo r.toNat = w.toNat
        ∧ t.skew.phase = s.skew.phase ∧ t.skew.lanes = s.skew.lanes ∧ { t with skew := s.skew } = s)
  ∧ (∀ r : Byte, s.crossing r.toNat = true → r.toNat < 16 →
      ∃ t, Completes (.fifoWander r 3) s t ∧ Tab.get 0 t.skew.fifo r.toNat = 3 ∧ t.skew.phase = true
        ∧ bitOf t.skew.lanes r.toNat = true ∧ { t with skew := s.skew, mbx := s.mbx } = s)
  ∧ (∀ r : Byte, s.crossing r.toNat = true → r.toNat < 16 →
      ∃ t, Completes (.fifoWander r 4) s t ∧ Tab.get 0 t.skew.fifo r.toNat = 0 ∧ t.skew.phase = true
        ∧ t.skew.active = true ∧ bitOf t.skew.errLanes r.toNat = true ∧ { t with skew := s.skew, mbx := s.mbx } = s)

/-- R402, R404, and the settings of R27 to R62: LANE_CONFIG sets the fields that MASK selects and no other; LANE_STATUS
and LANE_QUALITY answer what is recorded and change nothing. The model's own readings in its clauses: log entry 12
(settings of an unpowered block). -/
def Obligations.LaneConfigFields : Prop := ∀ (s : State) (lane : Byte), lane.toNat < 16 →
  (∀ (m : W16) (cls pre sd agc ech soft : Byte) (eqf : W16) (kp ki upd irej : Byte), Takes 0x0101 s →
    m.toNat < 2048 → cls.toNat ≤ 3 → pre.toNat ≤ 2 → 1 ≤ sd.toNat → sd.toNat ≤ 8 → 16 ≤ agc.toNat → agc.toNat ≤ 64 →
    (ech = 0 ∨ (-45 ≤ ech.toInt ∧ ech.toInt ≤ -30)) → soft.toNat ≤ 15 → 4 ≤ kp.toNat → kp.toNat ≤ 12 →
    10 ≤ ki.toNat → ki.toNat ≤ 20 → upd.toNat ≤ 8 → irej.toNat ≤ 1 →
    ∃ t, Answers (.laneConfig lane m cls pre sd agc ech soft eqf kp ki upd irej) 0x0101 .ok [] s t
      ∧ (let c := (s.rxAt lane.toNat).cfg
         t.rxAt lane.toNat = { s.rxAt lane.toNat with cfg :=
          { cls := if bitOf m 0 then cls else c.cls, precode := if bitOf m 1 then pre else c.precode,
            sdLevel := if bitOf m 2 then sd else c.sdLevel, agcTarget := if bitOf m 3 then agc else c.agcTarget,
            echoThresh := if bitOf m 4 then ech else c.echoThresh,
            softShift := if bitOf m 5 then soft else c.softShift, eqfLow := if bitOf m 6 then eqf else c.eqfLow,
            kp := if bitOf m 7 then kp else c.kp, ki := if bitOf m 8 then ki else c.ki,
            upd := if bitOf m 9 then upd else c.upd, irej := if bitOf m 10 then irej == 1 else c.irej } })
      ∧ OnlyRx lane.toNat s t)
  ∧ (Takes 0x0104 s → ∃ p, Answers (.laneStatus lane) 0x0104 .ok p s s ∧ p.length = 16
      ∧ byteAt p 0 = (s.rxAt lane.toNat).st.code ∧ slice p 2 4 = le32 (s.rxAt lane.toNat).lockLoss
      ∧ slice p 6 4 = le32 (s.rxAt lane.toNat).acqRetry ∧ slice p 10 4 = le32 (s.rxAt lane.toNat).warmFail
      ∧ byteAt p 14 = (s.rxAt lane.toNat).retrySt ∧ byteAt p 15 = (s.rxAt lane.toNat).lossCause)
  ∧ (Takes 0x0105 s → Answers (.laneQuality lane) 0x0105 .ok (s.rxAt lane.toNat).quality.bytes s s)

/-- R43, R44, R47, R39, R63: LANE_ADAPT freezes and releases blocks and sets exponents, LANE_ECHO_SEARCH asks for a new
sweep in LOCKED, LANE_CAPTURE_ARM replaces a capture that is armed and not yet triggered. -/
def Obligations.LaneAdaptSearchCapture : Prop := ∀ (s : State) (lane : Byte), lane.toNat < 16 →
  (∀ (fr : Byte) (a k : Bytes), Takes 0x0106 s → fr.toNat < 8 → a.length = 3 → k.length = 3 →
    (∀ x ∈ a, 6 ≤ x.toNat ∧ x.toNat ≤ 20) → (∀ x ∈ k, 6 ≤ x.toNat ∧ x.toNat ≤ 20) →
    ∃ t, Answers (.laneAdapt lane fr 1 a k) 0x0106 .ok [if (t.rxAt lane.toNat).guard.frozen then 7 else fr] s t
      ∧ (t.rxAt lane.toNat).freeze = fr.setWidth 3 ∧ (t.rxAt lane.toNat).expAcq = a.map BitVec.toNat
      ∧ (t.rxAt lane.toNat).expTrk = k.map BitVec.toNat ∧ (fr ≠ 7 → (t.rxAt lane.toNat).guard.frozen = false)
      ∧ OnlyRx lane.toNat s t)
  ∧ (Takes 0x010A s → s.rxOn lane.toNat = true → (s.rxAt lane.toNat).st = .locked →
    ∃ t, Answers (.laneEchoSearch lane) 0x010A .ok [] s t ∧ (t.rxAt lane.toNat).echo.restart = true
      ∧ (t.rxAt lane.toNat).st = .locked ∧ OnlyRx lane.toNat s t)
  ∧ (∀ (src mode : Byte) (stride : W32) (trg pre : Byte), Takes 0x010B s → s.rxOn lane.toNat = true →
    src.toNat ≤ 4 → mode.toNat ≤ 1 → 1 ≤ stride.toNat → stride.toNat ≤ 65536 → trg.toNat ≤ 5 → pre.toNat ≤ 7 →
    ∃ t, Answers (.laneCaptureArm lane src mode stride trg pre) 0x010B .ok [] s t
      ∧ ((s.rxAt lane.toNat).cap.running = none → (t.rxAt lane.toNat).cap.armed = some ⟨src, mode, stride, trg, pre⟩)
      ∧ ((s.rxAt lane.toNat).cap.running ≠ none →
          (t.rxAt lane.toNat).cap.deferred = some ⟨src, mode, stride, trg, pre⟩)
      ∧ (t.rxAt lane.toNat).cap.running = (s.rxAt lane.toNat).cap.running ∧ OnlyRx lane.toNat s t)

/-- R53, R54, R59, R27: LANE_START moves a lane from OFF into acquisition, LANE_STOP returns it to OFF, signal detect
and the end of a back-off start the choice of a path. -/
def Obligations.LaneStartStop : Prop := ∀ (s : State) (l : BitVec 4) (lane : Byte) (r : Rx),
  lane.toNat = l.toNat → s.rxAt l.toNat = r →
  (Takes 0x0102 s → s.rxOn l.toNat = true → r.st = .off → r.sigDetect = false →
    ∃ t, Answers (.laneStart lane) 0x0102 .ok [] s t ∧ (t.rxAt l.toNat).st = .waitSignal ∧ OnlyRx l.toNat s t)
  ∧ (Takes 0x0102 s → s.rxOn l.toNat = true → r.st ≠ .off →
    Answers (.laneStart lane) 0x0102 .busy [] s s)
  ∧ (Takes 0x0103 s → s.rxOn l.toNat = true → r.snapBusy = false →
    ∃ t, Answers (.laneStop lane) 0x0103 .ok [] s t ∧ (t.rxAt l.toNat).st = .off ∧ t.bank = s.bank)
  ∧ (Live s → s.rxOn l.toNat = true → r.sigDetect = false → r.st = .waitSignal → r.backoff = false →
    (s.txAt l.toNat).check.on = false → s.bank.ok (bankCrumb l.toNat 0) = true → hdrValid (s.bankRead l.toNat 0) = false →
    ∃ t, Completes (.signalDetectAssert l) s t ∧ (t.rxAt l.toNat).st = .agc ∧ (t.rxAt l.toNat).path = .cold
      ∧ (t.rxAt l.toNat).coef.ffe = romFfe r.cfg.cls ∧ (t.rxAt l.toNat).coef.alpha = romAlpha r.cfg.cls)
  ∧ (Live s → s.rxOn l.toNat = true → r.sigDetect = true → r.st = .align →
    (s.txAt l.toNat).check.locked = false →
    ∃ t, Completes (.signalDetectDeassert l) s t ∧ (t.rxAt l.toNat).st = .waitSignal
      ∧ (t.rxAt l.toNat).acqRetry = r.acqRetry ∧ OnlyRx l.toNat s t)
  ∧ (Live s → r.st = .waitSignal → r.backoff = true → r.sigDetect = false →
    ∃ t, Completes (.retryBackoffEnd l) s t ∧ (t.rxAt l.toNat).backoff = false
      ∧ (t.rxAt l.toNat).st = .waitSignal ∧ OnlyRx l.toNat s t)

/-- R53, R54, R56, R28, R32, R42: each acquisition state is left to the state the table names, on its completion. -/
def Obligations.AcquisitionStates : Prop := ∀ (s : State) (l : BitVec 4) (r : Rx), Live s → s.rxAt l.toNat = r →
  (∀ ms : Ratio, r.st = .agc → 0 < r.coef.pga → r.coef.pga < 60 → rmsOff 10 r.use.agcTarget.toNat ms = false → r.agcRun = 3 →
    ∃ t, Completes (.agcWindowEnd l ms) s t ∧ (t.rxAt l.toNat).st = .timing ∧ (t.rxAt l.toNat).agcLimit = false
      ∧ OnlyRx l.toNat s t)
  ∧ (∀ ms : Ratio, r.st = .agc → 12 < r.coef.pga → r.coef.pga < 60 → rmsAbove 60 r.use.agcTarget.toNat ms = true → r.agcRun < 3 →
    ∃ t, Completes (.agcWindowEnd l ms) s t ∧ (t.rxAt l.toNat).st = .agc
      ∧ (t.rxAt l.toNat).coef.pga = r.coef.pga - 12 ∧ OnlyRx l.toNat s t)
  ∧ (∀ ms : Ratio, r.st = .agc → 0 < r.coef.pga → r.coef.pga < 60 → rmsOff 60 r.use.agcTarget.toNat ms = false →
    rmsAbove 10 r.use.agcTarget.toNat ms = true →
    ∃ t, Completes (.agcWindowEnd l ms) s t ∧ (t.rxAt l.toNat).st = .agc ∧ (t.rxAt l.toNat).agcRun = 0
      ∧ (t.rxAt l.toNat).coef.pga = r.coef.pga - 1 ∧ OnlyRx l.toNat s t)
  ∧ (∀ ms : Ratio, r.st = .agc → (r.coef.pga = 0 ∨ r.coef.pga = 60) → rmsOff 60 r.use.agcTarget.toNat ms = false →
    ∃ t, Completes (.agcWindowEnd l ms) s t ∧ (t.rxAt l.toNat).st = .timing ∧ (t.rxAt l.toNat).agcLimit = true
      ∧ (t.rxAt l.toNat).coef = r.coef ∧ OnlyRx l.toNat s t)
  ∧ (∀ f : W16, r.st = .timing → -12800 ≤ f.toInt → f.toInt ≤ 12800 →
    ∃ t, Completes (.timingLock l f) s t ∧ (t.rxAt l.toNat).coef.freq = f.toInt ∧ OnlyRx l.toNat s t
      ∧ (t.rxAt l.toNat).st = (match r.path with | .cold => .ffeAdapt | .warm => .warmVerify | .seeded => .seededAdapt))
  ∧ (r.st = .ffeAdapt → r.stretch = false → r.use.echoLimit.isSome = true →
    ∃ t, Completes (.ffeAdaptDone l) s t ∧ (t.rxAt l.toNat).st = .echoSearch ∧ OnlyRx l.toNat s t)
  ∧ (r.st = .ffeAdapt → r.stretch = false → r.use.cls = 3 →
    ∃ t, Completes (.ffeAdaptDone l) s t ∧ (t.rxAt l.toNat).st = .mlsdTrain ∧ OnlyRx l.toNat s t)
  ∧ (∀ es : List (Nat × Int), r.st = .echoSearch → r.echo.pass < 63 →
    ∃ t, Completes (.echoSearchPassEnd l es) s t ∧ (t.rxAt l.toNat).echo.pass = r.echo.pass + 1
      ∧ (t.rxAt l.toNat).echo.found = r.echo.found ++ es ∧ OnlyRx l.toNat s t)
  ∧ (∀ es : List (Nat × Int), r.st = .echoSearch → r.echo.pass = 63 → r.use.echoLimit.isSome = true →
    ∃ t, Completes (.echoSearchPassEnd l es) s t ∧ (t.rxAt l.toNat).echo.placed = true
      ∧ { t with rx := s.rx, bank := s.bank } = s)
  ∧ (r.st = .echoSearch → r.echo.placed = true →
    ∃ t, Completes (.echoPlacementDone l) s t ∧ (t.rxAt l.toNat).st = .mlsdTrain ∧ OnlyRx l.toNat s t)
  ∧ (r.st = .mlsdTrain → r.stretch = false → (s.txAt l.toNat).check.on = false →
    ∃ t, Completes (.mlsdTrainDone l) s t ∧ (t.rxAt l.toNat).st = .align ∧ OnlyRx l.toNat s t
      ∧ (r.use.precode = 2 → (t.rxAt l.toNat).precode = r.negotiated))
  ∧ (r.st = .mlsdTrain → r.stretch = false → (s.txAt l.toNat).check.on = true →
    ∃ t, Completes (.mlsdTrainDone l) s t ∧ (t.rxAt l.toNat).st = .mlsdTrain ∧ t.checking l.toNat = true ∧ OnlyRx l.toNat s t)
  ∧ (r.st = .align → r.stretch = false → r.use.precode = 2 → r.otherTried = false →
    ∃ t, Completes (.precodeTrialTimeout l) s t ∧ (t.rxAt l.toNat).precode = !r.precode
      ∧ (t.rxAt l.toNat).st = .align ∧ OnlyRx l.toNat s t)
  ∧ (∀ (near : Nat) (es : List Nat), r.st = .align → 192 ≤ near → near ≤ 256 → es.length = 4 → (∀ e ∈ es, e ≤ 8) →
    ∃ t, Completes (.alignmentFound { lane := l, near := near, errors := es.map some }) s t
      ∧ (t.rxAt l.toNat).st = .mfSearch ∧ OnlyRx l.toNat s t)
  ∧ (r.st = .seededAdapt →
    ∃ t, Completes (.seededAdaptDone l) s t ∧ (t.rxAt l.toNat).st = .align ∧ OnlyRx l.toNat s t)

/-- R54, R142, R53: the checks of a warm relock, and multiframe lock. -/
def Obligations.WarmRelockAndLock : Prop := ∀ (s : State) (l : BitVec 4) (r : Rx), Live s → s.rxAt l.toNat = r →
  (r.st = .warmVerify → r.verifying = false → r.stretch = false → s.badBank l.toNat [0, 1, 2] = [] →
    ∃ t, Completes (.warmCrumbCheckDone l) s t ∧ (t.rxAt l.toNat).st = .agc
      ∧ (t.rxAt l.toNat).coef = coefOf (s.bankRead l.toNat 1) (s.bankRead l.toNat 2) ∧ OnlyRx l.toNat s t)
  ∧ (r.st = .warmVerify → r.verifying = false → r.stretch = false → s.badBank l.toNat [0, 1, 2] ≠ [] →
    ∃ t, Completes (.warmCrumbCheckDone l) s t ∧ (t.rxAt l.toNat).st = .agc ∧ (t.rxAt l.toNat).path = .cold
      ∧ (t.rxAt l.toNat).warmFail = r.warmFail + 1 ∧ (t.rxAt l.toNat).coef.ffe = romFfe r.cfg.cls)
  ∧ (∀ (mse : W32) (ids : List Byte), r.st = .warmVerify → r.verifying = true → r.stretch = false →
    mseOver 3 mse (hdrMse (s.bankRead l.toNat 0)) = false →
    ∃ t, Completes (.warmMseVerifyDone l mse ids) s t ∧ (t.rxAt l.toNat).st = .align ∧ OnlyRx l.toNat s t)
  ∧ (∀ (mse : W32) (ids : List Byte), r.st = .warmVerify → r.verifying = true → r.stretch = false →
    mseOver 3 mse (hdrMse (s.bankRead l.toNat 0)) = true →
    ∃ t, Completes (.warmMseVerifyDone l mse ids) s t ∧ (t.rxAt l.toNat).st = .agc
      ∧ (t.rxAt l.toNat).path = .cold ∧ (t.rxAt l.toNat).warmFail = r.warmFail + 1)
  ∧ (∀ x : StartSeen, r.st = .mfSearch → syncErrors x.first ≤ 2 → x.apart = 16 * s.rxS l.toNat →
    headerValid x.second x.ok = true → byteAt x.second 5 = s.ownFmt l.toNat → (r.stretch = true → x.fromSync = 0) →
    ∃ t, Completes (.mfLock l x) s t ∧ (t.rxAt l.toNat).st = .locked ∧ (t.framerAt l.toNat).lock = true
      ∧ (t.rxAt l.toNat).retries = 0 ∧ (t.rxAt l.toNat).quality.period = 0)

/-- R57, R58, R64: retries and losses of lock are counted, reported and lead where the rules say. The model's own
readings in its clauses: log entry 90 (the wait with the 8th retry). -/
def Obligations.RetriesAndLosses : Prop := ∀ (s : State) (l : BitVec 4) (r : Rx), Live s → s.rxAt l.toNat = r →
  (r.st = .timing → r.path = .cold → s.checking l.toNat = false → r.retries < 7 →
    ∃ t, Completes (.acqStateTimeout l) s t ∧ (t.rxAt l.toNat).st = .agc ∧ (t.rxAt l.toNat).path = .cold
      ∧ (t.rxAt l.toNat).acqRetry = r.acqRetry + 1 ∧ (t.rxAt l.toNat).retrySt = 3
      ∧ (TakesEvents s → Queued 0x8103 ([u8 l.toNat, 3] ++ le32 (r.acqRetry + 1)) t))
  ∧ (r.st = .timing → r.path = .cold → s.checking l.toNat = false → r.retries = 7 →
    ∃ t, Completes (.acqStateTimeout l) s t ∧ (t.rxAt l.toNat).st = .waitSignal ∧ (t.rxAt l.toNat).backoff = true)
  ∧ (r.st = .timing → r.path = .warm → s.checking l.toNat = false →
    ∃ t, Completes (.acqStateTimeout l) s t ∧ (t.rxAt l.toNat).st = .agc ∧ (t.rxAt l.toNat).path = .cold
      ∧ (t.rxAt l.toNat).warmFail = r.warmFail + 1 ∧ (t.rxAt l.toNat).acqRetry = r.acqRetry)
  ∧ (∀ (c : BitVec 2) (f : W16) (run : Nat), r.st = .locked → r.snapBusy = false → r.sigDetect = false →
    (c = 0 ∨ (c = 1 ∧ (12800 ≤ f.toInt.natAbs ∨ 8 ≤ run)) ∨ (c = 2 ∧ 64 ≤ run)) → (s.turnAt l.toNat).await = false →
    ∃ t, Completes (.lockLossDeclare l { cause := c, freq := f, run := run }) s t ∧ (t.rxAt l.toNat).st = .waitSignal ∧ t.bank = s.bank
      ∧ (t.rxAt l.toNat).lockLoss = r.lockLoss + 1 ∧ (t.rxAt l.toNat).loss = some c
      ∧ (t.rxAt l.toNat).lossFrozen = true ∧ (t.framerAt l.toNat).lock = false)
  ∧ (∀ c : BitVec 2, r.loss = some c →
    ∃ t, Completes (.lockLossCauseSettle l) s t ∧ (t.rxAt l.toNat).loss = none
      ∧ (t.rxAt l.toNat).lossCause = u8 c.toNat ∧ OnlyRxEv l.toNat s t
      ∧ (TakesEvents s → Queued 0x8102 [u8 l.toNat, u8 c.toNat] t))
  ∧ (r.snapBusy = true → r.defStop = false → r.defLoss = none → r.defMode = none →
    ∃ t, Completes (.snapshotWriteDone l) s t ∧ (t.rxAt l.toNat).snapBusy = false
      ∧ (t.rxAt l.toNat).st = r.st ∧ OnlyRx l.toNat s t)
  ∧ (r.snapBusy = true → r.defStop = true →
    ∃ t, Completes (.snapshotWriteDone l) s t ∧ (t.rxAt l.toNat).st = .off)

/-- R43, R46, R60, R63, R38: what happens in LOCKED. The model's own readings in its clauses: log entries 33 (gradients
as operands, one rounding) and 138 (runs of codewords at a late switch). -/
def Obligations.InLocked : Prop := ∀ (s : State) (l : BitVec 4) (r : Rx), Live s → s.rxAt l.toNat = r →
  (∀ (f c : List Int) (a : Int), s.rxOn l.toNat = true → r.st = .locked → r.stretch = false → r.guard.frozen = true →
    ∃ t, Completes (.adaptUpdate l f c a) s t ∧ (t.rxAt l.toNat).coef.ffe = r.coef.ffe
      ∧ (t.rxAt l.toNat).coef.alpha = r.coef.alpha ∧ OnlyRx l.toNat s t)
  ∧ (∀ (f c : List Int) (a : Int), s.rxOn l.toNat = true → r.st = .locked → r.stretch = false → r.freeze = 0 →
    r.lossFrozen = false → r.guard.frozen = false → s.cal.frozen = false → s.checking l.toNat = false →
    r.coef.ffe.length = 56 →
    ∃ t, Completes (.adaptUpdate l f c a) s t ∧ (t.rxAt l.toNat).coef.ffe.getD 8 0 = 256 ∧ OnlyRx l.toNat s t
      ∧ (t.rxAt l.toNat).coef.ffe.getD 0 0
          = max (-512) (min 511 (r.coef.ffe.getD 0 0 - roundEven (f.getD 0 0) (2 ^ r.expTrk.getD 0 20))))
  ∧ (∀ (g : BitVec 2) (d : Nat), r.echo.ramps.find? (fun p => p.1 == g.toNat && p.2.1 == 0) = some (g.toNat, 0, d) →
    g.toNat < r.coef.groups.length →
    ∃ t, Completes (.echoGroupRelocate l g) s t ∧ (t.rxAt l.toNat).coef.groups.getD g.toNat {} = { delay := d }
      ∧ OnlyRx l.toNat s t)
  ∧ (∀ (mse : W32) (id : Byte) (fec : FecCounts), r.st = .locked → r.stretch = false →
    r.guard.mseRun < 3 → r.guard.satHit = false → longestRun (s.framerAt l.toNat).uncorrRun fec < 64 →
    ∃ t, Completes (.rxMultiframeBoundary l mse false id fec.toInnerCounts fec.toRsCounts fec.toUncorrRuns) s t ∧ (t.rxAt l.toNat).st = .locked
      ∧ (t.rxAt l.toNat).guard.mfs = r.guard.mfs + 1 ∧ (t.rxAt l.toNat).guard.mses = mse :: r.guard.mses
      ∧ (t.rxAt l.toNat).coef.ffe = r.coef.ffe ∧ (t.rxAt l.toNat).irejUse = r.cfg.irej)
  ∧ (∀ (mse : W32) (id : Byte) (fec : FecCounts), r.st = .locked → r.stretch = false → r.guard.frozen = false →
    r.guard.mseRun = 3 → s.hasSnap l.toNat = true → s.badBank l.toNat [1, 2] = [] → r.guard.trips = [] →
    mseOver 6 mse (hdrMse (s.bankRead l.toNat 0)) = true → longestRun (s.framerAt l.toNat).uncorrRun fec < 64 →
    ∃ t, Completes (.rxMultiframeBoundary l mse false id fec.toInnerCounts fec.toRsCounts fec.toUncorrRuns) s t ∧ (t.rxAt l.toNat).st = .locked
      ∧ (t.rxAt l.toNat).coef = coefOf (s.bankRead l.toNat 1) (s.bankRead l.toNat 2)
      ∧ (t.rxAt l.toNat).expTrk = r.expTrk.map (fun k => min 20 (k + 1))
      ∧ (TakesEvents s → Queued 0x8104 [u8 l.toNat, 0] t))
  ∧ (∀ (q : QualityMeas), r.st = .locked → r.stretch = false → r.guard.mfs = 64 →
    ∃ t, Completes (.qualityPeriodEnd l q) s t ∧ (t.rxAt l.toNat).quality.period = r.quality.period + 1
      ∧ (t.rxAt l.toNat).quality.mse = f32Mean r.guard.mses ∧ (t.rxAt l.toNat).quality.eqfLower = eqfOf q.eyeLower
      ∧ (t.rxAt l.toNat).quality.eqfMid = eqfOf q.eyeMid ∧ (t.rxAt l.toNat).quality.eqfUpper = eqfOf q.eyeUpper
      ∧ (t.rxAt l.toNat).guard.mfs = 0)
  ∧ (∀ c : Capture, s.rxOn l.toNat = true → r.cap.armed = some c → r.cap.running = none → c.trigger ≠ 5 →
    ∃ t, Completes (.captureTrigger l c.trigger) s t ∧ (t.rxAt l.toNat).cap.running = some c
      ∧ (t.rxAt l.toNat).cap.armed = none ∧ OnlyRx l.toNat s t)
  ∧ (∀ c : Capture, r.cap.running = some c →
    ∃ t, Completes (.captureComplete l) s t ∧ (t.rxAt l.toNat).cap.running = none
      ∧ (t.rxAt l.toNat).cap.armed = r.cap.deferred ∧ (TakesEvents s → Queued 0x8107 [u8 l.toNat, c.trigger] t))

/-- R52, R21, R49: the bank commands read crumbs with their check words and write whole crumbs with new ones, the
header marked with where the bank came from, or turn the command away and write nothing. The model's own readings in
its clauses: log entry 14 (places within a crumb). -/
def Obligations.LaneBankCommands : Prop := ∀ (s : State) (lane : Byte), lane.toNat < 16 → s.rxOn lane.toNat = true →
  (∀ first count : Byte, ∀ buf : W32, Takes 0x0107 s → 1 ≤ count.toNat → first.toNat + count.toNat ≤ 32 →
    bufOk buf (258 * count.toNat) = true → buf ≠ 0 →
    ∃ t, Answers (.laneCoefRead lane first count buf) 0x0107 .ok [] s t ∧ { t with sram := s.sram, sramBad := s.sramBad, sramSoft := s.sramSoft } = s
      ∧ SramOnly (winToSram buf.toNat) (258 * count.toNat) s t
      ∧ (∀ c, c < count.toNat →
          slice (t.sramRead (winToSram buf.toNat) (258 * count.toNat)) (258 * c) 256 = s.bankRead lane.toNat (first.toNat + c)
          ∧ slice (t.sramRead (winToSram buf.toNat) (258 * count.toNat)) (258 * c + 256) 2
            = le16 (s.bank.check (bankCrumb lane.toNat (first.toNat + c)))))
  ∧ (∀ first count : Byte, ∀ buf : W32, Takes 0x0107 s → 1 ≤ count.toNat → first.toNat + count.toNat ≤ 32 → buf = 0 →
    Answers (.laneCoefRead lane first count buf) 0x0107 .range [] s s)
  ∧ (∀ first count : Byte, ∀ buf : W32, Takes 0x0108 s → s.sramBad = [] → s.sramSoft = [] → 1 ≤ count.toNat → first.toNat + count.toNat ≤ 32 →
    bufOk buf (256 * count.toNat) = true → buf ≠ 0 →
    ((s.rxAt lane.toNat).st = .off ∨ (s.rxAt lane.toNat).freeze = 7) →
    (first = 0 ∨ s.bank.ok (bankCrumb lane.toNat 0) = true) →
    ∃ t, Answers (.laneCoefWrite lane first count buf []) 0x0108 .ok [] s t
      ∧ (∀ i, i < count.toNat → t.bank.ok (bankCrumb lane.toNat (first.toNat + i)) = true)
      ∧ (∀ i, i < count.toNat → first.toNat + i ≠ 0 → t.bankRead lane.toNat (first.toNat + i)
          = slice (s.sramRead (winToSram buf.toNat) (256 * count.toNat)) (256 * i) 256)
      ∧ (first = 0 → t.bankRead lane.toNat 0
          = putAt (slice (s.sramRead (winToSram buf.toNat) (256 * count.toNat)) 0 256) 5 [1, 0, 0])
      ∧ (first ≠ 0 → t.bankRead lane.toNat 0 = putAt (s.bankRead lane.toNat 0) 5 [1, 0, 0])
      ∧ { t with bank := s.bank } = s)
  ∧ (∀ first count : Byte, ∀ buf : W32, Takes 0x0108 s → 1 ≤ count.toNat → first.toNat + count.toNat ≤ 32 →
    bufOk buf (256 * count.toNat) = true → buf ≠ 0 → (s.rxAt lane.toNat).st = .off → first ≠ 0 →
    s.bank.ok (bankCrumb lane.toNat 0) = false →
    Answers (.laneCoefWrite lane first count buf []) 0x0108 .crumb [] s s)
  ∧ (∀ dst : Byte, dst.toNat < 16 → s.rxOn dst.toNat = true → Takes 0x0109 s → (s.rxAt dst.toNat).st = .off →
    s.badBank lane.toNat [0, 1, 2, 3] = [] →
    ∃ t, Answers (.laneCoefCopy lane dst) 0x0109 .ok [] s t
      ∧ (∀ c, c < 4 → t.bank.ok (bankCrumb dst.toNat c) = true)
      ∧ (∀ c, 1 ≤ c → c < 4 → t.bankRead dst.toNat c = s.bankRead lane.toNat c)
      ∧ t.bankRead dst.toNat 0 = putAt (s.bankRead lane.toNat 0) 5 [2, lane, 0] ∧ { t with bank := s.bank } = s)
  ∧ (∀ dst : Byte, dst.toNat < 16 → s.rxOn dst.toNat = true → Takes 0x0109 s → (s.rxAt dst.toNat).st ≠ .off →
    Answers (.laneCoefCopy lane dst) 0x0109 .busy [] s s)

/-- R69, stated whole: the default taps, and TX_FIR_SET as accepted and as rejected. The model's own readings in its
clauses: log entry 12: for a transmitter whose domain is unpowered the command works on the settings, as the model
reads "any state". -/
def Obligations.FirTaps : Prop :=
  (∀ l, (State.reset.txAt l).set.fir = [0, 0, 64, 0, 0, 0, 0, 0, 0])
  ∧ ∀ (s : State) (lane : Byte) (taps : Bytes), lane.toNat < 16 → taps.length = 9 → Takes 0x0204 s →
    let sum := (taps.map (fun b => b.toInt.natAbs)).sum
    (sum ≤ 64 → 16 ≤ (byteAt taps 2).toInt → s.txOn lane.toNat = true →
      ∃ t, Answers (.txFirSet lane taps) 0x0204 .ok [] s t
        ∧ (t.txAt lane.toNat).set.firP = some (taps.map BitVec.toInt)
        ∧ (t.txAt lane.toNat).set.fir = (s.txAt lane.toNat).set.fir ∧ OnlyTx lane.toNat s t)
    ∧ (sum ≤ 64 → 16 ≤ (byteAt taps 2).toInt → s.txOn lane.toNat = false →
      ∃ t, Answers (.txFirSet lane taps) 0x0204 .ok [] s t
        ∧ (t.txAt lane.toNat).set.fir = taps.map BitVec.toInt ∧ OnlyTx lane.toNat s t)
    ∧ (64 < sum ∨ (byteAt taps 2).toInt < 16 → Answers (.txFirSet lane taps) 0x0204 .range [] s s)

/-- R68, R72, R75, R76, R79 to R81: the settings of a transmitter, those that wait for a boundary and those that do
not; TX_STATUS and TX_PD_READ change nothing. The model's own readings in its clauses: log entries 12 (settings of an
unpowered block) and 146 (codes limited within a period). -/
def Obligations.TxSettings : Prop := ∀ (s : State) (lane : Byte) (x : Tx), lane.toNat < 16 → s.txAt lane.toNat = x →
  (∀ (m p lev : Byte), Takes 0x0201 s → s.txOn lane.toNat = true → m.toNat < 4 → (bitOf m 0 = true → p.toNat ≤ 1) →
    (bitOf m 1 = true → -24 ≤ lev.toInt ∧ lev.toInt ≤ -12) →
    ∃ t, Answers (.txConfig lane m p lev) 0x0201 .ok [] s t
      ∧ t.txAt lane.toNat = { x with set := { x.set with
          precodeP := if bitOf m 0 then some (p == 1) else x.set.precodeP
          levelP := if bitOf m 1 then some lev.toInt else x.set.levelP } }
      ∧ OnlyTx lane.toNat s t)
  ∧ (∀ tab : Bytes, Takes 0x0205 s → s.txOn lane.toNat = true → tab.length = 64 →
    (∀ b ∈ tab, -32 ≤ b.toInt ∧ b.toInt ≤ 31) →
    ∃ t, Answers (.txPdWrite lane tab) 0x0205 .ok [] s t ∧ (t.txAt lane.toNat).set.pdP = some (tab.map BitVec.toInt)
      ∧ (t.txAt lane.toNat).set.pd = x.set.pd ∧ (t.txAt lane.toNat).pdLimit = false ∧ OnlyTx lane.toNat s t)
  ∧ (Takes 0x0206 s → Answers (.txPdRead lane) 0x0206 .ok (x.set.pd.map (BitVec.ofInt 8)) s s)
  ∧ (∀ w : Byte, Takes 0x0208 s → w.toNat ≤ 31 →
    ∃ t, Answers (.txSwing lane w) 0x0208 .ok [] s t ∧ (t.txAt lane.toNat).set.swingT = w.toNat
      ∧ (t.txAt lane.toNat).set.swing = (if x.st = .data ∨ x.st = .pattern then x.set.swing else w.toNat)
      ∧ OnlyTx lane.toNat s t)
  ∧ (∀ m c f : Byte, Takes 0x0209 s → m.toNat < 4 → (bitOf m 1 = true → f.toNat ≤ 63) →
    (bitOf m 0 = true → c.toNat ≠ x.set.coarse → x.st = .hiz ∨ x.st = .quiet ∨ x.st = .fault) →
    ∃ t, Answers (.txSkew lane m c f) 0x0209 .ok [] s t
      ∧ t.txAt lane.toNat = { x with set := { x.set with
          coarse := if bitOf m 0 then c.toNat else x.set.coarse, fineT := if bitOf m 1 then f.toNat else x.set.fineT
          fine := if bitOf m 1 ∧ x.st ≠ .data ∧ x.st ≠ .pattern then f.toNat else x.set.fine } }
      ∧ OnlyTx lane.toNat s t)
  ∧ (∀ m c f : Byte, Takes 0x0209 s → m.toNat < 4 → bitOf m 0 = true → (bitOf m 1 = true → f.toNat ≤ 63) →
    (x.st = .data ∨ x.st = .pattern ∨ x.st = .icingOnly) → c.toNat ≠ x.set.coarse →
    Answers (.txSkew lane m c f) 0x0209 .busy [] s s)
  ∧ (Takes 0x020A s → x.st ≠ .data → x.st ≠ .pattern →
    ∃ p, Answers (.txStatus lane) 0x020A .ok p s s ∧ p.length = 19 ∧ byteAt p 0 = x.st.code
      ∧ slice p 7 4 = le32 x.clips ∧ slice p 15 4 = le32 x.loopSlip)
  ∧ (Takes 0x020A s → (x.st = .data ∨ x.st = .pattern) → x.clipNow ≤ codesPerPeriod x.half →
    ∃ p t n, Answers (.txStatus lane) 0x020A .ok p s t ∧ byteAt p 0 = x.st.code ∧ x.clipNow + n ≤ codesPerPeriod x.half
      ∧ slice p 7 4 = le32 (x.clips + BitVec.ofNat 32 n) ∧ slice p 11 4 = le32 x.clipPer
      ∧ t.txAt lane.toNat = { x with clips := x.clips + BitVec.ofNat 32 n, clipNow := x.clipNow + n }
      ∧ (∀ k, k ≠ lane.toNat → t.txAt k = s.txAt k) ∧ { t with tx := s.tx, free := s.free } = s)

/-- R82 to R84, R88, R91: transitions of a transmitter asked for by command. The model's own readings in its clauses:
log entry 147 (TX_ENABLE in DATA). -/
def Obligations.TxTransitions : Prop := ∀ (s : State) (lane : Byte) (x : Tx), lane.toNat < 16 → s.txAt lane.toNat = x →
  (Takes 0x0202 s → s.txTakes lane.toNat = true → s.stopped 4 = false → (x.st = .quiet ∨ x.st = .icingOnly) →
    ∃ t, Answers (.txEnable lane 0) 0x0202 .ok [] s t ∧ (t.txAt lane.toNat).next = some .data
      ∧ (t.txAt lane.toNat).st = x.st ∧ OnlyTx lane.toNat s t)
  ∧ (Takes 0x0202 s → s.txTakes lane.toNat = true → s.stopped 4 = false → (x.st = .quiet ∨ x.st = .icingOnly) →
    s.icLane (faceOf lane.toNat) = lane.toNat →
    ∃ t, Answers (.txEnable lane 1) 0x0202 .ok [] s t ∧ (t.txAt lane.toNat).st = .icingOnly ∧ OnlyTxBurst lane.toNat s t
      ∧ (t.icingAt (faceOf lane.toNat)).burst = (s.icingAt (faceOf lane.toNat)).burst)
  ∧ (Takes 0x0202 s → s.txTakes lane.toNat = true → s.stopped 4 = false → (x.st = .quiet ∨ x.st = .icingOnly) →
    s.icLane (faceOf lane.toNat) ≠ lane.toNat →
    Answers (.txEnable lane 1) 0x0202 .notReady [] s s)
  ∧ (∀ m : Byte, Takes 0x0202 s → s.txTakes lane.toNat = true → s.stopped 4 = false → m.toNat ≤ 1 → x.st = .data →
    Answers (.txEnable lane m) 0x0202 .busy [] s s)
  ∧ (Takes 0x0203 s → s.txTakes lane.toNat = true → x.st = .icingOnly →
    ∃ t, Answers (.txSquelch lane 0) 0x0203 .ok [] s t ∧ (t.txAt lane.toNat).st = .quiet ∧ OnlyTxBurst lane.toNat s t
      ∧ (∀ b, (s.icingAt (faceOf lane.toNat)).burst = some b → b.lane = lane.toNat % 8 →
          (t.icingAt (faceOf lane.toNat)).burst = some { b with stopped := true }))
  ∧ (Takes 0x0203 s → s.txTakes lane.toNat = true → x.st = .fault → (s.faceAt (faceOf lane.toNat)).faultIn = true →
    Answers (.txSquelch lane 1) 0x0203 .faultActive [] s s)
  ∧ (Takes 0x0203 s → s.txTakes lane.toNat = true → x.st = .fault → (s.faceAt (faceOf lane.toNat)).faultIn = false →
    ∃ t, Answers (.txSquelch lane 1) 0x0203 .ok [] s t ∧ (t.txAt lane.toNat).st = .quiet
      ∧ (t.txAt lane.toNat).latched = false ∧ OnlyTx lane.toNat s t)
  ∧ (∀ pat ovr : Byte, Takes 0x020B s → s.txTakes lane.toNat = true → pat.toNat ≤ 3 → ovr.toNat ≤ 2 →
    (x.st = .data ∨ x.st = .quiet ∨ x.st = .icingOnly) →
    ∃ t, Answers (.testGen lane 0 pat ovr 0) 0x020B .ok [] s t ∧ (t.txAt lane.toNat).next = some .pattern
      ∧ (t.txAt lane.toNat).gen = { on := true, pattern := pat, override := ovr } ∧ (t.txAt lane.toNat).st = x.st ∧ OnlyTx lane.toNat s t)
  ∧ (∀ pt : Byte, Takes 0x020E s → pt.toNat ≤ 2 → (s.rxAt lane.toNat).st = .off → x.st = .quiet →
    ∃ t, Answers (.loopbackSet lane pt) 0x020E .ok [] s t ∧ (t.txAt lane.toNat).set.loopback = pt
      ∧ (t.txAt lane.toNat).st = .quiet ∧ OnlyTx lane.toNat s t)
  ∧ (Takes 0x020E s → (s.rxAt lane.toNat).st = .off → x.st = .quiet →
    ∃ t, Answers (.loopbackSet lane 3) 0x020E .ok [] s t ∧ (t.txAt lane.toNat).set.loopback = 3
      ∧ (t.txAt lane.toNat).next = some .data ∧ OnlyTx lane.toNat s t)
  ∧ (∀ pt : Byte, Takes 0x020E s → pt.toNat ≤ 3 → x.st = .data → Answers (.loopbackSet lane pt) 0x020E .busy [] s s)

/-- R82, R84, R92, R459, R77: start-up, faults, slips and transmit quality periods. The model's own readings in its
clauses: log entries 84 (LINE_FAR after a start-up), 105 (an input that stays asserted) and 146. -/
def Obligations.TxEvents : Prop := ∀ (s : State) (l : BitVec 4) (x : Tx), Live s → s.txAt l.toNat = x →
  (s.txOn l.toNat = true → s.stopped 4 = false → x.st = .hiz → x.starting = true → x.latched = false →
    (s.faceAt (faceOf l.toNat)).faultIn = false →
    ∃ t, Completes (.txDomainStartupDone l) s t ∧ (t.txAt l.toNat).st = .quiet
      ∧ (t.txAt l.toNat).next = (if x.toData || x.loopData then some .data else none) ∧ OnlyTx l.toNat s t)
  ∧ (s.txOn l.toNat = true → s.stopped 4 = false → x.st = .hiz → x.starting = true → x.latched = true →
    ∃ t, Completes (.txDomainStartupDone l) s t ∧ (t.txAt l.toNat).st = .fault ∧ (t.txAt l.toNat).latched = true
      ∧ OnlyTx l.toNat s t)
  ∧ (∀ (stays : Bool) (sent : BitVec 2), (∀ k, (s.txAt k).st ≠ .data) → (s.faceAt (faceOf l.toNat)).faultIn = false →
    ∃ t, Completes (.faultInputAssert (BitVec.ofNat 1 (faceOf l.toNat)) { stays := stays, sent := sent }) s t
      ∧ (s.txOn l.toNat = true → x.st = .quiet → (t.txAt l.toNat).st = .fault)
      ∧ (s.txOn l.toNat = true → (t.txAt l.toNat).latched = true) ∧ (t.faceAt (faceOf l.toNat)).faultIn = stays
      ∧ (TakesEvents s → Queued 0x8201 [u8 (faceOf l.toNat)] t))
  ∧ (∀ (lane : Byte) (fill : Nat), lane.toNat = l.toNat → x.looped = true → (fill ≤ 256 ∨ 3840 ≤ fill) →
    ∃ t, Completes (.lineFarSlip lane fill) s t ∧ (t.txAt l.toNat).fill = 2048
      ∧ (t.txAt l.toNat).loopSlip = x.loopSlip + 1 ∧ OnlyTx l.toNat s t)
  ∧ (∀ n : W32, s.sys.rsynLock = true → x.clipNow ≤ n.toNat → (s.faceAt (faceOf l.toNat)).mf % 64 = 0 → (s.faceAt (faceOf l.toNat)).mf ≠ x.periodAt →
    x.clipArmed = true → x.half = false → 1893 < n.toNat →
    ∃ t, Completes (.txQualityPeriodEnd l n) s t ∧ (t.txAt l.toNat).clips = x.clips + BitVec.ofNat 32 (n.toNat - x.clipNow)
      ∧ (t.txAt l.toNat).clipPer = n ∧ (t.txAt l.toNat).clipArmed = false
      ∧ (TakesEvents s → Queued 0x8202 ([u8 l.toNat] ++ le32 n) t))

/-- R70, R72 to R74, R81, R83, R87, R258: a multiframe boundary of a transmitter and its predistortion training. The
model's own readings in its clauses: log entries 43 (a training begun again) and 102 (NOT_READY before NOT_SUPPORTED).
-/
def Obligations.TxBoundaryAndTraining : Prop := (∀ (s : State) (l : BitVec 4) (x : Tx), Live s → s.txAt l.toNat = x →
  s.sys.rsynLock = true → (s.stretchAt l.toNat).countTx = none →
  (s.faceAt (faceOf l.toNat)).pending = none →
  ∃ t, Completes (.txMultiframeBoundary (BitVec.ofNat 1 (faceOf l.toNat))) s t
    ∧ (t.faceAt (faceOf l.toNat)).mf = (s.faceAt (faceOf l.toNat)).mf + 1
    ∧ (t.txAt l.toNat).set.fir = x.set.firP.getD x.set.fir ∧ (t.txAt l.toNat).set.firP = none
    ∧ (t.txAt l.toNat).set.pd = x.set.pdP.getD x.set.pd
    ∧ (x.shed = false → (t.txAt l.toNat).st = x.next.getD x.st)
    ∧ (x.shed = true → (x.st = .data ∨ x.st = .pattern) → (t.txAt l.toNat).st = .quiet)
    ∧ (x.shed = true → x.parking = false → x.st ≠ .data → x.st ≠ .pattern →
        (t.txAt l.toNat).st = .hiz ∧ (t.txAt l.toNat).shed = false)
    ∧ (t.txAt l.toNat).half = x.halfP.getD x.half
    ∧ (x.st = .data → x.next = none → x.shed = false → (t.txAt l.toNat).set.fine = stepTo x.set.fine x.set.fineT))
  ∧ (∀ (s : State) (l : BitVec 4) (x : Tx), s.txAt l.toNat = x →
  (∀ lane iter step : Byte, lane.toNat = l.toNat → Takes 0x0207 s → s.txOn l.toNat = true → 1 ≤ iter.toNat →
    iter.toNat ≤ 64 → step.toNat ≤ 4 → x.st = .data → s.far1608 (faceOf l.toNat) = false →
    s.farFound (faceOf l.toNat) = true → s.icFull (faceOf l.toNat) = false →
    ∃ t, Answers (.txPdTrain lane iter step) 0x0207 .ok [] s t
      ∧ (t.txAt l.toNat).train = some { iter := iter.toNat, step := step.toNat } ∧ (t.txAt l.toNat).pdLimit = false
      ∧ (t.txAt l.toNat).set = x.set)
  ∧ (∀ lane iter step : Byte, lane.toNat = l.toNat → Takes 0x0207 s → s.txOn l.toNat = true → 1 ≤ iter.toNat →
    iter.toNat ≤ 64 → step.toNat ≤ 4 → x.st ≠ .data → Answers (.txPdTrain lane iter step) 0x0207 .notReady [] s s)
  ∧ (∀ tr : Train, Live s → x.train = some tr → (s.icingAt (faceOf l.toNat)).fbWait.any (fun w => w.lane == l.toNat) = true →
    ∃ t, Completes (.pdFeedbackTimeout l) s t ∧ (t.txAt l.toNat).train = none ∧ (t.txAt l.toNat).set = x.set
      ∧ (TakesEvents s → Queued 0x8203 [u8 l.toNat, 3, u8 tr.done, boolByte x.pdLimit] t))
  ∧ (∀ (src : W16) (p : Bytes), Live s → s.icingOn (faceOf l.toNat) = true → inToffee s = false →
    (byteAt p 0).toNat = l.toNat → (s.icingAt (faceOf l.toNat)).far = src → (s.rxAt l.toNat).st = .locked →
    ∃ t, Completes (.pdFbReqReceive (BitVec.ofNat 1 (faceOf l.toNat)) src p) s t
      ∧ (t.icingAt (faceOf l.toNat)).fbOwed = (s.icingAt (faceOf l.toNat)).fbOwed
          ++ [⟨l.toNat, src, u8 (s.farLane l.toNat), byteAt p 1, false⟩]
      ∧ { t with icing := s.icing } = s)
  ∧ (∀ (tr : Train) (p : Bytes), Live s → s.icingOn (faceOf l.toNat) = true → x.train = some tr → s.txOn l.toNat = true →
    (byteAt p 0).toNat = l.toNat → byteAt p 2 = 0 → tr.done + 1 < tr.iter → ¬ (fbMean p 0).natAbs < 16 →
    (s.icingAt (faceOf l.toNat)).fbWait.any (fun w => w.lane == l.toNat && w.fbSeq == byteAt p 1) = true →
    ∃ t, Completes (.pdFbReceive (BitVec.ofNat 1 (faceOf l.toNat)) (s.icingAt (faceOf l.toNat)).far p) s t
      ∧ (t.txAt l.toNat).train = some { tr with done := tr.done + 1, small := 0 }
      ∧ (t.txAt l.toNat).set.pdP = some ((pdUpdate p tr.step (x.set.pdP.getD x.set.pd)).map (·.1))))

/-- R89, R90: the pattern checker of a line lane. The model's own readings in its clauses: log entry 150 (the end of a
checker). -/
def Obligations.PatternCheckers : Prop := ∀ (s : State) (lane : Byte) (x : Tx), lane.toNat < 16 → s.txAt lane.toNat = x →
  (∀ pat : Byte, Takes 0x020C s → s.rxOn lane.toNat = true → pat.toNat ≤ 2 → (s.rxAt lane.toNat).st = .off →
    (s.rxAt lane.toNat).sigDetect = false →
    ∃ t, Answers (.testCheck lane 0 pat) 0x020C .ok [] s t ∧ (t.rxAt lane.toNat).st = .waitSignal
      ∧ (t.txAt lane.toNat).check.on = true ∧ (t.txAt lane.toNat).check.pattern = pat)
  ∧ (∀ pat : Byte, Takes 0x020C s → s.rxOn lane.toNat = true → pat.toNat ≤ 2 → (s.rxAt lane.toNat).st ≠ .off →
    Answers (.testCheck lane 0 pat) 0x020C .busy [] s s)
  ∧ (Takes 0x020D s →
    let c := if x.check.locked then x.check.upToDate s.free else x.check
    ∃ t p, Answers (.testCheckRead lane 1) 0x020D .ok p s t ∧ slice p 0 8 = leN 8 c.bits.toNat
      ∧ slice p 8 8 = leN 8 c.errBits.toNat ∧ slice p 16 8 = leN 8 c.errSyms.toNat
      ∧ slice p 24 8 = leN 8 c.losses.toNat ∧ (t.txAt lane.toNat).check.bits = 0
      ∧ (t.txAt lane.toNat).check.losses = 0 ∧ { t with tx := s.tx, free := s.free } = s)
  ∧ (x.check.on = true → x.check.locked = true → (s.rxAt lane.toNat).st = .mlsdTrain → Takes 0x020C s → s.rxOn lane.toNat = true →
    ∃ t, Answers (.testCheck lane 1 0) 0x020C .ok [] s t ∧ (t.rxAt lane.toNat).st = .off
      ∧ (t.txAt lane.toNat).check.on = false ∧ (t.txAt lane.toNat).check.locked = false
      ∧ (t.txAt lane.toNat).check.losses = x.check.losses ∧ (TakesEvents s → Queued 0x8204 [lane, 0] t))
  ∧ (∀ run bad b e y : Nat, Live s → x.check.on = true → x.check.locked = false → (s.rxAt lane.toNat).st = .mlsdTrain →
    1024 ≤ run →
    ∃ t, Completes (.patternLockChange lane { locked := true, run := run, bad := bad } b e y) s t
      ∧ (t.txAt lane.toNat).check.locked = true ∧ (t.txAt lane.toNat).check.bits = x.check.bits
      ∧ (t.txAt lane.toNat).check.losses = x.check.losses ∧ (TakesEvents s → Queued 0x8204 [lane, 1] t))
  ∧ (∀ run bad b e y : Nat, Live s → x.check.on = true → x.check.locked = true → (s.rxAt lane.toNat).st = .mlsdTrain →
    65536 < 8 * bad →
    ∃ t, Completes (.patternLockChange lane { locked := false, run := run, bad := bad } b e y) s t ∧ (t.txAt lane.toNat).check.locked = false
      ∧ (t.txAt lane.toNat).check.bits = satAdd x.check.bits b
      ∧ (t.txAt lane.toNat).check.losses = x.check.losses + 1
      ∧ (TakesEvents s → Queued 0x8204 [lane, 0] t))

/-- R104: a table that loading builds fits: 4 to `cap` slots, at most 6 bits a subcarrier, and room for its slots. -/
def Obligations.LoadedTablesFit : Prop := ∀ (margin : Int) (cap : Nat) (snr : List Int) (t : BitTable),
  loadTable margin cap snr = some t →
    4 ≤ t.slots ∧ t.slots ≤ cap ∧ 92480 * t.slots ≤ 5600 * t.total ∧ (∀ b ∈ t.bits, b ≤ 6)
    ∧ 5600 * t.total < 92480 * t.slots + 5600

/-- R116, R117, R118, R124: the settings and reads of Stretch mode. The model's own readings in its clauses: log
entries 12 (settings of an unpowered block) and 142 (m(n) without bits). -/
def Obligations.StretchSettings : Prop := ∀ (s : State) (lane : Byte) (x : Stretch), lane.toNat < 16 →
  s.stretchAt lane.toNat = x →
  (∀ k m mm pc r h fl : Byte, Takes 0x0301 s → k.toNat < 64 → (bitOf k 0 = true → m.toNat ≤ 36) →
    (bitOf k 1 = true → mm.toNat ≤ 24) → (bitOf k 2 = true → pc.toNat ≤ 3) →
    (bitOf k 3 = true → 16 ≤ r.toNat ∧ r.toNat ≤ 40) → (bitOf k 4 = true → h.toNat ≤ 15) → (bitOf k 5 = true → fl.toNat < 4) →
    ∃ t, Answers (.stretchConfig lane k m mm pc r h fl) 0x0301 .ok [] s t
      ∧ t.stretchAt lane.toNat = { x with
          margin := if bitOf k 0 then m else x.margin, marginMin := if bitOf k 1 then mm else x.marginMin
          probe := if bitOf k 2 then pc else x.probe, rms := if bitOf k 3 then r else x.rms
          capHold := if bitOf k 4 then h else x.capHold
          raiseEn := if bitOf k 5 then bitOf fl 0 else x.raiseEn, accept := if bitOf k 5 then bitOf fl 1 else x.accept }
      ∧ (∀ k, k ≠ lane.toNat → t.stretchAt k = s.stretchAt k) ∧ { t with stretch := s.stretch } = s)
  ∧ (Takes 0x0304 s → s.rxOn lane.toNat = true → s.far1608 (faceOf lane.toNat) = false → (s.rxAt lane.toNat).stretch = true →
    (s.rxAt lane.toNat).st = .locked →
    ∃ t, Answers (.stretchReload lane) 0x0304 .ok [] s t ∧ t.stretchAt lane.toNat = { x with reload := true }
      ∧ (∀ k, k ≠ lane.toNat → t.stretchAt k = s.stretchAt k) ∧ { t with stretch := s.stretch } = s)
  ∧ (Takes 0x0304 s → s.rxOn lane.toNat = false → Answers (.stretchReload lane) 0x0304 .notReady [] s s)
  ∧ (Takes 0x0304 s → s.rxOn lane.toNat = true → s.far1608 (faceOf lane.toNat) = false → (s.rxAt lane.toNat).stretch = false →
    Answers (.stretchReload lane) 0x0304 .busy [] s s)
  ∧ (Takes 0x0304 s → s.rxOn lane.toNat = true → s.far1608 (faceOf lane.toNat) = true → Answers (.stretchReload lane) 0x0304 .notSupported [] s s)
  ∧ (Takes 0x0305 s → ∃ p, Answers (.stretchStatus lane) 0x0305 .ok p s s ∧ byteAt p 0 = x.phase.code
      ∧ slice p 15 4 = le32 x.mismatch ∧ slice p 19 4 = le32 x.lateSwitch
      ∧ (byteAt p 23).toNat = (s.stretchMasked lane.toNat).length)
  ∧ (∀ buf : W32, Takes 0x0306 s → buf ≠ 0 → bufOk buf 512 = true →
    ∃ t, Answers (.stretchTableRead lane buf) 0x0306 .ok [] s t
      ∧ t.sramRead (winToSram buf.toNat) 512 = s.bankRead lane.toNat 9 ++ s.bankRead lane.toNat 10
      ∧ { t with sram := s.sram, sramBad := s.sramBad, sramSoft := s.sramSoft } = s ∧ SramOnly (winToSram buf.toNat) 512 s t)
  ∧ (∀ buf : W32, Takes 0x0308 s → buf ≠ 0 → bufOk buf 1020 = true → (s.rxAt lane.toNat).stretch = true →
    ∃ t, Answers (.stretchSnrRead lane buf) 0x0308 .ok [] s t
      ∧ t.sramRead (winToSram buf.toNat) 1020 = x.snrBytes ∧ { t with sram := s.sram, sramBad := s.sramBad, sramSoft := s.sramSoft } = s
      ∧ SramOnly (winToSram buf.toNat) 1020 s t)

/-- R104 to R109: the receiver's side of the exchange of a bit table. The model's own readings in its clauses: log
entry 143 (STRETCH_TABLE_WRITE within 100 ms answers BUSY). -/
def Obligations.StretchReceiverExchange : Prop := ∀ (s : State) (l : BitVec 4) (x : Stretch) (f : Nat),
  s.stretchAt l.toNat = x → faceOf l.toNat = f →
  (∀ (lane slots : Byte) (buf : W32), lane.toNat = l.toNat → Takes 0x0307 s → s.sramBad = [] → s.sramSoft = [] → buf ≠ 0 → bufOk buf 255 = true →
    hostTableOk slots.toNat (s.sramRead (winToSram buf.toNat) 255) = true → s.tableState l.toNat = true → x.rxNext = none →
    s.rxOn l.toNat = true → ((s.rxAt l.toNat).st = .mlsdTrain ∨ 120 ≤ x.sinceChange) → s.far1608 f = false → s.icLacks f 2 = false →
    ∃ t, Answers (.stretchTableWrite lane slots buf []) 0x0307 .ok [] s t
      ∧ ((t.stretchAt l.toNat).rxNext.map (fun b => (b.id, b.slots))) = some (x.nextId, slots.toNat)
      ∧ (t.stretchAt l.toNat).rxTab = x.rxTab ∧ (t.stretchAt l.toNat).phase = .exchange)
  ∧ (∀ (lane slots : Byte) (buf : W32), lane.toNat = l.toNat → Takes 0x0307 s → buf ≠ 0 → bufOk buf 255 = true → s.sramBad = [] →
    hostTableOk slots.toNat (s.sramRead (winToSram buf.toNat) 255) = true → s.rxOn l.toNat = true → s.far1608 f = false →
    (s.rxAt l.toNat).st = .locked → x.sinceChange < 120 → x.uncorrRun < 2 →
    Answers (.stretchTableWrite lane slots buf []) 0x0307 .busy [] s s)
  ∧ (∀ (sums : List ProbeSums) (snr : List W16) (b : BitTable), Live s → (s.rxAt l.toNat).stretch = true →
    (s.rxAt l.toNat).st = .mlsdTrain → x.rxNext = none → snr = sums.map (probeSnr x.probeCount) →
    loadTable (64 * (x.margin.toNat : Int)) 64 (snr.map (fun v => (v.toNat : Int))) = some b →
    ∃ t, Completes (.probeMeasureDone l { symbols := x.probeCount, sums := sums }) s t
      ∧ (t.stretchAt l.toNat).rxNext = some { b with id := x.nextId } ∧ (t.stretchAt l.toNat).measured = snr
      ∧ (t.rxAt l.toNat).st = .mlsdTrain)
  ∧ (∀ b : BitTable, Live s → x.rxNext = some b → x.count = 0 →
    ∃ t, Completes (.tableAckReceive (BitVec.ofNat 1 f) b.id (u8 (s.farLane l.toNat))) s t
      ∧ (t.stretchAt l.toNat).acked = true ∧ (t.stretchAt l.toNat).phase = .countdown ∧ { t with stretch := s.stretch } = s)
  ∧ (∀ (b : BitTable) (c : Byte), Live s → x.rxNext = some b → (s.rxAt l.toNat).st = .locked →
    ∃ t, Completes (.tableNakReceive (BitVec.ofNat 1 f) b.id (u8 (s.farLane l.toNat)) c) s t
      ∧ (t.stretchAt l.toNat).rxNext = none ∧ (t.stretchAt l.toNat).rxTab = x.rxTab)
  ∧ (∀ b : BitTable, Live s → x.rxNext = some b → x.acked = false → x.count = 0 → x.sends < 4 →
    ∃ t, Completes (.tableAckTimeout l) s t ∧ (t.stretchAt l.toNat).sends = x.sends + 1
      ∧ (t.stretchAt l.toNat).rxNext = some b)
  ∧ (∀ b : BitTable, Live s → x.rxNext = some b → x.acked = true → x.count = 0 → (s.rxAt l.toNat).st = .locked →
    ∃ t, Completes (.countdownWaitTimeout l) s t ∧ (t.stretchAt l.toNat).rxNext = none
      ∧ (t.stretchAt l.toNat).rxTab = x.rxTab ∧ (TakesEvents s → Queued 0x8307 [u8 l.toNat, 1] t))
  ∧ (∀ (b : BitTable) (v : BitVec 2), Live s → s.tableState l.toNat = true → v ≠ 0 → x.rxNext = some b → x.count = 0 →
    ∃ t, Completes (.countdownDetect l v) s t ∧ (t.stretchAt l.toNat).count = v
      ∧ (t.stretchAt l.toNat).mismatch = x.mismatch ∧ { t with stretch := s.stretch } = s)
  ∧ (∀ v : BitVec 2, Live s → s.tableState l.toNat = true → v ≠ 0 → x.rxNext = none → x.count = 0 →
    ∃ t, Completes (.countdownDetect l v) s t ∧ (t.stretchAt l.toNat).mismatch = x.mismatch + 1
      ∧ (t.stretchAt l.toNat).rxTab = x.rxTab ∧ { t with stretch := s.stretch } = s)

/-- R107, R109, R111: the transmitter's side, and the switch of either side. The model's own readings in its clauses:
log entries 45 (the S before a table), 108 (a table during a countdown) and 144 (the event of a switch). -/
def Obligations.StretchTransmitterExchange : Prop := ∀ (s : State) (l : BitVec 4) (x : Stretch), Live s →
  s.stretchAt l.toNat = x →
  (∀ (f : BitVec 1) (src : W16) (rec : Bytes), s.icingOn f.toNat = true → inToffee s = false →
    (byteAt rec 1).toNat = l.toNat → (byteAt rec 2).toNat = 0 → x.segs = [] →
    ∃ t, Completes (.bitTableReceive f src rec) s t ∧ t.stretchAt l.toNat = { x with segs := [(0, rec)] }
      ∧ { t with stretch := s.stretch } = s)
  ∧ (∀ (f : BitVec 1) (src : W16) (a b : Bytes), s.icingOn f.toNat = true → inToffee s = false →
    (byteAt b 1).toNat = l.toNat → (byteAt b 2).toNat = 1 → x.segs = [(0, a)] → (s.txAt l.toNat).stretch = true →
    tableCheck a b true = 0 → x.countTx = none → x.txTab.map (·.id) ≠ some (byteAt a 0) →
    ∃ t, Completes (.bitTableReceive f src b) s t ∧ (t.stretchAt l.toNat).segs = []
      ∧ (t.stretchAt l.toNat).txNext = some (tableOf (byteAt a 0) (byteAt a 3).toNat (a.drop 12 ++ b.drop 12))
      ∧ (t.stretchAt l.toNat).txTab = x.txTab)
  ∧ (x.segs ≠ [] → ∃ t, Completes (.segmentPartnerTimeout l) s t ∧ t.stretchAt l.toNat = { x with segs := [] }
      ∧ { t with stretch := s.stretch } = s)
  ∧ ((s.txAt l.toNat).stretch = true → x.txNext.isSome = true → x.countTx = none →
    ∃ t, Completes (.countdownStart l) s t ∧ t.stretchAt l.toNat = { x with countTx := some 3 }
      ∧ { t with stretch := s.stretch } = s)
  ∧ (∀ b : BitTable, (s.txAt l.toNat).stretch = true → x.txNext = some b → x.countTx = some 0 → b.slots < x.oldS →
    ∃ t, Completes (.stretchTableSwitch l true) s t ∧ (t.stretchAt l.toNat).txTab = some b
      ∧ (t.stretchAt l.toNat).txNext = x.txLater ∧ (t.stretchAt l.toNat).countTx = none
      ∧ (t.maskAt l.toNat).stretch = (s.maskAt l.toNat).stretch ||| bitsFrom b.slots)
  ∧ (∀ b : BitTable, s.tableState l.toNat = true → x.rxNext = some b → x.count ≠ 0 → (s.rxAt l.toNat).st = .mlsdTrain →
    (s.txAt l.toNat).check.on = false →
    ∃ t, Completes (.stretchTableSwitch l false) s t ∧ (t.stretchAt l.toNat).rxTab = some b
      ∧ (t.stretchAt l.toNat).rxNext = none ∧ (t.rxAt l.toNat).st = .align ∧ (t.rxAt l.toNat).precode = false)

/-- R145: RS_CW always equals RS_CW_UNCORR plus the sum of RS_HIST: it holds at reset, and every command keeps it, a
multiframe and a read with CLEAR among them. The model's own readings in its clauses: log entry 104 (counts of a
multiframe cut short are free and agree). -/
def Obligations.RsCountersAgree : Prop :=
  (∀ l, RsCountsAgree l State.reset)
  ∧ (∀ (s t : State) (l : BitVec 4) (mse : W32) (bad : Bool) (id : Byte) (fec : FecCounts),
      (∀ k, RsCountsAgree k s) → Completes (.rxMultiframeBoundary l mse bad id fec.toInnerCounts fec.toRsCounts fec.toUncorrRuns) s t →
      ∀ k, RsCountsAgree k t)
  ∧ (∀ (s t : State) (lane flags : Byte), (∀ k, RsCountsAgree k s) → Completes (.fecCountersRead lane flags) s t →
      ∀ k, RsCountsAgree k t)
  ∧ (∀ (c : Instr) (s t : State), (∀ k, RsCountsAgree k s) → Completes c s t → ∀ k, RsCountsAgree k t)

/-- R134, R137 to R139, R145, R146: the commands of the framer and the overhead it receives. The model's own readings
in its clauses: log entries 130 (MAX above 16), 131 (AGE before a header), 140 (a new expectation) and 103. -/
def Obligations.FramerRows : Prop := (∀ (s : State) (lane : Byte) (f : Framer), lane.toNat < 16 →
  s.framerAt lane.toNat = f →
  (∀ (y : Byte) (c : W16), Takes 0x0401 s → 1 ≤ y.toNat → y.toNat ≤ 15 → c ≠ 0 →
    ∃ t, Answers (.fecConfig lane y c) 0x0401 .ok [] s t ∧ t.framerAt lane.toNat = { f with degSym := y, degCount := c }
      ∧ { t with framer := s.framer } = s)
  ∧ (Takes 0x0402 s → ∃ t, Answers (.fecCountersRead lane 1) 0x0402 .ok (f.cnt.list.flatMap le64) s t
      ∧ t.framerAt lane.toNat = { f with cnt := {} } ∧ { t with framer := s.framer } = s)
  ∧ (Takes 0x0402 s → Answers (.fecCountersRead lane 0) 0x0402 .ok (f.cnt.list.flatMap le64) s s)
  ∧ (Takes 0x0403 s → ∃ p, Answers (.frameStatus lane) 0x0403 .ok p s s ∧ p.length = 100
      ∧ byteAt p 0 = boolByte f.lock ∧ byteAt p 33 = boolByte f.mismatch)
  ∧ (∀ (mode : Byte) (n : W16) (l : Byte), Takes 0x0404 s → mode.toNat ≤ 2 → l.toNat < 16 → mode ≠ 0 →
    ∃ t, Answers (.frameIdExpect lane mode 0 n l) 0x0404 .ok [] s t ∧ (t.framerAt lane.toNat).idMode = mode
      ∧ (t.framerAt lane.toNat).idExpect = some (n, l) ∧ (t.framerAt lane.toNat).mismatch = f.mismatch
      ∧ { t with framer := s.framer } = s)
  ∧ (∀ (n : W16) (l : Byte), Takes 0x0404 s → l.toNat < 16 → f.mismatch = true →
    ∃ t, Answers (.frameIdExpect lane 0 0 n l) 0x0404 .ok [] s t ∧ (t.framerAt lane.toNat).mismatch = false
      ∧ { t with framer := s.framer, mbx := s.mbx } = s)
  ∧ (∀ (fc : Byte) (tr : Bytes), fc.toNat < 2 → Takes 0x0405 s → tr.length = 16 →
    ∃ t, Answers (.frameTraceSet fc tr) 0x0405 .ok [] s t
      ∧ t.faceAt fc.toNat = { s.faceAt fc.toNat with traceP := some tr } ∧ { t with face := s.face } = s)
  ∧ (∀ (n : Byte) (d : Bytes), Takes 0x0406 s → s.txOn lane.toNat = true → (s.txAt lane.toNat).st = .data →
    d.length = n.toNat → n.toNat + 4 ≤ gccLen (s.txS lane.toNat) → f.gccTx.length < 16 →
    ∃ t, Answers (.frameGccSend lane n d) 0x0406 .ok [] s t
      ∧ t.framerAt lane.toNat = { f with gccTx := f.gccTx ++ [{ data := d }] } ∧ { t with framer := s.framer } = s)
  ∧ (∀ (n : Byte) (d : Bytes), Takes 0x0406 s → s.txOn lane.toNat = true → (s.txAt lane.toNat).st = .data →
    d.length = n.toNat → n.toNat + 4 ≤ gccLen (s.txS lane.toNat) → 16 ≤ f.gccTx.length →
    Answers (.frameGccSend lane n d) 0x0406 .full [] s s)
  ∧ (∀ (max : Byte) (buf : W32), Takes 0x0407 s → buf ≠ 0 →
    bufOk buf ((f.gccRx.take (min 16 max.toNat)).flatMap gccBytes).length = true →
    ∃ t, Answers (.frameGccRead lane max buf) 0x0407 .ok [u8 (f.gccRx.take (min 16 max.toNat)).length] s t
      ∧ t.framerAt lane.toNat = { f with gccRx := f.gccRx.drop (min 16 max.toNat) }
      ∧ { t with framer := s.framer, sram := s.sram, sramBad := s.sramBad, sramSoft := s.sramSoft } = s
      ∧ SramOnly (winToSram buf.toNat) ((f.gccRx.take (min 16 max.toNat)).flatMap gccBytes).length s t))
  ∧ (∀ (s : State) (l : BitVec 4) (f : Framer), Live s →
  s.framerAt l.toNat = f → f.lock = true →
  (∀ h : Bytes, headerValid h true = true → f.idMode = 0 → byteAt h 5 = s.ownFmt l.toNat → f.header = none →
    (s.icingAt (faceOf l.toNat)).far = 0 →
    ∃ t, Completes (.overheadHeaderReceive l h true) s t ∧ (t.framerAt l.toNat).header = some (slice h 4 32)
      ∧ (t.framerAt l.toNat).feRx = byteAt h 12 ∧ (t.framerAt l.toNat).age = 0 ∧ { t with framer := s.framer } = s)
  ∧ (∀ h : Bytes, ∃ t, Completes (.overheadHeaderReceive l h false) s t
      ∧ t.framerAt l.toNat = { f with cnt := { f.cnt with ohFail := f.cnt.ohFail + 1 } } ∧ { t with framer := s.framer } = s)
  ∧ (∀ x : Bytes, gccValid x true = true → byteAt x 0 ≠ 0 → (byteAt x 0).toNat + 4 ≤ x.length → f.gccRx = [] →
    ∃ t, Completes (.gccMessageReceive l x true) s t
      ∧ (t.framerAt l.toNat).gccRx = [⟨byteAt (f.header.getD []) 0 + BitVec.ofNat 8 f.age, byteAt x 1, slice x 2 (byteAt x 0).toNat⟩]
      ∧ (TakesEvents s → Queued 0x8405 [u8 l.toNat] t) ∧ { t with framer := s.framer, mbx := s.mbx } = s)
  ∧ (∀ x : Bytes, gccValid x true = true → byteAt x 0 ≠ 0 → 4 < x.length → 64 ≤ f.gccRx.length →
    ∃ t, Completes (.gccMessageReceive l x true) s t
      ∧ t.framerAt l.toNat = { f with cnt := { f.cnt with gccOver := f.cnt.gccOver + 1 } }
      ∧ { t with framer := s.framer } = s))


/-- R154, R157: CAL_WRITE and CAL_COPY change the INACTIVE copy only and are BUSY while a switch is pending; CAL_CANCEL
returns a PENDING copy before multiframe b - 2 starts; CAL_READ and CAL_ROUTE_READ read. The model's own readings in
its clauses: log entries 10 (CAL_CANCEL with nothing PENDING) and 130 (COUNT 0). -/
def Obligations.CalendarCopies : Prop := ∀ (s : State) (face : Byte) (f : Nat), face.toNat = f → f < 2 →
  s.calOn f = true →
  (∀ (n : Nat) (e : Bytes), Takes 0x0501 s → n < 512 → e.length = 4 → (s.faceAt f).pending = none →
    ∃ t, Answers (.calWrite face 1 0 (leN 2 n ++ e)) 0x0501 .ok [] s t ∧ { t with calMem := s.calMem } = s
      ∧ t.calEntry (otherCopy (s.faceAt f).active).toNat f n = BitVec.ofNat 32 (ofLe e)
      ∧ t.calMem.ok (calCrumb (otherCopy (s.faceAt f).active).toNat f (n / 64)) = true
      ∧ ∀ c g m, c < 2 → g < 2 → m < 512 → (c, g, m) ≠ ((otherCopy (s.faceAt f).active).toNat, f, n) →
          t.calEntry c g m = s.calEntry c g m)
  ∧ (Takes 0x0503 s → (s.faceAt f).pending = none →
    ∃ t, Answers (.calCopy face) 0x0503 .ok [] s t ∧ { t with calMem := s.calMem } = s
      ∧ (∀ c m, c < 2 → m < 512 → t.calEntry c f m = s.calEntry (s.faceAt f).active.toNat f m)
      ∧ ∀ c m, c < 2 → m < 512 → t.calEntry c (1 - f) m = s.calEntry c (1 - f) m)
  ∧ (Takes 0x0503 s → (s.faceAt f).pending ≠ none → Answers (.calCopy face) 0x0503 .busy [] s s)
  ∧ (∀ (copy : Byte) (first count : W16), Takes 0x0502 s → copy.toNat < 2 → count.toNat ≤ 60 →
    first.toNat + count.toNat ≤ 512 →
    Answers (.calRead face copy first count 0) 0x0502 .ok (((List.range count.toNat).map (first.toNat + ·)).flatMap
      (fun n => le32 (s.calEntry copy.toNat f n))) s s)
  ∧ (∀ b, Takes 0x0505 s → (s.faceAt f).pending = some b → (s.faceAt f).mf + 2 < b →
    ∃ t, Answers (.calCancel face) 0x0505 .ok [] s t ∧ t.faceAt f = { s.faceAt f with pending := none }
      ∧ { t with face := s.face } = s)
  ∧ (∀ b, Takes 0x0505 s → (s.faceAt f).pending = some b → b ≤ (s.faceAt f).mf + 2 →
    Answers (.calCancel face) 0x0505 .tooLate [] s s)
  ∧ (Takes 0x0506 s → s.mismatches f = [] → s.maskedEntries f = [] →
    ∃ p, Answers (.calStatusCalendar face 0) 0x0506 .ok p s s ∧ p.length = 83
      ∧ byteAt p 0 = u8 (s.faceAt f).active.toNat ∧ slice p 3 4 = le32 (s.faceAt f).switches)
  ∧ (∀ first count : W16, Takes 0x0507 s → count.toNat ≤ 20 → first.toNat + count.toNat ≤ 512 →
    ∃ p, Answers (.calRouteRead face first count 0) 0x0507 .ok p s s ∧ p.length = 12 * count.toNat)

/-- R155, R151: CAL_COMMIT accepts an INACTIVE copy only when all five checks pass: its crumbs are good, nothing
reserved is set, no two THROUGH entries name one source, every ADD client is active and has at most 64 slots, with the
larger of the other face's ACTIVE and PENDING copies. -/
def Obligations.CommitChecks : Prop := ∀ (s t : State) (face flags mfc : Byte),
  face.toNat < 2 → s.mcpRuns = true → Completes (.calCommit face flags mfc) s t → t.resp.status = Status.ok.code →
  let f := face.toNat
  let c := (otherCopy (s.faceAt f).active).toNat
  (s.faceAt f).pending = none ∧ (t.faceAt f).pending ≠ none ∧ (t.faceAt f).active = (s.faceAt f).active
  ∧ (∀ k < 8, s.calMem.ok (calCrumb c f k) = true)
  ∧ (∀ n < 512, entReserved (s.calEntry c f n) = false)
  ∧ (∀ n m, n < 512 → m < 512 → entKind (s.calEntry c f n) = 3 → entKind (s.calEntry c f m) = 3 →
      entSource (s.calEntry c f n) = entSource (s.calEntry c f m) → n = m)
  ∧ (∀ n < 512, entKind (s.calEntry c f n) = 2 → cliActive (s.clientAt (entClient (s.calEntry c f n))).entry = true
      ∧ addCount (entClient (s.calEntry c f n)) (s.copyEntries c f)
        + max (addCount (entClient (s.calEntry c f n)) (s.copyEntries (s.faceAt (1 - f)).active.toNat (1 - f)))
            (if (s.faceAt (1 - f)).pending = none then 0
             else addCount (entClient (s.calEntry c f n)) (s.copyEntries (otherCopy (s.faceAt (1 - f)).active).toNat (1 - f)))
          ≤ 64)

/-- R155, R156: a commit that is accepted, its multiframe, and the switch. -/
def Obligations.CommitAndSwitch : Prop := ((∀ m, switchAt m none = m + 3)
  ∧ ∀ m x, x < 256 → m + 3 ≤ switchAt m (some x) ∧ switchAt m (some x) % 256 = x
      ∧ ∀ b, m + 3 ≤ b → b % 256 = x → switchAt m (some x) ≤ b)
  ∧ (∀ (s : State) (fb : BitVec 1) (face : Byte) (f : Nat),
  fb.toNat = f → face.toNat = f → s.calOn f = true →
  (∀ mfc : Byte, Takes 0x0504 s → (s.faceAt f).pending = none → commitCheck f s = none →
    ∃ t, Answers (.calCommit face 0 mfc) 0x0504 .ok
        [u8 ((s.faceAt f).mf + 3), u8 (otherCopy (s.faceAt f).active).toNat] s t
      ∧ t.faceAt f = { s.faceAt f with pending := some ((s.faceAt f).mf + 3) } ∧ { t with face := s.face } = s)
  ∧ (∀ (mfc : Byte) (st : Status), Takes 0x0504 s → (s.faceAt f).pending = none → commitCheck f s = some st →
    st ≠ .crumb → ∃ t, Answers (.calCommit face 0 mfc) 0x0504 st [] s t ∧ { t with mbx := s.mbx } = s
      ∧ (TakesEvents s → Queued 0x8502 [face, st.code] t))
  ∧ (∀ b, Live s → (s.faceAt f).pending = some b → b ≤ (s.faceAt f).mf →
    ∃ t, Completes (.calendarSwitch fb) s t ∧ (t.faceAt f).active = otherCopy (s.faceAt f).active
      ∧ (t.faceAt f).pending = none ∧ (t.faceAt f).switches = (s.faceAt f).switches + 1
      ∧ t.calMem = s.calMem
      ∧ (∀ l, l / 8 = f → (s.txAt l).st = .data → (t.maskAt l).down = 0)
      ∧ (∀ l, l / 8 = f → (s.txAt l).st ≠ .data → (t.maskAt l).down = (s.maskAt l).down)
      ∧ (∀ l, l / 8 ≠ f → t.maskAt l = s.maskAt l))
  ∧ (∀ (client : BitVec 10), Live s → s.joined f client.toNat ≠ [] →
    ∃ t, Completes (.joinGuardEnd fb client) s t ∧ (∀ k ∈ s.joined f client.toNat, (t.txSlotAt k).joinEnd = none)
      ∧ (∀ k, k ∉ s.joined f client.toNat → t.txSlotAt k = s.txSlotAt k)
      ∧ { t with txSlot := s.txSlot, client := s.client, mbx := s.mbx } = s))

/-- R161, R162, R163: the route of the next multiframe, and a disagreement. The model's own readings in its clauses:
log entry 100 (the first entry after lock). -/
def Obligations.ReceiveRouting : Prop := ∀ (s : State) (slot : BitVec 10) (e : Bytes), Live s →
  s.rxOn (slot.toNat / 64) = true → (s.framerAt (slot.toNat / 64)).lock = true →
  (entryValid (slot.toNat % 64) e true = true →
    ∃ t, Completes (.receiveSlotRoute slot e true) s t ∧ (t.rxSlotAt slot.toNat).route = w16Be e 2
      ∧ (t.rxSlotAt slot.toNat).nxt2 = some (w16Be e 4)
      ∧ (t.rxSlotAt slot.toNat).mismatch = t.cidMismatch slot.toNat
      ∧ (t.rxSlotAt slot.toNat).routed = true
      ∧ (w16Be e 0 ≠ (s.rxSlotAt slot.toNat).route → (s.rxSlotAt slot.toNat).routed = true →
          (t.rxSlotAt slot.toNat).disagree = wrapAdd (s.rxSlotAt slot.toNat).disagree 1
          ∧ (t.rxSlotAt slot.toNat).sync = false)
      ∧ ((w16Be e 0 = (s.rxSlotAt slot.toNat).route ∨ (s.rxSlotAt slot.toNat).routed = false) →
          (t.rxSlotAt slot.toNat).disagree = (s.rxSlotAt slot.toNat).disagree)
      ∧ ∀ k, k ≠ slot.toNat → t.rxSlotAt k = s.rxSlotAt k)
  ∧ (∃ t, Completes (.receiveSlotRoute slot e false) s t
      ∧ (t.rxSlotAt slot.toNat).route = ((s.rxSlotAt slot.toNat).nxt2).getD
          (if (s.rxSlotAt slot.toNat).routed then (s.rxSlotAt slot.toNat).route else 0)
      ∧ (t.rxSlotAt slot.toNat).nxt2 = none
      ∧ (t.rxSlotAt slot.toNat).disagree = (s.rxSlotAt slot.toNat).disagree)

/-- R165, R166, R169 to R171, R175, R181: the commands of a client and the frames it carries. The model's own readings
in its clauses: log entries 32 (the crumb of CLIENT_SET) and 160 (the frame being sent when a queue is flushed). -/
def Obligations.Clients : Prop := (∀ (s : State) (client : W16) (c : Nat), client.toNat = c → c < 1024 →
  s.clientsOn = true →
  (∀ e : Bytes, Takes 0x0601 s → e.length = 16 → cliEntryOk e = true → cliActive e = true →
    (s.portAt (cliPort e)).vlan = false →
    (s.cliMem.ok (c / 16) = true ∨ ((c / 16) ∈ s.cliMem.rejected ∧ ∀ k, (s.clientAt k).entry.length = 16)) →
    ∃ t, Answers (.clientSet client e) 0x0601 .ok [] s t ∧ t.clientAt c = { s.clientAt c with entry := e }
      ∧ slice (t.cliMem.read (c / 16)) (16 * (c % 16)) 16 = e ∧ t.cliMem.ok (c / 16) = true
      ∧ (∀ k, k ≠ c → t.clientAt k = s.clientAt k) ∧ { t with client := s.client, cliMem := s.cliMem } = s)
  ∧ (∀ e : Bytes, Takes 0x0601 s → e.length = 16 → cliEntryOk e = true → cliActive e = true →
    (s.portAt (cliPort e)).vlan = false → s.cliMem.ok (c / 16) = false → (c / 16) ∉ s.cliMem.rejected →
    ∃ t, Answers (.clientSet client e) 0x0601 .crumb [] s t ∧ (c / 16) ∈ t.cliMem.rejected ∧ t.clientAt c = s.clientAt c
      ∧ (TakesEvents s → Queued 0x800B ([2, 0] ++ leN 2 (c / 16)) t)
      ∧ { t with cliMem := s.cliMem, mbx := s.mbx } = s)
  ∧ (∀ e : Bytes, Takes 0x0601 s → e.length = 16 → cliEntryOk e = true → cliActive e = false →
    s.clientHasSlots c = true → Answers (.clientSet client e) 0x0601 .busy [] s s)
  ∧ (Takes 0x0602 s →
    Answers (.clientGet client) 0x0602 .ok (slice (s.cliMem.read (c / 16)) (16 * (c % 16)) 16) s s)
  ∧ (Takes 0x0603 s → s.facePart 0 c = [] → s.facePart 1 c = [] →
    Answers (.clientStatus client 0) 0x0603 .ok [boolByte (s.clientAt c).up, 0] s s)
  ∧ (Takes 0x0604 s → ∃ t p, Answers (.clientCountersRead client 1) 0x0604 .ok p s t ∧ p.length = 88
      ∧ t.clientAt c = (s.clientAt c).cleared ∧ { t with client := s.client } = s)
  ∧ (∀ slot : W16, Takes 0x0605 s → slot.toNat < 1024 →
    ∃ t p, Answers (.throughStatus slot 1) 0x0605 .ok p s t ∧ p.length = 34
      ∧ t.txSlotAt slot.toNat = { s.txSlotAt slot.toNat with inserted := 0, deleted := 0, aborts := 0, slips := 0 }
      ∧ { t with txSlot := s.txSlot } = s))
  ∧ (∀ (s : State), Live s →
  (∀ (c : BitVec 10) (fr : Frame), s.clientsOn = true → (fr.octets.length < 64 ∨ 10240 < fr.octets.length) →
    ∃ t, Completes (.addFrameArrive c none none fr) s t ∧ { t with client := s.client } = s
      ∧ t.clientAt c.toNat = { s.clientAt c.toNat with oversize := wrapAdd (s.clientAt c.toNat).oversize 1 })
  ∧ (∀ (c : BitVec 10) (fr : Frame), s.clientsOn = true → 64 ≤ fr.octets.length → fr.octets.length ≤ 10240 →
    s.usableSlots 0 c.toNat = [] → s.usableSlots 1 c.toNat = [] →
    ∃ t, Completes (.addFrameArrive c none none fr) s t ∧ { t with client := s.client } = s
      ∧ t.clientAt c.toNat = { s.clientAt c.toNat with noSlot := wrapAdd (s.clientAt c.toNat).noSlot 1 })
  ∧ (∀ (c : BitVec 10) (f : BitVec 1) (st : Option (BitVec 18)) (fr : Frame) (k : Nat), s.clientsOn = true →
    64 ≤ fr.octets.length → fr.octets.length ≤ 10240 →
    s.placeOf c.toNat f.toNat (st.map BitVec.toNat) fr.octets = some k →
    (s.txSlotAt k).backlog + fr.octets.length + 3 ≤ cliQdepth (s.clientAt c.toNat).entry * 1024 →
    ∃ t, Completes (.addFrameArrive c (some f) st fr) s t
      ∧ t.txSlotAt k = { s.txSlotAt k with queue := (s.txSlotAt k).queue ++ [fr.octets] }
      ∧ (t.clientAt c.toNat).addFrames = wrapAdd (s.clientAt c.toNat).addFrames 1
      ∧ (t.clientAt c.toNat).addOctets = wrapAdd (s.clientAt c.toNat).addOctets fr.octets.length
      ∧ (∀ j, j ≠ k → t.txSlotAt j = s.txSlotAt j))
  ∧ (∀ (slot : BitVec 10) (fr : Frame) (c : Nat), s.dropClient slot.toNat = some c →
    (s.rxSlotAt slot.toNat).mismatch = false → (s.rxSlotAt slot.toNat).sync = true → fr.errored = true →
    ∃ t, Completes (.dropFrameComplete slot fr) s t ∧ { t with client := s.client } = s
      ∧ t.clientAt c = { s.clientAt c with errored := wrapAdd (s.clientAt c).errored 1 })
  ∧ (∀ (slot : BitVec 10) (fr : Frame) (c : Nat), s.dropClient slot.toNat = some c →
    (s.rxSlotAt slot.toNat).mismatch = false → (s.rxSlotAt slot.toNat).sync = true → dropGood fr = true →
    s.streams.ready = true → s.streams.queueDrop.length < 512 →
    ∃ t, Completes (.dropFrameComplete slot fr) s t
      ∧ t.clientAt c = { s.clientAt c with
          dropFrames := wrapAdd (s.clientAt c).dropFrames 1
          dropOctets := wrapAdd (s.clientAt c).dropOctets fr.octets.length }
      ∧ t.streams.queueDrop = s.streams.queueDrop ++ [⟨c, slot.toNat / 512, fr.octets⟩])
  ∧ (∀ (slot : BitVec 10) (os : Bytes), s.rxOn (slot.toNat / 64) = true → s.dest slot.toNat = .discard →
    s.blockErrored slot.toNat false = false →
    ∃ t, Completes (.receiveMapBlock slot os false) s t ∧ (∀ k, k ≠ slot.toNat → t.rxSlotAt k = s.rxSlotAt k)
      ∧ { t with rxSlot := s.rxSlot } = s)
  ∧ (∀ (slot : BitVec 10) (os : Bytes), s.rxOn (slot.toNat / 64) = true → s.mapRuns slot.toNat = false →
    s.blockErrored slot.toNat false = false → Completes (.receiveMapBlock slot os false) s s)
  ∧ (∀ (slot : BitVec 10) (os : Bytes) (c : Nat), s.rxOn (slot.toNat / 64) = true → s.dest slot.toNat = .client c →
    s.mapRuns slot.toNat = true → s.blockErrored slot.toNat false = false →
    (s.rxSlotAt slot.toNat).sync = true → os.length = 32 → 32 ≤ (s.rxSlotAt slot.toNat).left →
    ∃ t, Completes (.receiveMapBlock slot os false) s t
      ∧ t.rxSlotAt slot.toNat = { s.rxSlotAt slot.toNat with left := (s.rxSlotAt slot.toNat).left - 32 }
      ∧ { t with rxSlot := s.rxSlot } = s))

/-- R173, R177, R178, R179: a block of an ADD slot is 32 octets; a regenerator makes at most one adjustment in a block,
and a slip is counted once and reported. The model's own readings in its clauses: log entries 31 (the store of 64
octets) and 101 (a slip discards whole frames). -/
def Obligations.SlotBlocks : Prop :=
  (∀ (s : State) (slot : BitVec 10), Live s → s.framesData (slot.toNat / 64) = true → slot.toNat % 64 < s.txS (slot.toNat / 64) →
    entKind (s.slotEntry slot.toNat) = 2 →
    (s.txSlotAt slot.toNat).blocks.length < 320 →
    ∃ t, Completes (.addSlotBlock slot) s t
      ∧ (t.txSlotAt slot.toNat).blocks = (s.txSlotAt slot.toNat).blocks ++ [(t.txSlotAt slot.toNat).block] ∧ (t.txSlotAt slot.toNat).block.length = 32
      ∧ ((s.txSlotAt slot.toNat).sending = [] → (s.txSlotAt slot.toNat).queue = [] →
          (t.txSlotAt slot.toNat).block = List.replicate 32 0)
      ∧ (∀ k, k ≠ slot.toNat → t.txSlotAt k = s.txSlotAt k) ∧ { t with txSlot := s.txSlot } = s)
  ∧ (∀ u : TxSlot, (regenBlock u).block.length = 32
      ∧ (((regenBlock u).deleted = u.deleted ∧ (regenBlock u).inserted = u.inserted)
        ∨ ((regenBlock u).deleted = wrapAdd u.deleted 1 ∧ (regenBlock u).inserted = u.inserted ∧ 40 < u.fill)
        ∨ ((regenBlock u).deleted = u.deleted ∧ (regenBlock u).inserted = wrapAdd u.inserted 1 ∧ u.fill < 24)))
  ∧ (∀ (s : State) (slot : BitVec 10) (kind : Nat), Live s → s.framesData (slot.toNat / 64) = false → (kind = 2 ∨ kind = 3) →
    Completes (if kind = 2 then .addSlotBlock slot else .regenBlockStart slot) s s)
  ∧ (∀ (s : State) (slot : BitVec 10), Live s → s.framesData (slot.toNat / 64) = true → slot.toNat % 64 < s.txS (slot.toNat / 64) →
    entKind (s.slotEntry slot.toNat) = 3 →
    (s.txSlotAt slot.toNat).blocks.length < 320 →
    let u := regenBlock (s.txSlotAt slot.toNat)
    ∃ t, Completes (.regenBlockStart slot) s t
      ∧ t.txSlotAt slot.toNat
          = { u with blocks := u.blocks ++ [u.block], blockErr := bitOf s.skew.errTx (slot.toNat / 64) }
      ∧ ∀ k, k ≠ slot.toNat → t.txSlotAt k = s.txSlotAt k)
  ∧ (∀ (s : State) (slot : BitVec 10), Live s → entKind (s.slotEntry slot.toNat) = 3 →
    (s.txSlotAt slot.toNat).mustSlip = true →
    ∃ t, Completes (.regenSlip slot) s t
      ∧ (t.txSlotAt slot.toNat).slips = wrapAdd (s.txSlotAt slot.toNat).slips 1
      ∧ ((s.txSlotAt slot.toNat).frameLeft = 0 → (t.txSlotAt slot.toNat).store.length = 32)
      ∧ (1024 ≤ (s.txSlotAt slot.toNat).sinceSlip → TakesEvents s → Queued 0x8604 (leN 2 slot.toNat) t)
      ∧ { t with txSlot := s.txSlot, mbx := s.mbx } = s)

/-- R198 to R200: recovery never passes the same number twice in a row, a number that is discarded or rogue leaves the
reset timer, RECOV_SEQ and HISTORY, and a frame that passes restarts the timer; take-any passes whatever arrives. A number H
or more ahead, or H or more behind, is rogue: ROGUE alone counts. -/
def Obligations.Recovery : Prop := ∀ (p : Profile) (e : Byte) (q : W16) (x : Ctx), 2 ≤ p.histLen.toNat → p.histLen.toNat ≤ 64 →
  (∀ f, (x.recover p e q).2 = some f →
    (x.recover p e q).1.timer = p.resetMs ∧ (x.recover p e q).1.passed = x.passed + 1
    ∧ (x.recover p e q).1.takeAny = false ∧ (x.recover p e q).1.epoch = e
    ∧ ((x.recover p e q).1.recover p e q).2 = none
    ∧ ((x.recover p e q).1.recover p e q).1.discarded = x.discarded + 1)
  ∧ ((x.recover p e q).2 = none → (x.recover p e q).1.timer = x.timer ∧ (x.recover p e q).1.recovSeq = x.recovSeq
    ∧ (x.recover p e q).1.history = x.history ∧ (x.recover p e q).1.passed = x.passed
    ∧ ((x.recover p e q).1.discarded = x.discarded + 1 ∧ (x.recover p e q).1.rogue = x.rogue
      ∨ (x.recover p e q).1.rogue = x.rogue + 1 ∧ (x.recover p e q).1.discarded = x.discarded ∧ x.cfg.alg = false))
  ∧ ((x.takeAny = true ∨ x.epoch ≠ e) → (x.recover p e q).2 = some 1 ∧ (x.recover p e q).1.recovSeq = q
    ∧ (x.recover p e q).1.history = 1)
  ∧ (x.takeAny = false → x.epoch = e → x.cfg.alg = false → q = x.recovSeq + 1 →
    (x.recover p e q).2 = some 0 ∧ (x.recover p e q).1.recovSeq = q
    ∧ (x.recover p e q).1.outOfOrder = x.outOfOrder)
  ∧ (∀ k : Nat, p.histLen.toNat ≤ k → k ≤ 32767 → x.takeAny = false → x.epoch = e → x.cfg.alg = false →
    q = x.recovSeq + BitVec.ofNat 16 k → (x.recover p e q).2 = none ∧ (x.recover p e q).1 = { x with
      rogue := x.rogue + 1, wrap := (x.recover p e q).1.wrap })
  ∧ (∀ k : Nat, p.histLen.toNat ≤ k → k ≤ 32768 → x.takeAny = false → x.epoch = e → x.cfg.alg = false →
    q = x.recovSeq - BitVec.ofNat 16 k → (x.recover p e q).2 = none ∧ (x.recover p e q).1 = { x with
      rogue := x.rogue + 1, wrap := (x.recover p e q).1.wrap })
  ∧ (∀ k : Nat, k < p.histLen.toNat → x.takeAny = false → x.epoch = e → x.cfg.alg = false →
    q = x.recovSeq - BitVec.ofNat 16 k →
    (bitOf x.history k = true → (x.recover p e q).2 = none ∧ (x.recover p e q).1.discarded = x.discarded + 1)
    ∧ (bitOf x.history k = false → (x.recover p e q).2 = some 2 ∧ (x.recover p e q).1.recovSeq = x.recovSeq
      ∧ (x.recover p e q).1.history = setBit x.history k true ∧ (x.recover p e q).1.outOfOrder = x.outOfOrder + 1))

/-- R191: a stream that cannot be inserted leaves the keys as they were and its context clear; one with a free
candidate entry is found under its key. -/
def Obligations.StreamInsertion : Prop := ∀ (s : State) (index : W32) (image : Bytes) (x : Nat), index.toNat = x →
  x < 262144 → s.strReady = true → Takes 0x0704 s → image.length = 56 → imageOk image = true →
  ((s.ctxAt x).valid = true → ∃ t, Answers (.streamAdd index image) 0x0704 .exists_ [] s t
    ∧ t.streams.keys = s.streams.keys ∧ t.streams.ctxs = s.streams.ctxs)
  ∧ (∀ t p, s.streams.upset = [] → (∀ q ∈ s.streams.keys, posBucket q.1 ∉ s.streams.failed) →
    (s.ctxAt x).valid = false → Answers (.streamAdd index image) 0x0704 .tableFull p s t →
    t.streams.keys = s.streams.keys ∧ t.ctxAt x = {} ∧ (∀ k, k ≠ x → t.ctxAt k = s.ctxAt k))
  ∧ (s.streams.upset = [] → (s.ctxAt x).valid = false → (cfgOf image).keys = [false] → s.lookup ((cfgOf image).key false) = none →
    freePlace (s.streams.failed.filter (fun w => !((List.range 7).map (ctxWord x)).contains w)) s.streams.keys
      ((cfgOf image).key false) ≠ none →
    ∃ t, Answers (.streamAdd index image) 0x0704 .ok [] s t ∧ t.lookup ((cfgOf image).key false) = some x
      ∧ (t.ctxAt x).valid = true ∧ (t.ctxAt x).takeAny = true ∧ (t.ctxAt x).cfg = cfgOf image
      ∧ (t.ctxAt x).passed = 0 ∧ (t.ctxAt x).epoch = s.streams.epoch ∧ (∀ k, k ≠ x → t.ctxAt k = s.ctxAt k))

/-- R186, R189, R192, R195, R202, R204, R205, R209, R210: the other stream commands, on a context that can be read. The
model's own readings in its clauses: log entries 51 and 53 (bits of a handle, corner statuses). -/
def Obligations.StreamCommands : Prop := ∀ (s : State) (index : W32) (x : Nat), index.toNat = x → x < 262144 →
  s.strReady = true → s.streams.failed = [] → s.streams.upset = [] →
  (∀ (m k : Byte) (n : W16), Takes 0x0701 s → m.toNat < 4 → (bitOf m 0 = true → k.toNat ≤ 1) →
    (bitOf m 1 = true → 1 ≤ n.toNat ∧ n.toNat ≤ 10000) →
    ∃ t, Answers (.streamConfig m k n) 0x0701 .ok [] s t
      ∧ t.streams = { s.streams with
          dropKey := if bitOf m 0 then k == 1 else s.streams.dropKey, ledPeriod := if bitOf m 1 then n else s.streams.ledPeriod }
      ∧ { t with streams := s.streams } = s)
  ∧ (∀ (pr h : Byte) (r d : W16), Takes 0x0702 s → pr.toNat < 16 → 2 ≤ h.toNat → h.toNat ≤ 64 → r ≠ 0 → d ≠ 0 →
    ∃ t, Answers (.streamProfileSet pr h r d) 0x0702 .ok [] s t ∧ t.profAt pr.toNat = ⟨h, r, d⟩
      ∧ (∀ k, k ≠ pr.toNat → t.profAt k = s.profAt k) ∧ t.streams.ctxs = s.streams.ctxs)
  ∧ (∀ pr : Byte, Takes 0x0703 s → pr.toNat < 16 → Answers (.streamProfileGet pr) 0x0703 .ok
      ([(s.profAt pr.toNat).histLen] ++ le16 (s.profAt pr.toNat).resetMs ++ le16 (s.profAt pr.toNat).ledDiff) s s)
  ∧ (Takes 0x0705 s → ∃ t, Answers (.streamDelete index) 0x0705 .ok [] s t ∧ t.ctxAt x = {}
      ∧ (∀ p e, t.entryAt p = some e → e.index.toNat ≠ x) ∧ (∀ k, k ≠ x → t.ctxAt k = s.ctxAt k))
  ∧ (Takes 0x0707 s → ∃ t p, Answers (.streamRead index) 0x0707 .ok p s t ∧ p.length = 64
      ∧ slice p 0 56 = (s.ctxAt x).image ∧ t.streams.ctxs = s.streams.ctxs ∧ t.streams.keys = s.streams.keys)
  ∧ (∀ (m : W16) (b : Bytes), Takes 0x0708 s → b.length = 56 → (s.ctxAt x).valid = true → m.toNat < 512 →
    (bitOf m 5 = true → (byteAt b 1).toNat < 16) → (bitOf m 7 = true → leAt b 0x10 2 / 1024 % 16 = 0) →
    (bitOf m 8 = true → leAt b 0x12 2 / 1024 % 16 = 0) →
    let k := (s.ctxAt x).cfg
    let n := cfgOf b
    let alg := if bitOf m 4 then n.alg else k.alg
    let prof := if bitOf m 5 then n.prof else k.prof
    ∃ t, Answers (.streamWrite index m b) 0x0708 .ok [] s t
      ∧ t.ctxAt x = { s.ctxAt x with
          cfg := { k with
            funcEn := if bitOf m 0 then n.funcEn else k.funcEn, strip := if bitOf m 1 then n.strip else k.strip
            htag := if bitOf m 2 then n.htag else k.htag, ledEn := if bitOf m 3 then n.ledEn else k.ledEn
            alg := alg, prof := prof
            member0 := if bitOf m 7 then n.member0 else k.member0, member1 := if bitOf m 8 then n.member1 else k.member1 }
          takeAny := (s.ctxAt x).takeAny || alg != k.alg
          genSeq := if bitOf m 6 then w16At b 2 else (s.ctxAt x).genSeq
          history := if bitOf m 5 then (s.ctxAt x).history &&& histMask (s.profAt prof.toNat).histLen.toNat
            else (s.ctxAt x).history }
      ∧ (∀ y, y ≠ x → t.ctxAt y = s.ctxAt y))
  ∧ (∀ b : Bytes, Takes 0x0708 s → b.length = 56 → imageOk b = true → (s.ctxAt x).valid = true →
    (cfgOf b).keys.map (cfgOf b).key = (s.ctxAt x).cfg.keys.map (s.ctxAt x).cfg.key →
    ∃ t, Answers (.streamWrite index 0x200 b) 0x0708 .ok [] s t
      ∧ t.ctxAt x = { ctxOf b with valid := true, takeAny := true, epoch := s.streams.epoch }
      ∧ (∀ y, y ≠ x → t.ctxAt y = s.ctxAt y))
  ∧ (∀ b : Bytes, Takes 0x0708 s → b.length = 56 → imageOk b = true → (s.ctxAt x).valid = true →
    (cfgOf b).keys.map (cfgOf b).key ≠ (s.ctxAt x).cfg.keys.map (s.ctxAt x).cfg.key →
    Answers (.streamWrite index 0x200 b) 0x0708 .keyExists [] s s)
  ∧ (∀ key : Bytes, Takes 0x0709 s → key.length = 10 → ∀ i, s.lookup key = some i →
    ∃ t, Answers (.streamFind key) 0x0709 .ok (leN 4 i) s t ∧ t.streams.ctxs = s.streams.ctxs)
  ∧ (Takes 0x070A s → (s.ctxAt x).valid = true → ∃ t, Answers (.streamTakeAny index) 0x070A .ok [] s t
      ∧ t.ctxAt x = { s.ctxAt x with takeAny := true } ∧ t.streams.epoch = s.streams.epoch)
  ∧ (Takes 0x070A s → s.streams.sweepDue = false → ∃ t, Answers (.streamTakeAny 0xFFFFFFFF) 0x070A .ok [] s t
      ∧ t.streams = { s.streams with epoch := s.streams.epoch + 1, sweepDue := true })
  ∧ (Takes 0x070A s → s.streams.sweepDue = true → Answers (.streamTakeAny 0xFFFFFFFF) 0x070A .busy [] s s)
  ∧ (∀ (bank : Byte) (bucket : W16), Takes 0x070B s → s.stopped 3 = false → bank.toNat < 4 →
    ∃ t p, Answers (.streamRekey bank bucket) 0x070B .ok p s t ∧ p.length = 4 ∧ t.streams.ctxs = s.streams.ctxs
      ∧ (s.validCtxs = [] → p = [0, 0, 0, 0] ∧ t.streams.keys
          = s.streams.keys.filter (fun q => posBucket q.1 != (bank.toNat, bucket.toNat))))
  ∧ (∀ (bank : Byte) (bucket : W16), Takes 0x070B s → s.stopped 3 = false → bank.toNat < 4 →
    (∀ q ∈ s.streams.keys, posBucket q.1 ≠ (bank.toNat, bucket.toNat)) →
    (∀ y ∈ s.validCtxs, ∀ a ∈ (s.ctxAt y).cfg.keys, (s.lookup ((s.ctxAt y).cfg.key a)).isSome = true) →
    Answers (.streamRekey bank bucket) 0x070B .ok [0, 0, 0, 0] s s)
  ∧ (Takes 0x070C s → ∃ t p, Answers (.streamCountersRead index 1) 0x070C .ok p s t ∧ p.length = 27
      ∧ slice p 0 4 = le32 (s.ctxAt x).passed ∧ (t.ctxAt x).passed = 0 ∧ (t.ctxAt x).wrap = 0
      ∧ (t.ctxAt x).ledAcc = (s.ctxAt x).ledAcc ∧ (t.ctxAt x).recovSeq = (s.ctxAt x).recovSeq)
  ∧ (∀ first : W32, Takes 0x070D s →
    let xs := s.validCtxs.filter (fun y => (s.ctxAt y).ledSig && decide (first.toNat ≤ y))
    4 + 4 * xs.length ≤ 240 →
    Answers (.streamLedList first 0) 0x070D .ok (leN 4 xs.length ++ xs.flatMap (leN 4)) s { s with free := s.free + 1 })
  ∧ (Takes 0x070E s → Answers .streamEngineStatus 0x070E .ok (s.streams.cnt.list.flatMap (leN 8)
      ++ leN 4 s.validCtxs.length ++ leN 4 s.streams.keys.length ++ [s.streams.epoch, boolByte s.streams.ready]) s s)

/-- R188, R189, R196, R197, R206: frames in the add and drop paths. The model's own readings in its clauses: log entry
55 (counters before the checks). -/
def Obligations.StreamFrames : Prop := ∀ (s : State), Live s → s.clientsOn = true → s.stopped 3 = false →
  s.streams.failed = [] → s.streams.upset = [] →
  (∀ (c : BitVec 10) (x : BitVec 18) (fr : Frame), s.streams.ready = true → s.mustWait x.toNat = false →
    ((s.ctxAt x.toNat).valid = false ∨ (s.ctxAt x.toNat).cfg.dir = true ∨ (s.ctxAt x.toNat).cfg.client ≠ c) →
    ∃ t, Completes (.addStreamFrame c 1 x fr) s t
      ∧ t.streams.cnt.badIndex = wrapAdd s.streams.cnt.badIndex 1 ∧ t.client = s.client ∧ t.txSlot = s.txSlot)
  ∧ (∀ (c : BitVec 10) (x : BitVec 18) (fr : Frame), s.streams.ready = true → s.mustWait x.toNat = false → (s.ctxAt x.toNat).valid = true →
    (s.ctxAt x.toNat).cfg.dir = false → (s.ctxAt x.toNat).cfg.client = c →
    ∃ t, Completes (.addStreamFrame c 1 x fr) s t
      ∧ (t.ctxAt x.toNat).passed = (s.ctxAt x.toNat).passed + 1
      ∧ ((s.ctxAt x.toNat).cfg.funcEn = true → (t.ctxAt x.toNat).genSeq = (s.ctxAt x.toNat).genSeq + 1)
      ∧ ((s.ctxAt x.toNat).cfg.funcEn = false → (t.ctxAt x.toNat).genSeq = (s.ctxAt x.toNat).genSeq)
      ∧ ∀ k, k ≠ x.toNat → t.ctxAt k = s.ctxAt k)
  ∧ (∀ (c : BitVec 10) (f : BitVec 1) (fr : Frame), s.streams.ready = true → s.streams.wakeSweep = false →
    s.streams.dropKey = true → hasRtag fr.octets = false →
    (s.streams.queueDrop = [] ∨ s.streams.queueDrop.head? = some ⟨c.toNat, f.toNat, fr.octets⟩) →
    (s.portAt (cliPort (s.clientAt c.toNat).entry)).st = .up →
    (s.portAt (cliPort (s.clientAt c.toNat).entry)).fill + fr.octets.length ≤ 131072 →
    ∃ t, Completes (.dropStreamFrame c f fr) s t ∧ t.streams.cnt.noDrop = wrapAdd s.streams.cnt.noDrop 1
      ∧ t.streams.cnt.lookDrop = s.streams.cnt.lookDrop ∧ t.streams.queueDrop = s.streams.queueDrop.drop 1
      ∧ (t.portAt (cliPort (s.clientAt c.toNat).entry)).egress
        = (s.portAt (cliPort (s.clientAt c.toNat).entry)).egress ++ [⟨fr.octets, c.toNat, f.toNat, none, 4⟩])

/-- R192 to R195, R200 to R202, R206: sweeps, periods, errors and bulk loads of the stream tables. -/
def Obligations.StreamTables : Prop := ∀ (s : State), Live s → s.streamsOn = true →
  Tab.wf {} s.streams.ctxs = true → s.streams.failed = [] → s.streams.upset = [] →
  (s.streams.ready = true → ∃ t, Completes .streamMsSweep s t ∧ t.streams.sweepDue = false
    ∧ (∀ x, (s.ctxAt x).valid = true → t.ctxAt x = (s.ctxAt x).sweep s.streams.epoch true)
    ∧ (∀ x, (s.ctxAt x).valid = false → t.ctxAt x = s.ctxAt x))
  ∧ (∀ x : BitVec 18, s.streams.ready = true → (s.ctxAt x.toNat).valid = true → (s.ctxAt x.toNat).timer = 1 →
    ∃ t, Completes (.streamResetTimerExpiry x) s t ∧ (t.ctxAt x.toNat).timer = 0 ∧ (t.ctxAt x.toNat).takeAny = true
      ∧ (t.ctxAt x.toNat).resets = (s.ctxAt x.toNat).resets + 1)
  ∧ (s.streams.ready = true → s.streams.wakeSweep = true → ∃ t, Completes .streamWakeSweepDone s t
    ∧ t.streams.wakeSweep = false
    ∧ ∀ x, (s.ctxAt x).valid = true → (t.ctxAt x).takeAny = true ∧ (t.ctxAt x).epoch = s.streams.epoch)
  ∧ (s.streams.ready = true → ∃ t, Completes .ledPeriodEnd s t
    ∧ ∀ x, (s.ctxAt x).ledTested = true → (t.ctxAt x).ledAcc = 0 ∧ (t.ctxAt x).ledSig = s.ledOver x)
  ∧ (∀ (b : BitVec 2) (w : BitVec 19), s.streams.ready = true → ∃ t, Completes (.streamScrub b w [(b, w, true)]) s t
    ∧ t.streams.failed = [(b.toNat, w.toNat)]
    ∧ Tab.get 0 t.streams.cnt.eccFatal b.toNat = Tab.get 0 s.streams.cnt.eccFatal b.toNat + 1
    ∧ (TakesEvents s → Queued 0x8702 ([u8 b.toNat] ++ leN 4 w.toNat) t))
  ∧ (∀ (b : BitVec 2) (w : BitVec 19), s.streams.ready = true → ∃ t, Completes (.streamScrub b w [(b, w, false)]) s t
    ∧ t.streams.failed = [] ∧ t.streams.upset = [] ∧ t.streams.ctxs = s.streams.ctxs ∧ t.streams.keys = s.streams.keys
    ∧ Tab.get 0 t.streams.cnt.eccCorr b.toNat = Tab.get 0 s.streams.cnt.eccCorr b.toNat + 1 ∧ t.mbx = s.mbx)
  ∧ (s.streams.ready = false → ∃ t, Completes .streamTableClearDone s t ∧ t.streams.ready = true
    ∧ t.streams.ctxs = [] ∧ t.streams.keys = []
    ∧ (s.streams.lost = true → TakesEvents s → Queued 0x8705 [] t))
  ∧ (∀ (dma : Byte) (a n : W32), Takes 0x0706 s → s.stopped 3 = false → s.streams.ready = true → dma.toNat < 16 →
    bufOk a (64 * n.toNat) = true → (s.chanAt dma.toNat).free = true → s.streams.bulk = none →
    ∃ t, Answers (.streamBulkLoad dma a n) 0x0706 .ok [] s t ∧ t.streams.bulk = some ⟨dma, a, n⟩
      ∧ (t.chanAt dma.toNat).st = .cmd ∧ t.streams.ctxs = s.streams.ctxs)
  ∧ (∀ b : Bulk, s.streams.ready = true → s.streams.bulk = some b → b.count = 0 →
    ∃ t, Completes .bulkLoadComplete s t ∧ t.streams.bulk = none ∧ (t.chanAt b.dma.toNat).st = .idle
      ∧ t.streams.ctxs = s.streams.ctxs ∧ (TakesEvents s → Queued 0x8704 [0, 0, 0, 0, 0, 0, 0, 0] t))
  ∧ (∀ b : Bulk, s.streams.ready = true → s.streams.bulk = some b → b.count = 1 → s.sramBad = [] → s.sramSoft = [] →
    let r := bulkRecord (winToSram b.addr.toNat) s
    ∃ t, Completes .bulkLoadComplete s t ∧ t.streams.bulk = none
      ∧ t.sramRead (winToSram b.addr.toNat + 4) 4 = leN 4 r.1.code.toNat
      ∧ t.streams.ctxs = r.2.streams.ctxs ∧ t.streams.keys = r.2.streams.keys)

/-- R211, R213, R215, R217, R220, R222, R225, R231, R232: the commands of the host interface. The model's own readings
in its clauses: log entries 114 (the conditions of a host loopback) and 152 (a loopback stays). -/
def Obligations.HostCommands : Prop := ∀ (s : State) (port : Byte) (p : Nat), port.toNat = p → p < 16 →
  (∀ e : W16, Takes 0x0801 s → etypeOk e = true →
    ∃ t, Answers (.hostConfig e) 0x0801 .ok [] s t ∧ t = { s with etype := e })
  ∧ (∀ e : W16, Takes 0x0801 s → etypeOk e = false → Answers (.hostConfig e) 0x0801 .range [] s s)
  ∧ (∀ w tag tx rx : Byte, Takes 0x0802 s → (s.portAt p).st = .disabled → widthOk p w.toNat = true →
    s.portClash p w.toNat = false → tag.toNat ≤ 1 → tx.toNat < 2 ^ w.toNat → rx.toNat < 2 ^ w.toNat →
    (tag = 1 → s.vlanClash p = false) →
    ∃ t, Answers (.hostPortConfig port 1 w tag tx rx) 0x0802 .ok [] s t
      ∧ t.portAt p = { s.portAt p with width := w, vlan := tag == 1, polTx := tx, polRx := rx, st := .acquire, aligned := false }
      ∧ (∀ q, q ≠ p → t.portAt q = s.portAt q)
      ∧ (∀ h, 2 * p ≤ h → h < 2 * p + w.toNat → t.pd (64 + h / 4) = true ∧ (t.hlaneAt h).lock = false)
      ∧ { t with port := s.port, hlane := s.hlane, pwr := s.pwr, skew := s.skew } = s)
  ∧ (∀ w tag tx rx : Byte, Takes 0x0802 s → widthOk p w.toNat = true → tag.toNat ≤ 1 → tx.toNat < 2 ^ w.toNat →
    rx.toNat < 2 ^ w.toNat → (tag = 1 → s.vlanClash p = false) →
    ∃ t, Answers (.hostPortConfig port 0 w tag tx rx) 0x0802 .ok [] s t
      ∧ t.portAt p = { s.portAt p with
          width := w, vlan := tag == 1, polTx := tx, polRx := rx, st := .disabled, aligned := false, egress := [] }
      ∧ (∀ q, q ≠ p → t.portAt q = s.portAt q)
      ∧ ((s.portAt p).st ≠ .disabled → ∀ h ∈ portLanes p (s.portAt p).width.toNat, (t.hlaneAt h).lock = false)
      ∧ ((s.portAt p).st = .up → TakesEvents s → Queued 0x8802 [u8 p, 0] t)
      ∧ { t with port := s.port, hlane := s.hlane, pwr := s.pwr, skew := s.skew, mbx := s.mbx } = s)
  ∧ (∀ w : Byte, Takes 0x0802 s → (s.portAt p).st ≠ .disabled → widthOk p w.toNat = true →
    s.portClash p w.toNat = false → Answers (.hostPortConfig port 1 w 0 0 0) 0x0802 .busy [] s s)
  ∧ (∀ (h m : Byte) (taps : Bytes) (sw ct fz : Byte), Takes 0x0803 s → h.toNat < 32 → m.toNat < 16 → taps.length = 5 →
    (bitOf m 0 = true → hostTapsOk taps = true) → (bitOf m 1 = true → sw.toNat ≤ 15) →
    (bitOf m 2 = true → ct.toNat ≤ 36 ∨ ct = 0xFF) → (bitOf m 3 = true → fz.toNat ≤ 1) →
    ∃ t, Answers (.hostLaneEq h m taps sw ct fz) 0x0803 .ok [] s t
      ∧ t.hlaneAt h.toNat = { s.hlaneAt h.toNat with
          taps := if bitOf m 0 then taps.map BitVec.toInt else (s.hlaneAt h.toNat).taps
          hswing := if bitOf m 1 then sw else (s.hlaneAt h.toNat).hswing
          ctle := if bitOf m 2 then (if ct = 0xFF then none else some ct) else (s.hlaneAt h.toNat).ctle
          freeze := if bitOf m 3 then fz == 1 else (s.hlaneAt h.toNat).freeze }
      ∧ (∀ k, k ≠ h.toNat → t.hlaneAt k = s.hlaneAt k)
      ∧ { t with hlane := s.hlane } = s)
  ∧ (∀ (h : Byte) (taps : Bytes), Takes 0x0803 s → h.toNat < 32 → taps.length = 5 → hostTapsOk taps = false →
    Answers (.hostLaneEq h 1 taps 0 0 0) 0x0803 .range [] s s)
  ∧ (Takes 0x0804 s → ∃ q, Answers (.hostPortStatus port) 0x0804 .ok q s s ∧ byteAt q 0 = (s.portAt p).st.code)
  ∧ (∀ h k : Byte, Takes 0x0805 s → h.toNat < 32 → k.toNat ≤ 2 → s.hostLaneUsed h.toNat = false →
    (s.hlaneAt h.toNat).gen.on = false → (s.hlaneAt h.toNat).check.on = false →
    ∃ t, Answers (.hostLoopbackSet h k) 0x0805 .ok [] s t
      ∧ t.hlaneAt h.toNat = { s.hlaneAt h.toNat with loopback := k, fill := 2048 } ∧ { t with hlane := s.hlane } = s)
  ∧ (∀ h k : Byte, Takes 0x0805 s → h.toNat < 32 → k.toNat ≤ 2 → s.hostLaneUsed h.toNat = true →
    Answers (.hostLoopbackSet h k) 0x0805 .busy [] s s)
  ∧ (Takes 0x0806 s → (s.portAt p).width.toNat ≤ 4 → ∃ t q, Answers (.hostCountersRead port 1 0) 0x0806 .ok q s t
      ∧ q.length = 96 + 32 * (s.portAt p).width.toNat ∧ slice q 0 8 = leN 8 (s.portAt p).rxFrames.toNat
      ∧ t.portAt p = (s.portAt p).cleared ∧ { t with port := s.port, hlane := s.hlane } = s)
  ∧ (∀ buf : W32, Takes 0x0806 s → buf ≠ 0 → bufOk buf (96 + 32 * (s.portAt p).width.toNat) = true →
    ∃ t, Answers (.hostCountersRead port 1 buf) 0x0806 .ok [] s t ∧ t.portAt p = (s.portAt p).cleared
      ∧ t.sramRead (winToSram buf.toNat) 96 = (s.portAt p).counters.flatMap (fun v => leN 8 v.toNat)
      ∧ SramOnly (winToSram buf.toNat) (96 + 32 * (s.portAt p).width.toNat) s t
      ∧ { t with port := s.port, hlane := s.hlane, sram := s.sram, sramBad := s.sramBad, sramSoft := s.sramSoft } = s)

/-- R216 to R219, R223, R224, R226, R228: the states of a host port and the frames it passes. The model's own readings
in its clauses: log entries 55 (receive counters count before the checks) and 128 (adaptation results as operands). -/
def Obligations.HostPorts : Prop := (∀ (s : State) (p : BitVec 4), Live s → s.portLive p.toNat = true →
  ((s.portAt p.toNat).st = .acquire → ∃ t, Completes (.hostPortAligned p) s t ∧ (t.portAt p.toNat).st = .up
    ∧ (TakesEvents s → Queued 0x8801 [u8 p.toNat] t) ∧ { t with port := s.port, hlane := s.hlane, mbx := s.mbx } = s)
  ∧ ((s.portAt p.toNat).st = .up → ∃ t, Completes (.hostRemoteFault p) s t ∧ (t.portAt p.toNat).st = .remoteFault
    ∧ (TakesEvents s → Queued 0x8802 [u8 p.toNat, 3] t) ∧ { t with port := s.port, hlane := s.hlane, mbx := s.mbx } = s)
  ∧ (∀ (lost : Byte) (lf : Bool), (s.portAt p.toNat).st = .up →
    ∃ t, Completes (.hostPortLinkLoss { port := p, lanes := lost, localFault := lf }) s t ∧ (t.portAt p.toNat).aligned = (lf && lost == 0) ∧ (t.portAt p.toNat).st = .acquire
    ∧ (TakesEvents s → Queued 0x8802 [u8 p.toNat, 1] t) ∧ { t with port := s.port, hlane := s.hlane, mbx := s.mbx } = s)
  ∧ ((s.portAt p.toNat).st = .remoteFault → (s.portAt p.toNat).aligned = true → ∃ t, Completes (.hostFaultClear p) s t ∧ (t.portAt p.toNat).st = .up
    ∧ (TakesEvents s → Queued 0x8801 [u8 p.toNat] t) ∧ { t with port := s.port, mbx := s.mbx } = s)
  ∧ (∀ (h : BitVec 5) (q : HostMeas) (a b c d : Nat), s.quadOn (h.toNat / 4) = true →
    ∃ t, Completes (.hostLaneEqfUpdate h q [a, b, c, d]) s t ∧ { t with hlane := s.hlane } = s
      ∧ (t.hlaneAt h.toNat).eqf = eqfOf q.eye ∧ (t.hlaneAt h.toNat).lock = q.lock
      ∧ ((s.hlaneAt h.toNat).freeze = true → (t.hlaneAt h.toNat).ffe = (s.hlaneAt h.toNat).ffe)
      ∧ ((s.hlaneAt h.toNat).ctle ≠ none → (t.hlaneAt h.toNat).peaking = (s.hlaneAt h.toNat).peaking) ∧ (t.hlaneAt h.toNat).rsCw = wrapAdd (s.hlaneAt h.toNat).rsCw a
      ∧ (t.hlaneAt h.toNat).rsCorr = wrapAdd (s.hlaneAt h.toNat).rsCorr b
      ∧ (t.hlaneAt h.toNat).rsUncorr = wrapAdd (s.hlaneAt h.toNat).rsUncorr c
      ∧ (t.hlaneAt h.toNat).rsSym = wrapAdd (s.hlaneAt h.toNat).rsSym d
      ∧ (t.hlaneAt h.toNat).taps = (s.hlaneAt h.toNat).taps))
  ∧ (∀ (s : State) (p : BitVec 4) (x : Port), Live s → s.portLive p.toNat = true →
  s.portAt p.toNat = x → s.skew.errQuads = 0 →
  (∀ f : Bytes, x.st.receives = true →
    ∃ t, Completes (.hostFrameReceive p { octets := f, errored := true }) s t
      ∧ (t.portAt p.toNat).rxErrored = wrapAdd x.rxErrored 1 ∧ (t.portAt p.toNat).rxFrames = wrapAdd x.rxFrames 1
      ∧ t.streams = s.streams ∧ t.txSlot = s.txSlot)
  ∧ (∀ f : Bytes, x.st.receives = true → fcsGood f = false →
    ∃ t, Completes (.hostFrameReceive p { octets := f }) s t ∧ (t.portAt p.toNat).fcsErr = wrapAdd x.fcsErr 1
      ∧ (t.portAt p.toNat).rxOctets = wrapAdd x.rxOctets f.length ∧ t.streams = s.streams ∧ t.txSlot = s.txSlot)
  ∧ (∀ f : Bytes, x.st.receives = true → x.vlan = false → fcsGood f = true → 72 ≤ f.length → f.length ≤ 10248 →
    slice f 12 2 ≠ beN 2 s.etype.toNat →
    ∃ t, Completes (.hostFrameReceive p { octets := f }) s t ∧ (t.portAt p.toNat).tagMissing = wrapAdd x.tagMissing 1
      ∧ t.streams = s.streams ∧ t.txSlot = s.txSlot)
  ∧ (∀ f : Bytes, x.st.receives = true → x.vlan = false → fcsGood f = true → 72 ≤ f.length → f.length ≤ 10248 →
    slice f 12 2 = beN 2 s.etype.toNat → htagOk (ofBe (slice f 14 6)) = true →
    cliActive (s.clientAt (ofBe (slice f 14 6) / 2 ^ 30 % 1024)).entry = true → s.streams.ready = true →
    s.streams.queueAdd = [] → ofBe (slice f 14 6) / 2 ^ 46 ≠ 1 →
    ∃ t, Completes (.hostFrameReceive p { octets := f }) s t
      ∧ t.streams.queueAdd = [⟨ofBe (slice f 14 6) / 2 ^ 30 % 1024, ofBe (slice f 14 6) / 2 ^ 46,
          ofBe (slice f 14 6) % 2 ^ 18, withoutHtag f⟩] ∧ t.txSlot = s.txSlot)
  ∧ (∀ f : Bytes, x.st.receives = true → x.vlan = false → fcsGood f = true → 72 ≤ f.length → f.length ≤ 10248 →
    slice f 12 2 = beN 2 s.etype.toNat → htagOk (ofBe (slice f 14 6)) = true →
    cliActive (s.clientAt (ofBe (slice f 14 6) / 2 ^ 30 % 1024)).entry = true → s.streams.ready = true →
    ofBe (slice f 14 6) / 2 ^ 46 = 1 → s.mustWait (ofBe (slice f 14 6) % 2 ^ 18) = true →
    ∃ t, Completes (.hostFrameReceive p { octets := f }) s t
      ∧ t.streams.queueAdd = s.streams.queueAdd ++ [⟨ofBe (slice f 14 6) / 2 ^ 30 % 1024, 1,
          ofBe (slice f 14 6) % 2 ^ 18, withoutHtag f⟩] ∧ t.txSlot = s.txSlot)
  ∧ (∀ (e : Egress) (r : List Egress), x.st = .up → x.egress = e :: r →
    ∃ t, Completes (.hostFrameTransmit p) s t ∧ (t.portAt p.toNat).egress = r
      ∧ (t.portAt p.toNat).sent = s.hostFrame p.toNat e
      ∧ (t.portAt p.toNat).txFrames = wrapAdd x.txFrames 1
      ∧ (t.portAt p.toNat).txOctets = wrapAdd x.txOctets (s.hostFrame p.toNat e).length))


/-- R247, R252, R255, R256, R261 to R264: the commands of the Icing channel. The model's own readings in its clauses:
log entries 34, 129 and 130 (DISC_GRADE, reserved addresses, MAX). -/
def Obligations.IcingCommands : Prop := ∀ (s : State) (face : Byte) (f : Nat), face.toNat = f → f < 2 →
  s.icingOn f = true →
  (∀ (m : W32) (a : W16) (n : Byte), Takes 0x0901 s → s.icingOn (1 - f) = true → m.toNat < 4 → (bitOf m 0 = true → a ≠ 0xFFFF) →
    ∃ t, Answers (.icingConfig 0xFF m a n 0 0 0 0 0 0 0 0 0 0 0 0 0 0 0) 0x0901 .ok [] s t
      ∧ t = { s with nodeAddr := if bitOf m 0 then a else s.nodeAddr, netId := if bitOf m 1 then n else s.netId })
  ∧ (∀ (m : W32) (a : W16) (n en gr gt gm dg dp : Byte) (rp : W16) (la ac ra dt ct : Byte) (tc : W16) (wg acc : Byte),
    Takes 0x0901 s → m.toNat < 2 ^ 17 →
    (s.sys.tier ≠ 0 ∨ ∀ k, k < 17 → bitOf m k = true → k ∈ [0, 1, 2, 3, 12, 13, 14]) →
    (bitOf m 0 = true → a ≠ 0xFFFF) → (bitOf m 2 = true → en.toNat ≤ 1) → (bitOf m 3 = true → gr ≠ 0 ∧ gr.toNat < 64) →
    (bitOf m 4 = true → gt = 0 ∨ (6 ≤ gt.toNat ∧ gt.toNat ≤ 11)) → (bitOf m 5 = true → gm.toNat ≤ 15) →
    (bitOf m 6 = true → 6 ≤ dg.toNat ∧ dg.toNat ≤ 11) → (bitOf m 7 = true → 1 ≤ dp.toNat ∧ dp.toNat ≤ 100) →
    (bitOf m 8 = true → rp.toNat ≤ 600) → (bitOf m 9 = true → la.toNat / 8 = f) → (bitOf m 10 = true → ac.toNat ≤ 1) →
    (bitOf m 11 = true → 1 ≤ ra.toNat ∧ ra.toNat ≤ 32) → (bitOf m 12 = true → 6 ≤ dt.toNat ∧ dt.toNat ≤ 15) →
    (bitOf m 13 = true → 3 ≤ ct.toNat ∧ ct.toNat ≤ 15) → (bitOf m 14 = true → -1024 ≤ tc.toInt ∧ tc.toInt ≤ 1023) →
    (bitOf m 15 = true → 6 ≤ wg.toNat ∧ wg.toNat ≤ 11) → (bitOf m 16 = true → acc.toNat < 4) →
    let c := (s.icingAt f).cfg
    ∃ t, Answers (.icingConfig face m a n en gr gt gm dg dp rp la ac ra dt ct tc wg acc) 0x0901 .ok [] s t
      ∧ t.icingAt f = { s.icingAt f with
          lane := if bitOf m 9 then la.toNat % 8 else (s.icingAt f).lane
          rx := (t.icingAt f).rx
          cfg := { c with
            rxEnable := if bitOf m 2 then en == 1 else c.rxEnable, rxGrades := if bitOf m 3 then gr.setWidth 6 else c.rxGrades
            gradeTx := if bitOf m 4 then gt else c.gradeTx, gradeMargin := if bitOf m 5 then gm else c.gradeMargin
            discGrade := if bitOf m 6 then dg else c.discGrade, discPeriod := if bitOf m 7 then dp else c.discPeriod
            reportPeriod := if bitOf m 8 then rp else c.reportPeriod, duplex := if bitOf m 10 then ac == 1 else c.duplex
            ramp := if bitOf m 11 then ra else c.ramp, detThresh := if bitOf m 12 then dt else c.detThresh
            capThresh := if bitOf m 13 then ct else c.capThresh, tapCal := if bitOf m 14 then tc.toInt else c.tapCal
            watchGrade := if bitOf m 15 then wg else c.watchGrade
            modeAccept := if bitOf m 16 then bitOf acc 0 else c.modeAccept
            tierAccept := if bitOf m 16 then bitOf acc 1 else c.tierAccept } }
      ∧ ((s.icingAt f).rx.st ≠ .off → (s.icingAt f).rx.st ≠ .search → (t.icingAt f).rx = (s.icingAt f).rx)
      ∧ ((s.icingAt f).rx.st = .off ∨ (s.icingAt f).rx.st = .search →
          (t.icingAt f).rx.st = if (t.icingAt f).cfg.rxEnable then .search else .off)
      ∧ t.icingAt (1 - f) = s.icingAt (1 - f)
      ∧ { t with icing := s.icing } = { s with
          nodeAddr := if bitOf m 0 then a else s.nodeAddr, netId := if bitOf m 1 then n else s.netId })
  ∧ (Takes 0x0902 s → ∃ p, Answers (.icingStatus face) 0x0902 .ok p s s ∧ byteAt p 0 = (s.icingAt f).rx.st.code)
  ∧ (Takes 0x0903 s → ∃ p, Answers (.icingNeighbours face) 0x0903 .ok p s s ∧ p.length = 184)
  ∧ (∀ a : W16, Takes 0x0904 s → a ≠ 0xFFFF →
    ∃ t, Answers (.icingPin face a) 0x0904 .ok [] s t ∧ (t.icingAt f).pin = a
      ∧ (t.icingAt f).far = { s.icingAt f with pin := a }.chosen ∧ { t with icing := s.icing, mbx := s.mbx } = s)
  ∧ (∀ a b : Byte, Takes 0x0905 s → a.toNat / 8 = f → b.toNat < 16 →
    ∃ t, Answers (.icingLaneMap face a b) 0x0905 .ok [] s t ∧ t.farLane a.toNat = b.toNat
      ∧ (∀ l, l ≠ a.toNat → t.farLane l = s.farLane l) ∧ { t with icing := s.icing } = s)
  ∧ (∀ d : W16, Takes 0x0906 s → s.icTxAvail f = true → nodeOk d = true → s.icFull f = false →
    (s.icingAt f).burst = none → ∃ t, Answers (.icingLevelQuery face d) 0x0906 .ok [(s.icingAt f).qseq + 1] s t
      ∧ (t.icingAt f).queue.map (fun x => (x.mtype, x.dst, x.payload))
        = (s.icingAt f).queue.map (fun x => (x.mtype, x.dst, x.payload)) ++ [(2, d, [(s.icingAt f).qseq + 1])]
      ∧ { t with icing := s.icing } = s)
  ∧ (∀ (d : W16) (x : Bytes), Takes 0x0907 s → d ≠ 0 → d ≠ 0xFFFF → x.length ≤ 247 → s.icFull f = false →
    (s.icingAt f).burst = none →
    ∃ t, Answers (.icingMsgSend face d 1 (u8 x.length) x) 0x0907 .ok [(s.icingAt f).gseq + 1] s t
      ∧ (t.icingAt f).genWait = (s.icingAt f).genWait
          ++ [⟨(s.icingAt f).gseq + 1, d, [(s.icingAt f).gseq + 1, 1] ++ x, 0, s.gradeFor f d⟩]
      ∧ (t.icingAt f).queue.length = (s.icingAt f).queue.length + 1 ∧ { t with icing := s.icing } = s)
  ∧ (∀ (d : W16) (x : Bytes), Takes 0x0907 s → d ≠ 0 → x.length ≤ 247 → s.icFull f = true →
    Answers (.icingMsgSend face d 1 (u8 x.length) x) 0x0907 .full [] s s)
  ∧ (∀ n : Byte, Takes 0x0908 s →
    let ms := (s.icingAt f).genRx.take n.toNat
    1 + (ms.flatMap genRxBytes).length ≤ 240 →
    ∃ t, Answers (.icingMsgRead face n 0) 0x0908 .ok ([u8 ms.length] ++ ms.flatMap genRxBytes) s t
      ∧ t.icingAt f = { s.icingAt f with genRx := (s.icingAt f).genRx.drop n.toNat } ∧ { t with icing := s.icing } = s)
  ∧ (∀ (d w : W16) (g r : Byte), Takes 0x0909 s → s.icTxAvail f = true → d ≠ 0 → 6 ≤ g.toNat → g.toNat ≤ 11 →
    1 ≤ w.toNat → w.toNat ≤ 10050 → s.dst1608 f d = false → s.icFull f = false → (s.icingAt f).burst = none →
    ∃ t, Answers (.icingWakeSend face d g w r) 0x0909 .ok [] s t
      ∧ (t.icingAt f).queue = (s.icingAt f).queue ++ [⟨0x3E, d, [r], 1, .given g.toNat, w⟩] ∧ { t with icing := s.icing } = s)
  ∧ (Takes 0x090A s → ∃ t p, Answers (.icingCountersRead face 1) 0x090A .ok p s t ∧ p.length = 144
      ∧ t.icingAt f = { s.icingAt f with cnt := {} } ∧ { t with icing := s.icing } = s)

/-- R241 to R246: the receiver of a face, step by step. The model's own readings in its clauses: log entry 132 (windows
as bins and energies). -/
def Obligations.IcingReceiver : Prop := ∀ (s : State) (fb : BitVec 1) (r : IcRx), Live s → inToffee s = false →
  s.icingOn fb.toNat = true → (s.icingAt fb.toNat).cfg.rxEnable = true → s.blanked fb.toNat = false →
  (s.icingAt fb.toNat).rx = r →
  (∀ off : Int, 24 < off → r.st = .search →
    ∃ t, Completes (.icingAgcWindow fb off) s t ∧ (t.icingAt fb.toNat).rx = { r with gain := r.gain - 1 }
      ∧ { t with icing := s.icing } = s)
  ∧ (∀ off : Int, off < -24 → r.st = .search →
    ∃ t, Completes (.icingAgcWindow fb off) s t ∧ (t.icingAt fb.toNat).rx.gain = min 40 (r.gain + 1))
  ∧ (∀ (g : BitVec 4) (ws : List IcWin), r.st = .search →
    s.isRun fb.toNat g.toNat ((s.icingAt fb.toNat).carried g.toNat (ws.headD {}).bin) ws = true →
    ∃ t, Completes (.icingSearchDetect fb [g] [ws]) s t ∧ (t.icingAt fb.toNat).rx.st = .detect
      ∧ (t.icingAt fb.toNat).rx.gain = r.gain ∧ (t.icingAt fb.toNat).rx.grade = g.toNat
      ∧ (t.icingAt fb.toNat).rx.bin = (ws.headD {}).bin ∧ { t with icing := s.icing } = s)
  ∧ (∀ w : IcWin, r.st = .detect → r.step = 0 → winPasses r.grade (s.detDb fb.toNat) w = true →
    nearBin r.grade w.bin r.bin = false → nearBin r.grade w.bin (wordBin r.grade r.bin (r.net.toNat / 16)) = true →
    ∃ t, Completes (.icingDetectWindow fb w none) s t ∧ (t.icingAt fb.toNat).rx = { r with step := 1 })
  ∧ (∀ w : IcWin, r.st = .detect → winPasses r.grade (s.detDb fb.toNat) w = false →
    ∃ t, Completes (.icingDetectWindow fb w none) s t
      ∧ (t.icingAt fb.toNat).rx.st = .search ∧ (t.icingAt fb.toNat).rx.gain = r.gain
      ∧ (t.icingAt fb.toNat).cnt = { (s.icingAt fb.toNat).cnt with falseDetect := wrapAdd (s.icingAt fb.toNat).cnt.falseDetect 1 })
  ∧ (∀ w : IcWin, r.st = .detect → r.step = 3 → winPasses r.grade (s.detDb fb.toNat) w = true →
    ∃ t, Completes (.icingDetectWindow fb w none) s t ∧ (t.icingAt fb.toNat).rx.st = .header)
  ∧ (∀ (g : BitVec 4) (ws : List IcWin) (w : IcWin) (chips : Int), r.st = .body →
    s.isRun fb.toNat g.toNat 0 (ws ++ [w]) = true →
    r.sameRun g.toNat (ws.headD w).bin chips = false →
    16 * ((s.icingAt fb.toNat).cfg.capThresh.toNat : Int) ≤ (s.icingAt fb.toNat).levelOf w - r.level →
    ∃ t, Completes (.icingCapture fb g ws w chips) s t ∧ (t.icingAt fb.toNat).rx.st = .detect
      ∧ (t.icingAt fb.toNat).rx.grade = g.toNat
      ∧ (t.icingAt fb.toNat).cnt.capture = wrapAdd (s.icingAt fb.toNat).cnt.capture 1)
  ∧ (∀ (g : BitVec 4) (ws : List IcWin) (w : IcWin) (chips : Int), r.st = .body →
    s.isRun fb.toNat g.toNat 0 (ws ++ [w]) = true →
    r.sameRun g.toNat (ws.headD w).bin chips = false →
    (s.icingAt fb.toNat).levelOf w - r.level < 16 * ((s.icingAt fb.toNat).cfg.capThresh.toNat : Int) →
    ∃ t, Completes (.icingCapture fb g ws w chips) s t ∧ (t.icingAt fb.toNat).rx = r
      ∧ (t.icingAt fb.toNat).cnt.secIgnored = wrapAdd (s.icingAt fb.toNat).cnt.secIgnored 1)
  ∧ (∀ (len : Byte) (m : BitVec 4), r.st = .header → 6 ≤ len.toNat →
    ∃ t, Completes (.icingHeaderDecode fb true len m) s t
      ∧ (t.icingAt fb.toNat).rx = { r with st := .body, len := len } ∧ { t with icing := s.icing } = s)
  ∧ (∀ (ok : Bool) (len : Byte) (m : BitVec 4), r.st = .header → (ok = false ∨ len.toNat < 6) →
    ∃ t, Completes (.icingHeaderDecode fb ok len m) s t ∧ (t.icingAt fb.toNat).rx.st = .search
      ∧ (t.icingAt fb.toNat).cnt.hdrFail = wrapAdd (s.icingAt fb.toNat).cnt.hdrFail 1)
  ∧ (∀ (info : Bytes) (p q : Nat), r.st = .body → info.length = r.len.toNat + 2 →
    (crc16 (info.take r.len.toNat)).toNat ≠ ofBe (info.drop r.len.toNat) →
    ∃ t, Completes (.icingFrameEnd fb info p q) s t ∧ (t.icingAt fb.toNat).rx.st = .search
      ∧ (t.icingAt fb.toNat).cnt.crcFail = wrapAdd (s.icingAt fb.toNat).cnt.crcFail 1
      ∧ (t.icingAt fb.toNat).heard = (s.icingAt fb.toNat).heard)
  ∧ (∀ (info : Bytes) (p q : Nat) (src : W16), r.st = .body → info.length = r.len.toNat + 2 →
    (crc16 (info.take r.len.toNat)).toNat = ofBe (info.drop r.len.toNat) →
    src = BitVec.ofNat 16 (ofBe (slice info 4 2)) → src ≠ r.addr → ofBe (slice info 2 2) = r.addr.toNat →
    icTypeOk (byteAt info 1).toNat ((byteAt info 0).toNat - 6) = true →
    ∃ t, Completes (.icingFrameEnd fb info p q) s t ∧ (t.icingAt fb.toNat).rx.st = .search
      ∧ (t.icingAt fb.toNat).cnt.rxOk = wrapAdd (s.icingAt fb.toNat).cnt.rxOk 1
      ∧ (t.icingAt fb.toNat).heard = (s.icingAt fb.toNat).heard.filter (fun h => h.addr != src)
          ++ [⟨src, (s.icingAt fb.toNat).rssi, snr16 r.grade p q, u8 r.grade⟩])
  ∧ (∀ lv : Int, ∃ t, Completes (.icingAvgLevelUpdate fb lv) s t
      ∧ (t.icingAt fb.toNat).rx = { r with avgLevel := level16 (lv + (s.icingAt fb.toNat).cfg.tapCal) }
      ∧ { t with icing := s.icing } = s)

/-- R254 to R256, R261: neighbours, reports and general messages. The model's own readings in its clauses: log entry 44
(TIME fields of the frame's end). -/
def Obligations.IcingMessages : Prop := ∀ (s : State) (fb : BitVec 1) (i : Icing), Live s → inToffee s = false →
  s.icingOn fb.toNat = true → s.icingAt fb.toNat = i → i.burst = none → i.queue.length < 16 →
  (∀ (src : W16) (p : Bytes) (a b : W16), i.nbrs = [] → i.pin = 0 → i.far = 0 → src ≠ 0 →
    ∃ t, Completes (.discoveryReceive fb src p a b) s t ∧ (t.icingAt fb.toNat).nbrs = [⟨src, true, p, s.pwr.time, a, b⟩]
      ∧ (t.icingAt fb.toNat).far = src ∧ (t.icingAt fb.toNat).fixed = 0 ∧ { t with icing := s.icing, mbx := s.mbx } = s)
  ∧ (∀ (src : W16) (p : Bytes) (a b : W16), i.nbr src = none → 8 ≤ i.nbrs.length → (∀ n ∈ i.nbrs, n.found = true) →
    ∃ t, Completes (.discoveryReceive fb src p a b) s t ∧ t.icingAt fb.toNat = { i with cnt := (t.icingAt fb.toNat).cnt }
      ∧ (t.icingAt fb.toNat).cnt.nbrFull = wrapAdd i.cnt.nbrFull 1)
  ∧ (∀ n : Nbr, i.nbrs = [n] → n.found = true → i.far = n.addr → n.addr ≠ 0 →
    ∃ t, Completes (.neighbourTimeout fb n.addr) s t ∧ (t.icingAt fb.toNat).nbrs = [{ n with found := false }]
      ∧ (t.icingAt fb.toNat).far = 0)
  ∧ (s.icTxAvail fb.toNat = true → ∃ t, Completes (.discoveryPeriod fb) s t
      ∧ (t.icingAt fb.toNat).queue.length = i.queue.length + 1
      ∧ ((t.icingAt fb.toNat).queue.getLast?.map (·.payload)) = some (s.discovery fb.toNat))
  ∧ (i.cfg.reportPeriod ≠ 0 → ∃ t, Completes (.reportPeriod fb) s t
      ∧ ((t.icingAt fb.toNat).queue.getLast?.map (·.payload)) = some (s.levelReport fb.toNat 0 true))
  ∧ (∀ (src : W16) (q : Byte), ∃ t, Completes (.levelQueryReceive fb src q) s t
      ∧ ((t.icingAt fb.toNat).queue.getLast?.map (fun x => (x.dst, x.payload))) = some (src, s.levelReport fb.toNat q false))
  ∧ (∀ (src : W16) (p : Bytes), ∃ t, Completes (.levelReportReceive fb src p) s t ∧ { t with mbx := s.mbx } = s
      ∧ (TakesEvents s → Queued 0x8902 ([u8 fb.toNat] ++ le16 src ++ slice p 0 14) t))
  ∧ (∀ (src : W16) (g fl : Byte) (d : Bytes) (gr : Byte) (a b : W16), i.lastGenOf src ≠ some g → i.genRx = [] →
    ∃ t, Completes (.genMsgReceive fb src ([g, fl] ++ d) gr a b true) s t
      ∧ (t.icingAt fb.toNat).genRx = [⟨src, gr, a, b, g, d⟩] ∧ (t.icingAt fb.toNat).lastGenOf src = some g
      ∧ (t.icingAt fb.toNat).queue = i.queue ∧ (TakesEvents s → Queued 0x8903 [u8 fb.toNat] t))
  ∧ (∀ (src : W16) (g : Byte) (d : Bytes) (gr : Byte) (a b : W16), i.lastGenOf src = some g →
    ∃ t, Completes (.genMsgReceive fb src ([g, 1] ++ d) gr a b false) s t ∧ (t.icingAt fb.toNat).genRx = i.genRx
      ∧ (t.icingAt fb.toNat).queue.length = i.queue.length + 1)
  ∧ (∀ (src : W16) (g : Byte), ∃ t, Completes (.genAckReceive fb src g) s t
      ∧ (∀ w ∈ (t.icingAt fb.toNat).genWait, w.gseq ≠ g ∨ w.dst ≠ src) ∧ { t with icing := s.icing } = s)
  ∧ (∀ w : GenWait, i.genWait = [w] → w.resends < 3 →
    ∃ t, Completes (.genMsgRetryTimeout fb w.gseq) s t
      ∧ (t.icingAt fb.toNat).genWait
          = [{ w with resends := w.resends + 1 }]
      ∧ ((t.icingAt fb.toNat).queue.getLast?.map (fun x => (x.dst, x.payload, x.pick)))
          = some (w.dst, w.payload, .after w.grade) ∧ { t with icing := s.icing } = s)
  ∧ (∀ w : GenWait, i.genWait = [w] → 3 ≤ w.resends →
    ∃ t, Completes (.genMsgRetryTimeout fb w.gseq) s t ∧ (t.icingAt fb.toNat).genWait = []
      ∧ (TakesEvents s → Queued 0x8904 ([u8 fb.toNat] ++ le16 w.dst ++ [w.gseq]) t))

/-- R247 to R251: bursts of a face. The model's own readings in its clauses: log entries 36, 115 and 119 (a burst
discarded, its frames until then, the blanking). -/
def Obligations.IcingBursts : Prop := ∀ (s : State) (fb : BitVec 1) (i : Icing), Live s → s.icingAt fb.toNat = i →
  (s.icTxAvail fb.toNat = true → i.burst = none → i.waiting = false → i.queue ≠ [] → (∀ fr ∈ i.queue, fr.cls ≤ 3) →
    i.cfg.duplex = false → i.rx.st ≠ .search → i.defers < 15 →
    ∃ t, Completes (.icingBurstStart fb) s t ∧ (t.icingAt fb.toNat).cnt.txDefer = wrapAdd i.cnt.txDefer 1
      ∧ (t.icingAt fb.toNat).waiting = true ∧ (t.icingAt fb.toNat).defers = i.defers + 1
      ∧ (t.icingAt fb.toNat).slots < 2 ^ min (3 + i.defers) 6 ∧ (t.icingAt fb.toNat).queue = i.queue ∧ t.free = s.free + 1)
  ∧ (∀ (fr : IcFrame) (c : Instr), s.icTxAvail fb.toNat = true → i.queue = [fr] → fr.cls ≤ 3 →
    fr.mtype = 1 → (i.cfg.duplex = true ∨ i.rx.st = .search) →
    ((c = .icingBurstStart fb ∧ i.burst = none ∧ i.waiting = false) ∨ (c = .icingBackoffEnd fb ∧ i.waiting = true)) →
    ∃ t, Completes c s t ∧ (t.icingAt fb.toNat).queue = [] ∧ (t.icingAt fb.toNat).waiting = false
      ∧ ((t.icingAt fb.toNat).burst.map (fun b => (b.frames, b.grade, b.lane, b.blanks, b.ramp)))
          = some ([fr], s.frameGrade fb.toNat fr, i.lane, !i.cfg.duplex, i.cfg.ramp) ∧ { t with icing := s.icing } = s)
  ∧ (∀ fr : IcFrame, s.icTxAvail fb.toNat = true → i.queue = [fr] → fr.cls ≤ 3 → i.waiting = true → i.defers = 15 →
    i.cfg.duplex = false → i.rx.st ≠ .search →
    ∃ t, Completes (.icingBackoffEnd fb) s t ∧ (t.icingAt fb.toNat).queue = [] ∧ (t.icingAt fb.toNat).waiting = false
      ∧ (t.icingAt fb.toNat).cnt.txFail = wrapAdd i.cnt.txFail 1
      ∧ (TakesEvents s → Queued 0x8905 [u8 fb.toNat, fr.mtype, 1] t))
  ∧ (∀ b : Burst, i.burst = some b → b.stopped = true → Completes (.icingBurstEnd fb) s s)
  ∧ (∀ b : Burst, i.burst = some b → b.stopped = false →
    ∃ t, Completes (.icingBurstEnd fb) s t ∧ (t.icingAt fb.toNat).burst = none
      ∧ (b.blanks = true → (t.icingAt fb.toNat).blankEnd = s.pwr.time + BitVec.ofNat 64 (8 * b.ramp.toNat))
      ∧ (t.icingAt fb.toNat).cnt.txFrames = wrapAdd i.cnt.txFrames b.frames.length ∧ { t with icing := s.icing } = s)
  ∧ (∀ (b : Burst) (n : BitVec 2), i.burst = some b →
    (b.stopped = true ∨ ((s.txAt (8 * fb.toNat + b.lane)).st ≠ .data ∧ (s.txAt (8 * fb.toNat + b.lane)).st ≠ .icingOnly)) → n.toNat < b.frames.length →
    ∃ t, Completes (.icingBurstAbort fb n) s t ∧ (t.icingAt fb.toNat).burst = none
      ∧ (t.icingAt fb.toNat).queue = b.frames.drop (n.toNat + 1) ++ i.queue
      ∧ (t.icingAt fb.toNat).cnt.txAbort = wrapAdd i.cnt.txAbort 1
      ∧ (t.icingAt fb.toNat).cnt.txFrames = wrapAdd i.cnt.txFrames n.toNat ∧ { t with icing := s.icing } = s)
  ∧ (∀ (fr : IcFrame) (q : List IcFrame), s.icingOn fb.toNat = true → s.nodeAddr = 0 → i.queue = fr :: q →
    ∃ t, Completes (.icingTxUnavailable fb) s t ∧ (t.icingAt fb.toNat).queue = q
      ∧ (t.icingAt fb.toNat).cnt.txUnavail = wrapAdd i.cnt.txUnavail 1
      ∧ (TakesEvents s → Queued 0x8905 [u8 fb.toNat, fr.mtype, 0] t))

/-- A hand-over that the host asks for by `c` into the mode `up`, toward a node that takes it and one that does not. -/
def MoveAsked (c : Instr) (op : Nat) (up : Bool) (l f : Nat) (s : State) : Prop :=
  (Takes op s → s.farFound f = true → s.far1608 f = false → s.laneBusy l = false →
    ∃ t, Answers c op .ok [] s t
      ∧ ((t.stretchAt l).handOver.map (fun h => (h.stretch, h.mseq, h.agreed))) = some (up, (s.icingAt f).mseq + 1, false)
      ∧ (t.icingAt f).reqOut.map (fun r => (r.mseq, r.lane, r.payload)) = (s.icingAt f).reqOut.map (fun r => (r.mseq, r.lane, r.payload))
          ++ [((s.icingAt f).mseq + 1, l, [(s.icingAt f).mseq + 1, u8 (s.farLane l), boolByte up, 0])])
  ∧ (Takes op s → s.farFound f = true → s.far1608 f = true → Answers c op .notSupported [] s s)
  ∧ (Takes op s → s.farFound f = true → s.far1608 f = false → s.laneBusy l = true → Answers c op .busy [] s s)

/-- R121, R259, R260: the hand-over between PAM4 and Stretch mode, at both its ends. The model's own readings in its
clauses: log entries 161 (BUSY of STRETCH_ENTER and STRETCH_EXIT, PRECODE 0) and 16 (requests kept for repeats). -/
def Obligations.HandOvers : Prop := ∀ (s : State) (l : BitVec 4) (lane : Byte) (f : Nat), lane.toNat = l.toNat →
  f = l.toNat / 8 → (s.icingAt f).burst = none → (s.icingAt f).queue.length < 16 →
  MoveAsked (.stretchEnter lane) 0x0302 true l.toNat f s ∧ MoveAsked (.stretchExit lane) 0x0303 false l.toNat f s
  ∧ (∀ (src : W16) (m : Byte) (fb : BitVec 1), Live s → fb.toNat = f → s.icingOn f = true → inToffee s = false →
    (s.icingAt f).reqIn = [] → s.laneBusy l.toNat = false → s.dst1608 f src = false →
    s.inMode l.toNat true = false → (s.stretchAt l.toNat).accept = true →
    ∃ t, Completes (.modeReqReceive fb src [m, lane, 1, 0]) s t
      ∧ ((t.stretchAt l.toNat).handOver.map (fun h => (h.mseq, h.stretch, h.agreed))) = some (m, true, false)
      ∧ ((t.icingAt f).queue.getLast?.map (·.payload)) = some [m, lane, resAccept])
  ∧ (∀ (src : W16) (m : Byte) (fb : BitVec 1) (r : ReqIn) (a : Bytes), Live s → fb.toNat = f → s.icingOn f = true →
    inToffee s = false → (s.icingAt f).reqInOf false src m = some r → r.answer = some a → s.dst1608 f src = false →
    ∃ t, Completes (.modeReqReceive fb src [m, lane, 1, 0]) s t
      ∧ ((t.icingAt f).queue.getLast?.map (·.payload)) = some a ∧ t.stretch = s.stretch)
  ∧ (∀ (r : ReqOut) (fb : BitVec 1), Live s → fb.toNat = f → (s.icingAt f).reqOut = [r] → r.tier = false →
    r.cancel = false → r.lane = l.toNat →
    ∃ t, Completes (.modeAckReceive fb r.dst [r.mseq, 0, resAccept]) s t ∧ (t.icingAt f).reqOut = []
      ∧ (t.stretchAt l.toNat).handOver = (s.stretchAt l.toNat).handOver.map (fun h => { h with agreed := true }))
  ∧ (∀ (r : ReqOut) (fb : BitVec 1), Live s → fb.toNat = f → (s.icingAt f).reqOut = [r] → r.resends = 0 →
    s.dst1608 f r.dst = false →
    ∃ t, Completes (.icingReqResendTimeout fb r.mseq) s t
      ∧ (t.icingAt f).reqOut = [{ r with resends := 1 }]
      ∧ ((t.icingAt f).queue.getLast?.map (fun x => (x.payload, x.pick))) = some (r.payload, .after r.grade))
  ∧ (∀ h : HandOver, Live s → (s.stretchAt l.toNat).handOver = some h → h.initiator = true → h.agreed = false →
    (s.icingAt f).reqOut = [] →
    ∃ t, Completes (.modeAckTimeout l) s t ∧ (t.stretchAt l.toNat).handOver = none)
  ∧ (∀ (fb : BitVec 1) (r : ReqIn) (h : HandOver), Live s → fb.toNat = f → (s.icingAt f).reqIn = [r] → r.tier = false →
    r.answer = some [r.mseq, lane, resAccept] → byteAt r.payload 1 = lane →
    (s.stretchAt l.toNat).handOver = some h → h.mseq = r.mseq → h.initiator = false →
    ∃ t, Completes (.modeCancelReceive fb r.src [r.mseq, lane]) s t ∧ (t.stretchAt l.toNat).handOver = none
      ∧ (t.icingAt f).reqIn = [] ∧ t.tx = s.tx ∧ t.rx = s.rx)
  ∧ (∀ (r : ReqIn), Takes 0x0309 s → s.askedMode f l.toNat r.mseq = some r → s.dst1608 f r.src = false →
    ∃ t, Answers (.stretchReply lane r.mseq 0) 0x0309 .ok [] s t ∧ t.stretch = s.stretch
      ∧ ((t.icingAt f).queue.getLast?.map (·.payload)) = some [r.mseq, byteAt r.payload 1, resReject])
  ∧ (∀ (r : ReqIn), Takes 0x0309 s → s.askedMode f l.toNat r.mseq = some r → s.laneBusy l.toNat = false →
    byteAt r.payload 0 = r.mseq → byteAt r.payload 2 = 1 →
    ∃ t, Answers (.stretchReply lane r.mseq 1) 0x0309 .ok [] s t
      ∧ ((t.stretchAt l.toNat).handOver.map (fun h => (h.mseq, h.stretch, h.agreed))) = some (r.mseq, true, false))
  ∧ (∀ (r : ReqIn) (fb : BitVec 1), Live s → fb.toNat = f → (s.icingAt f).reqIn = [r] → r.answer = none → r.tier = false →
    s.dst1608 f r.src = false →
    ∃ t, Completes (.hostReplyTimeout fb r.mseq) s t ∧ t.stretch = s.stretch
      ∧ ((t.icingAt f).queue.getLast?.map (·.payload)) = some [r.mseq, byteAt r.payload 1, resReject])
  ∧ (∀ h : HandOver, Live s → (s.stretchAt l.toNat).handOver = some h → h.agreed = true →
    s.inMode l.toNat h.stretch = false → ((s.rxAt l.toNat).st ≠ .locked ∨ (s.rxAt l.toNat).snapBusy = false) →
    ∃ t, Completes (.modeSwitchBoundary l) s t ∧ t.inMode l.toNat h.stretch = true
      ∧ (t.stretchAt l.toNat).handOver = none)

/-- R270, R273 to R275, R278, R280, R286, R287, R288, R290, R292: the commands of a control loop. The model's own
readings in its clauses: log entries 59 (commands act at once), 121 (the check word of a loop crumb) and 122 (a fetch
from an unpowered core). -/
def Obligations.LoopCommands : Prop := ∀ (s : State) (loop : Byte) (n : Nat) (x : Loop), loop.toNat = n → n < 192 →
  s.coreOn (n / 48) = true → s.loopAt n = x → x.words.length = 32 →
  (∀ (first count : Byte) (d : Bytes), Takes 0x0A02 s → 1 ≤ count.toNat → first.toNat + count.toNat ≤ 32 →
    d.length = 4 * count.toNat → s.writeOk (writeWords n false first.toNat count.toNat d) = true →
    (first.toNat + count.toNat ≤ 24 ∨ x.on = false) → s.loopRej.contains (n / 2) = false →
    ∃ t, Answers (.loopWrite loop 0 first count 0 d) 0x0A02 .ok [] s t
      ∧ (t.coreAt (n / 48)).writes = (s.coreAt (n / 48)).writes
          ++ [⟨none, (List.range count.toNat).map (fun k => (n, first.toNat + k, w32At d (4 * k)))⟩]
      ∧ { t with core := s.core } = s)
  ∧ (∀ buf : W32, Takes 0x0A02 s → buf ≠ 0 → bufOk buf 256 = true → s.sramBad = [] → s.sramSoft = [] →
    s.writeOk (writeWords n true 0 0 (s.sramRead (winToSram buf.toNat) 256)) = true →
    (s.loopAt (n / 2 * 2)).on = false → (s.loopAt (n / 2 * 2 + 1)).on = false →
    ∃ t, Answers (.loopWrite loop 1 0 0 buf []) 0x0A02 .ok [] s t
      ∧ (t.coreAt (n / 48)).writes = (s.coreAt (n / 48)).writes
          ++ [⟨some (n / 2), writeWords n true 0 0 (s.sramRead (winToSram buf.toNat) 256)⟩]
      ∧ { t with core := s.core } = s)
  ∧ (∀ w : W32, Takes 0x0A02 s → f32Finite w = false → Answers (.loopWrite loop 0 3 1 0 (le32 w)) 0x0A02 .range [] s s)
  ∧ (∀ w : W32, Takes 0x0A02 s → f32Finite w = true → x.on = true →
    Answers (.loopWrite loop 0 27 1 0 (le32 w)) 0x0A02 .busy [] s s)
  ∧ (∀ (vm am jm : W32) (fl : Byte) (v : W32), Takes 0x0A04 s → fl.toNat ≤ 1 → f32Finite v = true →
    (fl = 1 → ∀ u ∈ [vm, am, jm], f32Finite u = true ∧ f32Pos u = true) →
    ∃ t, Answers (.loopMode loop 0 fl v vm am jm) 0x0A04 .ok [] s t ∧ (t.loopAt n).st = 0 ∧ (t.loopAt n).w 16 = v
      ∧ (t.loopAt n).w 17 = (if fl = 1 then vm else x.w 17) ∧ (t.loopAt n).w 18 = (if fl = 1 then am else x.w 18)
      ∧ (t.loopAt n).w 19 = (if fl = 1 then jm else x.w 19) ∧ ∀ k, k ≠ n → t.loopAt k = s.loopAt k)
  ∧ (Takes 0x0A03 s → Answers (.loopRead loop) 0x0A03 .ok (x.words.flatMap le32) s s)
  ∧ (∀ v : W32, Takes 0x0A04 s → f32Finite v = true → (x.st = 0 ∨ x.st = 5) → s.loopCrumbOk (n / 2) = true →
    ∃ t, Answers (.loopMode loop 1 0 v 0 0 0) 0x0A04 .ok [] s t ∧ (t.loopAt n).st = 1 ∧ (t.loopAt n).w 30 = x.w 30
      ∧ (t.loopAt n).w 16 = v ∧ (getField ((t.loopAt n).w 31) 11 4) = 0)
  ∧ (∀ v : W32, Takes 0x0A04 s → f32Finite v = true → (x.st = 0 ∨ x.st = 5) → s.loopRej.contains (n / 2) = true →
    Answers (.loopMode loop 1 0 v 0 0 0) 0x0A04 .crumb [] s s)
  ∧ (∀ v : W32, Takes 0x0A04 s → f32Finite v = true → (x.st = 0 ∨ x.st = 5) → s.loopRej.contains (n / 2) = false →
    s.loopCrumbOk (n / 2) = false →
    ∃ t, Answers (.loopMode loop 1 0 v 0 0 0) 0x0A04 .crumb [] s t ∧ t.loopRej = s.loopRej ++ [n / 2]
      ∧ (∀ k, k / 2 = n / 2 → (s.loopAt k).words.length = 32 → (t.loopAt k).st = 5)
      ∧ (x.st = 0 → getField ((t.loopAt n).w 31) 11 4 = 1)
      ∧ (s.mbx.evq.length < 256 → ({ op := 0x800B, bytes := [3, 0] ++ leN 2 (n / 2) } : Ev) ∈ t.mbx.evq))
  ∧ (∀ v : W32, Takes 0x0A04 s → f32Finite v = true → x.st = 1 →
    ∃ t, Answers (.loopMode loop 2 0 v 0 0 0) 0x0A04 .ok [] s t ∧ (t.loopAt n).st = 2 ∧ (t.loopAt n).w 24 = x.w 30
      ∧ (t.loopAt n).w 25 = 0 ∧ (t.loopAt n).w 16 = v)
  ∧ (∀ v : W32, Takes 0x0A04 s → f32Finite v = true → x.st = 1 →
    ∃ t, Answers (.loopMode loop 4 0 v 0 0 0) 0x0A04 .ok [] s t ∧ (t.loopAt n).st = 3 ∧ (t.loopAt n).hoCount = 0
      ∧ (t.loopAt n).hoTarget = v ∧ (t.loopAt n).w 30 = x.w 30)
  ∧ (∀ v : W32, Takes 0x0A04 s → f32Finite v = true → x.st = 5 →
    Answers (.loopMode loop 2 0 v 0 0 0) 0x0A04 .busy [] s s ∧ Answers (.loopMode loop 4 0 v 0 0 0) 0x0A04 .busy [] s s)
  ∧ (∀ v : W32, Takes 0x0A04 s → f32Finite v = true →
    ∃ t, Answers (.loopMode loop 0 0 v 0 0 0) 0x0A04 .ok [] s t ∧ (t.loopAt n).st = 0)
  ∧ (∀ v : W32, Takes 0x0A05 s → f32Finite v = true → (x.st = 2 ∨ x.st = 4) →
    ∃ t, Answers (.loopTarget loop 1 v) 0x0A05 .ok [] s t ∧ (t.loopAt n).w 16 = v ∧ (t.loopAt n).w 24 = x.w 24
      ∧ (t.loopAt n).w 25 = x.w 25 ∧ bitOf ((t.loopAt n).w 31) 3 = false ∧ (t.loopAt n).event = true)
  ∧ (Takes 0x0A06 s → Answers (.loopStatus loop 0) 0x0A06 .ok (le32 (x.w 31) ++ le32 x.missCount
      ++ le32 x.satFrames ++ le32 x.liShort ++ le16 x.faultCount) s s)
  ∧ (Takes 0x0A06 s → ∃ t, Answers (.loopStatus loop 1) 0x0A06 .ok (le32 (x.w 31) ++ le32 x.missCount
      ++ le32 x.satFrames ++ le32 x.liShort ++ le16 x.faultCount) s t ∧ (t.loopAt n).missCount = 0
      ∧ (t.loopAt n).faultCount = 0 ∧ bitOf ((t.loopAt n).w 31) 2 = false ∧ { t with loop := s.loop } = s)
  ∧ (∀ (a i : W32) (p c : W16), Takes 0x0A07 s → f32Finite a = true → p.toNat ≤ 256 → 1 ≤ c.toNat → p.toNat + c.toNat ≤ 1024 →
    (x.st = 2 ∨ x.st = 4) → (s.coreAt (n / 48)).test = none →
    ∃ t, Answers (.loopTestStart loop 0 1 0 a i 0 p c) 0x0A07 .ok [] s t ∧ (t.coreAt (n / 48)).records = []
      ∧ ((t.coreAt (n / 48)).test.map (fun y => (y.loop, y.pre, y.length))) = some (n, p.toNat, c.toNat)
      ∧ { t with core := s.core } = s)
  ∧ (∀ (core dma : Byte) (a : W32), Takes 0x0A08 s → core.toNat < 4 → dma.toNat < 16 →
    bufOk a (16 * (s.coreAt core.toNat).records.length) = true → (s.chanAt dma.toNat).free = true →
    (s.pd (80 + core.toNat) = true → ∃ t, Completes (.loopTestFetch core dma a) s t
      ∧ t.mbx = { s.mbx with exec := some { op := 0x0A08, ch := dma.toNat, payload := leN 2 (s.coreAt core.toNat).records.length } }
      ∧ (t.chanAt dma.toNat).st = .cmd
      ∧ (t.chanAt dma.toNat).xfer = some ⟨.records core.toNat, a.toNat, 16 * (s.coreAt core.toNat).records.length⟩
      ∧ { t with dma := s.dma, mbx := s.mbx } = s)
    ∧ (s.pd (80 + core.toNat) = false →
      ∃ t, Answers (.loopTestFetch core dma a) 0x0A08 .ok (leN 2 (s.coreAt core.toNat).records.length) s t
        ∧ (t.chanAt dma.toNat).st = .idle ∧ (t.chanAt dma.toNat).err = 2
        ∧ (t.chanAt dma.toNat).resid = BitVec.ofNat 24 (16 * (s.coreAt core.toNat).records.length)
        ∧ { t with dma := s.dma, irq := s.irq } = s))
  ∧ (Takes 0x0A09 s → ∃ p, Answers .loopEngineStatus 0x0A09 .ok p s s ∧ p.length = 10)
  ∧ (Takes 0x0A01 s → x.st = 0 → s.loopRej.contains (n / 2) = false →
    ∃ t, Answers (.loopTemplateApply loop 0) 0x0A01 .ok [] s t
      ∧ (∀ p ∈ templateWords n, (t.loopAt n).w p.1 = p.2) ∧ t.bias = s.bias)

/-- R276, R281: the law never lets the output or the integrator leave their clamps. -/
def Obligations.LoopClamps : Prop := ∀ (l l' : Loop) (fi : FrameIn) (e : W32), l.words.length = 32 →
  f32Le (l.w 4) (l.w 5) = true → f32Le (l.w 6) (l.w 7) = true → l.lawFrame fi = some (l', e) →
  f32Le (l.w 4) (l'.w 30) = true ∧ f32Le (l'.w 30) (l.w 5) = true
  ∧ f32Le (l.w 6) (l'.w 27) = true ∧ f32Le (l'.w 27) (l.w 7) = true
  ∧ l'.w 29 = fi.y ∧ l'.st = l.st ∧ (∀ i, i < 16 → l'.w i = l.w i)

/-- R266, R267, R275: a core without extra work never misses, and a frame of a core whose loops are all OFF leaves
their words. The model's own readings in its clauses: log entries 18 and 57 (one core a frame, what a frame computes).
-/
def Obligations.CoreFrames : Prop := (∀ (s : State) (q : Nat), q < 4 → (s.coreAt q).writes = [] → (s.coreAt q).test = none →
  (s.coreAt q).missed = none →
  (∀ n ∈ coreLoops q, (s.loopAt n).words.length = 32 ∧ (s.loopAt n).swapDue = false ∧ (s.loopAt n).st ≠ 3
    ∧ (s.loopAt n).lockin = false ∧ (s.loopAt n).resume = false) →
  ((coreFrame q s).coreAt q).missed = none
  ∧ ((coreFrame q s).coreAt q).peak.toNat ≤ max (s.coreAt q).peak.toNat 1440)
  ∧ (∀ (s : State) (q : BitVec 2), Live s → s.coreOn q.toNat = true →
  s.madcOn q.toNat = false → (s.coreAt q.toNat).writes = [] → (s.coreAt q.toNat).missed = none →
  (∀ n ∈ coreLoops q.toNat, (s.loopAt n).st = 0) →
  ∃ t, Completes (.controlFrame q) s t ∧ (t.coreAt q.toNat).missed = none
    ∧ (t.coreAt q.toNat).peak.toNat = max (s.coreAt q.toNat).peak.toNat 48
    ∧ (∀ n, (t.loopAt n).words = (s.loopAt n).words) ∧ t.mbx = s.mbx)
  ∧ (∀ (s : State) (q : BitVec 2) (n : Nat), Live s → s.coreOn q.toNat = true → n < 192 → n / 48 = q.toNat →
  s.madcOn q.toNat = false → (s.coreAt q.toNat).writes = [] → (s.coreAt q.toNat).missed = none →
  (s.coreAt q.toNat).test = none → (∀ k ∈ coreLoops q.toNat, k ≠ n → (s.loopAt k).st = 0) →
  (s.loopAt n).words.length = 32 → (s.loopAt n).st = 2 → (s.loopAt n).swapDue = false → (s.loopAt n).lockin = false →
  s.monValid (s.loopAt n).meas = true →
  ∀ y x' : _, (s.loopAt n).measure (foutCodes (s.monAt (s.loopAt n).meas).fout) = some y →
    (s.loopAt n).openFrame { y := y } = some x' →
    ∃ t, Completes (.controlFrame q) s t ∧ (t.loopAt n).w 30 = x'.w 30 ∧ (t.loopAt n).w 24 = x'.w 24
      ∧ (t.loopAt n).w 29 = y ∧ (t.coreAt q.toNat).missed = none)

/-- R281, R284, R285, R289, R290: what a run of frames brings about. The model's own readings in its clauses: log
entries 17 and 58 (rounding, faults and captures). -/
def Obligations.LoopEvents : Prop := ∀ (s : State) (loop : Byte) (n : Nat) (x : Loop), loop.toNat = n → n < 192 → Live s →
  s.coreOn (n / 48) = true → s.loopAt n = x → x.words.length = 32 → (s.coreAt (n / 48)).test = none →
  (x.st = 3 → 64 ≤ x.hoCount → ∃ t, Completes (.handoverForce loop) s t ∧ (t.loopAt n).st = 4
    ∧ bitOf ((t.loopAt n).w 31) 5 = true ∧ (t.loopAt n).w 27 = x.preload ∧ (t.loopAt n).w 30 = x.w 30
    ∧ (t.loopAt n).w 16 = x.hoTarget ∧ (TakesEvents s → Queued 0x8A03 [u8 n, 1] t) ∧ { t with loop := s.loop, mbx := s.mbx } = s)
  ∧ (x.st = 4 → bitOf (x.w 0) 5 = true → x.setB = false → bitOf (x.w 31) 5 = false → 4 ≤ x.swapRun → x.autoSwap = false →
    ∃ t, Completes (.autoSwapDue loop) s t ∧ (t.loopAt n).swapDue = true ∧ bitOf ((t.loopAt n).w 0) 4 = true
      ∧ (t.loopAt n).w 30 = x.w 30 ∧ { t with loop := s.loop } = s)
  ∧ (x.st = 4 → f32Eq (x.w 23) 0 = false → 2 ^ (getField (x.w 0) 16 4).toNat ≤ x.errRun → bitOf (x.w 0) 20 = false →
    ∃ t, Completes (.loopErrLimitFault loop) s t ∧ (t.loopAt n).st = 5 ∧ getField ((t.loopAt n).w 31) 11 4 = 4
      ∧ (t.loopAt n).w 30 = x.w 30 ∧ (t.loopAt n).faultCount = satAdd x.faultCount 1 ∧ t.bias = s.bias
      ∧ (TakesEvents s → Queued 0x8A02 [u8 n, 4] t))
  ∧ (x.st = 4 → 1024 ≤ x.staleRun → ∃ t, Completes (.loopStaleFault loop) s t ∧ (t.loopAt n).st = 5
    ∧ getField ((t.loopAt n).w 31) 11 4 = 5 ∧ (TakesEvents s → Queued 0x8A02 [u8 n, 5] t))
  ∧ (x.st = 2 → 64 ≤ x.missRun → ∃ t, Completes (.loopMissRunFault loop) s t ∧ (t.loopAt n).st = 5
    ∧ getField ((t.loopAt n).w 31) 11 4 = 6 ∧ (TakesEvents s → Queued 0x8A02 [u8 n, 6] t))
  ∧ (x.st = 4 → x.lockin = true → x.liRestart = false → 2 ^ x.liLen ≤ x.liFrames → x.liSamples.length < 2 ^ x.liLen →
    ∃ t, Completes (.lockinPeriodEnd loop) s t ∧ (t.loopAt n).liShort = x.liShort + 1
      ∧ (t.loopAt n).liResult = x.liResult ∧ { t with loop := s.loop } = s)
  ∧ (x.st = 4 → x.lockin = true → x.liRestart = false → 2 ^ x.liLen ≤ x.liFrames → 2 ^ x.liLen ≤ x.liSamples.length →
    ∃ t, Completes (.lockinPeriodEnd loop) s t ∧ ((t.loopAt n).liResult.map (·.2)) = some (!x.liInvalid)
      ∧ (t.loopAt n).liSamples = [] ∧ (t.loopAt n).liShort = x.liShort)

/-- R294 to R297, R299 to R302, R304, R305: the commands of a bias output. The model's own readings in its clauses: log
entries 62 and 63 (the range in RECORD, the order of the checks). -/
def Obligations.BiasCommands : Prop := ∀ (s : State) (out : Byte) (n : Nat) (b : Bias) (y : Loop), out.toNat = n → n < 192 →
  s.coreOn (n / 48) = true → s.biasAt n = b → s.loopAt n = y →
  (∀ (k : Byte) (r : Bytes) (v : W16), Takes 0x0B01 s → r.length = 16 → k.toNat < 64 →
    (bitOf k 0 = true → (byteAt r 0).toNat < 16 ∧ (byteAt r 0).toNat % 4 ≠ 3) → (bitOf k 2 = true → w16At r 2 ≠ 0) →
    (bitOf k 4 = true → (w16At r 6).toNat ≤ 16383) → slice r 12 4 = List.replicate 4 0 →
    (bitOf k 0 = true → (byteAt r 0).toNat % 4 = b.rangeNow.toNat ∨ b.st = .hiz) → (bitOf k 0 = true → b.st ≠ .range) →
    ∃ t, Answers (.biasConfig out k r v) 0x0B01 .ok [] s t
      ∧ (t.biasAt n).record = { b.record with
          range := if bitOf k 0 then BitVec.ofNat 2 (byteAt r 0).toNat else b.record.range
          slewEn := if bitOf k 0 then bitOf (byteAt r 0) 2 else b.record.slewEn
          safeHiz := if bitOf k 0 then bitOf (byteAt r 0) 3 else b.record.safeHiz
          slewRate := if bitOf k 1 then byteAt r 1 else b.record.slewRate
          slewStep := if bitOf k 2 then w16At r 2 else b.record.slewStep
          safeCode := if bitOf k 3 then w16At r 4 else b.record.safeCode
          damp := if bitOf k 4 then w16At r 6 else b.record.damp, dinc := if bitOf k 5 then w32At r 8 else b.record.dinc }
      ∧ (t.biasAt n).rangeNow = (if bitOf k 0 then BitVec.ofNat 2 (byteAt r 0).toNat else b.rangeNow)
      ∧ (t.biasAt n).st = b.st ∧ (t.biasAt n).out = b.out ∧ (t.biasAt n).highZ = b.highZ ∧ (t.biasAt n).b = b.b
      ∧ (b.st ≠ .drive → t.biasAt n = { b with record := (t.biasAt n).record, rangeNow := (t.biasAt n).rangeNow })
      ∧ (∀ j, j ≠ n → t.biasAt j = s.biasAt j) ∧ { t with bias := s.bias } = s)
  ∧ (∀ (m : Byte) (v : W16), Takes 0x0B01 s → b.st = .drive → y.on = false → m.toNat < 16 → m.toNat % 4 ≠ 3 →
    m.toNat % 4 ≠ b.rangeNow.toNat →
    ∃ t, Answers (.biasConfig out 0x01 (m :: List.replicate 15 0) v) 0x0B01 .ok [] s t
      ∧ (t.biasAt n).st = .range ∧ (t.biasAt n).record.range = BitVec.ofNat 2 m.toNat ∧ (t.biasAt n).rangeNow = b.rangeNow
      ∧ (t.biasAt n).target = v ∧ (t.biasAt n).out = b.out ∧ (∀ j, j ≠ n → t.biasAt j = s.biasAt j)
      ∧ { t with bias := s.bias } = s)
  ∧ (∀ (m : Byte) (v : W16), Takes 0x0B01 s → b.st ≠ .hiz → (b.st ≠ .drive ∨ y.on = true) → m.toNat < 16 → m.toNat % 4 ≠ 3 →
    m.toNat % 4 ≠ b.rangeNow.toNat → Answers (.biasConfig out 0x01 (m :: List.replicate 15 0) v) 0x0B01 .busy [] s s)
  ∧ (∀ v : W16, Takes 0x0B01 s →
    Answers (.biasConfig out 0x01 ([3] ++ List.replicate 15 0) v) 0x0B01 .range [] s s)
  ∧ (∀ code : W16, Takes 0x0B02 s → b.st = .hiz → s.biasLow = false → y.st = 0 →
    ∃ t, Answers (.biasEnable out 0 code) 0x0B02 .ok [] s t ∧ (t.biasAt n).st = .drive ∧ (t.biasAt n).b = 0
      ∧ (t.biasAt n).block = some [code, code, code, code] ∧ (t.biasAt n).starting = true
      ∧ (t.biasAt n).output = b.output
      ∧ (∀ k, k ≠ n → t.biasAt k = s.biasAt k) ∧ { t with bias := s.bias } = s)
  ∧ (∀ code : W16, Takes 0x0B02 s → b.st = .fault → b.faulted = false → s.biasLow = false → y.st = 1 →
    Answers (.biasEnable out 0 code) 0x0B02 .busy [] s s
    ∧ ∃ t, Answers (.biasEnable out 1 code) 0x0B02 .ok [] s t ∧ (t.biasAt n).st = .drive ∧ (t.biasAt n).block = b.block)
  ∧ (∀ code : W16, Takes 0x0B02 s → b.st = .hiz → s.biasLow = false → 2 ≤ y.st →
    Answers (.biasEnable out 0 code) 0x0B02 .busy [] s s)
  ∧ (∀ code : W16, Takes 0x0B02 s → b.st = .hiz → s.biasLow = true → y.st = 0 →
    Answers (.biasEnable out 0 code) 0x0B02 .supply [] s s)
  ∧ (Takes 0x0B03 s → b.faulted = true → Answers (.biasDisable out) 0x0B03 .ok [] s s)
  ∧ (Takes 0x0B03 s → b.faulted = false → ∃ t, Answers (.biasDisable out) 0x0B03 .ok [] s t ∧ (t.biasAt n).st = .hiz
    ∧ (t.biasAt n).phi = 0 ∧ (t.biasAt n).output = none ∧ (∀ k, k ≠ n → t.biasAt k = s.biasAt k) ∧ { t with bias := s.bias } = s)
  ∧ (∀ code : W16, Takes 0x0B04 s → y.on = false → b.st ≠ .range →
    ∃ t, Answers (.biasCode out code) 0x0B04 .ok [] s t ∧ t.biasAt n = { b with block := some [code, code, code, code] }
      ∧ (∀ k, k ≠ n → t.biasAt k = s.biasAt k) ∧ { t with bias := s.bias } = s)
  ∧ (∀ code : W16, Takes 0x0B04 s → (y.on = true ∨ b.st = .range) → Answers (.biasCode out code) 0x0B04 .busy [] s s)
  ∧ (∀ sc ix : Byte, Takes 0x0B05 s → scopeOk sc ix = true → s.scopeOn sc ix = true →
    (sc = 0 → (s.biasAt ix.toNat).st = .drive ∨ (s.biasAt ix.toNat).st = .range) →
    ∃ t, Answers (.biasSafe sc ix) 0x0B05 .ok [] s t ∧ { t with bias := s.bias } = s
      ∧ (∀ k, k ∈ biasScope sc ix → (s.biasAt k).st = .drive ∨ (s.biasAt k).st = .range →
          (t.biasAt k).st = .safe ∧ (t.biasAt k).phi = 0 ∧ (t.biasAt k).output = (s.biasAt k).output)
      ∧ (∀ k, k ∉ biasScope sc ix ∨ ((s.biasAt k).st ≠ .drive ∧ (s.biasAt k).st ≠ .range) → t.biasAt k = s.biasAt k))
  ∧ (Takes 0x0B05 s → b.st ≠ .drive → b.st ≠ .range → Answers (.biasSafe 0 out) 0x0B05 .busy [] s s)
  ∧ (∀ sc ix : Byte, Takes 0x0B06 s → scopeOk sc ix = true → s.scopeOn sc ix = true → (sc = 0 → (s.biasAt ix.toNat).st = .safe) →
    ∃ t, Answers (.biasRelease sc ix) 0x0B06 .ok [] s t ∧ { t with bias := s.bias } = s
      ∧ (∀ k, k ∈ biasScope sc ix → (s.biasAt k).st = .safe → (t.biasAt k).st = .drive ∧ (t.biasAt k).t = 0
          ∧ (t.biasAt k).b = (if (s.biasAt k).record.safeHiz then 0 else (s.biasAt k).record.safeCode))
      ∧ (∀ k, k ∉ biasScope sc ix ∨ (s.biasAt k).st ≠ .safe → t.biasAt k = s.biasAt k))
  ∧ (Takes 0x0B06 s → b.st ≠ .safe → Answers (.biasRelease 0 out) 0x0B06 .busy [] s s)
  ∧ (∀ fl : Byte, Takes 0x0B07 s → fl.toNat ≤ 1 → ∃ t, Answers (.biasStatus out fl) 0x0B07 .ok
      ([b.st.code, b.cause, u8 b.rangeNow.toNat, boolByte b.slewing] ++ le16 b.b ++ le32 b.phi ++ b.record.bytes
        ++ le32 b.clip ++ le16 b.faults) s t
    ∧ t.biasAt n = (if fl = 1 then { b with clip := 0, faults := 0 } else b)
    ∧ (∀ k, k ≠ n → t.biasAt k = s.biasAt k) ∧ { t with bias := s.bias } = s)

/-- R296 to R298, R300 to R302: a tick of a group, the end of the interval at high impedance, and a fault. The model's
own readings in its clauses: log entries 19 and 62 (the return of VDD_BIAS, what a tick does). -/
def Obligations.BiasTicks : Prop := ∀ (s : State), Live s →
  (∀ (lane : BitVec 4) (tick : BitVec 2), s.sys.rsynLock = true → s.pd (80 + lane.toNat / 4) = true →
    ∃ t, Completes (.biasTick lane tick) s t ∧ (∀ k, k / 12 ≠ lane.toNat → t.biasAt k = s.biasAt k)
      ∧ { t with bias := s.bias, mbx := s.mbx } = s
      ∧ (∀ k, k / 12 = lane.toNat → (s.biasAt k).st = .hiz ∨ (s.biasAt k).st = .fault →
        (t.biasAt k).output = (s.biasAt k).output)
      ∧ (∀ k, k / 12 = lane.toNat → (s.biasAt k).starting = true → tick ≠ 0 → (t.biasAt k).output = (s.biasAt k).output
        ∧ (t.biasAt k).starting = true ∧ (t.biasAt k).t = (s.biasAt k).t ∧ (t.biasAt k).b = (s.biasAt k).b)
      ∧ (∀ k, k / 12 = lane.toNat → (s.biasAt k).st = .safe → (s.biasAt k).starting = false →
        (t.biasAt k).output = if (s.biasAt k).record.safeHiz then none
          else codeOutput (s.biasAt k).rangeNow (s.biasAt k).record.safeCode)
      ∧ (∀ k q r, k / 12 = lane.toNat → (s.biasAt k).st = .drive → (s.biasAt k).queue = q :: r →
        (s.biasAt k).starting = false → (s.biasAt k).record.slewEn = false → (s.biasAt k).damp = 0 →
        (s.biasAt k).dither = none → (t.biasAt k).output = codeOutput (s.biasAt k).rangeNow q ∧ (t.biasAt k).out = q
          ∧ (t.biasAt k).queue = r ∧ (t.biasAt k).last = q ∧ (t.biasAt k).t = (s.biasAt k).t + 1)
      ∧ (∀ k, k / 12 = lane.toNat → (s.biasAt k).st = .drive → (s.biasAt k).record.slewEn = true →
        (t.biasAt k).b.toNat ≤ (s.biasAt k).b.toNat + (s.biasAt k).record.slewStep.toNat
        ∧ (s.biasAt k).b.toNat ≤ (t.biasAt k).b.toNat + (s.biasAt k).record.slewStep.toNat)
      ∧ (∀ k, k / 12 = lane.toNat → (s.biasAt k).st = .range → (s.biasAt k).starting = false → (s.biasAt k).damp = 0 →
        (s.biasAt k).dither = none →
        ((s.biasAt k).rangeStep = .down → (s.biasAt k).b = 0 → (t.biasAt k).rangeStep = .hiz ∧ (t.biasAt k).output = none
          ∧ (t.biasAt k).rangeNow = (s.biasAt k).record.range ∧ (t.biasAt k).hizTicks = 0)
        ∧ ((s.biasAt k).rangeStep = .hiz → (t.biasAt k).hizTicks = (s.biasAt k).hizTicks + 1
          ∧ (t.biasAt k).t = (s.biasAt k).t + 1 ∧ (t.biasAt k).out = (s.biasAt k).out)
        ∧ ((s.biasAt k).rangeStep = .up → (s.biasAt k).b = (s.biasAt k).target → (t.biasAt k).st = .drive
          ∧ (t.biasAt k).last = (s.biasAt k).target ∧ (t.biasAt k).t = (s.biasAt k).t + 1
          ∧ (s.mbx.mode ≠ .down → s.mbx.evq.length ≤ 244 →
            ({ op := 0x8B02, bytes := [u8 k, u8 (t.biasAt k).record.range.toNat] } : Ev) ∈ t.mbx.evq))))
  ∧ (∀ (out : Byte) (n : Nat), out.toNat = n → n < 192 → (s.biasAt n).st = .range → (s.biasAt n).rangeStep = .hiz →
    8 ≤ (s.biasAt n).hizTicks → ∃ t, Completes (.rangeHizIntervalEnd out) s t ∧ (t.biasAt n).rangeStep = .up
      ∧ (t.biasAt n).b = 0 ∧ (t.biasAt n).rangeNow = (s.biasAt n).rangeNow
      ∧ (t.biasAt n).output = codeOutput (s.biasAt n).rangeNow 0
      ∧ (∀ k, k ≠ n → t.biasAt k = s.biasAt k) ∧ { t with bias := s.bias } = s)
  ∧ (∀ (out c : Byte) (n : Nat), out.toNat = n → n < 192 → s.coreOn (n / 48) = true →
    ((s.biasAt n).monitored = true ∨ (s.biasAt n).left = true) → (c = 1 ∧ (s.biasAt n).rangeNow = 0 ∨ c = 2 ∧ (s.biasAt n).rangeNow ≠ 0) →
    ∃ t, Completes (.biasFaultDetect out c) s t ∧ (t.biasAt n).st = .fault ∧ (t.biasAt n).cause = c
      ∧ (t.biasAt n).faults = satAdd (s.biasAt n).faults 1 ∧ (t.biasAt n).output = none
      ∧ ((s.loopAt n).words.length = 32 → (t.loopAt n).st = 5) ∧ (∀ k, k ≠ n → t.biasAt k = s.biasAt k)
      ∧ (s.mbx.mode ≠ .down → s.mbx.evq.length ≤ 250 → ({ op := 0x8B01, bytes := [u8 n, c - 1] } : Ev) ∈ t.mbx.evq)
      ∧ { t with bias := s.bias, loop := s.loop, core := s.core, mbx := s.mbx } = s)
  ∧ (∀ out : Byte, ∃ t, Completes (.biasFaultDetect out 3) s t ∧ t.biasLow = true
    ∧ (∀ k, k < 192 → (s.biasAt k).monitored = true → (t.biasAt k).st = .fault ∧ (t.biasAt k).cause = 3 ∧ (t.biasAt k).output = none)
    ∧ (∀ k, (s.biasAt k).monitored = false → (s.biasAt k).left = false → t.biasAt k = s.biasAt k)
    ∧ { t with bias := s.bias, biasLow := s.biasLow, loop := s.loop, core := s.core, mbx := s.mbx } = s)
  ∧ (∀ out : Byte, ∃ t, Completes (.biasFaultDetect out 0) s t ∧ t = { s with biasLow := false })

/-- R307 to R321: the commands of the monitor inputs, a conversion, a sample, settling and the end of a cross-fade. The
model's own readings in its clauses: log entries 64 and 153 (requests, and those behind a new cross-fade). -/
def Obligations.Monitors : Prop := ∀ (s : State),
  (∀ (m : Byte) (k : W64) (w : Byte) (compat : Bool), Takes 0x0C01 s → m.toNat < 4 → (w = 1 ∨ w = 2 ∨ w = 4 ∨ w = 8) →
    maskSize k * w.toNat ≤ 128 → (∀ i, i / 64 = m.toNat → (s.monAt i).record.rateOk w.toNat = true) →
    ∃ t, Answers (.monScanConfig m k w (if compat then 1 else 0)) 0x0C01 .ok [] s t
      ∧ t.madcAt m.toNat = { s.madcAt m.toNat with pending := some (k, w, compat) } ∧ { t with madc := s.madc } = s)
  ∧ (∀ (m w : Byte) (k : W64), Takes 0x0C01 s → 128 < maskSize k * w.toNat →
    Answers (.monScanConfig m k w 0) 0x0C01 .range [] s s)
  ∧ (∀ m e : Byte, Takes 0x0C02 s → m.toNat < 4 → e.toNat ≤ 1 → ∃ t, Answers (.monRefbuf m e) 0x0C02 .ok [] s t
    ∧ t.madcAt m.toNat = { s.madcAt m.toNat with pendRef := some (e == 1) }
    ∧ (∀ k, k ≠ m.toNat → t.madcAt k = s.madcAt k) ∧ { t with madc := s.madc } = s)
  ∧ (∀ (i : Byte) (r : Bytes), Takes 0x0C03 s → r.length = 16 → filtOk (s.madcAt (i.toNat / 64)).windowsAhead r = true →
    ∃ t, Answers (.monFilterSet i r) 0x0C03 .ok [] s t
      ∧ (t.monAt i.toNat).record = FiltRec.ofBytes r ∧ (t.monAt i.toNat).cur = (s.monAt i.toNat).cur
      ∧ ((s.monAt i.toNat).new = none → (t.monAt i.toNat).start = (s.monAt i.toNat).start ++ [.set (FiltRec.ofBytes r)]
        ∧ (t.monAt i.toNat).pending = (s.monAt i.toNat).pending ∧ (t.monAt i.toNat).replaced = (s.monAt i.toNat).replaced)
      ∧ ((s.monAt i.toNat).new.isSome = true → (t.monAt i.toNat).start = (s.monAt i.toNat).start
        ∧ (t.monAt i.toNat).pending = some (.set (FiltRec.ofBytes r)) ∧ (t.monAt i.toNat).replaced
          = if (s.monAt i.toNat).pending.isSome then (s.monAt i.toNat).replaced + 1 else (s.monAt i.toNat).replaced)
      ∧ (∀ k, k ≠ i.toNat → t.monAt k = s.monAt k) ∧ { t with mon := s.mon } = s)
  ∧ (∀ i : Byte, Takes 0x0C03 s → Answers (.monFilterSet i ([0, 1, 1, 0, 1, 0, 28, 0, 64, 0] ++ List.replicate 6 0)) 0x0C03 .range [] s s)
  ∧ (∀ i : Byte, Takes 0x0C04 s → Answers (.monFilterGet i) 0x0C04 .ok (s.monAt i.toNat).record.bytes s s)
  ∧ (∀ i : Byte, Takes 0x0C05 s → (s.monAt i.toNat).new = none → ∃ t, Answers (.monFilterSync i) 0x0C05 .ok [] s t
    ∧ t.monAt i.toNat = { s.monAt i.toNat with start := (s.monAt i.toNat).start ++ [.sync] }
    ∧ (∀ k, k ≠ i.toNat → t.monAt k = s.monAt k) ∧ { t with mon := s.mon } = s)
  ∧ (∀ i : Byte, Takes 0x0C05 s → (s.monAt i.toNat).new.isSome = true → (s.monAt i.toNat).pending.isSome = true →
    ∃ t, Answers (.monFilterSync i) 0x0C05 .ok [] s t ∧ (t.monAt i.toNat).pending = some .sync
      ∧ (t.monAt i.toNat).replaced = (s.monAt i.toNat).replaced + 1 ∧ (t.monAt i.toNat).new = (s.monAt i.toNat).new
      ∧ { t with mon := s.mon } = s)
  ∧ (∀ f c : Byte, Takes 0x0C06 s → 1 ≤ c.toNat → c.toNat ≤ 60 → f.toNat + c.toNat ≤ 256 → Answers (.monRead f c 0) 0x0C06 .ok
    ((List.range c.toNat).flatMap (fun k => le32 (s.monWord (f.toNat + k)))) s s)
  ∧ (∀ (f c : Byte) (buf : W32), Takes 0x0C06 s → 1 ≤ c.toNat → c.toNat ≤ 64 → f.toNat + c.toNat ≤ 256 → buf ≠ 0 →
    bufOk buf (4 * c.toNat) = true → ∃ t, Answers (.monRead f c buf) 0x0C06 .ok [] s t
      ∧ t.sramRead (winToSram buf.toNat) (4 * c.toNat)
        = (List.range c.toNat).flatMap (fun k => le32 (s.monWord (f.toNat + k)))
      ∧ { t with sram := s.sram, sramBad := s.sramBad, sramSoft := s.sramSoft } = s
      ∧ SramOnly (winToSram buf.toNat) (4 * c.toNat) s t)
  ∧ (∀ i : Byte, Takes 0x0C07 s → ∃ p, Answers (.monStatus i 0) 0x0C07 .ok p s s ∧ p.length = 12
    ∧ p.take 4 = le32 (s.monAt i.toNat).replaced ∧ p.drop 8 = le32 (s.madcAt (i.toNat / 64)).early)
  ∧ (∀ i : Byte, Takes 0x0C07 s → ∃ p t, Answers (.monStatus i 1) 0x0C07 .ok p s t ∧ p.length = 12
    ∧ (t.monAt i.toNat).replaced = 0 ∧ (t.madcAt (i.toNat / 64)).early = 0 ∧ { t with mon := s.mon, madc := s.madc } = s)
  ∧ (∀ (i : Byte) (c : BitVec 14), Live s → s.pwr.cur = 1 → s.madcOn (i.toNat / 64) = true →
    (s.madcAt (i.toNat / 64)).next = some (i.toNat % 64) → (s.madcAt (i.toNat / 64)).compat = false →
    ∃ t, Completes (.madcConversion i c true) s t ∧ (t.monAt i.toNat).cur = (s.monAt i.toNat).cur.feed c.toNat
      ∧ (t.monAt i.toNat).fout = (s.monAt i.toNat).fout ∧ (∀ k, k ≠ i.toNat → t.monAt k = s.monAt k)
      ∧ t.madcAt (i.toNat / 64) = { s.madcAt (i.toNat / 64) with conv := (s.madcAt (i.toNat / 64)).conv + 1 }
      ∧ { t with mon := s.mon, loop := s.loop, madc := s.madc } = s)
  ∧ (∀ (i : Byte) (c : BitVec 14), Live s → (s.madcAt (i.toNat / 64)).next ≠ some (i.toNat % 64) →
    Completes (.madcConversion i c true) s s)
  ∧ (∀ (i : Byte) (c : BitVec 14), Live s → s.pwr.cur = 1 → s.madcOn (i.toNat / 64) = true →
    (s.madcAt (i.toNat / 64)).next = some (i.toNat % 64) → (s.madcAt (i.toNat / 64)).compat = true →
    (s.madcAt (i.toNat / 64)).refbuf = false → (s.madcAt (i.toNat / 64)).earlyRaised = false → TakesEvents s →
    ∃ t, Completes (.madcConversion i c true) s t ∧ Queued 0x8C02 [u8 (i.toNat / 64)] t
      ∧ (t.madcAt (i.toNat / 64)).early = (s.madcAt (i.toNat / 64)).early + 1)
  ∧ (∀ (i : Byte) (v : Int), Live s → (s.monAt i.toNat).new = none → (s.monAt i.toNat).cur.due = some v →
    (s.monAt i.toNat).cur.record.entry = 0 → (s.monAt i.toNat).valid = true → (s.monAt i.toNat).loadDue = false →
    (s.monAt i.toNat).weighs = false →
    ∃ t, Completes (.filterOutputSample i false) s t ∧ (t.monAt i.toNat).fout = foutSat v
      ∧ (t.monAt i.toNat).cur.due = none ∧ (∀ k, k ≠ i.toNat → t.monAt k = s.monAt k) ∧ { t with mon := s.mon } = s)
  ∧ (∀ i : Byte, Live s → s.madcOn (i.toNat / 64) = true → bitOf (s.madcAt (i.toNat / 64)).mask (i.toNat % 64) = true →
    (s.monAt i.toNat).syncDue = false → (s.monAt i.toNat).loadDue = false → (s.monAt i.toNat).valid = false →
    (s.monAt i.toNat).weighs = false → (s.monAt i.toNat).cur.need ≤ (s.monAt i.toNat).cur.outs →
    (s.monAt i.toNat).waiting = 1 →
    TakesEvents s → ∃ t, Completes (.filterSettled i) s t ∧ (t.monAt i.toNat).valid = true
      ∧ (t.monAt i.toNat).fout = (s.monAt i.toNat).cur.latest ∧ (t.monAt i.toNat).waiting = 0
      ∧ Queued 0x8C01 ([i] ++ (s.monAt i.toNat).cur.record.bytes) t)
  ∧ (∀ (i : Byte) (c : Chain), Live s → s.madcOn (i.toNat / 64) = true → bitOf (s.madcAt (i.toNat / 64)).mask (i.toNat % 64) = true →
    (s.monAt i.toNat).syncDue = false → (s.monAt i.toNat).valid = true → (s.monAt i.toNat).weighs = false →
    (s.monAt i.toNat).new = some c → c.need ≤ c.outs →
    ∃ t, Completes (.filterSettled i) s t ∧ t.monAt i.toNat = { s.monAt i.toNat with weighs := true, fadeJ := 0 }
      ∧ (∀ k, k ≠ i.toNat → t.monAt k = s.monAt k) ∧ { t with mon := s.mon } = s)
  ∧ (∀ (i : Byte) (c : Chain), Live s → (s.monAt i.toNat).new = some c → (s.monAt i.toNat).weighs = true →
    c.record.fade.toNat ≤ (s.monAt i.toNat).fadeJ → (s.monAt i.toNat).waiting = 0 → TakesEvents s →
    ∃ t, Completes (.crossFadeEnd i) s t ∧ (t.monAt i.toNat).cur = c ∧ (t.monAt i.toNat).new = none
      ∧ (t.monAt i.toNat).valid = true ∧ (t.monAt i.toNat).fout = c.latest ∧ (t.monAt i.toNat).pending = none
      ∧ (t.monAt i.toNat).start = (s.monAt i.toNat).start ++ (s.monAt i.toNat).pending.toList
      ∧ Queued 0x8C01 ([i] ++ c.record.bytes) t)

/-- R323 to R335: the commands and events of calibration. The model's own readings in its clauses: log entries 21 (the
boundary of a strobe), 67 (status fields), 154 and 155 (figures not held, a made strobe at a sleep). -/
def Obligations.Calibration : Prop := ∀ (s : State),
  (∀ (k m rg : Byte) (set : Bytes), Takes 0x0D01 s → s.stopped 1 = false → set.length = 24 → k.toNat ≤ 2 → m.toNat ≤ 1 →
    (m = 1 → k = 0) → (k ≠ 2 → ofLe set < 65536) → (k = 2 → rg.toNat ≤ 7) → s.calRun k.toNat = none →
    ∃ t, Answers (.calRun k m 0 set rg) 0x0D01 .ok [] s t ∧ { t with cal := s.cal, mbx := s.mbx } = s
      ∧ t.cal.trims = s.cal.trims ∧ t.cal.pending = s.cal.pending
      ∧ (∀ p r, calParts k.toNat (BitVec.ofNat 192 (ofLe set)) (BitVec.ofNat 3 rg.toNat) = p :: r →
          s.partOk k.toNat (m == 1) p = true → (t.calRun k.toNat).map (fun c => (c.parts, c.background)) = some (p :: r, m == 1)))
  ∧ (∀ lanes : Byte, Takes 0x0D01 s → s.stopped 1 = false → s.calRun 0 = none → lanes = 1 → s.partOk 0 true 0 = false → TakesEvents s →
    ∃ t, Answers (.calRun 0 1 0 ([lanes] ++ List.replicate 23 0) 0) 0x0D01 .ok [] s t ∧ t.calRun 0 = none
      ∧ Queued 0x8D01 ([0, 0] ++ 3 :: List.replicate 47 0) t)
  ∧ (Takes 0x0D01 s → s.stopped 1 = false → s.calRun 2 ≠ none → TakesEvents s →
    Answers (.calRun 2 0 0 (List.replicate 24 0) 0) 0x0D01 .busy [] s s
    ∧ ∃ t, Answers (.calRun 2 0 1 (List.replicate 24 0) 0) 0x0D01 .ok [] s t ∧ t.calRun 2 = none
      ∧ t.cal.pending = s.cal.pending ∧ { t with cal := s.cal, mbx := s.mbx } = s)
  ∧ (∀ k f : Byte, Takes 0x0D02 s → s.stopped 1 = false → 1 ≤ k.toNat → k.toNat ≤ 7 → f.toNat ≤ 1 →
    (s.cal.strobe = none → s.anyWarm = false → s.sys.rsynLock = true →
      ∃ t, Answers (.calApply k f) 0x0D02 .ok [u8 ((s.faceAt 0).mf + 3)] s t
        ∧ t.cal.strobe = some
            { at_ := (s.faceAt 0).mf + 3, since := (s.faceAt 0).mf, kinds := BitVec.ofNat 3 k.toNat, force := bitOf f 0 }
        ∧ { t.cal with strobe := s.cal.strobe } = s.cal ∧ { t with cal := s.cal } = s)
    ∧ (s.cal.strobe = none → s.anyWarm = true → s.sys.rsynLock = true → ∃ t, { t with cal := s.cal, free := s.free } = s
      ∧ (Answers (.calApply k f) 0x0D02 .busy [] s t ∧ t.cal = s.cal
        ∨ ∃ n, n < 227 ∧ Answers (.calApply k f) 0x0D02 .ok [u8 ((s.faceAt 0).mf + 3 + n)] s t
          ∧ t.cal.strobe = some
            { at_ := (s.faceAt 0).mf + 3 + n, since := (s.faceAt 0).mf, kinds := BitVec.ofNat 3 k.toNat, force := bitOf f 0 }))
    ∧ ((s.cal.strobe.isSome = true ∨ s.sys.rsynLock = false) → Answers (.calApply k f) 0x0D02 .busy [] s s))
  ∧ (Takes 0x0D02 s → s.stopped 1 = true → Answers (.calApply 7 0) 0x0D02 .notReady [] s s
    ∧ (tierAdmits 0x0D05 s = true → Answers .calLoad 0x0D05 .notReady [] s s))
  ∧ (∀ k : Byte, Takes 0x0D03 s → 1 ≤ k.toNat → k.toNat ≤ 7 → s.cal.strobe = none →
    ∃ t, Answers (.calDiscard k) 0x0D03 .ok [] s t ∧ t.cal.trims = s.cal.trims ∧ { t with cal := s.cal } = s
      ∧ (∀ i, bitOf k (trimKind i) = true → Tab.get none t.cal.pending i = none)
      ∧ (∀ i, bitOf k (trimKind i) = false → Tab.get none t.cal.pending i = Tab.get none s.cal.pending i))
  ∧ (∀ y, Takes 0x0D03 s → s.cal.strobe = some y → y.committed = true → y.made = false → bitOf y.kinds 0 = true →
    Answers (.calDiscard 1) 0x0D03 .tooLate [] s s)
  ∧ (∀ a : W32, Takes 0x0D04 s → bufOk a 512 = true → ∃ p t, Answers (.calStatusCalibration a) 0x0D04 .ok p s t ∧ p.length = 6
    ∧ p.head? = some (boolByte (imageCheck s.nvmImage == none)) ∧ byteAt p 4 = boolByte s.cal.exported
    ∧ t.sramRead (winToSram a.toNat) 512 = (List.range 16).flatMap s.cal.qual.bytes ++ (List.range 16).flatMap s.cal.qualP.bytes
    ∧ { t with sram := s.sram, sramBad := s.sramBad, sramSoft := s.sramSoft } = s)
  ∧ (Takes 0x0D05 s → s.stopped 1 = false → imageCheck s.nvmImage ≠ none → Answers .calLoad 0x0D05 .image [] s s)
  ∧ (Takes 0x0D05 s → s.stopped 1 = false → imageCheck s.nvmImage = none → ∃ t, Answers .calLoad 0x0D05 .ok [] s t ∧ t.cal.trims = s.cal.trims
    ∧ t.cal.nvm = s.cal.nvm ∧ (∀ i, i < trimCount →
      (Tab.get none t.cal.pending i).map (·.value) = some (trimOf s.nvmImage i)))
  ∧ (∀ (c : W16) (i : W32) (f : Byte) (l : Bytes), Takes 0x0D06 s → s.stopped 1 = false → l.length = 32 → f.toNat ≤ 1 →
    (∀ st, s.storeCheck c i (bitOf f 0) = some st → Answers (.calStore c i f l) 0x0D06 st [] s s)
    ∧ (s.storeCheck c i (bitOf f 0) = none → ∃ t, Answers (.calStore c i f l) 0x0D06 .ok [] s t
      ∧ t.cal.store = some (s.userImage l, false) ∧ imageCheck t.nvmImage ≠ none ∧ t.cal.trims = s.cal.trims
      ∧ { t with cal := s.cal } = s))
  ∧ (∀ (c : W16) (i a : W32), Takes 0x0D07 s → s.stopped 1 = false → bufOk a 0x2000 = true → s.sramBad = [] → s.sramSoft = [] →
    s.storeCheck c i false = none → imageCheck (s.sramRead (winToSram a.toNat) 0x2000) ≠ none →
    Answers (.calImageWrite c i 0 a) 0x0D07 .image [] s s)
  ∧ (∀ (c : W16) (i a : W32), Takes 0x0D07 s → s.stopped 1 = false → bufOk a 0x2000 = true → s.sramBad = [] → s.sramSoft = [] →
    s.storeCheck c i false = none → imageCheck (s.sramRead (winToSram a.toNat) 0x2000) = none →
    s.sramByte (winToSram a.toNat + 4) = 1 → ∃ t, Answers (.calImageWrite c i 0 a) 0x0D07 .ok [] s t
      ∧ (t.cal.store.map (·.2)) = some true ∧ { t with cal := s.cal } = s)
  ∧ (∀ (d : Byte) (a : W32), Takes 0x0D08 s → d.toNat < 16 → bufOk a 0x2000 = true → (s.chanAt d.toNat).free = true →
    ∃ t, Completes (.calImageExport d a) s t ∧ (t.chanAt d.toNat).st = .cmd
      ∧ (t.chanAt d.toNat).xfer = some ⟨.image, a.toNat, 0x2000⟩
      ∧ t.mbx = { s.mbx with exec := some { op := 0x0D08, ch := d.toNat, payload := [] } }
      ∧ { t with dma := s.dma, mbx := s.mbx } = s)
  ∧ (∀ (c : BitVec 4) (a : Nat) (e : Exec), Live s → s.dmaAwake = true → (s.chanAt c.toNat).st = .cmd →
    (s.chanAt c.toNat).xfer = some ⟨.image, a, 0x2000⟩ → s.mbx.exec = some e → e.ch = c.toNat →
    ∃ t, Completes (.dmaCommandTransferDone c) s t ∧ t.cal = { s.cal with exported := true })
  ∧ (∀ (r : CalRun) (p : Nat) (x : CalPart), Live s → s.calRun 0 = some r → r.parts = [p] → p < 16 → r.background = true →
    s.partOk 0 true p = true → TakesEvents s → ∃ t, Completes (.calRunPartEnd 0 x) s t ∧ t.calRun 0 = none
      ∧ t.cal.trims = s.cal.trims ∧ (∃ res, Queued 0x8D01 ([0, 0] ++ res) t)
      ∧ { t with cal := s.cal, mbx := s.mbx } = s)
  ∧ (∀ y, Live s → s.cal.strobe = some y → y.committed = false → y.at_ ≤ (s.faceAt 0).mf + 1 →
    ∃ t, Completes .calStrobeCommit s t ∧ { t with cal := s.cal, free := s.free } = s ∧ t.cal.trims = s.cal.trims
      ∧ (s.anyWarm = false → t.cal.frozen = true ∧ t.cal.strobe = some { y with committed := true, uncorr := [] })
      ∧ (s.anyWarm = true → t.cal.frozen = s.cal.frozen ∧ t.cal.pending = s.cal.pending
        ∧ (y.at_ < y.since + 228 → t.cal.strobe = some { y with at_ := y.at_ + 1 })
        ∧ (y.at_ = y.since + 228 → t.cal.strobe = none ∨ t.cal.strobe = some { y with at_ := y.at_ + 1 })
        ∧ (y.since + 228 < y.at_ → t.cal.strobe = none)))
  ∧ (∀ y, Live s → s.cal.strobe = some y → y.committed = true → y.made = false → y.at_ ≤ (s.faceAt 0).mf →
    ∃ t, Completes .calApplyStrobe s t ∧ { t with cal := s.cal } = s ∧ t.cal.nvm = s.cal.nvm ∧ t.cal.frozen = s.cal.frozen
      ∧ (∀ i, (∀ p, (i, some p) ∈ s.cal.pending → bitOf y.kinds (trimKind i) = false ∨ s.applies y.force i p = false) →
        Tab.get 0 t.cal.trims i = Tab.get 0 s.cal.trims i))
  ∧ (∀ y, Live s → s.cal.strobe = some y → y.made = true → y.at_ + 4 ≤ (s.faceAt 0).mf →
    (∀ l, l < 16 → (s.rxAt l).st = .off) → TakesEvents s →
    ∃ t, Completes .calStrobeFreezeEnd s t ∧ t.cal = { s.cal with strobe := none, frozen := false }
      ∧ Queued 0x8D02 ([u8 y.at_, u8 y.applied.toNat, u8 y.heldBack.toNat] ++ List.replicate 64 0) t
      ∧ { t with cal := s.cal, mbx := s.mbx } = s)
  ∧ (∀ img, Live s → s.cal.store = some (img, false) → TakesEvents s → ∃ t, Completes .nvmStoreComplete s t
    ∧ t.cal.store = none ∧ t.nvmImage = slice img 0 0x2000 ∧ Queued 0x8D03 (le16 (w16At img 6)) t
    ∧ { t with cal := s.cal, mbx := s.mbx } = s)

/-- R340, R341, R344 to R347, R357, R363: planned sleeps, lane park, status and the watch parameters. The model's own
readings in its clauses: log entries 73 (answers of a handshake), 81 and 148 (parks, and the way of a transmitter to
HIZ). -/
def Obligations.PlannedSleeps : Prop := ∀ (s : State),
  (∀ g : Byte, Takes 0x0E01 s → (g = 0 ∨ g = 4) → s.pwr.cur = 1 → s.parkRuns = false → ∃ t, Answers (.pwrEnter g) 0x0E01 .ok [] s t
    ∧ t.pwr.cur = 2 ∧ t.pwr.prev = 1 ∧ t.pwr.target = g.setWidth 4 ∧ t.pwr.step = 1 ∧ t.pwr.domBefore = s.pwr.domains
    ∧ t.pwr.refusal = {} ∧ { t with pwr := s.pwr, bias := s.bias } = s)
  ∧ (Takes 0x0E01 s → (s.pwr.cur = 2 ∨ s.parkRuns = true) → Answers (.pwrEnter 4) 0x0E01 .busy [] s s)
  ∧ (Live s → s.asked = true → s.anyRefuses s.pwr.step.toNat = false → s.pwr.step = 2 →
    ∃ t, Completes (.handshakeStepAnswer true 0) s t ∧ t.pwr.step = 3 ∧ { t with pwr := s.pwr } = s)
  ∧ (Live s → s.asked = true → s.anyRefuses 8 = false → s.pwr.step = 8 →
    ∃ t, Completes (.handshakeStepAnswer true 0) s t ∧ t.pwr.step = 0 ∧ { t with pwr := s.pwr } = s)
  ∧ (∀ b : Byte, Live s → s.asked = true → s.refuses s.pwr.step.toNat b = true →
    ∃ t, Completes (.handshakeStepAnswer false b) s t ∧ t.pwr.restarting = true
      ∧ t.pwr.refusal = { step := s.pwr.step.setWidth 8, cause := 0, block := b } ∧ { t with pwr := s.pwr } = s)
  ∧ (∀ b : Byte, Live s → s.asked = true → ∃ t, Completes (.handshakeTimeout b) s t ∧ t.pwr.restarting = true
      ∧ t.pwr.refusal = { step := s.pwr.step.setWidth 8, cause := 1, block := b } ∧ { t with pwr := s.pwr } = s)
  ∧ (Live s → s.pwr.cur = 2 → s.pwr.target ≠ 3 → s.pwr.restarting = true → s.pwr.step.toNat ≤ 4 → TakesEvents s →
    ∃ t, Completes .handshakeRestartDone s t ∧ t.pwr.cur = 1 ∧ t.pwr.step = 0 ∧ t.pwr.restarting = false
      ∧ Queued 0x8E02 [s.pwr.refusal.step, s.pwr.refusal.cause, s.pwr.refusal.block] t
      ∧ { t with pwr := s.pwr, mbx := s.mbx } = s)
  ∧ (Live s → s.pwr.cur = 2 → s.pwr.target = 4 → s.pwr.step = 0 → s.pwr.restarting = false →
    (∀ l, l < 16 → (s.txAt l).st.steps = false) →
    ∃ t, Completes .sleepEntered s t ∧ t.pwr.cur = 4 ∧ t.pwr.prev = 2 ∧ t.pwr.domains = onlyAlwaysOn ∧ t.pwr.ticks = 0
      ∧ t.pwr.entryTime = s.pwr.time ∧ t.sys.rsynLock = false ∧ t.bank = s.bank ∧ t.calMem = s.calMem ∧ t.cliMem = s.cliMem)
  ∧ (Live s → s.pwr.cur = 2 → s.pwr.target = 0 → s.pwr.step = 0 → s.pwr.restarting = false →
    (∀ l, l < 16 → (s.txAt l).st.steps = false) →
    ∃ t, Completes .sleepEntered s t ∧ t.pwr.cur = 0 ∧ t.pwr.domains = onlyAlwaysOn ∧ t.mbx.mode = .down ∧ t.bank = {}
      ∧ t.pwr.holdEn = true ∧ t.pwr.wakeRec = s.pwr.wakeRec)
  ∧ (∀ lane fl : Byte, Takes 0x0E03 s → lane.toNat < 16 → fl.toNat ≤ 1 → s.pwr.cur = 1 → s.parkRuns = false →
    (s.rxAt lane.toNat).st ≠ .parked →
    (s.icLane (faceOf lane.toNat) ≠ lane.toNat ∨ (fl = 1 ∧ s.onAir (faceOf lane.toNat) = false)) → s.laneBusy lane.toNat = false →
    ∃ t, Answers (.pwrLanePark lane fl) 0x0E03 .ok [] s t ∧ (t.rxAt lane.toNat).st = .parked ∧ t.pwr.refusal = {}
      ∧ ((s.txAt lane.toNat).st.steps = true → (t.txAt lane.toNat).parking = true
        ∧ (t.txAt lane.toNat).st = (s.txAt lane.toNat).st ∧ t.pwr.domains = s.pwr.domains)
      ∧ ((s.txAt lane.toNat).st = .icingOnly → (t.txAt lane.toNat).parking = true ∧ (t.txAt lane.toNat).st = .quiet)
      ∧ ((s.txAt lane.toNat).st.steps = false → (s.txAt lane.toNat).st ≠ .icingOnly → (t.txAt lane.toNat).st = .hiz
        ∧ ∀ k ∈ laneDomains lane.toNat, t.pd k = false))
  ∧ (∀ lane : Byte, Takes 0x0E03 s → lane.toNat < 16 → s.pwr.cur = 1 → s.parkRuns = false →
    (s.rxAt lane.toNat).st ≠ .parked → s.icLane (faceOf lane.toNat) = lane.toNat →
    ∃ t, Answers (.pwrLanePark lane 0) 0x0E03 .busy [2, 0, u8 (faceOf lane.toNat)] s t
      ∧ t.pwr.refusal = { step := 2, cause := 0, block := u8 (faceOf lane.toNat) } ∧ { t with pwr := s.pwr } = s)
  ∧ (∀ lane : Byte, Takes 0x0E03 s → lane.toNat < 16 → s.pwr.cur = 1 → s.parkRuns = false → (s.rxAt lane.toNat).st = .parked →
    Answers (.pwrLanePark lane 0) 0x0E03 .ok [] s s
    ∧ ∃ t, Answers (.pwrLaneUnpark lane) 0x0E03 .ok [] s t ∧ (∀ k ∈ laneDomains lane.toNat, t.pd k = true)
      ∧ (t.rxAt lane.toNat).st ≠ .parked)
  ∧ (∀ lane : Byte, Takes 0x0E03 s → lane.toNat < 16 → s.pwr.cur = 1 → s.parkRuns = false → (s.rxAt lane.toNat).st ≠ .parked →
    Answers (.pwrLaneUnpark lane) 0x0E03 .ok [] s s)
  ∧ (∀ lane : Byte, Takes 0x0E03 s → lane.toNat < 16 → (s.pwr.cur ≠ 1 ∨ s.parkRuns = true) →
    Answers (.pwrLanePark lane 0) 0x0E03 .busy [] s s ∧ Answers (.pwrLaneUnpark lane) 0x0E03 .busy [] s s)
  ∧ (Takes 0x0E04 s → ∃ p, Answers .pwrStatus 0x0E04 .ok p s s ∧ p.length = 59
    ∧ p.drop 56 = [s.pwr.refusal.step, s.pwr.refusal.cause, s.pwr.refusal.block])
  ∧ (Takes 0x0E05 s → ∃ t, Answers (.pwrWakeRecord 1) 0x0E05 .ok s.pwr.wakeRec.bytes s t
    ∧ t.pwr.wakeRec = { s.pwr.wakeRec with valid := false } ∧ { t with pwr := s.pwr } = s)
  ∧ (∀ n : W16, Takes 0x0E02 s → 1 ≤ n.toNat → n.toNat ≤ 10000 →
    ∃ t, Answers (.pwrWatchConfig n 0x09 0xFF 5 (List.replicate 112 0)) 0x0E02 .ok [] s t ∧ t.pwr.watch.interval = n
      ∧ t.pwr.watch.streamRet = true ∧ t.pwr.watch.resume = true ∧ t.pwr.watch.faces = [] ∧ t.pwr.watch.enabled = []
      ∧ t.pwr.watch.wakeAfter = 5 ∧ { t with pwr := s.pwr } = s)
  ∧ (∀ n : W16, Takes 0x0E02 s → 10000 < n.toNat →
    Answers (.pwrWatchConfig n 0 0xFF 0 (List.replicate 112 0)) 0x0E02 .range [] s s)

/-- R339, R341, R343, R348, R349, R351, R352, R354, R358 to R360, R363, R364: Hold, wakes and the watch. The model's
own readings in its clauses: log entries 74 (H0 in one step) and 75 (details of the watch). -/
def Obligations.HoldAndWake : Prop := ∀ (s : State), Live s →
  (s.pwr.cur = 1 → s.pwr.holdEn = true → s.pwr.holdLow = false →
    ∃ t, Completes .holdNFall s t ∧ t.pwr.cur = 2 ∧ t.pwr.target = 3 ∧ t.pwr.holdLow = true ∧ t.pwr.domains = s.pwr.domains
      ∧ t.cal.store = none ∧ t.cal.pending = []
      ∧ (∀ y, s.cal.strobe = some y → t.cal.strobe = if y.made then some y else none) ∧ (∀ n, (t.biasAt n).st ≠ .drive))
  ∧ (s.pwr.cur = 1 → s.pwr.holdEn = false → ∃ t, Completes .holdNFall s t ∧ { t with pwr := s.pwr } = s ∧ t.pwr.cur = 1
    ∧ t.pwr.holdLow = true)
  ∧ (s.pwr.cur = 1 → s.pwr.holdEn = false → s.pwr.holdLow = true →
    ∃ t, Completes (.pwrCtrlHoldEn true) s t ∧ t.pwr.holdEn = true ∧ t.pwr.cur = 2 ∧ t.pwr.target = 3)
  ∧ (s.pwr.cur = 2 → s.pwr.target = 3 → s.pwr.roseInShed = false →
    ∃ t, Completes .holdReached s t ∧ t.pwr.cur = 3 ∧ t.pwr.domains = onlyAlwaysOn ∧ t.pwr.entryTime = s.pwr.time
      ∧ t.bank = s.bank ∧ t.calMem = s.calMem ∧ t.cliMem = s.cliMem)
  ∧ (s.pwr.cur = 2 → s.pwr.target = 3 → s.pwr.holdLow = true → s.pwr.bringUpWaits = false → ∃ t, Completes .holdNRise s t ∧ t.pwr.cur = 2
    ∧ t.pwr.roseInShed = true ∧ { t with pwr := s.pwr } = s)
  ∧ (s.pwr.cur = 3 → s.pwr.holdLow = true → s.pwr.bringUpWaits = false → s.sys.fwEver = true →
    ∃ t, Completes .holdNRise s t ∧ t.pwr.cur = 5 ∧ t.pwr.target = 3 ∧ t.pwr.wakeRec.valid = true ∧ t.pwr.wakeRec.source = 1
      ∧ t.pwr.wakeRec.origin = 1 ∧ t.pwr.wakeRec.cycles = 0 ∧ t.pwr.wakeRec.wakeTime = s.pwr.time
      ∧ t.pwr.wakeRec.entryTime = s.pwr.entryTime ∧ t.pwr.resuming = s.pwr.holdResume ∧ t.sys.fio = true
      ∧ { t with pwr := s.pwr, sys := s.sys } = s)
  ∧ (∀ fast, s.pwr.cur = 5 → s.sys.rsynLock = false → ∃ t, Completes (.wakeRsynLocked fast) s t ∧ t.sys.rsynLock = true
    ∧ t.pwr.wakeRec.slowClk = !fast ∧ { t with pwr := s.pwr, sys := s.sys } = s)
  ∧ (s.pwr.cur = 5 → s.sys.rsynLock = true → s.sys.fwRun = true → s.pwr.retLost = false →
    ∃ t, Completes .wakeDomainsUp s t ∧ t.pwr.cur = 1 ∧ t.pwr.prev = 5 ∧ t.pwr.domains = s.pwr.domBefore
      ∧ (s.pwr.resuming = false → t.bias = s.bias))
  ∧ ((s.pwr.cur = 3 ∨ s.pwr.cur = 4) → s.pwr.tick = false → ∃ t, Completes .vddCoreRetentionLoss s t ∧ t.pwr.retLost = true
    ∧ { t with pwr := s.pwr } = s)
  ∧ (s.pwr.cur = 4 → s.pwr.holdLow = false → s.pwr.retLost = false → s.pwr.tick = false → s.pwr.watch.enabled = [] →
    s.pwr.watch.faces = [] → s.pwr.timerDue = false → s.pwr.watch.wakeAfter = 0 →
    ∃ t, Completes (.toffeeWatchTick []) s t ∧ t.pwr.ticks = s.pwr.ticks + 1 ∧ t.pwr.cur = 4 ∧ t.pwr.tick = false
      ∧ t.sys.rsynLock = false)
  ∧ (∀ c : BitVec 4, s.ticking = true → s.pwr.tripped = some c.toNat → s.sys.fwEver = true →
    ∃ t, Completes (.watchCompareTrip c) s t ∧ t.pwr.cur = 5 ∧ t.pwr.wakeRec.source = 3 ∧ t.pwr.wakeRec.compare = c
      ∧ t.pwr.wakeRec.origin = 2 ∧ t.pwr.wakeRec.cycles = s.pwr.ticks ∧ { t with pwr := s.pwr, sys := s.sys } = s)
  ∧ (s.ticking = true → s.pwr.tripped = none → s.pwr.timerDue = true → s.sys.fwEver = true →
    ∃ t, Completes .watchWakeAfter s t ∧ t.pwr.cur = 5 ∧ t.pwr.wakeRec.source = 4 ∧ { t with pwr := s.pwr, sys := s.sys } = s)
  ∧ (∀ (f : BitVec 1) (r : Byte), s.ticking = true → s.pwr.watch.face f.toNat = true → s.sys.fwEver = true →
    ∃ t, Completes (.wakeReceive f s.nodeAddr r) s t ∧ t.pwr.cur = 5 ∧ t.pwr.wakeRec.source = 2 ∧ t.pwr.wakeRec.reason = r
      ∧ t.pwr.wakeRec.face = f ∧ t.pwr.resuming = s.pwr.watch.resume ∧ { t with pwr := s.pwr, sys := s.sys } = s)
  ∧ (s.pwr.cur = 4 → s.pwr.holdLow = false → s.sys.fwEver = true → ∃ t, Completes .pwrCtrlWake s t ∧ t.pwr.cur = 5
    ∧ t.pwr.wakeRec.source = 5 ∧ t.pwr.wakeRec.cycles = s.pwr.ticks ∧ { t with pwr := s.pwr, sys := s.sys } = s)
  ∧ (s.pwr.cur ≠ 4 → Completes .pwrCtrlWake s s)
  ∧ (s.pwr.cur ≠ 0 → ∃ t, Completes .pwrCtrlRecClr s t ∧ t.pwr.wakeRec = { s.pwr.wakeRec with valid := false }
    ∧ { t with pwr := s.pwr } = s)
  ∧ (s.pwr.cur = 1 → ∃ t, Completes (.pwrCtrlFioPin true) s t ∧ t.pwr.fioPin = true ∧ t.sys.fio = true
    ∧ { t with pwr := s.pwr, sys := s.sys } = s)

/-- What an MCP restart leaves (R398): firmware that passes its digest runs again in place with the mailbox initialised;
otherwise no firmware runs until it is loaded again. -/
def Restarted (s t : State) : Prop :=
  t.bias = s.bias ∧ t.loop = s.loop ∧ t.streams = s.streams ∧ t.sys.tier = s.sys.tier
  ∧ (s.fwIntact = true → t.sys.fwRun = true ∧ t.irq.fatal = true ∧ t.sys.mcpRestart = true
    ∧ t.mbx.epoch = s.mbx.epoch + 1 ∧ t.mbx.history = [] ∧ t.mbx.sync = false)
  ∧ (s.fwIntact = false → t.sys.fwRun = false ∧ t.sys.fwSrc = 0 ∧ t.sys.fio = true)

/-- R16, R336, R339, R372 to R379, R391, R398, R448, R458: resets, supplies, clocks, bring-up and firmware. The model's
own readings in its clauses: log entries 70 (what RSYN loss takes down), 71 (the loss of VDD_AON), 72 (bring-up), 85 (a
breach of the supply order) and 158 (what starts the device). -/
def Obligations.BringUp : Prop := ∀ (s : State),
  (∃ t, Completes .resetNFall s t ∧ t.sys.inReset = true ∧ t.sys.resetLow = true ∧ t.pwr.supplyOk = true ∧ t.pwr.cur = 0 ∧ t.pwr.domains = onlyAlwaysOn ∧ t.mbx.mode = .down
    ∧ t.mbx.epoch = s.mbx.epoch ∧ t.pwr.time = s.pwr.time ∧ t.cal.nvm = s.cal.nvm ∧ t.bank = {} ∧ t.pending = s.pending)
  ∧ (∃ t, Completes .vddAonPowerOnReset s t ∧ t.sys.inReset = true ∧ t.sys.aonDown = true ∧ t.mbx.epoch = 0 ∧ t.pwr.time = 0 ∧ t.sys.resetLow = s.sys.resetLow
    ∧ t.cal.nvm = s.cal.nvm)
  ∧ (∀ (a : BitVec 6) (b : BitVec 2), s.sys.resetLow = true → s.sys.aonDown = false → s.pwr.holdLow = false →
    ∃ t, Completes (.resetNRise a b) s t ∧ t.sys.inReset = false ∧ t.pwr.cur = 1 ∧ t.sys.addr = a ∧ t.sys.boot = b
      ∧ t.sys.tier = 0 ∧ t.sys.tier0 = false ∧ t.mbx.mode = .down ∧ t.pd 86 = true ∧ t.pd 87 = true ∧ t.pd 0 = false
      ∧ t.calMem = {} ∧ t.cliMem = {} ∧ (imageCheck s.nvmImage ≠ none → t.cal.trims = []))
  ∧ (∀ (a : BitVec 6) (b : BitVec 2), s.sys.resetLow = true → s.sys.aonDown = true →
    Completes (.resetNRise a b) s { s with sys := { s.sys with resetLow := false } })
  ∧ (∀ (a : BitVec 6) (b : BitVec 2) (met : Bool), s.sys.inReset = true → s.sys.aonDown = true →
    (s.sys.resetLow = true → Completes (.vddAonRestart a b met) s { s with sys := { s.sys with aonDown := false } })
    ∧ (s.sys.resetLow = false → s.pwr.supplyOk = true → s.pwr.holdLow = false →
      ∃ t, Completes (.vddAonRestart a b true) s t ∧ t.sys.inReset = false ∧ t.sys.aonDown = false ∧ t.pwr.cur = 1
        ∧ t.sys.addr = a ∧ t.sys.boot = b)
    ∧ (s.sys.resetLow = false → Completes (.vddAonRestart a b false) s { s with
        sys := { s.sys with aonDown := false }, pwr := { s.pwr with supplyOk := false } }))
  ∧ (∀ (a : BitVec 6) (b : BitVec 2), s.sys.resetLow = true → s.sys.aonDown = false → s.pwr.holdLow = true →
    ∃ t, Completes (.resetNRise a b) s t ∧ t.sys.inReset = false ∧ t.pwr.cur = 0 ∧ t.pwr.bringUpWaits = true
      ∧ t.pwr.domains = onlyAlwaysOn)
  ∧ (Live s → s.pwr.cur = 1 → s.sys.rsynLock = false → s.sys.tier0 = false →
    ∃ t, Completes .rsynLock s t ∧ t.sys.rsynLock = true ∧ t.skew.fifo = []
      ∧ { t with sys := s.sys, skew := s.skew } = s)
  ∧ (Live s → s.pwr.cur = 1 → s.sys.rsynLock = true →
    ∃ t, Completes .rsynLoss s t ∧ t.sys.rsynLock = false ∧ t.sys.fio = true ∧ t.sys.tier = 0 ∧ t.irq.fatal = true
      ∧ (∀ n, (t.biasAt n).st = .hiz) ∧ (∀ l, l < 16 → (t.txAt l).st = .hiz)
      ∧ (∀ l, l < 16 → (s.rxAt l).st ≠ .parked → (t.rxAt l).st = .off ∧ (t.rxAt l).lockLoss = (s.rxAt l).lockLoss)
      ∧ t.bank = s.bank ∧ t.calMem = s.calMem ∧ t.cliMem = s.cliMem ∧ t.streams.ctxs = s.streams.ctxs)
  ∧ (Live s → s.pwr.cur = 1 → s.sys.rsynLock = true → s.sys.tier0 = false → s.sys.fwRun = false →
    ∃ t, Completes .tier0Reached s t ∧ t.sys.tier0 = true ∧ t.mbx.mode = .rom ∧ t.mbx.epoch = s.mbx.epoch + 1
      ∧ t.mbx.nextDseq = 0 ∧ t.mbx.nextHseq = 0 ∧ (t.mbx.evq.head?.map (·.op)) = some 0x8001
      ∧ (∀ k, 78 ≤ k → k ≤ 85 → t.pd k = true) ∧ t.loop = s.loop ∧ t.bias = s.bias)
  ∧ (∀ img : Bytes, Live s → s.pwr.cur = 1 → s.flashBusy = true → s.sys.restartDue = false → TakesEvents s →
    (∃ t, Completes (.flashImageLoaded false img) s t ∧ t.sys.bootErr = 1 ∧ t.sys.flashNext = s.sys.flashNext + 1
      ∧ t.sys.fwRun = false ∧ t.irq.boot = true ∧ Queued 0x8003 [1, u8 (s.sys.flashNext + 1)] t)
    ∧ ∃ t, Completes (.flashImageLoaded true img) s t
      ∧ (imageBad img (decide (img.length = 256 + imgLength img)) = none → t.sys.fwRun = true
        ∧ t.sys.fwSrc = BitVec.ofNat 4 (s.sys.flashNext + 1) ∧ t.sys.fwVer = w32At img 8 ∧ t.sys.bootErr = s.sys.bootErr)
      ∧ (∀ c, imageBad img (decide (img.length = 256 + imgLength img)) = some c → t.sys.bootErr = c ∧ t.sys.fwRun = false))
  ∧ (Live s → s.pwr.cur = 1 → s.sys.fwRun = true → s.sys.rsynLock = true → s.sys.tier = 0 → s.sys.heldAtT0 = false →
    ∃ t, Completes .firmwareStart s t ∧ t.sys.tier = 1 ∧ t.sys.fio = s.pwr.fioPin ∧ t.irq.boot = true
      ∧ (∀ k, 72 ≤ k → k ≤ 77 → t.pd k = true)
      ∧ (∀ l, l < 16 → (s.rxAt l).st ≠ .parked → (∀ k ∈ laneDomains l, t.pd k = true) ∧ (t.rxAt l).half = !(s.rxAt l).stretch))
  ∧ (Live s → s.mcpUp = true → s.sys.fwRun = true → ∃ t, Completes .mcpWatchdogExpiry s t ∧ Restarted s t)
  ∧ (Live s → s.mcpUp = true → s.sys.fwRun = true → ∃ t, Completes .mcpException s t ∧ Restarted s t)
  ∧ (Takes 0x0001 s → ∃ p, Answers .sysIdentity 0x0001 .ok p s s ∧ p.length = 22 ∧ p.take 3 = [0x16, 0x64, 0xC2])
  ∧ (Takes 0x0002 s → ∃ p, Answers .sysStatus 0x0002 .ok p s s ∧ p.length = 20 ∧ p.drop 12 = le64 s.pwr.time)
  ∧ (∀ n : W32, Takes 0x0010 s → s.loadAllowed = true → s.flashBusy = false →
    ∃ t, Answers (.fwLoadBegin n) 0x0010 .ok [] s t ∧ t.sys.fwLoad = some { length := n, got := [] } ∧ { t with sys := s.sys } = s)
  ∧ (∀ n : W32, Takes 0x0010 s → s.loadAllowed = false → Answers (.fwLoadBegin n) 0x0010 .notReady [] s s)
  ∧ (∀ (f : FwLoad) (o : W32), Takes 0x0011 s → s.loadAllowed = true → s.flashBusy = false → s.sys.fwLoad = some f →
    s.sramBad = [] → s.sramSoft = [] → segOk o 256 = true →
    (f.got.length ≤ f.length.toNat → ∃ t, Answers (.fwLoadSeg o 256) 0x0011 .ok [] s t ∧ { t with sys := s.sys } = s
      ∧ t.sys.fwLoad = some { f with got := f.got ++ s.sramRead (winToSram o.toNat) 256 })
    ∧ (f.length.toNat < f.got.length → Answers (.fwLoadSeg o 256) 0x0011 .range [] s s))
  ∧ (∀ f : FwLoad, Takes 0x0012 s → s.loadAllowed = true → s.flashBusy = false → s.sys.fwLoad = some f →
    ∃ st p t, Answers .fwLoadEnd 0x0012 st p s t ∧ t.sys.fwLoad = none
      ∧ (f.got.length ≠ 256 + f.length.toNat → t.sys.fwRun = false ∧ st = .bootFail ∧ (p = [2] ∨ p = [3]))
      ∧ (f.got.length = 256 + f.length.toNat → imgLength f.got = f.length.toNat → imageBad f.got true = none →
        st = .ok ∧ p = [] ∧ t.sys.fwRun = true ∧ t.sys.fwSrc = 3)
      ∧ (st = .ok → t.sys.fwRun = true ∧ t.sys.fwSrc = 3))

/-- R260, R380, R381, R383: TIER_SET, a lane's turn at both its ends, and the host's answer to a request. The model's
own readings in its clauses: log entries 49 (FORCE and repeats of TIER_SET) and 107 (the boundary of a change). -/
def Obligations.TierProcedure : Prop := ∀ (s : State) (l : BitVec 4) (f : Nat), f = l.toNat / 8 →
  (s.icingAt f).burst = none → (s.icingAt f).queue.length < 16 →
  (∀ m : W16, Takes 0x0004 s → s.sys.fwRun = true → s.sys.tier = 1 →
    ∃ t, Answers (.tierSet 2 0 m) 0x0004 .ok [] s t ∧ t.sys.tier = 2 ∧ t.tierp.mask = m ∧ t.irq.boot = true
      ∧ t.rx = s.rx ∧ t.tx = s.tx)
  ∧ (∀ m : W16, Takes 0x0004 s → s.sys.tier = 0 → Answers (.tierSet 2 0 m) 0x0004 .notReady [] s s)
  ∧ (∀ m g : Byte, Takes 0x0005 s → g.toNat < 2 → (s.icingAt g.toNat).reqIn = [] →
    Answers (.tierReply g m 0xFF) 0x0005 .ok [] s s)
  ∧ (∀ (r : ReqIn) (g m : Byte), Takes 0x0005 s → g.toNat = f → (s.icingAt f).reqIn = [r] → r.tier = true → r.answer = none →
    s.lanesBusy f (byteAt r.payload 1) = false →
    ∃ t, Answers (.tierReply g r.mseq m) 0x0005 .ok [] s t ∧ t.tierp = s.tierp
      ∧ ((t.icingAt f).queue.getLast?.map (·.payload)) = some [r.mseq, s.tierOffer f (byteAt r.payload 1 &&& m),
          if s.tierOffer f (byteAt r.payload 1 &&& m) = 0 then resReject else resAccept])
  ∧ (Live s → s.turning = false → s.waits l.toNat = true → s.eligible l.toNat = true → s.far1608 0 = false →
    s.far1608 1 = false → (∀ k, k < l.toNat → s.waits k = false) →
    ∃ t, Completes .tierLaneTurnStart s t ∧ (t.turnAt l.toNat).st = .requested ∧ (t.turnAt l.toNat).half = s.tierHalf
      ∧ (t.icingAt f).reqOut.length = (s.icingAt f).reqOut.length + 1
      ∧ ((t.icingAt f).queue.getLast?.map (·.mtype)) = some 0x24 ∧ t.rx = s.rx ∧ t.tx = s.tx)
  ∧ (∀ (fb : BitVec 1) (src : W16) (m lanes : Byte), Live s → fb.toNat = f → s.icingOn f = true → inToffee s = false →
    (s.icingAt f).reqIn = [] → s.dst1608 f src = false → s.tierBusy f lanes = false →
    ((s.icingAt f).cfg.tierAccept = true → ∃ t, Completes (.tierReqReceive fb src [m, lanes, 2, 0]) s t
      ∧ ((t.icingAt f).queue.getLast?.map (·.payload)) = some [m, s.tierOffer f lanes,
          if s.tierOffer f lanes = 0 then resReject else resAccept] ∧ t.rx = s.rx ∧ t.tx = s.tx)
    ∧ ((s.icingAt f).cfg.tierAccept = false → TakesEvents s → ∃ t, Completes (.tierReqReceive fb src [m, lanes, 2, 0]) s t
      ∧ Queued 0x8007 [u8 f, m, lanes, 2, 0] t ∧ (t.icingAt f).queue = (s.icingAt f).queue))
  ∧ (∀ (r : ReqOut) (fb : BitVec 1), Live s → fb.toNat = f → (s.icingAt f).reqOut = [r] → r.tier = true → r.cancel = false →
    r.lane = l.toNat → (s.rxAt l.toNat).st = .locked →
    ∃ t, Completes (.tierAckReceive fb r.dst [r.mseq, 0xFF, resAccept]) s t ∧ (t.turnAt l.toNat).st = .switching
      ∧ (t.turnAt l.toNat).due = true ∧ (t.turnAt l.toNat).await = true ∧ (t.icingAt f).reqOut = []
      ∧ t.rx = s.rx ∧ t.tx = s.tx)
  ∧ (Live s → (s.turnAt l.toNat).st = .requested → (s.icingAt f).reqOut = [] → (s.turnAt l.toNat).half = s.tierHalf →
    TakesEvents s → ∃ t, Completes (.tierAckTimeout l) s t ∧ (t.turnAt l.toNat).st = .none ∧ (t.turnAt l.toNat).result = 1
      ∧ ({ op := 0x8006, bytes := [u8 l.toNat, 1] } : Ev) ∈ t.mbx.evq ∧ t.rx = s.rx ∧ t.tx = s.tx)
  ∧ (Live s → (s.turnAt l.toNat).due = true → (s.turnAt l.toNat).left = 0 → bitOf (s.turnAt l.toNat).prec 7 = false → (s.turnAt l.toNat).st = .switching →
    ∃ t, Completes (.tierRateSwitch l) s t ∧ (t.txAt l.toNat).half = (s.turnAt l.toNat).half
      ∧ (t.turnAt l.toNat).st = .settling ∧ (t.turnAt l.toNat).due = false ∧ t.rx = s.rx)
  ∧ (Live s → (s.turnAt l.toNat).due = false → (s.turnAt l.toNat).await = true → (s.turnAt l.toNat).st = .none →
    ∃ t, Completes (.tierAwaitEnd l) s t ∧ (t.turnAt l.toNat).await = false ∧ { t with tierp := s.tierp } = s)
  ∧ (Live s → (s.turnAt l.toNat).st = .settling → (s.rxAt l.toNat).st = .locked →
    (s.rxAt l.toNat).half = (s.turnAt l.toNat).half → (s.turnAt l.toNat).half = s.tierHalf →
    bitOf (s.framerAt l.toNat).feRx 3 = true → s.tierp.doneRaised = true → TakesEvents s →
    ∃ t, Completes (.tierTurnEnd l) s t ∧ (t.turnAt l.toNat).st = .none ∧ (t.turnAt l.toNat).result = 0
      ∧ Queued 0x8005 ((List.range 16).map (fun k => if k = l.toNat then 0 else 0xFF)) t
      ∧ { t with tierp := s.tierp, mbx := s.mbx } = s)

/-- R368 to R371, R384, R385, R395, R430, R431, R433: the SPI port, single registers, the window and quick queries. The
model's own readings in its clauses: log entry 159 (a LEN beyond 63). -/
def Obligations.SpiAndRegisters : Prop := ∀ (s : State), Live s →
  (∀ (h0 h1 h2 h3 h4 h5 : Byte) (r : Bytes) (k : Nat),
    (h5 ≠ crc8 [h0, h1, h2, h3, h4] → spiCommand (h0 :: h1 :: h2 :: h3 :: h4 :: h5 :: r) k
      = some (.spiHeaderCrcFail (BitVec.ofNat 6 h0.toNat)))
    ∧ (h5 = crc8 [h0, h1, h2, h3, h4] → spiCommand (h0 :: h1 :: h2 :: h3 :: h4 :: h5 :: r) k
      = some (let d := BitVec.ofNat 6 h0.toNat
              let a := BitVec.ofNat 24 (65536 * h1.toNat + 256 * h2.toNat + h3.toNat)
              if h0.toNat / 64 = 0 then .spiRead d a h4 k else if h0.toNat / 64 = 1 then .spiWrite d a h4 r
              else if h0.toNat / 64 = 2 then .spiBroadcastWrite a h4 r else .spiReservedOp d)))
  ∧ (∀ a : W24, s.answers (wordAddr a 0) = true →
    ∃ t, Completes (.spiRead s.sys.addr a 0 1) s t
      ∧ t.spi.miso = s.statusByte :: (le32 (s.reg (wordAddr a 0)) ++ [crc8 (s.statusByte :: le32 (s.reg (wordAddr a 0)))])
      ∧ t.sram = s.sram ∧ t.pwr = s.pwr ∧ t.mbx = s.mbx)
  ∧ (∀ (d : BitVec 6) (a : W24) (n : Byte) (k : Nat) (b : Bytes), d ≠ s.sys.addr → Completes (.spiRead d a n k) s s
    ∧ Completes (.spiWrite d a n b) s s ∧ Completes (.spiReservedOp d) s s ∧ Completes (.spiHeaderCrcFail d) s s)
  ∧ (∀ (a : W24) (b0 b1 b2 b3 : Byte), ∃ t,
    Completes (.spiWrite s.sys.addr a 0 [b0, b1, b2, b3, crc8 [b0, b1, b2, b3]]) s t
      ∧ t = writeWord (wordAddr a 0) (w32At [b0, b1, b2, b3] 0) { s with spi := { s.spi with prevFail := false } })
  ∧ (∀ (a : W24) (b : Bytes), b.length ≠ 5 → ∃ t, Completes (.spiWrite s.sys.addr a 0 b) s t ∧ t.spi.lenErr = true
    ∧ t.spi.prevFail = true ∧ t.spi.errors = satAdd s.spi.errors 1 ∧ t.irq.spi = true ∧ { t with spi := s.spi, irq := s.irq } = s)
  ∧ (∀ (a : W24) (b0 b1 b2 b3 c : Byte), c ≠ crc8 [b0, b1, b2, b3] →
    ∃ t, Completes (.spiBroadcastWrite a 0 [b0, b1, b2, b3, c]) s t ∧ t.spi.dcrcErr = true ∧ t.spi.prevFail = true
      ∧ { t with spi := s.spi, irq := s.irq } = s)
  ∧ (∀ (a : W24) (b0 b1 b2 b3 : Byte), inBlock 0x1000 0x2000 (wordAddr a 0) = true →
    ∃ t, Completes (.spiBroadcastWrite a 0 [b0, b1, b2, b3, crc8 [b0, b1, b2, b3]]) s t ∧ { t with spi := s.spi } = s)
  ∧ (∀ (a : W24) (b0 b1 b2 b3 : Byte), inBlock 0x1000 0x2000 (wordAddr a 0) = false →
    inBlock 0x040000 0x050000 (wordAddr a 0) = false →
    ∃ t, Completes (.spiBroadcastWrite a 0 [b0, b1, b2, b3, crc8 [b0, b1, b2, b3]]) s t
      ∧ t = writeWord (wordAddr a 0) (w32At [b0, b1, b2, b3] 0) { s with spi := { s.spi with prevFail := false } })
  ∧ (∃ t, Completes (.spiReservedOp s.sys.addr) s t ∧ t.spi.opErr = true ∧ t.spi.prevFail = s.spi.prevFail
    ∧ t.irq.spi = true ∧ { t with spi := s.spi, irq := s.irq } = s)
  ∧ (∃ t, Completes (.spiHeaderCrcFail s.sys.addr) s t ∧ t.spi.hcrcErr = true ∧ t.irq.spi = true
    ∧ { t with spi := s.spi, irq := s.irq } = s)
  ∧ (s.answers 0x10 = true → ∃ t, Completes .gctlSpiStatErrorsRead s t ∧ t.spi.rdata = s.spi.word ∧ t.spi.errors = 0
    ∧ t.spi.opErr = s.spi.opErr ∧ { t with spi := s.spi } = s)
  ∧ (s.answers 0x14 = true → ∃ t, Completes .gctlEccCorrRead s t ∧ t.spi.rdata = s.sys.eccWord ∧ t.sys.eccCorr = 0
    ∧ t.sys.eccFatal = s.sys.eccFatal ∧ { t with spi := s.spi, sys := s.sys } = s)
  ∧ (s.answers 0x28 = true → ∃ t, Completes .gctlTimeLoRead s t ∧ t.spi.rdata = s.pwr.time.setWidth 32
    ∧ t.sys.timeHi = (s.pwr.time >>> 32).setWidth 32 ∧ { t with spi := s.spi, sys := s.sys } = s)
  ∧ (∀ a : W24, inWindow a = true → s.answers (wordAddr a 0) = true → s.sramBad = [] → s.sramSoft = [] →
    ∃ t, Completes (.sramWindowRead a) s t ∧ t.spi.rdata = w32At (s.sramRead (winToSram (wordAddr a 0)) 4) 0
      ∧ { t with spi := s.spi } = s)
  ∧ (∀ (a : W24) (v : W32), inWindow a = true → inBlock 0x104000 0x108000 (wordAddr a 0) = true →
    Completes (.sramWindowWrite a v) s s)
  ∧ (∀ (a : W24) (v : W32), inWindow a = true → inBlock 0x104000 0x108000 (wordAddr a 0) = false →
    s.answers (wordAddr a 0) = true → s.sramBad = [] → s.sramSoft = [] → ∃ t, Completes (.sramWindowWrite a v) s t
      ∧ w32At (t.sramRead (winToSram (wordAddr a 0)) 4) 0 = v
      ∧ (∀ k, k < winToSram (wordAddr a 0) ∨ winToSram (wordAddr a 0) + 4 ≤ k → t.sramByte k = s.sramByte k)
      ∧ { t with sram := s.sram } = s)
  ∧ (∀ (n : BitVec 4) (v : W32), s.answers 0x040000 = true → ∃ t, Completes (.qrySelWrite n v) s t
    ∧ (t.qryAt n.toNat).sel = v &&& 0xFFFF0FFF ∧ (t.qryAt n.toNat).ready = false ∧ (t.qryAt n.toNat).value = 0
    ∧ (t.qryAt n.toNat).bad = selBad v ∧ (t.qryAt n.toNat).seq = (s.qryAt n.toNat).seq ∧ { t with qry := s.qry } = s)
  ∧ (∀ n : BitVec 4, s.dmaAwake = true → (s.qryAt n.toNat).makes = true → ∃ t, Completes (.qryResult n) s t
    ∧ (t.qryAt n.toNat).ready = true ∧ (t.qryAt n.toNat).repeat_ = false
    ∧ (t.qryAt n.toNat).value = s.qryValue (selSource (s.qryAt n.toNat).sel) (selIndex (s.qryAt n.toNat).sel)
    ∧ (t.qryAt n.toNat).seq = (s.qryAt n.toNat).seq + 1 ∧ t.irq.qry = true ∧ { t with qry := s.qry, irq := s.irq } = s)
  ∧ (∀ n : BitVec 4, s.answers (0x040004 + 8 * n.toNat) = true → (s.qryAt n.toNat).ready = true →
    ∃ t, Completes (.qryResRead n) s t ∧ t.spi.rdata = (s.qryAt n.toNat).word ∧ (t.qryAt n.toNat).ready = false
      ∧ (t.qryAt n.toNat).repeat_ = true ∧ (t.qryAt n.toNat).value = (s.qryAt n.toNat).value
      ∧ { t with qry := s.qry, spi := s.spi } = s)

/-- R385 to R391, R393, R394: the rings, sequence numbers, events and PARAX_RESYNC. The model's own readings in its
clauses: log entries 68 and 69 (commands in one step, rows of commands). -/
def Obligations.Mailbox : Prop := ∀ (s : State),
  (∀ k : BitVec 6, Live s → s.answers 0x1000 = true → ∃ t, Completes (.mbxDoorbell k) s t ∧ t.mbx = { s.mbx with h2dTail := k }
    ∧ { t with mbx := s.mbx } = s)
  ∧ (∀ k : BitVec 6, Live s → s.answers 0x100C = true →
    ((k - s.mbx.d2hHead).toNat ≤ (s.mbx.d2hTail - s.mbx.d2hHead).toNat → ∃ t, Completes (.mbxD2hHeadWrite k) s t
      ∧ t.mbx = { s.mbx with d2hHead := k } ∧ { t with mbx := s.mbx } = s)
    ∧ ((s.mbx.d2hTail - s.mbx.d2hHead).toNat < (k - s.mbx.d2hHead).toNat → Completes (.mbxD2hHeadWrite k) s s))
  ∧ (Live s → s.mcpRuns = true → s.mbx.h2dAny = true → 1 ≤ s.mbx.d2hFree → s.mbx.readyDue = false → s.sramBad = [] → s.sramSoft = [] →
    msgOf (s.sramRead (h2dSlot s.mbx.h2dHead) 256) = none → TakesEvents s →
    ∃ t, Completes .mbxCommandTake s t ∧ t.mbx.h2dHead = s.mbx.h2dHead + 1 ∧ t.mbx.nextHseq = s.mbx.nextHseq
      ∧ Queued 0x8008 [s.mbx.h2dHead.setWidth 8] t ∧ { t with mbx := s.mbx, irq := s.irq } = s)
  ∧ (∀ m : Msg, Live s → s.mcpRuns = true → s.mbx.h2dAny = true → 1 ≤ s.mbx.d2hFree → s.mbx.readyDue = false →
    s.sramBad = [] → s.sramSoft = [] → msgOf (s.sramRead (h2dSlot s.mbx.h2dHead) 256) = some m → m.op ≠ 0x0003 → s.mbx.sync = true →
    (∀ h, s.mbx.history.find? (fun h => h.hseq == m.hseq) = some h → ∃ t, Completes .mbxCommandTake s t
      ∧ t = writeMessage (msgFlags 1 true false) h.opcode h.hseq h.status h.payload (consumeSlot s)
      ∧ t.mbx.nextHseq = s.mbx.nextHseq)
    ∧ (s.mbx.history.find? (fun h => h.hseq == m.hseq) = none → 32768 ≤ (m.hseq - s.mbx.nextHseq).toNat →
      ∃ t, Completes .mbxCommandTake s t ∧ t.mbx.nextHseq = s.mbx.nextHseq ∧ t.mbx.history = s.mbx.history
        ∧ t.mbx.d2hTail = s.mbx.d2hTail + 1 ∧ { t with mbx := s.mbx, irq := s.irq, sram := s.sram, sramBad := s.sramBad, sramSoft := s.sramSoft } = s
        ∧ SramOnly (d2hSlot s.mbx.d2hTail) 16 s t)
    ∧ (s.mbx.history.find? (fun h => h.hseq == m.hseq) = none → m.hseq = s.mbx.nextHseq → m.op = 0x0002 → m.payload = [] →
      tierAdmits 0x0002 s = true → ∃ t, Completes .mbxCommandTake s t ∧ t.mbx.nextHseq = m.hseq + 1
        ∧ t.mbx.d2hTail = s.mbx.d2hTail + 1 ∧ t.mbx.nextDseq = s.mbx.nextDseq + 1
        ∧ (t.mbx.history.head?.map (fun h => (h.hseq, h.status))) = some (m.hseq, 0) ∧ t.loop = s.loop ∧ t.pwr = s.pwr))
  ∧ (∀ (e : Ev) (r : List Ev), Live s → s.mcpRuns = true → s.mbx.evq = e :: r → 2 ≤ s.mbx.d2hFree →
    ∃ t, Completes .eventWrite s t ∧ t.mbx.evq = r ∧ t.mbx.dropped = false ∧ t.mbx.d2hTail = s.mbx.d2hTail + 1
      ∧ t.mbx.nextDseq = s.mbx.nextDseq + 1
      ∧ { t with mbx := s.mbx, sram := s.sram, sramBad := s.sramBad, sramSoft := s.sramSoft } = s
      ∧ SramOnly (d2hSlot s.mbx.d2hTail) (16 + e.bytes.length) s t)
  ∧ (Live s → s.mbx.d2hFree < 2 → Completes .eventWrite s s)
  ∧ (Takes 0x0003 s → ∃ p t, Answers .paraxResync 0x0003 .ok p s t ∧ p.length = 224 ∧ t.mbx.sync = true
    ∧ t.mbx.nextHseq = s.mbx.nextHseq + 1 ∧ t.mbx.history = [] ∧ t.mbx.evDropped = 0 ∧ t.mbx.evq = s.mbx.evq
    ∧ { t with mbx := s.mbx } = s)

/-- R63, R407 to R426: DMA channels, timers, counters, windows and the fetch of a capture memory. The model's own
readings in its clauses: log entries 66 (LOST), 65 (order of checks and moves), 156 (a transfer stopped by a
power-down) and 157 (turns of the channels). -/
def Obligations.DmaAndCounters : Prop := ∀ (s : State),
  (∀ c : BitVec 4, Live s → s.dmaTakes = true → (s.chanAt c.toNat).free = true → (s.chanAt c.toNat).trig ≠ 0 →
    ∃ t, Completes (.dmaStart c) s t ∧ (t.chanAt c.toNat).st = .armed ∧ (t.chanAt c.toNat).err = 0
      ∧ (t.chanAt c.toNat).next = (s.chanAt c.toNat).head ∧ (∀ k, k ≠ c.toNat → t.chanAt k = s.chanAt k)
      ∧ t.sram = s.sram ∧ t.irq = s.irq)
  ∧ (∀ c : BitVec 4, Live s → s.dmaTakes = true → (s.chanAt c.toNat).free = true → (s.chanAt c.toNat).trig = 0 →
    s.sramBad = [] → s.sramSoft = [] → descOk (s.chanAt c.toNat).head.toNat = true → (s.descAt (s.chanAt c.toNat).head.toNat).protOk = true →
    (s.descAt (s.chanAt c.toNat).head.toNat).alignOk = true → s.pd 86 = true →
    ∃ t, Completes (.dmaStart c) s t ∧ (t.chanAt c.toNat).st = .running ∧ (t.chanAt c.toNat).last = (s.chanAt c.toNat).head
      ∧ (t.chanAt c.toNat).desc = some (s.descAt (s.chanAt c.toNat).head.toNat) ∧ t.sram = s.sram)
  ∧ (∀ c : BitVec 4, Live s → (s.chanAt c.toNat).free = false → Completes (.dmaStart c) s s)
  ∧ (∀ c : BitVec 4, Live s → s.dmaTakes = true → (s.chanAt c.toNat).st = .armed → (s.chanAt c.toNat).desc = none → s.sramBad = [] → s.sramSoft = [] →
    ∃ t, Completes (.dmaAbort c) s t ∧ (t.chanAt c.toNat).st = .error ∧ (t.chanAt c.toNat).err = 1
      ∧ (t.chanAt c.toNat).resid = BitVec.ofNat 24 (s.descAt (s.chanAt c.toNat).next.toNat).n
      ∧ (t.chanAt c.toNat).errf = true ∧ (t.chanAt c.toNat).pending = false ∧ t.sram = s.sram
      ∧ (t.irq.dma = (s.irq.dma || (s.chanAt c.toNat).irqEn)))
  ∧ (∀ c : BitVec 4, Live s → s.dmaAwake = true → (s.chanAt c.toNat).trig ≠ 0 → (s.chanAt c.toNat).st = .running →
    (s.chanAt c.toNat).pending = true → ∃ t, Completes (.dmaTrigger c) s t
      ∧ t.chanAt c.toNat = { s.chanAt c.toNat with overrun := true } ∧ { t with dma := s.dma } = s)
  ∧ (∀ c : BitVec 4, Live s → s.dmaAwake = true → (s.chanAt c.toNat).trig ≠ 0 → (s.chanAt c.toNat).st = .running →
    (s.chanAt c.toNat).pending = false → ∃ t, Completes (.dmaTrigger c) s t
      ∧ t.chanAt c.toNat = { s.chanAt c.toNat with pending := true } ∧ { t with dma := s.dma } = s)
  ∧ (∀ (c : BitVec 4) (d : Desc), Live s → s.dmaAwake = true → (s.chanAt c.toNat).st = .running →
    (s.chanAt c.toNat).desc = some d → d.mode = 2 → s.sramBad = [] → s.sramSoft = [] → d.wb = false → (s.chanAt c.toNat).moved = 0 → s.dmaOthers c.toNat = [] → s.dmaDiffer d 0 = some 0 →
    ∃ t, Completes (.dmaDescriptorComplete c) s t ∧ (t.chanAt c.toNat).st = .error ∧ (t.chanAt c.toNat).err = 6
      ∧ (t.chanAt c.toNat).resid = BitVec.ofNat 24 d.n ∧ t.sram = s.sram)
  ∧ (∀ (c : BitVec 4) (d : Desc), Live s → s.dmaAwake = true → (s.chanAt c.toNat).st = .running →
    (s.chanAt c.toNat).desc = some d → d.mode = 1 → d.n = 4 → d.wb = false → d.dstFix = false → s.sramBad = [] → s.sramSoft = [] →
    d.protOk = true → (s.chanAt c.toNat).moved = 0 → s.dmaOthers c.toNat = [] → (s.chanAt c.toNat).trig = 0 → s.triggered 2 c.toNat = [] →
    (∀ k, winToSram ((s.chanAt c.toNat).last.toNat + 0x10) ≤ k → k < winToSram ((s.chanAt c.toNat).last.toNat + 0x10) + 4 →
      (k < winToSram d.to_ ∨ winToSram d.to_ + 4 ≤ k) ∧ s.sramByte k = 1) →
    ∃ t, Completes (.dmaDescriptorComplete c) s t ∧ (t.chanAt c.toNat).st = .done ∧ (t.chanAt c.toNat).donef = true
      ∧ w32At (t.sramRead (winToSram d.to_) 4) 0 = d.src
      ∧ (∀ k, k < winToSram d.to_ ∨ winToSram d.to_ + 4 ≤ k → t.sramByte k = s.sramByte k))
  ∧ (∀ (c : BitVec 4) (d e : Desc) (k : Nat), Live s → s.dmaAwake = true → (s.chanAt c.toNat).st = .running →
    (s.chanAt c.toNat).desc = some d → d.mode = 2 → s.sramBad = [] → s.sramSoft = [] → d.wb = false → (s.chanAt c.toNat).moved = 0 →
    s.dmaDiffer d 0 = some 0 → s.dmaOthers c.toNat = [k] → (s.chanAt k).desc = some e → e.mode = 1 → (s.chanAt k).moved = 0 →
    ∃ t, Completes (.dmaDescriptorComplete c) s t ∧ (t.chanAt c.toNat).st = .error ∧ (t.chanAt k).st = .running
      ∧ (t.chanAt k).desc = some e ∧ (t.chanAt k).moved ≤ e.n ∧ t.dma.turn = BitVec.ofNat 4 (c.toNat + 1))
  ∧ (Live s → s.dmaTakes = true → ∃ t, Completes .dmaFenceRead s t ∧ t.spi.rdata = 0 ∧ { t with spi := s.spi } = s)
  ∧ (∀ c : BitVec 4, Live s → s.dmaAwake = true → (s.chanAt c.toNat).st = .cmd → (s.chanAt c.toNat).xfer = none →
    Completes (.dmaCommandTransferDone c) s s)
  ∧ (∀ (c : BitVec 4) (x : Xfer) (e : Exec), Live s → s.dmaAwake = true → (s.chanAt c.toNat).st = .cmd →
    (s.chanAt c.toNat).xfer = some x → s.mbx.exec = some e → e.ch = c.toNat → e.hseq = none →
    ∃ t, Answers (.dmaCommandTransferDone c) e.op.toNat .ok e.payload s t
      ∧ t.chanAt c.toNat = { s.chanAt c.toNat with st := .idle, err := 0, resid := 0, xfer := none }
      ∧ (∀ k, k ≠ c.toNat → t.chanAt k = s.chanAt k) ∧ t.mbx = { s.mbx with exec := none }
      ∧ t.sram = (s.sramWrite (winToSram x.addr) (s.xferData x)).sram ∧ t.rx = s.rx ∧ t.core = s.core)
  ∧ (∀ k : BitVec 3, Live s → s.dmaTakes = true → ∃ t, Completes (.timerStart k) s t
    ∧ t.timerAt k.toNat = { s.timerAt k.toNat with run := true } ∧ { t with dma := s.dma } = s)
  ∧ (∀ k : BitVec 3, Live s → s.dmaAwake = true → (s.timerAt k.toNat).run = true → s.triggered 1 k.toNat = [] →
    (∀ p ∈ s.dma.cnts, p.2.source ≠ 0x71) → ∃ t, Completes (.timerTick k) s t
      ∧ (t.timerAt k.toNat).run = !(s.timerAt k.toNat).oneshot ∧ { t with dma := s.dma } = s)
  ∧ (∀ (c src i f : W16) (n : Nat), Takes 0x0F01 s → c.toNat < 4096 → f.toNat ≤ 1 → sourceSize src.toNat = some n → i.toNat < n →
    (c.toNat % 2 = 1 → f = 0 ∧ (s.cntAt (c.toNat - 1)).chain = false) →
    ∃ t, Answers (.cntAssign c src i (BitVec.ofNat 8 f.toNat)) 0x0F01 .ok [] s t
      ∧ t.cntAt c.toNat = { source := BitVec.ofNat 15 src.toNat, index := i, chain := f == 1 } ∧ { t with dma := s.dma } = s
      ∧ (f = 1 → (t.cntAt (c.toNat + 1)).source = 0)
      ∧ ((s.cntAt c.toNat).chain ≠ (f == 1) → t.cntAt (c.toNat + 1) = {})
      ∧ (∀ k, k ≠ c.toNat → (k ≠ c.toNat + 1 ∨ ((s.cntAt c.toNat).chain = false ∧ f = 0)) → t.cntAt k = s.cntAt k))
  ∧ (∀ (c src i : W16) (n : Nat), Takes 0x0F01 s → c.toNat < 4096 → c.toNat % 2 = 1 → sourceSize src.toNat = some n → i.toNat < n →
    (s.cntAt (c.toNat - 1)).chain = true → Answers (.cntAssign c src i 0) 0x0F01 .busy [] s s
      ∧ Answers (.cntAssign c src i 1) 0x0F01 .range [] s s)
  ∧ (∀ (k : Byte) (c ms : W16), Takes 0x0F02 s → (k = 0 ∧ c.toNat < 1024 ∨ k = 1 ∧ c.toNat < 16) → ms.toNat ≤ 1000 →
    ∃ t, Answers (.cntWindowConfig k c ms) 0x0F02 .ok [] s t
      ∧ t.winAt (winIndex k.toNat c.toNat) = { ms := ms, notify := ms != 0 }
      ∧ (∀ j, j ≠ winIndex k.toNat c.toNat → t.winAt j = s.winAt j) ∧ { t with dma := s.dma } = s)
  ∧ (∀ (k : Byte) (c : W16) (w : Window), Takes 0x0F03 s → (k = 0 ∧ c.toNat < 1024 ∨ k = 1 ∧ c.toNat < 16) →
    s.winAt (winIndex k.toNat c.toNat) = w →
    ∃ t, Answers (.cntWindowRead k c) 0x0F03 .ok (le64 w.resOctets ++ le64 w.resFrames ++ le16 w.ms ++ le32 w.seq) s t
      ∧ t.winAt (winIndex k.toNat c.toNat) = { w with notify := w.ms != 0 } ∧ { t with dma := s.dma } = s)
  ∧ (∀ (c : BitVec 12) (v : W32) (b : Bool), Live s → s.dmaTakes = true →
    (s.carriesInto c.toNat = false ∨ (b = false ∧ (s.cntAt c.toNat).source ≠ 0x70)) →
    ∃ t, Completes (.cntValWrite c v b) s t ∧ t.cntAt c.toNat = { s.cntAt c.toNat with
        val := v
        lost := (s.cntAt c.toNat).lost || (b && (s.cntAt c.toNat).source != 0) || (s.cntAt c.toNat).source == 0x70 }
      ∧ (∀ k, k ≠ c.toNat → t.cntAt k = s.cntAt k) ∧ { t with dma := s.dma } = s)
  ∧ (∀ (c : BitVec 12) (v : W32), Live s → s.dmaTakes = true → s.carriesInto c.toNat = true →
    ∃ t, Completes (.cntValWrite c v true) s t ∧ t.cntAt c.toNat = { s.cntAt c.toNat with val := v, lost := true }
      ∧ (t.cntAt (c.toNat - 1)).carry = true ∧ (t.cntAt (c.toNat - 1)).val.toNat < (s.cntAt (c.toNat - 1)).val.toNat
      ∧ (∀ k, k ≠ c.toNat → k ≠ c.toNat - 1 → t.cntAt k = s.cntAt k) ∧ { t with dma := s.dma, free := s.free } = s)
  ∧ (∀ c : BitVec 12, Live s → s.dmaAwake = true → (s.cntAt c.toNat).val = BitVec.allOnes 32 → (s.cntAt c.toNat).source ≠ 0 →
    (s.cntAt c.toNat).chain = false → ∃ t, Completes (.counterWrap c) s t ∧ (t.cntAt c.toNat).val = 0
      ∧ (t.cntAt c.toNat).ovf = true ∧ t.irq.cnt = (s.irq.cnt || s.dma.ovfIe))
  ∧ (∀ (k : BitVec 1) (c : BitVec 10), Live s → s.dmaAwake = true → (s.winAt (winIndex k.toNat c.toNat)).ms = 0 →
    Completes (.counterWindowEnd k c) s s)
  ∧ (∀ (k : BitVec 1) (c : BitVec 10), Live s → s.dmaAwake = true → (s.winAt (winIndex k.toNat c.toNat)).ms ≠ 0 → TakesEvents s →
    (s.winAt (winIndex k.toNat c.toNat)).notify = true → ∃ t, Completes (.counterWindowEnd k c) s t
      ∧ (t.winAt (winIndex k.toNat c.toNat)).resOctets = (s.winAt (winIndex k.toNat c.toNat)).octets
      ∧ (t.winAt (winIndex k.toNat c.toNat)).octets = 0 ∧ (t.winAt (winIndex k.toNat c.toNat)).frames = 0
      ∧ (t.winAt (winIndex k.toNat c.toNat)).seq = (s.winAt (winIndex k.toNat c.toNat)).seq + 1
      ∧ (t.winAt (winIndex k.toNat c.toNat)).notify = false
      ∧ Queued 0x8F01 ([u8 k.toNat] ++ leN 2 c.toNat ++ le32 ((s.winAt (winIndex k.toNat c.toNat)).seq + 1)) t)
  ∧ (∀ (lane d : Byte) (a : W32), Takes 0x010C s → lane.toNat < 16 → d.toNat < 16 → s.rxOn lane.toNat = true →
    bufOk a 65536 = true → (s.chanAt d.toNat).free = true →
    ∃ t, Completes (.laneCaptureFetch lane d a) s t ∧ (t.chanAt d.toNat).st = .cmd
      ∧ (t.chanAt d.toNat).xfer = some ⟨.capture lane.toNat, a.toNat, 65536⟩
      ∧ t.mbx = { s.mbx with exec := some { op := 0x010C, ch := d.toNat, payload := [] } }
      ∧ { t with dma := s.dma, mbx := s.mbx } = s)
  ∧ (∀ (lane d : Byte) (a : W32), Takes 0x010C s → lane.toNat < 16 → d.toNat < 16 → s.rxOn lane.toNat = true →
    bufOk a 65536 = true → (s.chanAt d.toNat).free = false → Answers (.laneCaptureFetch lane d a) 0x010C .busy [] s s)

/-- A step takes the command at the front of the queue and is that command on the state with the queue's rest; with no
command waiting the block idles for one LPO count (log entry 7, the model's choice). -/
def Obligations.StepRunsFront : Prop :=
  (∀ (s : State) (c : Instr) (rest : List Instr), step { s with pending := c :: rest } = exec c { s with pending := rest })
  ∧ (∀ s : State, s.pending = [] → ∃ t, step s = .next t ∧ t.pending = []
      ∧ t.pwr = { s.pwr with time := if s.sys.aonDown then s.pwr.time else s.pwr.time + 1 }
      ∧ { t with pwr := s.pwr, dma := s.dma, irq := s.irq, free := s.free } = s)

/-- What reset leaves, where the spec states it: crumb 0 of every lane bank has TAG = EMPTY and a good check word (R50);
every entry of both calendars and of the client table is zero with good check words (R153, R165); copy A of each face is
active and no switch is pending (R153); every lane receiver is OFF and every transmitter HIZ with the default taps and
SWING (R53, R69, R75, R82); every bias output is HIZ, every loop OFF and every host port DISABLED (R217, R275, R294); the
mailbox is DOWN and the Tier is 0 (R372, R391); HTAG_ETYPE is 0x88B5 (R222). The memories are canonical, the
bounds hold and no command waits, which is the model's. -/
def Obligations.ResetState : Prop :=
  State.reset.memWf = true ∧ State.reset.InBounds ∧ State.reset.pending = [] ∧ State.reset.sys.tier = 0 ∧ State.reset.mbx.mode = .down
  ∧ State.reset.etype = 0x88B5
  ∧ (∀ l < 16, State.reset.bank.ok (bankCrumb l 0) = true ∧ byteAt (State.reset.bankRead l 0) 0 = 0)
  ∧ (∀ i < 32, State.reset.calMem.ok i = true ∧ State.reset.calMem.read i = List.replicate 256 0)
  ∧ (∀ i < 64, State.reset.cliMem.ok i = true ∧ State.reset.cliMem.read i = List.replicate 256 0)
  ∧ (∀ f, (State.reset.faceAt f).active = 0 ∧ (State.reset.faceAt f).pending = none)
  ∧ (∀ l, (State.reset.rxAt l).st = .off ∧ (State.reset.txAt l).st = .hiz
      ∧ (State.reset.txAt l).set.fir = [0, 0, 64, 0, 0, 0, 0, 0, 0] ∧ (State.reset.txAt l).set.swing = 15)
  ∧ (∀ n, (State.reset.biasAt n).st = .hiz ∧ (State.reset.loopAt n).st = 0)
  ∧ (∀ p, (State.reset.portAt p).st = .disabled)

/-- While the device is in reset, every command leaves the state as it is, but for the edges of RESET_N and HOLD_N, the
two supply rows, and the levels on the fault pins and on VDD_BIAS, which are followed (R443, R448, R337; log entries 5, 38);
after a breach of the supply order the behaviour is undefined until RESET_N falls, and every other command stops (R339, R442;
log entry 85). -/
def Obligations.InReset : Prop := ∀ (c : Instr) (s : State), s.sys.inReset = true →
  match c with
  | .resetNFall | .resetNRise _ _ | .vddAonPowerOnReset | .vddAonRestart _ _ _ | .holdNFall | .holdNRise => True
  | .faultInputAssert f p => if s.pwr.supplyOk then ∃ t, exec c s = .next t ∧ { t with face := s.face } = s
      ∧ (t.faceAt f.toNat).faultIn = p.stays ∧ (∀ k, k ≠ f.toNat → t.faceAt k = s.faceAt k)
    else exec c s = .fault .supplyOrder
  | .biasFaultDetect _ k => if s.pwr.supplyOk then
      exec c s = .next { s with biasLow := if k = 3 then true else if k = 0 then false else s.biasLow }
    else exec c s = .fault .supplyOrder
  | _ => exec c s = if s.pwr.supplyOk then .next s else .fault .supplyOrder

/-- Whatever the state, a step that goes on takes one command from the queue and leaves the others. A state whose memories
are canonical (management SRAM, coefficient banks, calendars, client table, NVM image: addresses strictly rising, nothing
listed that an unlisted address reads as) steps to one whose memories are. A state that keeps its bounds (at most 256 events
wait, R390, and 16 responses are in the repeat history, R389; the odd counter of a chained pair has SOURCE NONE, R423)
steps to one that keeps them. -/
def Obligations.StepsKeepMemories : Prop := ∀ s t : State, step s = .next t →
  t.pending = s.pending.tail ∧ (s.memWf = true → t.memWf = true) ∧ (s.InBounds → t.InBounds)

/-- R20. The check word of a crumb: the register starts at 0xFFFF, each byte enters its upper half, and eight shifts of
the polynomial 0x1021 follow, most significant bit first; the bytes are taken in ascending address order; a crumb that
is written whole gets this word beside it, and a crumb not rejected is good exactly when the word agrees. -/
def Obligations.CrumbCheckWord : Prop :=
  crc16 [] = 0xFFFF
  ∧ (∀ (l : Bytes) (b : Byte), crc16 (l ++ [b])
      = Nat.repeat (fun c : W16 => if c.getLsbD 15 then (c <<< 1) ^^^ 0x1021#16 else c <<< 1) 8
          (crc16 l ^^^ (b.setWidth 16 <<< 8)))
  ∧ crc16 [0x31, 0x32, 0x33, 0x34, 0x35, 0x36, 0x37, 0x38, 0x39] = 0x29B1
  ∧ (∀ (m : CrumbMem) (i : Nat), (m.read i).length = 256
      ∧ ∀ k < 256, (m.read i).getD k 0 = Tab.get 0 m.bytes (256 * i + k))
  ∧ (∀ (m : CrumbMem) (i : Nat) (b : Bytes), b.length = 256 →
      (m.write i b).read i = b ∧ (m.write i b).check i = crc16 b ∧ (m.write i b).ok i = true)
  ∧ (∀ (m : CrumbMem) (i : Nat), m.rejected.contains i = false → (m.ok i = true ↔ m.check i = crc16 (m.read i)))

/-- R425. A counter counts on through a wrap; one that is not chained sets its own OVF bit when it wraps; an even counter
of a pair does not, and the odd one sets its bit when it wraps; nothing else of any counter changes but the value and the
carry of the pair. COUNTER_WRAP completes, and is this with an amount of 1. -/
def Obligations.CounterWraps : Prop :=
  (∀ (s : State) (i n : Nat), n < 2 ^ 32 →
    let c := s.cntAt i
    let t := cntAdd i n s
    let wraps := decide (2 ^ 32 ≤ c.val.toNat + n)
    (t.cntAt i).val.toNat = (c.val.toNat + n) % 2 ^ 32
    ∧ (c.chain = false → t.cntAt i = { c with val := (t.cntAt i).val, ovf := c.ovf || wraps }
        ∧ ∀ k, k ≠ i → t.cntAt k = s.cntAt k)
    ∧ (c.chain = true →
        let d := s.cntAt (i + 1)
        let step : W32 := if wraps then 1 else 0
        t.cntAt i = { c with val := (t.cntAt i).val, carry := c.carry || wraps }
        ∧ t.cntAt (i + 1) = { d with val := d.val + step, ovf := d.ovf || (wraps && d.val == BitVec.allOnes 32) }
        ∧ ∀ k, k ≠ i → k ≠ i + 1 → t.cntAt k = s.cntAt k))
  ∧ (∀ (s : State) (c : BitVec 12), Live s → s.dmaAwake = true → (s.cntAt c.toNat).val = BitVec.allOnes 32 →
      (s.cntAt c.toNat).source ≠ 0 → Completes (.counterWrap c) s (cntAdd c.toNat 1 s))
end

