-- ==== Sys2Proof/Laws/Codes.lean ====
section
/-! SUPPORT. Laws of the line codes: each inverse restores what its direction made. -/

namespace Sys2Proof.Machine

theorem grayIndex_lt (a b : Bool) : grayIndex a b < 4 := by cases a <;> cases b <;> decide

/-- The Gray map and its inverse agree (R41, R66). -/
theorem grayPair_grayIndex (a b : Bool) : grayPair (grayIndex a b) = (a, b) := by cases a <;> cases b <;> decide

theorem precodeOne_lt (on : Bool) (prev u : Nat) : precodeOne on prev u < 4 := by
  unfold precodeOne; split <;> omega

/-- The receive decoder restores the index of each symbol (R41, R67). -/
theorem decodeOne_precodeOne (on : Bool) {prev u : Nat} (hu : u < 4) :
    decodeOne on prev (precodeOne on prev u) = u := by
  unfold decodeOne precodeOne
  cases on <;> simp <;> omega

/-- The receive decoder restores a run of indices, whatever the memory held (R41, R67). -/
theorem decodeRun_precode (on : Bool) (us : List Nat) :
    ∀ prev, (∀ u ∈ us, u < 4) → decodeRun on prev (precode on prev us) = us := by
  induction us with
  | nil => intros; rfl
  | cons u r ih =>
    intro prev h
    simp only [precode, decodeRun]
    rw [decodeOne_precodeOne on (h u List.mem_cons_self), ih _ (fun x hx => h x (List.mem_cons_of_mem _ hx))]

/-- The scrambler's state does not depend on the payload (R127). -/
theorem scramble_state (bits : Bits) : ∀ (st : Nat) (other : Bits), other.length = bits.length →
    (scramble st other).2 = (scramble st bits).2 := by
  induction bits with
  | nil => intro st other h; simp_all
  | cons p r ih =>
    intro st other h
    match other with
    | [] => simp at h
    | q :: t => simp only [scramble]; exact ih _ t (by simpa using h)

/-- Scrambling twice from one state gives the payload back (R127). -/
theorem scramble_twice (bits : Bits) : ∀ st, (scramble st (scramble st bits).1).1 = bits := by
  induction bits with
  | nil => intro st; rfl
  | cons p r ih =>
    intro st
    simp only [scramble, ih]
    cases p <;> simp

theorem scramble_length (bits : Bits) : ∀ st, (scramble st bits).1.length = bits.length := by
  induction bits with
  | nil => intro st; rfl
  | cons p r ih => intro st; simp [scramble, ih]

/-- Descrambling the blocks of a multiframe restores them (R127). -/
theorem scrambleBlocks_twice (bs : List Block) : ∀ st, scrambleBlocks st (scrambleBlocks st bs) = bs := by
  induction bs with
  | nil => intro st; rfl
  | cons b r ih =>
    intro st
    simp only [scrambleBlocks, scramble_twice]
    rw [scramble_state b.payload st _ (scramble_length _ _), ih]

end Sys2Proof.Machine
end

