-- ==== Sys2Proof/Laws/Tab.lean ====
section
/-! SUPPORT. Laws of the sparse tables: read after write, and the canonical form is kept. -/

namespace Sys2Proof.Machine

variable {α : Type} [DecidableEq α]

omit [DecidableEq α] in
theorem Tab.get_erase_self (d : α) (t : Tab α) (i : Nat) : Tab.get d (Tab.erase t i) i = d := by
  induction t with
  | nil => rfl
  | cons p r ih =>
    obtain ⟨k, w⟩ := p
    by_cases h : k = i
    · subst h; simpa [Tab.erase] using ih
    · simpa [Tab.erase, h, Tab.get] using ih

omit [DecidableEq α] in
theorem Tab.get_erase_ne (d : α) (t : Tab α) {i j : Nat} (h : j ≠ i) :
    Tab.get d (Tab.erase t i) j = Tab.get d t j := by
  induction t with
  | nil => rfl
  | cons p r ih =>
    obtain ⟨k, w⟩ := p
    by_cases hk : k = i
    · subst hk
      simpa [Tab.erase, Tab.get, Ne.symm h] using ih
    · by_cases hj : k = j
      · subst hj; simp [Tab.erase, hk, Tab.get]
      · simpa [Tab.erase, hk, hj, Tab.get] using ih

omit [DecidableEq α] in
theorem Tab.get_put_self (d : α) (t : Tab α) (i : Nat) (v : α) (h : ∀ p ∈ t, p.1 ≠ i) :
    Tab.get d (Tab.put t i v) i = v := by
  induction t with
  | nil => simp [Tab.put, Tab.get]
  | cons p r ih =>
    obtain ⟨k, w⟩ := p
    have hk : k ≠ i := h (k, w) (by simp)
    have hr := ih (fun p hp => h p (by simp [hp]))
    unfold Tab.put
    split
    · simp [Tab.get]
    · simpa [Tab.get, hk] using hr

omit [DecidableEq α] in
theorem Tab.get_put_ne (d : α) (t : Tab α) {i j : Nat} (v : α) (h : j ≠ i) :
    Tab.get d (Tab.put t i v) j = Tab.get d t j := by
  induction t with
  | nil => simp [Tab.put, Tab.get, Ne.symm h]
  | cons p r ih =>
    obtain ⟨k, w⟩ := p
    unfold Tab.put
    split
    · simp [Tab.get, Ne.symm h]
    · by_cases hj : k = j
      · simp [Tab.get, hj]
      · simpa [Tab.get, hj] using ih

omit [DecidableEq α] in
theorem Tab.mem_erase (t : Tab α) (i : Nat) : ∀ p ∈ Tab.erase t i, p.1 ≠ i := by
  intro p hp
  simpa using (List.mem_filter.mp hp).2

/-- Reading the index just written. -/
@[simp] theorem Tab.get_set_self (d : α) (t : Tab α) (i : Nat) (v : α) : Tab.get d (Tab.set d t i v) i = v := by
  unfold Tab.set
  split
  · next h => rw [Tab.get_erase_self, h]
  · exact Tab.get_put_self d _ i v (Tab.mem_erase t i)

/-- Writing an index leaves every other. -/
theorem Tab.get_set_ne (d : α) (t : Tab α) {i j : Nat} (v : α) (h : j ≠ i) :
    Tab.get d (Tab.set d t i v) j = Tab.get d t j := by
  unfold Tab.set
  split
  · exact Tab.get_erase_ne d t h
  · rw [Tab.get_put_ne d _ v h, Tab.get_erase_ne d t h]

@[simp] theorem Tab.get_upd_self (d : α) (t : Tab α) (i : Nat) (f : α → α) :
    Tab.get d (Tab.upd d t i f) i = f (Tab.get d t i) := Tab.get_set_self d t i _

theorem Tab.get_upd_ne (d : α) (t : Tab α) {i j : Nat} (f : α → α) (h : j ≠ i) :
    Tab.get d (Tab.upd d t i f) j = Tab.get d t j := Tab.get_set_ne d t _ h

theorem Tab.get_upd (d : α) (t : Tab α) (i j : Nat) (f : α → α) :
    Tab.get d (Tab.upd d t i f) j = if j = i then f (Tab.get d t i) else Tab.get d t j := by
  split
  · next h => rw [h, Tab.get_upd_self]
  · next h => exact Tab.get_upd_ne d t f h

/-! ### The canonical form -/

theorem Tab.wfAbove_mono (d : α) (t : Tab α) {b c : Nat} (h : c ≤ b) :
    Tab.wfAbove d b t = true → Tab.wfAbove d c t = true := by
  cases t with
  | nil => exact fun _ => rfl
  | cons p r =>
    obtain ⟨k, w⟩ := p
    simp only [Tab.wfAbove, Bool.and_eq_true, decide_eq_true_eq]
    exact fun ⟨⟨a, b⟩, c⟩ => ⟨⟨by omega, b⟩, c⟩

theorem Tab.wfAbove_erase (d : α) (t : Tab α) (i : Nat) {b : Nat} :
    Tab.wfAbove d b t = true → Tab.wfAbove d b (Tab.erase t i) = true := by
  induction t generalizing b with
  | nil => exact fun _ => rfl
  | cons p r ih =>
    obtain ⟨k, w⟩ := p
    simp only [Tab.wfAbove, Bool.and_eq_true, decide_eq_true_eq]
    intro ⟨⟨h1, h2⟩, h3⟩
    by_cases hk : k = i
    · subst hk
      have : Tab.erase ((k, w) :: r) k = Tab.erase r k := by simp [Tab.erase]
      rw [this]
      exact Tab.wfAbove_mono d _ (by omega) (ih h3)
    · have : Tab.erase ((k, w) :: r) i = (k, w) :: Tab.erase r i := by simp [Tab.erase, hk]
      rw [this]
      simp only [Tab.wfAbove, Bool.and_eq_true, decide_eq_true_eq]
      exact ⟨⟨h1, h2⟩, ih h3⟩

theorem Tab.wfAbove_put (d : α) (t : Tab α) (i : Nat) (v : α) {b : Nat} (hb : b ≤ i) (hv : v ≠ d)
    (hi : ∀ p ∈ t, p.1 ≠ i) : Tab.wfAbove d b t = true → Tab.wfAbove d b (Tab.put t i v) = true := by
  induction t generalizing b with
  | nil => intro _; simp [Tab.put, Tab.wfAbove, hb, hv]
  | cons p r ih =>
    obtain ⟨k, w⟩ := p
    have hk : k ≠ i := hi (k, w) (by simp)
    simp only [Tab.wfAbove, Bool.and_eq_true, decide_eq_true_eq]
    intro ⟨⟨h1, h2⟩, h3⟩
    unfold Tab.put
    split
    · next h =>
      simp only [Tab.wfAbove, Bool.and_eq_true, decide_eq_true_eq]
      exact ⟨⟨hb, hv⟩, ⟨⟨by omega, h2⟩, h3⟩⟩
    · next h =>
      simp only [Tab.wfAbove, Bool.and_eq_true, decide_eq_true_eq]
      exact ⟨⟨h1, h2⟩, ih (by omega) (fun p hp => hi p (by simp [hp])) h3⟩

/-- Writing an entry keeps the canonical form. -/
theorem Tab.wf_set (d : α) (t : Tab α) (i : Nat) (v : α) (h : Tab.wf d t = true) : Tab.wf d (Tab.set d t i v) = true := by
  unfold Tab.set
  split
  · exact Tab.wfAbove_erase d t i h
  · next hv => exact Tab.wfAbove_put d _ i v (Nat.zero_le i) hv (Tab.mem_erase t i) (Tab.wfAbove_erase d t i h)

/-- Changing an entry keeps the canonical form. -/
theorem Tab.wf_upd (d : α) (t : Tab α) (i : Nat) (f : α → α) (h : Tab.wf d t = true) : Tab.wf d (Tab.upd d t i f) = true :=
  Tab.wf_set d t i _ h

/-- Writing consecutive entries keeps the canonical form. -/
theorem Tab.wf_write (d : α) (t : Tab α) (i : Nat) (l : List α) (h : Tab.wf d t = true) : Tab.wf d (Tab.write d t i l) = true := by
  induction l generalizing t i with
  | nil => exact h
  | cons v r ih => exact ih _ _ (Tab.wf_set d t i v h)

/-- Writing consecutive entries leaves every index outside them. -/
theorem Tab.get_write_outside (d : α) (t : Tab α) (i : Nat) (l : List α) {j : Nat} (h : j < i ∨ i + l.length ≤ j) :
    Tab.get d (Tab.write d t i l) j = Tab.get d t j := by
  induction l generalizing t i with
  | nil => rfl
  | cons v r ih =>
    simp only [List.length_cons] at h
    show Tab.get d (Tab.write d (Tab.set d t i v) (i + 1) r) j = _
    rw [ih _ _ (by omega), Tab.get_set_ne d t v (by omega)]

/-- Reading back an entry just written. -/
theorem Tab.get_write_inside (d : α) (t : Tab α) (i : Nat) (l : List α) {j : Nat} (h1 : i ≤ j) (h2 : j < i + l.length) :
    Tab.get d (Tab.write d t i l) j = l.getD (j - i) d := by
  induction l generalizing t i with
  | nil => simp at h2; omega
  | cons v r ih =>
    simp only [List.length_cons] at h2
    show Tab.get d (Tab.write d (Tab.set d t i v) (i + 1) r) j = _
    by_cases h : j = i
    · subst h
      rw [Tab.get_write_outside d _ _ _ (by omega), Tab.get_set_self]
      simp
    · rw [ih _ _ (by omega) (by omega)]
      obtain ⟨n, hn⟩ : ∃ n, j - i = n + 1 := ⟨j - i - 1, by omega⟩
      rw [hn, show j - (i + 1) = n by omega]
      simp

omit [DecidableEq α] in
theorem Tab.read_length (d : α) (t : Tab α) (i n : Nat) : (Tab.read d t i n).length = n := by
  induction n generalizing i with
  | zero => rfl
  | succ n ih => simp [Tab.read, ih]

theorem Tab.read_getD (d e : α) (t : Tab α) (i n : Nat) {j : Nat} (h : j < n) :
    (Tab.read d t i n).getD j e = Tab.get d t (i + j) := by
  induction n generalizing i j with
  | zero => omega
  | succ n ih =>
    cases j with
    | zero => simp [Tab.read]
    | succ j =>
      have := ih (i := i + 1) (j := j) (by omega)
      simpa [Tab.read, Nat.add_assoc, Nat.add_comm 1 j] using this

end Sys2Proof.Machine
end

