-- ==== Sys2Proof/Laws/Counts.lean ====
section
/-! SUPPORT. The RS counters of a lane (R145): the histogram is changed entry by entry, and counts that are added, or
counted again as uncorrectable, leave RS_CW equal to RS_CW_UNCORR plus the histogram. -/

namespace Sys2Proof.Machine

/-- Consecutive entries changed one by one. -/
theorem get_foldl_upd (d : Nat → W64 → W64) (t : Tab W64) (m n : Nat) :
    Tab.get 0 ((List.range m).foldl (fun t i => Tab.upd 0 t i (d i)) t) n = if n < m then d n (Tab.get 0 t n) else Tab.get 0 t n := by
  induction m with
  | zero => simp
  | succ m ih =>
    rw [List.range_succ, List.foldl_append, List.foldl_cons, List.foldl_nil, Tab.get_upd]
    by_cases e : n = m
    · subst e; rw [if_pos rfl, if_pos (by omega), ih, if_neg (by omega)]
    · rw [if_neg e, ih]
      by_cases l : n < m
      · rw [if_pos l, if_pos (by omega)]
      · rw [if_neg l, if_neg (by omega)]

/-- The sum of sums. -/
theorem foldl_add_add (g d : Nat → W64) (u : W64) (m : Nat) :
    (List.range m).foldl (fun a n => a + (g n + d n)) u = (List.range m).foldl (fun a n => a + g n) u + (List.range m).foldl (fun a n => a + d n) 0 := by
  induction m with
  | zero => simp
  | succ m ih =>
    simp only [List.range_succ, List.foldl_append, List.foldl_cons, List.foldl_nil, ih]
    ac_rfl

theorem foldl_add_start (g : Nat → W64) (u v : W64) (m : Nat) :
    (List.range m).foldl (fun a n => a + g n) (u + v) = (List.range m).foldl (fun a n => a + g n) u + v := by
  induction m with
  | zero => simp
  | succ m ih =>
    simp only [List.range_succ, List.foldl_append, List.foldl_cons, List.foldl_nil, ih]
    ac_rfl

/-- The first `m` numbers of a list, added in 64 bits. -/
theorem foldl_getD (h : List Nat) (m : Nat) :
    (List.range m).foldl (fun a n => a + BitVec.ofNat 64 (h.getD n 0)) (0 : W64) = BitVec.ofNat 64 (h.take m).sum := by
  have k (m : Nat) : (h.take (m + 1)).sum = (h.take m).sum + h.getD m 0 := by
    induction h generalizing m with
    | nil => simp
    | cons x h ih => cases m with
      | zero => simp
      | succ m => simp [ih m, Nat.add_assoc]
  induction m with
  | zero => simp
  | succ m ih =>
    rw [List.range_succ, List.foldl_append, List.foldl_cons, List.foldl_nil, ih, k, BitVec.ofNat_add]

theorem foldl_neg (e : Nat → W64) (m : Nat) :
    (List.range m).foldl (fun a n => a + -e n) (0 : W64) = -(List.range m).foldl (fun a n => a + e n) 0 := by
  induction m with
  | zero => simp
  | succ m ih =>
    simp only [List.range_succ, List.foldl_append, List.foldl_cons, List.foldl_nil, ih]
    rw [BitVec.neg_add, BitVec.sub_eq_add_neg]

/-- The sum of a histogram that is changed entry by entry. -/
theorem hist_sum (t : Tab W64) (d : Nat → W64) (f : Nat → W64 → W64) (u : W64) (h : ∀ n v, f n v = v + d n) :
    (List.range 16).foldl (fun a n => a + Tab.get 0 ((List.range 16).foldl (fun t i => Tab.upd 0 t i (f i)) t) n) u
      = (List.range 16).foldl (fun a n => a + Tab.get 0 t n) u + (List.range 16).foldl (fun a n => a + d n) 0 := by
  rw [← foldl_add_add]
  have e : ∀ n, n ∈ List.range 16 → Tab.get 0 ((List.range 16).foldl (fun t i => Tab.upd 0 t i (f i)) t) n = Tab.get 0 t n + d n :=
    fun n hn => by rw [get_foldl_upd f, if_pos (List.mem_range.mp hn), h]
  generalize List.range 16 = l at e ⊢
  generalize l.foldl (fun t i => Tab.upd 0 t i (f i)) t = t1 at e
  induction l generalizing u with
  | nil => rfl
  | cons n l ih =>
    rw [List.foldl_cons, List.foldl_cons, e n (by simp)]
    exact ih _ (fun n hn => e n (by simp [hn]))

/-- Counts that were made are added: the counters agree as before (R145). -/
theorem FecCnt.agrees_tally (c k : FecCnt) (x : List Nat) (u : Nat) (h1 : k.rsCw = wrapAdd c.rsCw (u + (x.take 16).sum))
    (h2 : k.rsHist = (List.range 16).foldl (fun t n => Tab.upd 0 t n (fun v => wrapAdd v (x.getD n 0))) c.rsHist)
    (h3 : k.rsUncorr = wrapAdd c.rsUncorr u) : k.agrees = c.agrees := by
  unfold FecCnt.agrees
  rw [h1, h2, h3, hist_sum _ (fun n => BitVec.ofNat 64 (x.getD n 0)) (fun n v => wrapAdd v (x.getD n 0)) _ (fun n v => rfl), foldl_getD, wrapAdd, wrapAdd, foldl_add_start,
    BitVec.ofNat_add, ← BitVec.add_assoc, BitVec.add_left_inj, BitVec.add_left_inj]

/-- Codewords counted as corrected are counted as uncorrectable instead (R110). -/
theorem FecCnt.agrees_recount (c k : FecCnt) (x : List Nat) (h1 : k.rsCw = c.rsCw)
    (h2 : k.rsHist = (List.range 16).foldl (fun t n => Tab.upd 0 t n (fun v => v - BitVec.ofNat 64 (x.getD n 0))) c.rsHist)
    (h3 : k.rsUncorr = wrapAdd c.rsUncorr (x.take 16).sum) : k.agrees = c.agrees := by
  unfold FecCnt.agrees
  rw [h1, h2, h3, hist_sum _ (fun n => -BitVec.ofNat 64 (x.getD n 0)) (fun n v => v - BitVec.ofNat 64 (x.getD n 0)) _
      (fun n v => BitVec.sub_eq_add_neg _ _), foldl_neg, foldl_getD, wrapAdd,
    foldl_add_start, BitVec.add_assoc, BitVec.add_right_neg, BitVec.add_zero]

end Sys2Proof.Machine
end

