-- ==== Sys2Proof/Laws/State.lean ====
section
/-! SUPPORT. For each named update of State: what it reads afterwards, and that it leaves every other field. -/

namespace Sys2Proof.Machine

@[simp] theorem State.rxAt_rxMod_self (s : State) (i : Nat) (f) : (s.rxMod i f).rxAt i = f (s.rxAt i) := Tab.get_upd_self _ _ _ _
@[simp] theorem State.rxAt_rxMod_ne (s : State) {i j : Nat} (f) (h : j ≠ i) : (s.rxMod i f).rxAt j = s.rxAt j := Tab.get_upd_ne _ _ _ h
@[simp] theorem State.rxMod_sys (s : State) (i : Nat) (f) : (s.rxMod i f).sys = s.sys := rfl
@[simp] theorem State.rxMod_spi (s : State) (i : Nat) (f) : (s.rxMod i f).spi = s.spi := rfl
@[simp] theorem State.rxMod_irq (s : State) (i : Nat) (f) : (s.rxMod i f).irq = s.irq := rfl
@[simp] theorem State.rxMod_mbx (s : State) (i : Nat) (f) : (s.rxMod i f).mbx = s.mbx := rfl
@[simp] theorem State.rxMod_qry (s : State) (i : Nat) (f) : (s.rxMod i f).qry = s.qry := rfl
@[simp] theorem State.rxMod_pwr (s : State) (i : Nat) (f) : (s.rxMod i f).pwr = s.pwr := rfl
@[simp] theorem State.rxMod_skew (s : State) (i : Nat) (f) : (s.rxMod i f).skew = s.skew := rfl
@[simp] theorem State.rxMod_sram (s : State) (i : Nat) (f) : (s.rxMod i f).sram = s.sram := rfl
@[simp] theorem State.rxMod_sramBad (s : State) (i : Nat) (f) : (s.rxMod i f).sramBad = s.sramBad := rfl
@[simp] theorem State.rxMod_sramSoft (s : State) (i : Nat) (f) : (s.rxMod i f).sramSoft = s.sramSoft := rfl
@[simp] theorem State.rxMod_bank (s : State) (i : Nat) (f) : (s.rxMod i f).bank = s.bank := rfl
@[simp] theorem State.rxMod_calMem (s : State) (i : Nat) (f) : (s.rxMod i f).calMem = s.calMem := rfl
@[simp] theorem State.rxMod_cliMem (s : State) (i : Nat) (f) : (s.rxMod i f).cliMem = s.cliMem := rfl
@[simp] theorem State.rxMod_loopRej (s : State) (i : Nat) (f) : (s.rxMod i f).loopRej = s.loopRej := rfl
@[simp] theorem State.rxMod_loopSyn (s : State) (i : Nat) (f) : (s.rxMod i f).loopSyn = s.loopSyn := rfl
@[simp] theorem State.rxMod_tx (s : State) (i : Nat) (f) : (s.rxMod i f).tx = s.tx := rfl
@[simp] theorem State.rxMod_stretch (s : State) (i : Nat) (f) : (s.rxMod i f).stretch = s.stretch := rfl
@[simp] theorem State.rxMod_framer (s : State) (i : Nat) (f) : (s.rxMod i f).framer = s.framer := rfl
@[simp] theorem State.rxMod_mask (s : State) (i : Nat) (f) : (s.rxMod i f).mask = s.mask := rfl
@[simp] theorem State.rxMod_face (s : State) (i : Nat) (f) : (s.rxMod i f).face = s.face := rfl
@[simp] theorem State.rxMod_rxSlot (s : State) (i : Nat) (f) : (s.rxMod i f).rxSlot = s.rxSlot := rfl
@[simp] theorem State.rxMod_txSlot (s : State) (i : Nat) (f) : (s.rxMod i f).txSlot = s.txSlot := rfl
@[simp] theorem State.rxMod_client (s : State) (i : Nat) (f) : (s.rxMod i f).client = s.client := rfl
@[simp] theorem State.rxMod_streams (s : State) (i : Nat) (f) : (s.rxMod i f).streams = s.streams := rfl
@[simp] theorem State.rxMod_etype (s : State) (i : Nat) (f) : (s.rxMod i f).etype = s.etype := rfl
@[simp] theorem State.rxMod_port (s : State) (i : Nat) (f) : (s.rxMod i f).port = s.port := rfl
@[simp] theorem State.rxMod_hlane (s : State) (i : Nat) (f) : (s.rxMod i f).hlane = s.hlane := rfl
@[simp] theorem State.rxMod_nodeAddr (s : State) (i : Nat) (f) : (s.rxMod i f).nodeAddr = s.nodeAddr := rfl
@[simp] theorem State.rxMod_netId (s : State) (i : Nat) (f) : (s.rxMod i f).netId = s.netId := rfl
@[simp] theorem State.rxMod_icing (s : State) (i : Nat) (f) : (s.rxMod i f).icing = s.icing := rfl
@[simp] theorem State.rxMod_loop (s : State) (i : Nat) (f) : (s.rxMod i f).loop = s.loop := rfl
@[simp] theorem State.rxMod_core (s : State) (i : Nat) (f) : (s.rxMod i f).core = s.core := rfl
@[simp] theorem State.rxMod_bias (s : State) (i : Nat) (f) : (s.rxMod i f).bias = s.bias := rfl
@[simp] theorem State.rxMod_biasLow (s : State) (i : Nat) (f) : (s.rxMod i f).biasLow = s.biasLow := rfl
@[simp] theorem State.rxMod_madc (s : State) (i : Nat) (f) : (s.rxMod i f).madc = s.madc := rfl
@[simp] theorem State.rxMod_mon (s : State) (i : Nat) (f) : (s.rxMod i f).mon = s.mon := rfl
@[simp] theorem State.rxMod_cal (s : State) (i : Nat) (f) : (s.rxMod i f).cal = s.cal := rfl
@[simp] theorem State.rxMod_dma (s : State) (i : Nat) (f) : (s.rxMod i f).dma = s.dma := rfl
@[simp] theorem State.rxMod_tierp (s : State) (i : Nat) (f) : (s.rxMod i f).tierp = s.tierp := rfl
@[simp] theorem State.rxMod_resp (s : State) (i : Nat) (f) : (s.rxMod i f).resp = s.resp := rfl
@[simp] theorem State.rxMod_free (s : State) (i : Nat) (f) : (s.rxMod i f).free = s.free := rfl
@[simp] theorem State.rxMod_pending (s : State) (i : Nat) (f) : (s.rxMod i f).pending = s.pending := rfl

@[simp] theorem State.txAt_txMod_self (s : State) (i : Nat) (f) : (s.txMod i f).txAt i = f (s.txAt i) := Tab.get_upd_self _ _ _ _
@[simp] theorem State.txAt_txMod_ne (s : State) {i j : Nat} (f) (h : j ≠ i) : (s.txMod i f).txAt j = s.txAt j := Tab.get_upd_ne _ _ _ h
@[simp] theorem State.txMod_sys (s : State) (i : Nat) (f) : (s.txMod i f).sys = s.sys := rfl
@[simp] theorem State.txMod_spi (s : State) (i : Nat) (f) : (s.txMod i f).spi = s.spi := rfl
@[simp] theorem State.txMod_irq (s : State) (i : Nat) (f) : (s.txMod i f).irq = s.irq := rfl
@[simp] theorem State.txMod_mbx (s : State) (i : Nat) (f) : (s.txMod i f).mbx = s.mbx := rfl
@[simp] theorem State.txMod_qry (s : State) (i : Nat) (f) : (s.txMod i f).qry = s.qry := rfl
@[simp] theorem State.txMod_pwr (s : State) (i : Nat) (f) : (s.txMod i f).pwr = s.pwr := rfl
@[simp] theorem State.txMod_skew (s : State) (i : Nat) (f) : (s.txMod i f).skew = s.skew := rfl
@[simp] theorem State.txMod_sram (s : State) (i : Nat) (f) : (s.txMod i f).sram = s.sram := rfl
@[simp] theorem State.txMod_sramBad (s : State) (i : Nat) (f) : (s.txMod i f).sramBad = s.sramBad := rfl
@[simp] theorem State.txMod_sramSoft (s : State) (i : Nat) (f) : (s.txMod i f).sramSoft = s.sramSoft := rfl
@[simp] theorem State.txMod_bank (s : State) (i : Nat) (f) : (s.txMod i f).bank = s.bank := rfl
@[simp] theorem State.txMod_calMem (s : State) (i : Nat) (f) : (s.txMod i f).calMem = s.calMem := rfl
@[simp] theorem State.txMod_cliMem (s : State) (i : Nat) (f) : (s.txMod i f).cliMem = s.cliMem := rfl
@[simp] theorem State.txMod_loopRej (s : State) (i : Nat) (f) : (s.txMod i f).loopRej = s.loopRej := rfl
@[simp] theorem State.txMod_loopSyn (s : State) (i : Nat) (f) : (s.txMod i f).loopSyn = s.loopSyn := rfl
@[simp] theorem State.txMod_rx (s : State) (i : Nat) (f) : (s.txMod i f).rx = s.rx := rfl
@[simp] theorem State.txMod_stretch (s : State) (i : Nat) (f) : (s.txMod i f).stretch = s.stretch := rfl
@[simp] theorem State.txMod_framer (s : State) (i : Nat) (f) : (s.txMod i f).framer = s.framer := rfl
@[simp] theorem State.txMod_mask (s : State) (i : Nat) (f) : (s.txMod i f).mask = s.mask := rfl
@[simp] theorem State.txMod_face (s : State) (i : Nat) (f) : (s.txMod i f).face = s.face := rfl
@[simp] theorem State.txMod_rxSlot (s : State) (i : Nat) (f) : (s.txMod i f).rxSlot = s.rxSlot := rfl
@[simp] theorem State.txMod_txSlot (s : State) (i : Nat) (f) : (s.txMod i f).txSlot = s.txSlot := rfl
@[simp] theorem State.txMod_client (s : State) (i : Nat) (f) : (s.txMod i f).client = s.client := rfl
@[simp] theorem State.txMod_streams (s : State) (i : Nat) (f) : (s.txMod i f).streams = s.streams := rfl
@[simp] theorem State.txMod_etype (s : State) (i : Nat) (f) : (s.txMod i f).etype = s.etype := rfl
@[simp] theorem State.txMod_port (s : State) (i : Nat) (f) : (s.txMod i f).port = s.port := rfl
@[simp] theorem State.txMod_hlane (s : State) (i : Nat) (f) : (s.txMod i f).hlane = s.hlane := rfl
@[simp] theorem State.txMod_nodeAddr (s : State) (i : Nat) (f) : (s.txMod i f).nodeAddr = s.nodeAddr := rfl
@[simp] theorem State.txMod_netId (s : State) (i : Nat) (f) : (s.txMod i f).netId = s.netId := rfl
@[simp] theorem State.txMod_icing (s : State) (i : Nat) (f) : (s.txMod i f).icing = s.icing := rfl
@[simp] theorem State.txMod_loop (s : State) (i : Nat) (f) : (s.txMod i f).loop = s.loop := rfl
@[simp] theorem State.txMod_core (s : State) (i : Nat) (f) : (s.txMod i f).core = s.core := rfl
@[simp] theorem State.txMod_bias (s : State) (i : Nat) (f) : (s.txMod i f).bias = s.bias := rfl
@[simp] theorem State.txMod_biasLow (s : State) (i : Nat) (f) : (s.txMod i f).biasLow = s.biasLow := rfl
@[simp] theorem State.txMod_madc (s : State) (i : Nat) (f) : (s.txMod i f).madc = s.madc := rfl
@[simp] theorem State.txMod_mon (s : State) (i : Nat) (f) : (s.txMod i f).mon = s.mon := rfl
@[simp] theorem State.txMod_cal (s : State) (i : Nat) (f) : (s.txMod i f).cal = s.cal := rfl
@[simp] theorem State.txMod_dma (s : State) (i : Nat) (f) : (s.txMod i f).dma = s.dma := rfl
@[simp] theorem State.txMod_tierp (s : State) (i : Nat) (f) : (s.txMod i f).tierp = s.tierp := rfl
@[simp] theorem State.txMod_resp (s : State) (i : Nat) (f) : (s.txMod i f).resp = s.resp := rfl
@[simp] theorem State.txMod_free (s : State) (i : Nat) (f) : (s.txMod i f).free = s.free := rfl
@[simp] theorem State.txMod_pending (s : State) (i : Nat) (f) : (s.txMod i f).pending = s.pending := rfl

@[simp] theorem State.stretchAt_stretchMod_self (s : State) (i : Nat) (f) : (s.stretchMod i f).stretchAt i = f (s.stretchAt i) := Tab.get_upd_self _ _ _ _
@[simp] theorem State.stretchAt_stretchMod_ne (s : State) {i j : Nat} (f) (h : j ≠ i) : (s.stretchMod i f).stretchAt j = s.stretchAt j := Tab.get_upd_ne _ _ _ h
@[simp] theorem State.stretchMod_sys (s : State) (i : Nat) (f) : (s.stretchMod i f).sys = s.sys := rfl
@[simp] theorem State.stretchMod_spi (s : State) (i : Nat) (f) : (s.stretchMod i f).spi = s.spi := rfl
@[simp] theorem State.stretchMod_irq (s : State) (i : Nat) (f) : (s.stretchMod i f).irq = s.irq := rfl
@[simp] theorem State.stretchMod_mbx (s : State) (i : Nat) (f) : (s.stretchMod i f).mbx = s.mbx := rfl
@[simp] theorem State.stretchMod_qry (s : State) (i : Nat) (f) : (s.stretchMod i f).qry = s.qry := rfl
@[simp] theorem State.stretchMod_pwr (s : State) (i : Nat) (f) : (s.stretchMod i f).pwr = s.pwr := rfl
@[simp] theorem State.stretchMod_skew (s : State) (i : Nat) (f) : (s.stretchMod i f).skew = s.skew := rfl
@[simp] theorem State.stretchMod_sram (s : State) (i : Nat) (f) : (s.stretchMod i f).sram = s.sram := rfl
@[simp] theorem State.stretchMod_sramBad (s : State) (i : Nat) (f) : (s.stretchMod i f).sramBad = s.sramBad := rfl
@[simp] theorem State.stretchMod_sramSoft (s : State) (i : Nat) (f) : (s.stretchMod i f).sramSoft = s.sramSoft := rfl
@[simp] theorem State.stretchMod_bank (s : State) (i : Nat) (f) : (s.stretchMod i f).bank = s.bank := rfl
@[simp] theorem State.stretchMod_calMem (s : State) (i : Nat) (f) : (s.stretchMod i f).calMem = s.calMem := rfl
@[simp] theorem State.stretchMod_cliMem (s : State) (i : Nat) (f) : (s.stretchMod i f).cliMem = s.cliMem := rfl
@[simp] theorem State.stretchMod_loopRej (s : State) (i : Nat) (f) : (s.stretchMod i f).loopRej = s.loopRej := rfl
@[simp] theorem State.stretchMod_loopSyn (s : State) (i : Nat) (f) : (s.stretchMod i f).loopSyn = s.loopSyn := rfl
@[simp] theorem State.stretchMod_rx (s : State) (i : Nat) (f) : (s.stretchMod i f).rx = s.rx := rfl
@[simp] theorem State.stretchMod_tx (s : State) (i : Nat) (f) : (s.stretchMod i f).tx = s.tx := rfl
@[simp] theorem State.stretchMod_framer (s : State) (i : Nat) (f) : (s.stretchMod i f).framer = s.framer := rfl
@[simp] theorem State.stretchMod_mask (s : State) (i : Nat) (f) : (s.stretchMod i f).mask = s.mask := rfl
@[simp] theorem State.stretchMod_face (s : State) (i : Nat) (f) : (s.stretchMod i f).face = s.face := rfl
@[simp] theorem State.stretchMod_rxSlot (s : State) (i : Nat) (f) : (s.stretchMod i f).rxSlot = s.rxSlot := rfl
@[simp] theorem State.stretchMod_txSlot (s : State) (i : Nat) (f) : (s.stretchMod i f).txSlot = s.txSlot := rfl
@[simp] theorem State.stretchMod_client (s : State) (i : Nat) (f) : (s.stretchMod i f).client = s.client := rfl
@[simp] theorem State.stretchMod_streams (s : State) (i : Nat) (f) : (s.stretchMod i f).streams = s.streams := rfl
@[simp] theorem State.stretchMod_etype (s : State) (i : Nat) (f) : (s.stretchMod i f).etype = s.etype := rfl
@[simp] theorem State.stretchMod_port (s : State) (i : Nat) (f) : (s.stretchMod i f).port = s.port := rfl
@[simp] theorem State.stretchMod_hlane (s : State) (i : Nat) (f) : (s.stretchMod i f).hlane = s.hlane := rfl
@[simp] theorem State.stretchMod_nodeAddr (s : State) (i : Nat) (f) : (s.stretchMod i f).nodeAddr = s.nodeAddr := rfl
@[simp] theorem State.stretchMod_netId (s : State) (i : Nat) (f) : (s.stretchMod i f).netId = s.netId := rfl
@[simp] theorem State.stretchMod_icing (s : State) (i : Nat) (f) : (s.stretchMod i f).icing = s.icing := rfl
@[simp] theorem State.stretchMod_loop (s : State) (i : Nat) (f) : (s.stretchMod i f).loop = s.loop := rfl
@[simp] theorem State.stretchMod_core (s : State) (i : Nat) (f) : (s.stretchMod i f).core = s.core := rfl
@[simp] theorem State.stretchMod_bias (s : State) (i : Nat) (f) : (s.stretchMod i f).bias = s.bias := rfl
@[simp] theorem State.stretchMod_biasLow (s : State) (i : Nat) (f) : (s.stretchMod i f).biasLow = s.biasLow := rfl
@[simp] theorem State.stretchMod_madc (s : State) (i : Nat) (f) : (s.stretchMod i f).madc = s.madc := rfl
@[simp] theorem State.stretchMod_mon (s : State) (i : Nat) (f) : (s.stretchMod i f).mon = s.mon := rfl
@[simp] theorem State.stretchMod_cal (s : State) (i : Nat) (f) : (s.stretchMod i f).cal = s.cal := rfl
@[simp] theorem State.stretchMod_dma (s : State) (i : Nat) (f) : (s.stretchMod i f).dma = s.dma := rfl
@[simp] theorem State.stretchMod_tierp (s : State) (i : Nat) (f) : (s.stretchMod i f).tierp = s.tierp := rfl
@[simp] theorem State.stretchMod_resp (s : State) (i : Nat) (f) : (s.stretchMod i f).resp = s.resp := rfl
@[simp] theorem State.stretchMod_free (s : State) (i : Nat) (f) : (s.stretchMod i f).free = s.free := rfl
@[simp] theorem State.stretchMod_pending (s : State) (i : Nat) (f) : (s.stretchMod i f).pending = s.pending := rfl

@[simp] theorem State.framerAt_framerMod_self (s : State) (i : Nat) (f) : (s.framerMod i f).framerAt i = f (s.framerAt i) := Tab.get_upd_self _ _ _ _
@[simp] theorem State.framerAt_framerMod_ne (s : State) {i j : Nat} (f) (h : j ≠ i) : (s.framerMod i f).framerAt j = s.framerAt j := Tab.get_upd_ne _ _ _ h
@[simp] theorem State.framerMod_sys (s : State) (i : Nat) (f) : (s.framerMod i f).sys = s.sys := rfl
@[simp] theorem State.framerMod_spi (s : State) (i : Nat) (f) : (s.framerMod i f).spi = s.spi := rfl
@[simp] theorem State.framerMod_irq (s : State) (i : Nat) (f) : (s.framerMod i f).irq = s.irq := rfl
@[simp] theorem State.framerMod_mbx (s : State) (i : Nat) (f) : (s.framerMod i f).mbx = s.mbx := rfl
@[simp] theorem State.framerMod_qry (s : State) (i : Nat) (f) : (s.framerMod i f).qry = s.qry := rfl
@[simp] theorem State.framerMod_pwr (s : State) (i : Nat) (f) : (s.framerMod i f).pwr = s.pwr := rfl
@[simp] theorem State.framerMod_skew (s : State) (i : Nat) (f) : (s.framerMod i f).skew = s.skew := rfl
@[simp] theorem State.framerMod_sram (s : State) (i : Nat) (f) : (s.framerMod i f).sram = s.sram := rfl
@[simp] theorem State.framerMod_sramBad (s : State) (i : Nat) (f) : (s.framerMod i f).sramBad = s.sramBad := rfl
@[simp] theorem State.framerMod_sramSoft (s : State) (i : Nat) (f) : (s.framerMod i f).sramSoft = s.sramSoft := rfl
@[simp] theorem State.framerMod_bank (s : State) (i : Nat) (f) : (s.framerMod i f).bank = s.bank := rfl
@[simp] theorem State.framerMod_calMem (s : State) (i : Nat) (f) : (s.framerMod i f).calMem = s.calMem := rfl
@[simp] theorem State.framerMod_cliMem (s : State) (i : Nat) (f) : (s.framerMod i f).cliMem = s.cliMem := rfl
@[simp] theorem State.framerMod_loopRej (s : State) (i : Nat) (f) : (s.framerMod i f).loopRej = s.loopRej := rfl
@[simp] theorem State.framerMod_loopSyn (s : State) (i : Nat) (f) : (s.framerMod i f).loopSyn = s.loopSyn := rfl
@[simp] theorem State.framerMod_rx (s : State) (i : Nat) (f) : (s.framerMod i f).rx = s.rx := rfl
@[simp] theorem State.framerMod_tx (s : State) (i : Nat) (f) : (s.framerMod i f).tx = s.tx := rfl
@[simp] theorem State.framerMod_stretch (s : State) (i : Nat) (f) : (s.framerMod i f).stretch = s.stretch := rfl
@[simp] theorem State.framerMod_mask (s : State) (i : Nat) (f) : (s.framerMod i f).mask = s.mask := rfl
@[simp] theorem State.framerMod_face (s : State) (i : Nat) (f) : (s.framerMod i f).face = s.face := rfl
@[simp] theorem State.framerMod_rxSlot (s : State) (i : Nat) (f) : (s.framerMod i f).rxSlot = s.rxSlot := rfl
@[simp] theorem State.framerMod_txSlot (s : State) (i : Nat) (f) : (s.framerMod i f).txSlot = s.txSlot := rfl
@[simp] theorem State.framerMod_client (s : State) (i : Nat) (f) : (s.framerMod i f).client = s.client := rfl
@[simp] theorem State.framerMod_streams (s : State) (i : Nat) (f) : (s.framerMod i f).streams = s.streams := rfl
@[simp] theorem State.framerMod_etype (s : State) (i : Nat) (f) : (s.framerMod i f).etype = s.etype := rfl
@[simp] theorem State.framerMod_port (s : State) (i : Nat) (f) : (s.framerMod i f).port = s.port := rfl
@[simp] theorem State.framerMod_hlane (s : State) (i : Nat) (f) : (s.framerMod i f).hlane = s.hlane := rfl
@[simp] theorem State.framerMod_nodeAddr (s : State) (i : Nat) (f) : (s.framerMod i f).nodeAddr = s.nodeAddr := rfl
@[simp] theorem State.framerMod_netId (s : State) (i : Nat) (f) : (s.framerMod i f).netId = s.netId := rfl
@[simp] theorem State.framerMod_icing (s : State) (i : Nat) (f) : (s.framerMod i f).icing = s.icing := rfl
@[simp] theorem State.framerMod_loop (s : State) (i : Nat) (f) : (s.framerMod i f).loop = s.loop := rfl
@[simp] theorem State.framerMod_core (s : State) (i : Nat) (f) : (s.framerMod i f).core = s.core := rfl
@[simp] theorem State.framerMod_bias (s : State) (i : Nat) (f) : (s.framerMod i f).bias = s.bias := rfl
@[simp] theorem State.framerMod_biasLow (s : State) (i : Nat) (f) : (s.framerMod i f).biasLow = s.biasLow := rfl
@[simp] theorem State.framerMod_madc (s : State) (i : Nat) (f) : (s.framerMod i f).madc = s.madc := rfl
@[simp] theorem State.framerMod_mon (s : State) (i : Nat) (f) : (s.framerMod i f).mon = s.mon := rfl
@[simp] theorem State.framerMod_cal (s : State) (i : Nat) (f) : (s.framerMod i f).cal = s.cal := rfl
@[simp] theorem State.framerMod_dma (s : State) (i : Nat) (f) : (s.framerMod i f).dma = s.dma := rfl
@[simp] theorem State.framerMod_tierp (s : State) (i : Nat) (f) : (s.framerMod i f).tierp = s.tierp := rfl
@[simp] theorem State.framerMod_resp (s : State) (i : Nat) (f) : (s.framerMod i f).resp = s.resp := rfl
@[simp] theorem State.framerMod_free (s : State) (i : Nat) (f) : (s.framerMod i f).free = s.free := rfl
@[simp] theorem State.framerMod_pending (s : State) (i : Nat) (f) : (s.framerMod i f).pending = s.pending := rfl

@[simp] theorem State.maskAt_maskMod_self (s : State) (i : Nat) (f) : (s.maskMod i f).maskAt i = f (s.maskAt i) := Tab.get_upd_self _ _ _ _
@[simp] theorem State.maskAt_maskMod_ne (s : State) {i j : Nat} (f) (h : j ≠ i) : (s.maskMod i f).maskAt j = s.maskAt j := Tab.get_upd_ne _ _ _ h
@[simp] theorem State.maskMod_sys (s : State) (i : Nat) (f) : (s.maskMod i f).sys = s.sys := rfl
@[simp] theorem State.maskMod_spi (s : State) (i : Nat) (f) : (s.maskMod i f).spi = s.spi := rfl
@[simp] theorem State.maskMod_irq (s : State) (i : Nat) (f) : (s.maskMod i f).irq = s.irq := rfl
@[simp] theorem State.maskMod_mbx (s : State) (i : Nat) (f) : (s.maskMod i f).mbx = s.mbx := rfl
@[simp] theorem State.maskMod_qry (s : State) (i : Nat) (f) : (s.maskMod i f).qry = s.qry := rfl
@[simp] theorem State.maskMod_pwr (s : State) (i : Nat) (f) : (s.maskMod i f).pwr = s.pwr := rfl
@[simp] theorem State.maskMod_skew (s : State) (i : Nat) (f) : (s.maskMod i f).skew = s.skew := rfl
@[simp] theorem State.maskMod_sram (s : State) (i : Nat) (f) : (s.maskMod i f).sram = s.sram := rfl
@[simp] theorem State.maskMod_sramBad (s : State) (i : Nat) (f) : (s.maskMod i f).sramBad = s.sramBad := rfl
@[simp] theorem State.maskMod_sramSoft (s : State) (i : Nat) (f) : (s.maskMod i f).sramSoft = s.sramSoft := rfl
@[simp] theorem State.maskMod_bank (s : State) (i : Nat) (f) : (s.maskMod i f).bank = s.bank := rfl
@[simp] theorem State.maskMod_calMem (s : State) (i : Nat) (f) : (s.maskMod i f).calMem = s.calMem := rfl
@[simp] theorem State.maskMod_cliMem (s : State) (i : Nat) (f) : (s.maskMod i f).cliMem = s.cliMem := rfl
@[simp] theorem State.maskMod_loopRej (s : State) (i : Nat) (f) : (s.maskMod i f).loopRej = s.loopRej := rfl
@[simp] theorem State.maskMod_loopSyn (s : State) (i : Nat) (f) : (s.maskMod i f).loopSyn = s.loopSyn := rfl
@[simp] theorem State.maskMod_rx (s : State) (i : Nat) (f) : (s.maskMod i f).rx = s.rx := rfl
@[simp] theorem State.maskMod_tx (s : State) (i : Nat) (f) : (s.maskMod i f).tx = s.tx := rfl
@[simp] theorem State.maskMod_stretch (s : State) (i : Nat) (f) : (s.maskMod i f).stretch = s.stretch := rfl
@[simp] theorem State.maskMod_framer (s : State) (i : Nat) (f) : (s.maskMod i f).framer = s.framer := rfl
@[simp] theorem State.maskMod_face (s : State) (i : Nat) (f) : (s.maskMod i f).face = s.face := rfl
@[simp] theorem State.maskMod_rxSlot (s : State) (i : Nat) (f) : (s.maskMod i f).rxSlot = s.rxSlot := rfl
@[simp] theorem State.maskMod_txSlot (s : State) (i : Nat) (f) : (s.maskMod i f).txSlot = s.txSlot := rfl
@[simp] theorem State.maskMod_client (s : State) (i : Nat) (f) : (s.maskMod i f).client = s.client := rfl
@[simp] theorem State.maskMod_streams (s : State) (i : Nat) (f) : (s.maskMod i f).streams = s.streams := rfl
@[simp] theorem State.maskMod_etype (s : State) (i : Nat) (f) : (s.maskMod i f).etype = s.etype := rfl
@[simp] theorem State.maskMod_port (s : State) (i : Nat) (f) : (s.maskMod i f).port = s.port := rfl
@[simp] theorem State.maskMod_hlane (s : State) (i : Nat) (f) : (s.maskMod i f).hlane = s.hlane := rfl
@[simp] theorem State.maskMod_nodeAddr (s : State) (i : Nat) (f) : (s.maskMod i f).nodeAddr = s.nodeAddr := rfl
@[simp] theorem State.maskMod_netId (s : State) (i : Nat) (f) : (s.maskMod i f).netId = s.netId := rfl
@[simp] theorem State.maskMod_icing (s : State) (i : Nat) (f) : (s.maskMod i f).icing = s.icing := rfl
@[simp] theorem State.maskMod_loop (s : State) (i : Nat) (f) : (s.maskMod i f).loop = s.loop := rfl
@[simp] theorem State.maskMod_core (s : State) (i : Nat) (f) : (s.maskMod i f).core = s.core := rfl
@[simp] theorem State.maskMod_bias (s : State) (i : Nat) (f) : (s.maskMod i f).bias = s.bias := rfl
@[simp] theorem State.maskMod_biasLow (s : State) (i : Nat) (f) : (s.maskMod i f).biasLow = s.biasLow := rfl
@[simp] theorem State.maskMod_madc (s : State) (i : Nat) (f) : (s.maskMod i f).madc = s.madc := rfl
@[simp] theorem State.maskMod_mon (s : State) (i : Nat) (f) : (s.maskMod i f).mon = s.mon := rfl
@[simp] theorem State.maskMod_cal (s : State) (i : Nat) (f) : (s.maskMod i f).cal = s.cal := rfl
@[simp] theorem State.maskMod_dma (s : State) (i : Nat) (f) : (s.maskMod i f).dma = s.dma := rfl
@[simp] theorem State.maskMod_tierp (s : State) (i : Nat) (f) : (s.maskMod i f).tierp = s.tierp := rfl
@[simp] theorem State.maskMod_resp (s : State) (i : Nat) (f) : (s.maskMod i f).resp = s.resp := rfl
@[simp] theorem State.maskMod_free (s : State) (i : Nat) (f) : (s.maskMod i f).free = s.free := rfl
@[simp] theorem State.maskMod_pending (s : State) (i : Nat) (f) : (s.maskMod i f).pending = s.pending := rfl

@[simp] theorem State.faceAt_faceMod_self (s : State) (i : Nat) (f) : (s.faceMod i f).faceAt i = f (s.faceAt i) := Tab.get_upd_self _ _ _ _
@[simp] theorem State.faceAt_faceMod_ne (s : State) {i j : Nat} (f) (h : j ≠ i) : (s.faceMod i f).faceAt j = s.faceAt j := Tab.get_upd_ne _ _ _ h
@[simp] theorem State.faceMod_sys (s : State) (i : Nat) (f) : (s.faceMod i f).sys = s.sys := rfl
@[simp] theorem State.faceMod_spi (s : State) (i : Nat) (f) : (s.faceMod i f).spi = s.spi := rfl
@[simp] theorem State.faceMod_irq (s : State) (i : Nat) (f) : (s.faceMod i f).irq = s.irq := rfl
@[simp] theorem State.faceMod_mbx (s : State) (i : Nat) (f) : (s.faceMod i f).mbx = s.mbx := rfl
@[simp] theorem State.faceMod_qry (s : State) (i : Nat) (f) : (s.faceMod i f).qry = s.qry := rfl
@[simp] theorem State.faceMod_pwr (s : State) (i : Nat) (f) : (s.faceMod i f).pwr = s.pwr := rfl
@[simp] theorem State.faceMod_skew (s : State) (i : Nat) (f) : (s.faceMod i f).skew = s.skew := rfl
@[simp] theorem State.faceMod_sram (s : State) (i : Nat) (f) : (s.faceMod i f).sram = s.sram := rfl
@[simp] theorem State.faceMod_sramBad (s : State) (i : Nat) (f) : (s.faceMod i f).sramBad = s.sramBad := rfl
@[simp] theorem State.faceMod_sramSoft (s : State) (i : Nat) (f) : (s.faceMod i f).sramSoft = s.sramSoft := rfl
@[simp] theorem State.faceMod_bank (s : State) (i : Nat) (f) : (s.faceMod i f).bank = s.bank := rfl
@[simp] theorem State.faceMod_calMem (s : State) (i : Nat) (f) : (s.faceMod i f).calMem = s.calMem := rfl
@[simp] theorem State.faceMod_cliMem (s : State) (i : Nat) (f) : (s.faceMod i f).cliMem = s.cliMem := rfl
@[simp] theorem State.faceMod_loopRej (s : State) (i : Nat) (f) : (s.faceMod i f).loopRej = s.loopRej := rfl
@[simp] theorem State.faceMod_loopSyn (s : State) (i : Nat) (f) : (s.faceMod i f).loopSyn = s.loopSyn := rfl
@[simp] theorem State.faceMod_rx (s : State) (i : Nat) (f) : (s.faceMod i f).rx = s.rx := rfl
@[simp] theorem State.faceMod_tx (s : State) (i : Nat) (f) : (s.faceMod i f).tx = s.tx := rfl
@[simp] theorem State.faceMod_stretch (s : State) (i : Nat) (f) : (s.faceMod i f).stretch = s.stretch := rfl
@[simp] theorem State.faceMod_framer (s : State) (i : Nat) (f) : (s.faceMod i f).framer = s.framer := rfl
@[simp] theorem State.faceMod_mask (s : State) (i : Nat) (f) : (s.faceMod i f).mask = s.mask := rfl
@[simp] theorem State.faceMod_rxSlot (s : State) (i : Nat) (f) : (s.faceMod i f).rxSlot = s.rxSlot := rfl
@[simp] theorem State.faceMod_txSlot (s : State) (i : Nat) (f) : (s.faceMod i f).txSlot = s.txSlot := rfl
@[simp] theorem State.faceMod_client (s : State) (i : Nat) (f) : (s.faceMod i f).client = s.client := rfl
@[simp] theorem State.faceMod_streams (s : State) (i : Nat) (f) : (s.faceMod i f).streams = s.streams := rfl
@[simp] theorem State.faceMod_etype (s : State) (i : Nat) (f) : (s.faceMod i f).etype = s.etype := rfl
@[simp] theorem State.faceMod_port (s : State) (i : Nat) (f) : (s.faceMod i f).port = s.port := rfl
@[simp] theorem State.faceMod_hlane (s : State) (i : Nat) (f) : (s.faceMod i f).hlane = s.hlane := rfl
@[simp] theorem State.faceMod_nodeAddr (s : State) (i : Nat) (f) : (s.faceMod i f).nodeAddr = s.nodeAddr := rfl
@[simp] theorem State.faceMod_netId (s : State) (i : Nat) (f) : (s.faceMod i f).netId = s.netId := rfl
@[simp] theorem State.faceMod_icing (s : State) (i : Nat) (f) : (s.faceMod i f).icing = s.icing := rfl
@[simp] theorem State.faceMod_loop (s : State) (i : Nat) (f) : (s.faceMod i f).loop = s.loop := rfl
@[simp] theorem State.faceMod_core (s : State) (i : Nat) (f) : (s.faceMod i f).core = s.core := rfl
@[simp] theorem State.faceMod_bias (s : State) (i : Nat) (f) : (s.faceMod i f).bias = s.bias := rfl
@[simp] theorem State.faceMod_biasLow (s : State) (i : Nat) (f) : (s.faceMod i f).biasLow = s.biasLow := rfl
@[simp] theorem State.faceMod_madc (s : State) (i : Nat) (f) : (s.faceMod i f).madc = s.madc := rfl
@[simp] theorem State.faceMod_mon (s : State) (i : Nat) (f) : (s.faceMod i f).mon = s.mon := rfl
@[simp] theorem State.faceMod_cal (s : State) (i : Nat) (f) : (s.faceMod i f).cal = s.cal := rfl
@[simp] theorem State.faceMod_dma (s : State) (i : Nat) (f) : (s.faceMod i f).dma = s.dma := rfl
@[simp] theorem State.faceMod_tierp (s : State) (i : Nat) (f) : (s.faceMod i f).tierp = s.tierp := rfl
@[simp] theorem State.faceMod_resp (s : State) (i : Nat) (f) : (s.faceMod i f).resp = s.resp := rfl
@[simp] theorem State.faceMod_free (s : State) (i : Nat) (f) : (s.faceMod i f).free = s.free := rfl
@[simp] theorem State.faceMod_pending (s : State) (i : Nat) (f) : (s.faceMod i f).pending = s.pending := rfl

@[simp] theorem State.rxSlotAt_rxSlotMod_self (s : State) (i : Nat) (f) : (s.rxSlotMod i f).rxSlotAt i = f (s.rxSlotAt i) := Tab.get_upd_self _ _ _ _
@[simp] theorem State.rxSlotAt_rxSlotMod_ne (s : State) {i j : Nat} (f) (h : j ≠ i) : (s.rxSlotMod i f).rxSlotAt j = s.rxSlotAt j := Tab.get_upd_ne _ _ _ h
@[simp] theorem State.rxSlotMod_sys (s : State) (i : Nat) (f) : (s.rxSlotMod i f).sys = s.sys := rfl
@[simp] theorem State.rxSlotMod_spi (s : State) (i : Nat) (f) : (s.rxSlotMod i f).spi = s.spi := rfl
@[simp] theorem State.rxSlotMod_irq (s : State) (i : Nat) (f) : (s.rxSlotMod i f).irq = s.irq := rfl
@[simp] theorem State.rxSlotMod_mbx (s : State) (i : Nat) (f) : (s.rxSlotMod i f).mbx = s.mbx := rfl
@[simp] theorem State.rxSlotMod_qry (s : State) (i : Nat) (f) : (s.rxSlotMod i f).qry = s.qry := rfl
@[simp] theorem State.rxSlotMod_pwr (s : State) (i : Nat) (f) : (s.rxSlotMod i f).pwr = s.pwr := rfl
@[simp] theorem State.rxSlotMod_skew (s : State) (i : Nat) (f) : (s.rxSlotMod i f).skew = s.skew := rfl
@[simp] theorem State.rxSlotMod_sram (s : State) (i : Nat) (f) : (s.rxSlotMod i f).sram = s.sram := rfl
@[simp] theorem State.rxSlotMod_sramBad (s : State) (i : Nat) (f) : (s.rxSlotMod i f).sramBad = s.sramBad := rfl
@[simp] theorem State.rxSlotMod_sramSoft (s : State) (i : Nat) (f) : (s.rxSlotMod i f).sramSoft = s.sramSoft := rfl
@[simp] theorem State.rxSlotMod_bank (s : State) (i : Nat) (f) : (s.rxSlotMod i f).bank = s.bank := rfl
@[simp] theorem State.rxSlotMod_calMem (s : State) (i : Nat) (f) : (s.rxSlotMod i f).calMem = s.calMem := rfl
@[simp] theorem State.rxSlotMod_cliMem (s : State) (i : Nat) (f) : (s.rxSlotMod i f).cliMem = s.cliMem := rfl
@[simp] theorem State.rxSlotMod_loopRej (s : State) (i : Nat) (f) : (s.rxSlotMod i f).loopRej = s.loopRej := rfl
@[simp] theorem State.rxSlotMod_loopSyn (s : State) (i : Nat) (f) : (s.rxSlotMod i f).loopSyn = s.loopSyn := rfl
@[simp] theorem State.rxSlotMod_rx (s : State) (i : Nat) (f) : (s.rxSlotMod i f).rx = s.rx := rfl
@[simp] theorem State.rxSlotMod_tx (s : State) (i : Nat) (f) : (s.rxSlotMod i f).tx = s.tx := rfl
@[simp] theorem State.rxSlotMod_stretch (s : State) (i : Nat) (f) : (s.rxSlotMod i f).stretch = s.stretch := rfl
@[simp] theorem State.rxSlotMod_framer (s : State) (i : Nat) (f) : (s.rxSlotMod i f).framer = s.framer := rfl
@[simp] theorem State.rxSlotMod_mask (s : State) (i : Nat) (f) : (s.rxSlotMod i f).mask = s.mask := rfl
@[simp] theorem State.rxSlotMod_face (s : State) (i : Nat) (f) : (s.rxSlotMod i f).face = s.face := rfl
@[simp] theorem State.rxSlotMod_txSlot (s : State) (i : Nat) (f) : (s.rxSlotMod i f).txSlot = s.txSlot := rfl
@[simp] theorem State.rxSlotMod_client (s : State) (i : Nat) (f) : (s.rxSlotMod i f).client = s.client := rfl
@[simp] theorem State.rxSlotMod_streams (s : State) (i : Nat) (f) : (s.rxSlotMod i f).streams = s.streams := rfl
@[simp] theorem State.rxSlotMod_etype (s : State) (i : Nat) (f) : (s.rxSlotMod i f).etype = s.etype := rfl
@[simp] theorem State.rxSlotMod_port (s : State) (i : Nat) (f) : (s.rxSlotMod i f).port = s.port := rfl
@[simp] theorem State.rxSlotMod_hlane (s : State) (i : Nat) (f) : (s.rxSlotMod i f).hlane = s.hlane := rfl
@[simp] theorem State.rxSlotMod_nodeAddr (s : State) (i : Nat) (f) : (s.rxSlotMod i f).nodeAddr = s.nodeAddr := rfl
@[simp] theorem State.rxSlotMod_netId (s : State) (i : Nat) (f) : (s.rxSlotMod i f).netId = s.netId := rfl
@[simp] theorem State.rxSlotMod_icing (s : State) (i : Nat) (f) : (s.rxSlotMod i f).icing = s.icing := rfl
@[simp] theorem State.rxSlotMod_loop (s : State) (i : Nat) (f) : (s.rxSlotMod i f).loop = s.loop := rfl
@[simp] theorem State.rxSlotMod_core (s : State) (i : Nat) (f) : (s.rxSlotMod i f).core = s.core := rfl
@[simp] theorem State.rxSlotMod_bias (s : State) (i : Nat) (f) : (s.rxSlotMod i f).bias = s.bias := rfl
@[simp] theorem State.rxSlotMod_biasLow (s : State) (i : Nat) (f) : (s.rxSlotMod i f).biasLow = s.biasLow := rfl
@[simp] theorem State.rxSlotMod_madc (s : State) (i : Nat) (f) : (s.rxSlotMod i f).madc = s.madc := rfl
@[simp] theorem State.rxSlotMod_mon (s : State) (i : Nat) (f) : (s.rxSlotMod i f).mon = s.mon := rfl
@[simp] theorem State.rxSlotMod_cal (s : State) (i : Nat) (f) : (s.rxSlotMod i f).cal = s.cal := rfl
@[simp] theorem State.rxSlotMod_dma (s : State) (i : Nat) (f) : (s.rxSlotMod i f).dma = s.dma := rfl
@[simp] theorem State.rxSlotMod_tierp (s : State) (i : Nat) (f) : (s.rxSlotMod i f).tierp = s.tierp := rfl
@[simp] theorem State.rxSlotMod_resp (s : State) (i : Nat) (f) : (s.rxSlotMod i f).resp = s.resp := rfl
@[simp] theorem State.rxSlotMod_free (s : State) (i : Nat) (f) : (s.rxSlotMod i f).free = s.free := rfl
@[simp] theorem State.rxSlotMod_pending (s : State) (i : Nat) (f) : (s.rxSlotMod i f).pending = s.pending := rfl

@[simp] theorem State.txSlotAt_txSlotMod_self (s : State) (i : Nat) (f) : (s.txSlotMod i f).txSlotAt i = f (s.txSlotAt i) := Tab.get_upd_self _ _ _ _
@[simp] theorem State.txSlotAt_txSlotMod_ne (s : State) {i j : Nat} (f) (h : j ≠ i) : (s.txSlotMod i f).txSlotAt j = s.txSlotAt j := Tab.get_upd_ne _ _ _ h
@[simp] theorem State.txSlotMod_sys (s : State) (i : Nat) (f) : (s.txSlotMod i f).sys = s.sys := rfl
@[simp] theorem State.txSlotMod_spi (s : State) (i : Nat) (f) : (s.txSlotMod i f).spi = s.spi := rfl
@[simp] theorem State.txSlotMod_irq (s : State) (i : Nat) (f) : (s.txSlotMod i f).irq = s.irq := rfl
@[simp] theorem State.txSlotMod_mbx (s : State) (i : Nat) (f) : (s.txSlotMod i f).mbx = s.mbx := rfl
@[simp] theorem State.txSlotMod_qry (s : State) (i : Nat) (f) : (s.txSlotMod i f).qry = s.qry := rfl
@[simp] theorem State.txSlotMod_pwr (s : State) (i : Nat) (f) : (s.txSlotMod i f).pwr = s.pwr := rfl
@[simp] theorem State.txSlotMod_skew (s : State) (i : Nat) (f) : (s.txSlotMod i f).skew = s.skew := rfl
@[simp] theorem State.txSlotMod_sram (s : State) (i : Nat) (f) : (s.txSlotMod i f).sram = s.sram := rfl
@[simp] theorem State.txSlotMod_sramBad (s : State) (i : Nat) (f) : (s.txSlotMod i f).sramBad = s.sramBad := rfl
@[simp] theorem State.txSlotMod_sramSoft (s : State) (i : Nat) (f) : (s.txSlotMod i f).sramSoft = s.sramSoft := rfl
@[simp] theorem State.txSlotMod_bank (s : State) (i : Nat) (f) : (s.txSlotMod i f).bank = s.bank := rfl
@[simp] theorem State.txSlotMod_calMem (s : State) (i : Nat) (f) : (s.txSlotMod i f).calMem = s.calMem := rfl
@[simp] theorem State.txSlotMod_cliMem (s : State) (i : Nat) (f) : (s.txSlotMod i f).cliMem = s.cliMem := rfl
@[simp] theorem State.txSlotMod_loopRej (s : State) (i : Nat) (f) : (s.txSlotMod i f).loopRej = s.loopRej := rfl
@[simp] theorem State.txSlotMod_loopSyn (s : State) (i : Nat) (f) : (s.txSlotMod i f).loopSyn = s.loopSyn := rfl
@[simp] theorem State.txSlotMod_rx (s : State) (i : Nat) (f) : (s.txSlotMod i f).rx = s.rx := rfl
@[simp] theorem State.txSlotMod_tx (s : State) (i : Nat) (f) : (s.txSlotMod i f).tx = s.tx := rfl
@[simp] theorem State.txSlotMod_stretch (s : State) (i : Nat) (f) : (s.txSlotMod i f).stretch = s.stretch := rfl
@[simp] theorem State.txSlotMod_framer (s : State) (i : Nat) (f) : (s.txSlotMod i f).framer = s.framer := rfl
@[simp] theorem State.txSlotMod_mask (s : State) (i : Nat) (f) : (s.txSlotMod i f).mask = s.mask := rfl
@[simp] theorem State.txSlotMod_face (s : State) (i : Nat) (f) : (s.txSlotMod i f).face = s.face := rfl
@[simp] theorem State.txSlotMod_rxSlot (s : State) (i : Nat) (f) : (s.txSlotMod i f).rxSlot = s.rxSlot := rfl
@[simp] theorem State.txSlotMod_client (s : State) (i : Nat) (f) : (s.txSlotMod i f).client = s.client := rfl
@[simp] theorem State.txSlotMod_streams (s : State) (i : Nat) (f) : (s.txSlotMod i f).streams = s.streams := rfl
@[simp] theorem State.txSlotMod_etype (s : State) (i : Nat) (f) : (s.txSlotMod i f).etype = s.etype := rfl
@[simp] theorem State.txSlotMod_port (s : State) (i : Nat) (f) : (s.txSlotMod i f).port = s.port := rfl
@[simp] theorem State.txSlotMod_hlane (s : State) (i : Nat) (f) : (s.txSlotMod i f).hlane = s.hlane := rfl
@[simp] theorem State.txSlotMod_nodeAddr (s : State) (i : Nat) (f) : (s.txSlotMod i f).nodeAddr = s.nodeAddr := rfl
@[simp] theorem State.txSlotMod_netId (s : State) (i : Nat) (f) : (s.txSlotMod i f).netId = s.netId := rfl
@[simp] theorem State.txSlotMod_icing (s : State) (i : Nat) (f) : (s.txSlotMod i f).icing = s.icing := rfl
@[simp] theorem State.txSlotMod_loop (s : State) (i : Nat) (f) : (s.txSlotMod i f).loop = s.loop := rfl
@[simp] theorem State.txSlotMod_core (s : State) (i : Nat) (f) : (s.txSlotMod i f).core = s.core := rfl
@[simp] theorem State.txSlotMod_bias (s : State) (i : Nat) (f) : (s.txSlotMod i f).bias = s.bias := rfl
@[simp] theorem State.txSlotMod_biasLow (s : State) (i : Nat) (f) : (s.txSlotMod i f).biasLow = s.biasLow := rfl
@[simp] theorem State.txSlotMod_madc (s : State) (i : Nat) (f) : (s.txSlotMod i f).madc = s.madc := rfl
@[simp] theorem State.txSlotMod_mon (s : State) (i : Nat) (f) : (s.txSlotMod i f).mon = s.mon := rfl
@[simp] theorem State.txSlotMod_cal (s : State) (i : Nat) (f) : (s.txSlotMod i f).cal = s.cal := rfl
@[simp] theorem State.txSlotMod_dma (s : State) (i : Nat) (f) : (s.txSlotMod i f).dma = s.dma := rfl
@[simp] theorem State.txSlotMod_tierp (s : State) (i : Nat) (f) : (s.txSlotMod i f).tierp = s.tierp := rfl
@[simp] theorem State.txSlotMod_resp (s : State) (i : Nat) (f) : (s.txSlotMod i f).resp = s.resp := rfl
@[simp] theorem State.txSlotMod_free (s : State) (i : Nat) (f) : (s.txSlotMod i f).free = s.free := rfl
@[simp] theorem State.txSlotMod_pending (s : State) (i : Nat) (f) : (s.txSlotMod i f).pending = s.pending := rfl

@[simp] theorem State.clientAt_clientMod_self (s : State) (i : Nat) (f) : (s.clientMod i f).clientAt i = f (s.clientAt i) := Tab.get_upd_self _ _ _ _
@[simp] theorem State.clientAt_clientMod_ne (s : State) {i j : Nat} (f) (h : j ≠ i) : (s.clientMod i f).clientAt j = s.clientAt j := Tab.get_upd_ne _ _ _ h
@[simp] theorem State.clientMod_sys (s : State) (i : Nat) (f) : (s.clientMod i f).sys = s.sys := rfl
@[simp] theorem State.clientMod_spi (s : State) (i : Nat) (f) : (s.clientMod i f).spi = s.spi := rfl
@[simp] theorem State.clientMod_irq (s : State) (i : Nat) (f) : (s.clientMod i f).irq = s.irq := rfl
@[simp] theorem State.clientMod_mbx (s : State) (i : Nat) (f) : (s.clientMod i f).mbx = s.mbx := rfl
@[simp] theorem State.clientMod_qry (s : State) (i : Nat) (f) : (s.clientMod i f).qry = s.qry := rfl
@[simp] theorem State.clientMod_pwr (s : State) (i : Nat) (f) : (s.clientMod i f).pwr = s.pwr := rfl
@[simp] theorem State.clientMod_skew (s : State) (i : Nat) (f) : (s.clientMod i f).skew = s.skew := rfl
@[simp] theorem State.clientMod_sram (s : State) (i : Nat) (f) : (s.clientMod i f).sram = s.sram := rfl
@[simp] theorem State.clientMod_sramBad (s : State) (i : Nat) (f) : (s.clientMod i f).sramBad = s.sramBad := rfl
@[simp] theorem State.clientMod_sramSoft (s : State) (i : Nat) (f) : (s.clientMod i f).sramSoft = s.sramSoft := rfl
@[simp] theorem State.clientMod_bank (s : State) (i : Nat) (f) : (s.clientMod i f).bank = s.bank := rfl
@[simp] theorem State.clientMod_calMem (s : State) (i : Nat) (f) : (s.clientMod i f).calMem = s.calMem := rfl
@[simp] theorem State.clientMod_cliMem (s : State) (i : Nat) (f) : (s.clientMod i f).cliMem = s.cliMem := rfl
@[simp] theorem State.clientMod_loopRej (s : State) (i : Nat) (f) : (s.clientMod i f).loopRej = s.loopRej := rfl
@[simp] theorem State.clientMod_loopSyn (s : State) (i : Nat) (f) : (s.clientMod i f).loopSyn = s.loopSyn := rfl
@[simp] theorem State.clientMod_rx (s : State) (i : Nat) (f) : (s.clientMod i f).rx = s.rx := rfl
@[simp] theorem State.clientMod_tx (s : State) (i : Nat) (f) : (s.clientMod i f).tx = s.tx := rfl
@[simp] theorem State.clientMod_stretch (s : State) (i : Nat) (f) : (s.clientMod i f).stretch = s.stretch := rfl
@[simp] theorem State.clientMod_framer (s : State) (i : Nat) (f) : (s.clientMod i f).framer = s.framer := rfl
@[simp] theorem State.clientMod_mask (s : State) (i : Nat) (f) : (s.clientMod i f).mask = s.mask := rfl
@[simp] theorem State.clientMod_face (s : State) (i : Nat) (f) : (s.clientMod i f).face = s.face := rfl
@[simp] theorem State.clientMod_rxSlot (s : State) (i : Nat) (f) : (s.clientMod i f).rxSlot = s.rxSlot := rfl
@[simp] theorem State.clientMod_txSlot (s : State) (i : Nat) (f) : (s.clientMod i f).txSlot = s.txSlot := rfl
@[simp] theorem State.clientMod_streams (s : State) (i : Nat) (f) : (s.clientMod i f).streams = s.streams := rfl
@[simp] theorem State.clientMod_etype (s : State) (i : Nat) (f) : (s.clientMod i f).etype = s.etype := rfl
@[simp] theorem State.clientMod_port (s : State) (i : Nat) (f) : (s.clientMod i f).port = s.port := rfl
@[simp] theorem State.clientMod_hlane (s : State) (i : Nat) (f) : (s.clientMod i f).hlane = s.hlane := rfl
@[simp] theorem State.clientMod_nodeAddr (s : State) (i : Nat) (f) : (s.clientMod i f).nodeAddr = s.nodeAddr := rfl
@[simp] theorem State.clientMod_netId (s : State) (i : Nat) (f) : (s.clientMod i f).netId = s.netId := rfl
@[simp] theorem State.clientMod_icing (s : State) (i : Nat) (f) : (s.clientMod i f).icing = s.icing := rfl
@[simp] theorem State.clientMod_loop (s : State) (i : Nat) (f) : (s.clientMod i f).loop = s.loop := rfl
@[simp] theorem State.clientMod_core (s : State) (i : Nat) (f) : (s.clientMod i f).core = s.core := rfl
@[simp] theorem State.clientMod_bias (s : State) (i : Nat) (f) : (s.clientMod i f).bias = s.bias := rfl
@[simp] theorem State.clientMod_biasLow (s : State) (i : Nat) (f) : (s.clientMod i f).biasLow = s.biasLow := rfl
@[simp] theorem State.clientMod_madc (s : State) (i : Nat) (f) : (s.clientMod i f).madc = s.madc := rfl
@[simp] theorem State.clientMod_mon (s : State) (i : Nat) (f) : (s.clientMod i f).mon = s.mon := rfl
@[simp] theorem State.clientMod_cal (s : State) (i : Nat) (f) : (s.clientMod i f).cal = s.cal := rfl
@[simp] theorem State.clientMod_dma (s : State) (i : Nat) (f) : (s.clientMod i f).dma = s.dma := rfl
@[simp] theorem State.clientMod_tierp (s : State) (i : Nat) (f) : (s.clientMod i f).tierp = s.tierp := rfl
@[simp] theorem State.clientMod_resp (s : State) (i : Nat) (f) : (s.clientMod i f).resp = s.resp := rfl
@[simp] theorem State.clientMod_free (s : State) (i : Nat) (f) : (s.clientMod i f).free = s.free := rfl
@[simp] theorem State.clientMod_pending (s : State) (i : Nat) (f) : (s.clientMod i f).pending = s.pending := rfl

@[simp] theorem State.portAt_portMod_self (s : State) (i : Nat) (f) : (s.portMod i f).portAt i = f (s.portAt i) := Tab.get_upd_self _ _ _ _
@[simp] theorem State.portAt_portMod_ne (s : State) {i j : Nat} (f) (h : j ≠ i) : (s.portMod i f).portAt j = s.portAt j := Tab.get_upd_ne _ _ _ h
@[simp] theorem State.portMod_sys (s : State) (i : Nat) (f) : (s.portMod i f).sys = s.sys := rfl
@[simp] theorem State.portMod_spi (s : State) (i : Nat) (f) : (s.portMod i f).spi = s.spi := rfl
@[simp] theorem State.portMod_irq (s : State) (i : Nat) (f) : (s.portMod i f).irq = s.irq := rfl
@[simp] theorem State.portMod_mbx (s : State) (i : Nat) (f) : (s.portMod i f).mbx = s.mbx := rfl
@[simp] theorem State.portMod_qry (s : State) (i : Nat) (f) : (s.portMod i f).qry = s.qry := rfl
@[simp] theorem State.portMod_pwr (s : State) (i : Nat) (f) : (s.portMod i f).pwr = s.pwr := rfl
@[simp] theorem State.portMod_skew (s : State) (i : Nat) (f) : (s.portMod i f).skew = s.skew := rfl
@[simp] theorem State.portMod_sram (s : State) (i : Nat) (f) : (s.portMod i f).sram = s.sram := rfl
@[simp] theorem State.portMod_sramBad (s : State) (i : Nat) (f) : (s.portMod i f).sramBad = s.sramBad := rfl
@[simp] theorem State.portMod_sramSoft (s : State) (i : Nat) (f) : (s.portMod i f).sramSoft = s.sramSoft := rfl
@[simp] theorem State.portMod_bank (s : State) (i : Nat) (f) : (s.portMod i f).bank = s.bank := rfl
@[simp] theorem State.portMod_calMem (s : State) (i : Nat) (f) : (s.portMod i f).calMem = s.calMem := rfl
@[simp] theorem State.portMod_cliMem (s : State) (i : Nat) (f) : (s.portMod i f).cliMem = s.cliMem := rfl
@[simp] theorem State.portMod_loopRej (s : State) (i : Nat) (f) : (s.portMod i f).loopRej = s.loopRej := rfl
@[simp] theorem State.portMod_loopSyn (s : State) (i : Nat) (f) : (s.portMod i f).loopSyn = s.loopSyn := rfl
@[simp] theorem State.portMod_rx (s : State) (i : Nat) (f) : (s.portMod i f).rx = s.rx := rfl
@[simp] theorem State.portMod_tx (s : State) (i : Nat) (f) : (s.portMod i f).tx = s.tx := rfl
@[simp] theorem State.portMod_stretch (s : State) (i : Nat) (f) : (s.portMod i f).stretch = s.stretch := rfl
@[simp] theorem State.portMod_framer (s : State) (i : Nat) (f) : (s.portMod i f).framer = s.framer := rfl
@[simp] theorem State.portMod_mask (s : State) (i : Nat) (f) : (s.portMod i f).mask = s.mask := rfl
@[simp] theorem State.portMod_face (s : State) (i : Nat) (f) : (s.portMod i f).face = s.face := rfl
@[simp] theorem State.portMod_rxSlot (s : State) (i : Nat) (f) : (s.portMod i f).rxSlot = s.rxSlot := rfl
@[simp] theorem State.portMod_txSlot (s : State) (i : Nat) (f) : (s.portMod i f).txSlot = s.txSlot := rfl
@[simp] theorem State.portMod_client (s : State) (i : Nat) (f) : (s.portMod i f).client = s.client := rfl
@[simp] theorem State.portMod_streams (s : State) (i : Nat) (f) : (s.portMod i f).streams = s.streams := rfl
@[simp] theorem State.portMod_etype (s : State) (i : Nat) (f) : (s.portMod i f).etype = s.etype := rfl
@[simp] theorem State.portMod_hlane (s : State) (i : Nat) (f) : (s.portMod i f).hlane = s.hlane := rfl
@[simp] theorem State.portMod_nodeAddr (s : State) (i : Nat) (f) : (s.portMod i f).nodeAddr = s.nodeAddr := rfl
@[simp] theorem State.portMod_netId (s : State) (i : Nat) (f) : (s.portMod i f).netId = s.netId := rfl
@[simp] theorem State.portMod_icing (s : State) (i : Nat) (f) : (s.portMod i f).icing = s.icing := rfl
@[simp] theorem State.portMod_loop (s : State) (i : Nat) (f) : (s.portMod i f).loop = s.loop := rfl
@[simp] theorem State.portMod_core (s : State) (i : Nat) (f) : (s.portMod i f).core = s.core := rfl
@[simp] theorem State.portMod_bias (s : State) (i : Nat) (f) : (s.portMod i f).bias = s.bias := rfl
@[simp] theorem State.portMod_biasLow (s : State) (i : Nat) (f) : (s.portMod i f).biasLow = s.biasLow := rfl
@[simp] theorem State.portMod_madc (s : State) (i : Nat) (f) : (s.portMod i f).madc = s.madc := rfl
@[simp] theorem State.portMod_mon (s : State) (i : Nat) (f) : (s.portMod i f).mon = s.mon := rfl
@[simp] theorem State.portMod_cal (s : State) (i : Nat) (f) : (s.portMod i f).cal = s.cal := rfl
@[simp] theorem State.portMod_dma (s : State) (i : Nat) (f) : (s.portMod i f).dma = s.dma := rfl
@[simp] theorem State.portMod_tierp (s : State) (i : Nat) (f) : (s.portMod i f).tierp = s.tierp := rfl
@[simp] theorem State.portMod_resp (s : State) (i : Nat) (f) : (s.portMod i f).resp = s.resp := rfl
@[simp] theorem State.portMod_free (s : State) (i : Nat) (f) : (s.portMod i f).free = s.free := rfl
@[simp] theorem State.portMod_pending (s : State) (i : Nat) (f) : (s.portMod i f).pending = s.pending := rfl

@[simp] theorem State.hlaneAt_hlaneMod_self (s : State) (i : Nat) (f) : (s.hlaneMod i f).hlaneAt i = f (s.hlaneAt i) := Tab.get_upd_self _ _ _ _
@[simp] theorem State.hlaneAt_hlaneMod_ne (s : State) {i j : Nat} (f) (h : j ≠ i) : (s.hlaneMod i f).hlaneAt j = s.hlaneAt j := Tab.get_upd_ne _ _ _ h
@[simp] theorem State.hlaneMod_sys (s : State) (i : Nat) (f) : (s.hlaneMod i f).sys = s.sys := rfl
@[simp] theorem State.hlaneMod_spi (s : State) (i : Nat) (f) : (s.hlaneMod i f).spi = s.spi := rfl
@[simp] theorem State.hlaneMod_irq (s : State) (i : Nat) (f) : (s.hlaneMod i f).irq = s.irq := rfl
@[simp] theorem State.hlaneMod_mbx (s : State) (i : Nat) (f) : (s.hlaneMod i f).mbx = s.mbx := rfl
@[simp] theorem State.hlaneMod_qry (s : State) (i : Nat) (f) : (s.hlaneMod i f).qry = s.qry := rfl
@[simp] theorem State.hlaneMod_pwr (s : State) (i : Nat) (f) : (s.hlaneMod i f).pwr = s.pwr := rfl
@[simp] theorem State.hlaneMod_skew (s : State) (i : Nat) (f) : (s.hlaneMod i f).skew = s.skew := rfl
@[simp] theorem State.hlaneMod_sram (s : State) (i : Nat) (f) : (s.hlaneMod i f).sram = s.sram := rfl
@[simp] theorem State.hlaneMod_sramBad (s : State) (i : Nat) (f) : (s.hlaneMod i f).sramBad = s.sramBad := rfl
@[simp] theorem State.hlaneMod_sramSoft (s : State) (i : Nat) (f) : (s.hlaneMod i f).sramSoft = s.sramSoft := rfl
@[simp] theorem State.hlaneMod_bank (s : State) (i : Nat) (f) : (s.hlaneMod i f).bank = s.bank := rfl
@[simp] theorem State.hlaneMod_calMem (s : State) (i : Nat) (f) : (s.hlaneMod i f).calMem = s.calMem := rfl
@[simp] theorem State.hlaneMod_cliMem (s : State) (i : Nat) (f) : (s.hlaneMod i f).cliMem = s.cliMem := rfl
@[simp] theorem State.hlaneMod_loopRej (s : State) (i : Nat) (f) : (s.hlaneMod i f).loopRej = s.loopRej := rfl
@[simp] theorem State.hlaneMod_loopSyn (s : State) (i : Nat) (f) : (s.hlaneMod i f).loopSyn = s.loopSyn := rfl
@[simp] theorem State.hlaneMod_rx (s : State) (i : Nat) (f) : (s.hlaneMod i f).rx = s.rx := rfl
@[simp] theorem State.hlaneMod_tx (s : State) (i : Nat) (f) : (s.hlaneMod i f).tx = s.tx := rfl
@[simp] theorem State.hlaneMod_stretch (s : State) (i : Nat) (f) : (s.hlaneMod i f).stretch = s.stretch := rfl
@[simp] theorem State.hlaneMod_framer (s : State) (i : Nat) (f) : (s.hlaneMod i f).framer = s.framer := rfl
@[simp] theorem State.hlaneMod_mask (s : State) (i : Nat) (f) : (s.hlaneMod i f).mask = s.mask := rfl
@[simp] theorem State.hlaneMod_face (s : State) (i : Nat) (f) : (s.hlaneMod i f).face = s.face := rfl
@[simp] theorem State.hlaneMod_rxSlot (s : State) (i : Nat) (f) : (s.hlaneMod i f).rxSlot = s.rxSlot := rfl
@[simp] theorem State.hlaneMod_txSlot (s : State) (i : Nat) (f) : (s.hlaneMod i f).txSlot = s.txSlot := rfl
@[simp] theorem State.hlaneMod_client (s : State) (i : Nat) (f) : (s.hlaneMod i f).client = s.client := rfl
@[simp] theorem State.hlaneMod_streams (s : State) (i : Nat) (f) : (s.hlaneMod i f).streams = s.streams := rfl
@[simp] theorem State.hlaneMod_etype (s : State) (i : Nat) (f) : (s.hlaneMod i f).etype = s.etype := rfl
@[simp] theorem State.hlaneMod_port (s : State) (i : Nat) (f) : (s.hlaneMod i f).port = s.port := rfl
@[simp] theorem State.hlaneMod_nodeAddr (s : State) (i : Nat) (f) : (s.hlaneMod i f).nodeAddr = s.nodeAddr := rfl
@[simp] theorem State.hlaneMod_netId (s : State) (i : Nat) (f) : (s.hlaneMod i f).netId = s.netId := rfl
@[simp] theorem State.hlaneMod_icing (s : State) (i : Nat) (f) : (s.hlaneMod i f).icing = s.icing := rfl
@[simp] theorem State.hlaneMod_loop (s : State) (i : Nat) (f) : (s.hlaneMod i f).loop = s.loop := rfl
@[simp] theorem State.hlaneMod_core (s : State) (i : Nat) (f) : (s.hlaneMod i f).core = s.core := rfl
@[simp] theorem State.hlaneMod_bias (s : State) (i : Nat) (f) : (s.hlaneMod i f).bias = s.bias := rfl
@[simp] theorem State.hlaneMod_biasLow (s : State) (i : Nat) (f) : (s.hlaneMod i f).biasLow = s.biasLow := rfl
@[simp] theorem State.hlaneMod_madc (s : State) (i : Nat) (f) : (s.hlaneMod i f).madc = s.madc := rfl
@[simp] theorem State.hlaneMod_mon (s : State) (i : Nat) (f) : (s.hlaneMod i f).mon = s.mon := rfl
@[simp] theorem State.hlaneMod_cal (s : State) (i : Nat) (f) : (s.hlaneMod i f).cal = s.cal := rfl
@[simp] theorem State.hlaneMod_dma (s : State) (i : Nat) (f) : (s.hlaneMod i f).dma = s.dma := rfl
@[simp] theorem State.hlaneMod_tierp (s : State) (i : Nat) (f) : (s.hlaneMod i f).tierp = s.tierp := rfl
@[simp] theorem State.hlaneMod_resp (s : State) (i : Nat) (f) : (s.hlaneMod i f).resp = s.resp := rfl
@[simp] theorem State.hlaneMod_free (s : State) (i : Nat) (f) : (s.hlaneMod i f).free = s.free := rfl
@[simp] theorem State.hlaneMod_pending (s : State) (i : Nat) (f) : (s.hlaneMod i f).pending = s.pending := rfl

@[simp] theorem State.icingAt_icingMod_self (s : State) (i : Nat) (f) : (s.icingMod i f).icingAt i = f (s.icingAt i) := Tab.get_upd_self _ _ _ _
@[simp] theorem State.icingAt_icingMod_ne (s : State) {i j : Nat} (f) (h : j ≠ i) : (s.icingMod i f).icingAt j = s.icingAt j := Tab.get_upd_ne _ _ _ h
@[simp] theorem State.icingMod_sys (s : State) (i : Nat) (f) : (s.icingMod i f).sys = s.sys := rfl
@[simp] theorem State.icingMod_spi (s : State) (i : Nat) (f) : (s.icingMod i f).spi = s.spi := rfl
@[simp] theorem State.icingMod_irq (s : State) (i : Nat) (f) : (s.icingMod i f).irq = s.irq := rfl
@[simp] theorem State.icingMod_mbx (s : State) (i : Nat) (f) : (s.icingMod i f).mbx = s.mbx := rfl
@[simp] theorem State.icingMod_qry (s : State) (i : Nat) (f) : (s.icingMod i f).qry = s.qry := rfl
@[simp] theorem State.icingMod_pwr (s : State) (i : Nat) (f) : (s.icingMod i f).pwr = s.pwr := rfl
@[simp] theorem State.icingMod_skew (s : State) (i : Nat) (f) : (s.icingMod i f).skew = s.skew := rfl
@[simp] theorem State.icingMod_sram (s : State) (i : Nat) (f) : (s.icingMod i f).sram = s.sram := rfl
@[simp] theorem State.icingMod_sramBad (s : State) (i : Nat) (f) : (s.icingMod i f).sramBad = s.sramBad := rfl
@[simp] theorem State.icingMod_sramSoft (s : State) (i : Nat) (f) : (s.icingMod i f).sramSoft = s.sramSoft := rfl
@[simp] theorem State.icingMod_bank (s : State) (i : Nat) (f) : (s.icingMod i f).bank = s.bank := rfl
@[simp] theorem State.icingMod_calMem (s : State) (i : Nat) (f) : (s.icingMod i f).calMem = s.calMem := rfl
@[simp] theorem State.icingMod_cliMem (s : State) (i : Nat) (f) : (s.icingMod i f).cliMem = s.cliMem := rfl
@[simp] theorem State.icingMod_loopRej (s : State) (i : Nat) (f) : (s.icingMod i f).loopRej = s.loopRej := rfl
@[simp] theorem State.icingMod_loopSyn (s : State) (i : Nat) (f) : (s.icingMod i f).loopSyn = s.loopSyn := rfl
@[simp] theorem State.icingMod_rx (s : State) (i : Nat) (f) : (s.icingMod i f).rx = s.rx := rfl
@[simp] theorem State.icingMod_tx (s : State) (i : Nat) (f) : (s.icingMod i f).tx = s.tx := rfl
@[simp] theorem State.icingMod_stretch (s : State) (i : Nat) (f) : (s.icingMod i f).stretch = s.stretch := rfl
@[simp] theorem State.icingMod_framer (s : State) (i : Nat) (f) : (s.icingMod i f).framer = s.framer := rfl
@[simp] theorem State.icingMod_mask (s : State) (i : Nat) (f) : (s.icingMod i f).mask = s.mask := rfl
@[simp] theorem State.icingMod_face (s : State) (i : Nat) (f) : (s.icingMod i f).face = s.face := rfl
@[simp] theorem State.icingMod_rxSlot (s : State) (i : Nat) (f) : (s.icingMod i f).rxSlot = s.rxSlot := rfl
@[simp] theorem State.icingMod_txSlot (s : State) (i : Nat) (f) : (s.icingMod i f).txSlot = s.txSlot := rfl
@[simp] theorem State.icingMod_client (s : State) (i : Nat) (f) : (s.icingMod i f).client = s.client := rfl
@[simp] theorem State.icingMod_streams (s : State) (i : Nat) (f) : (s.icingMod i f).streams = s.streams := rfl
@[simp] theorem State.icingMod_etype (s : State) (i : Nat) (f) : (s.icingMod i f).etype = s.etype := rfl
@[simp] theorem State.icingMod_port (s : State) (i : Nat) (f) : (s.icingMod i f).port = s.port := rfl
@[simp] theorem State.icingMod_hlane (s : State) (i : Nat) (f) : (s.icingMod i f).hlane = s.hlane := rfl
@[simp] theorem State.icingMod_nodeAddr (s : State) (i : Nat) (f) : (s.icingMod i f).nodeAddr = s.nodeAddr := rfl
@[simp] theorem State.icingMod_netId (s : State) (i : Nat) (f) : (s.icingMod i f).netId = s.netId := rfl
@[simp] theorem State.icingMod_loop (s : State) (i : Nat) (f) : (s.icingMod i f).loop = s.loop := rfl
@[simp] theorem State.icingMod_core (s : State) (i : Nat) (f) : (s.icingMod i f).core = s.core := rfl
@[simp] theorem State.icingMod_bias (s : State) (i : Nat) (f) : (s.icingMod i f).bias = s.bias := rfl
@[simp] theorem State.icingMod_biasLow (s : State) (i : Nat) (f) : (s.icingMod i f).biasLow = s.biasLow := rfl
@[simp] theorem State.icingMod_madc (s : State) (i : Nat) (f) : (s.icingMod i f).madc = s.madc := rfl
@[simp] theorem State.icingMod_mon (s : State) (i : Nat) (f) : (s.icingMod i f).mon = s.mon := rfl
@[simp] theorem State.icingMod_cal (s : State) (i : Nat) (f) : (s.icingMod i f).cal = s.cal := rfl
@[simp] theorem State.icingMod_dma (s : State) (i : Nat) (f) : (s.icingMod i f).dma = s.dma := rfl
@[simp] theorem State.icingMod_tierp (s : State) (i : Nat) (f) : (s.icingMod i f).tierp = s.tierp := rfl
@[simp] theorem State.icingMod_resp (s : State) (i : Nat) (f) : (s.icingMod i f).resp = s.resp := rfl
@[simp] theorem State.icingMod_free (s : State) (i : Nat) (f) : (s.icingMod i f).free = s.free := rfl
@[simp] theorem State.icingMod_pending (s : State) (i : Nat) (f) : (s.icingMod i f).pending = s.pending := rfl

@[simp] theorem State.loopAt_loopMod_self (s : State) (i : Nat) (f) : (s.loopMod i f).loopAt i = f (s.loopAt i) := Tab.get_upd_self _ _ _ _
@[simp] theorem State.loopAt_loopMod_ne (s : State) {i j : Nat} (f) (h : j ≠ i) : (s.loopMod i f).loopAt j = s.loopAt j := Tab.get_upd_ne _ _ _ h
@[simp] theorem State.loopMod_sys (s : State) (i : Nat) (f) : (s.loopMod i f).sys = s.sys := rfl
@[simp] theorem State.loopMod_spi (s : State) (i : Nat) (f) : (s.loopMod i f).spi = s.spi := rfl
@[simp] theorem State.loopMod_irq (s : State) (i : Nat) (f) : (s.loopMod i f).irq = s.irq := rfl
@[simp] theorem State.loopMod_mbx (s : State) (i : Nat) (f) : (s.loopMod i f).mbx = s.mbx := rfl
@[simp] theorem State.loopMod_qry (s : State) (i : Nat) (f) : (s.loopMod i f).qry = s.qry := rfl
@[simp] theorem State.loopMod_pwr (s : State) (i : Nat) (f) : (s.loopMod i f).pwr = s.pwr := rfl
@[simp] theorem State.loopMod_skew (s : State) (i : Nat) (f) : (s.loopMod i f).skew = s.skew := rfl
@[simp] theorem State.loopMod_sram (s : State) (i : Nat) (f) : (s.loopMod i f).sram = s.sram := rfl
@[simp] theorem State.loopMod_sramBad (s : State) (i : Nat) (f) : (s.loopMod i f).sramBad = s.sramBad := rfl
@[simp] theorem State.loopMod_sramSoft (s : State) (i : Nat) (f) : (s.loopMod i f).sramSoft = s.sramSoft := rfl
@[simp] theorem State.loopMod_bank (s : State) (i : Nat) (f) : (s.loopMod i f).bank = s.bank := rfl
@[simp] theorem State.loopMod_calMem (s : State) (i : Nat) (f) : (s.loopMod i f).calMem = s.calMem := rfl
@[simp] theorem State.loopMod_cliMem (s : State) (i : Nat) (f) : (s.loopMod i f).cliMem = s.cliMem := rfl
@[simp] theorem State.loopMod_loopRej (s : State) (i : Nat) (f) : (s.loopMod i f).loopRej = s.loopRej := rfl
@[simp] theorem State.loopMod_loopSyn (s : State) (i : Nat) (f) : (s.loopMod i f).loopSyn = s.loopSyn := rfl
@[simp] theorem State.loopMod_rx (s : State) (i : Nat) (f) : (s.loopMod i f).rx = s.rx := rfl
@[simp] theorem State.loopMod_tx (s : State) (i : Nat) (f) : (s.loopMod i f).tx = s.tx := rfl
@[simp] theorem State.loopMod_stretch (s : State) (i : Nat) (f) : (s.loopMod i f).stretch = s.stretch := rfl
@[simp] theorem State.loopMod_framer (s : State) (i : Nat) (f) : (s.loopMod i f).framer = s.framer := rfl
@[simp] theorem State.loopMod_mask (s : State) (i : Nat) (f) : (s.loopMod i f).mask = s.mask := rfl
@[simp] theorem State.loopMod_face (s : State) (i : Nat) (f) : (s.loopMod i f).face = s.face := rfl
@[simp] theorem State.loopMod_rxSlot (s : State) (i : Nat) (f) : (s.loopMod i f).rxSlot = s.rxSlot := rfl
@[simp] theorem State.loopMod_txSlot (s : State) (i : Nat) (f) : (s.loopMod i f).txSlot = s.txSlot := rfl
@[simp] theorem State.loopMod_client (s : State) (i : Nat) (f) : (s.loopMod i f).client = s.client := rfl
@[simp] theorem State.loopMod_streams (s : State) (i : Nat) (f) : (s.loopMod i f).streams = s.streams := rfl
@[simp] theorem State.loopMod_etype (s : State) (i : Nat) (f) : (s.loopMod i f).etype = s.etype := rfl
@[simp] theorem State.loopMod_port (s : State) (i : Nat) (f) : (s.loopMod i f).port = s.port := rfl
@[simp] theorem State.loopMod_hlane (s : State) (i : Nat) (f) : (s.loopMod i f).hlane = s.hlane := rfl
@[simp] theorem State.loopMod_nodeAddr (s : State) (i : Nat) (f) : (s.loopMod i f).nodeAddr = s.nodeAddr := rfl
@[simp] theorem State.loopMod_netId (s : State) (i : Nat) (f) : (s.loopMod i f).netId = s.netId := rfl
@[simp] theorem State.loopMod_icing (s : State) (i : Nat) (f) : (s.loopMod i f).icing = s.icing := rfl
@[simp] theorem State.loopMod_core (s : State) (i : Nat) (f) : (s.loopMod i f).core = s.core := rfl
@[simp] theorem State.loopMod_bias (s : State) (i : Nat) (f) : (s.loopMod i f).bias = s.bias := rfl
@[simp] theorem State.loopMod_biasLow (s : State) (i : Nat) (f) : (s.loopMod i f).biasLow = s.biasLow := rfl
@[simp] theorem State.loopMod_madc (s : State) (i : Nat) (f) : (s.loopMod i f).madc = s.madc := rfl
@[simp] theorem State.loopMod_mon (s : State) (i : Nat) (f) : (s.loopMod i f).mon = s.mon := rfl
@[simp] theorem State.loopMod_cal (s : State) (i : Nat) (f) : (s.loopMod i f).cal = s.cal := rfl
@[simp] theorem State.loopMod_dma (s : State) (i : Nat) (f) : (s.loopMod i f).dma = s.dma := rfl
@[simp] theorem State.loopMod_tierp (s : State) (i : Nat) (f) : (s.loopMod i f).tierp = s.tierp := rfl
@[simp] theorem State.loopMod_resp (s : State) (i : Nat) (f) : (s.loopMod i f).resp = s.resp := rfl
@[simp] theorem State.loopMod_free (s : State) (i : Nat) (f) : (s.loopMod i f).free = s.free := rfl
@[simp] theorem State.loopMod_pending (s : State) (i : Nat) (f) : (s.loopMod i f).pending = s.pending := rfl

@[simp] theorem State.coreAt_coreMod_self (s : State) (i : Nat) (f) : (s.coreMod i f).coreAt i = f (s.coreAt i) := Tab.get_upd_self _ _ _ _
@[simp] theorem State.coreAt_coreMod_ne (s : State) {i j : Nat} (f) (h : j ≠ i) : (s.coreMod i f).coreAt j = s.coreAt j := Tab.get_upd_ne _ _ _ h
@[simp] theorem State.coreMod_sys (s : State) (i : Nat) (f) : (s.coreMod i f).sys = s.sys := rfl
@[simp] theorem State.coreMod_spi (s : State) (i : Nat) (f) : (s.coreMod i f).spi = s.spi := rfl
@[simp] theorem State.coreMod_irq (s : State) (i : Nat) (f) : (s.coreMod i f).irq = s.irq := rfl
@[simp] theorem State.coreMod_mbx (s : State) (i : Nat) (f) : (s.coreMod i f).mbx = s.mbx := rfl
@[simp] theorem State.coreMod_qry (s : State) (i : Nat) (f) : (s.coreMod i f).qry = s.qry := rfl
@[simp] theorem State.coreMod_pwr (s : State) (i : Nat) (f) : (s.coreMod i f).pwr = s.pwr := rfl
@[simp] theorem State.coreMod_skew (s : State) (i : Nat) (f) : (s.coreMod i f).skew = s.skew := rfl
@[simp] theorem State.coreMod_sram (s : State) (i : Nat) (f) : (s.coreMod i f).sram = s.sram := rfl
@[simp] theorem State.coreMod_sramBad (s : State) (i : Nat) (f) : (s.coreMod i f).sramBad = s.sramBad := rfl
@[simp] theorem State.coreMod_sramSoft (s : State) (i : Nat) (f) : (s.coreMod i f).sramSoft = s.sramSoft := rfl
@[simp] theorem State.coreMod_bank (s : State) (i : Nat) (f) : (s.coreMod i f).bank = s.bank := rfl
@[simp] theorem State.coreMod_calMem (s : State) (i : Nat) (f) : (s.coreMod i f).calMem = s.calMem := rfl
@[simp] theorem State.coreMod_cliMem (s : State) (i : Nat) (f) : (s.coreMod i f).cliMem = s.cliMem := rfl
@[simp] theorem State.coreMod_loopRej (s : State) (i : Nat) (f) : (s.coreMod i f).loopRej = s.loopRej := rfl
@[simp] theorem State.coreMod_loopSyn (s : State) (i : Nat) (f) : (s.coreMod i f).loopSyn = s.loopSyn := rfl
@[simp] theorem State.coreMod_rx (s : State) (i : Nat) (f) : (s.coreMod i f).rx = s.rx := rfl
@[simp] theorem State.coreMod_tx (s : State) (i : Nat) (f) : (s.coreMod i f).tx = s.tx := rfl
@[simp] theorem State.coreMod_stretch (s : State) (i : Nat) (f) : (s.coreMod i f).stretch = s.stretch := rfl
@[simp] theorem State.coreMod_framer (s : State) (i : Nat) (f) : (s.coreMod i f).framer = s.framer := rfl
@[simp] theorem State.coreMod_mask (s : State) (i : Nat) (f) : (s.coreMod i f).mask = s.mask := rfl
@[simp] theorem State.coreMod_face (s : State) (i : Nat) (f) : (s.coreMod i f).face = s.face := rfl
@[simp] theorem State.coreMod_rxSlot (s : State) (i : Nat) (f) : (s.coreMod i f).rxSlot = s.rxSlot := rfl
@[simp] theorem State.coreMod_txSlot (s : State) (i : Nat) (f) : (s.coreMod i f).txSlot = s.txSlot := rfl
@[simp] theorem State.coreMod_client (s : State) (i : Nat) (f) : (s.coreMod i f).client = s.client := rfl
@[simp] theorem State.coreMod_streams (s : State) (i : Nat) (f) : (s.coreMod i f).streams = s.streams := rfl
@[simp] theorem State.coreMod_etype (s : State) (i : Nat) (f) : (s.coreMod i f).etype = s.etype := rfl
@[simp] theorem State.coreMod_port (s : State) (i : Nat) (f) : (s.coreMod i f).port = s.port := rfl
@[simp] theorem State.coreMod_hlane (s : State) (i : Nat) (f) : (s.coreMod i f).hlane = s.hlane := rfl
@[simp] theorem State.coreMod_nodeAddr (s : State) (i : Nat) (f) : (s.coreMod i f).nodeAddr = s.nodeAddr := rfl
@[simp] theorem State.coreMod_netId (s : State) (i : Nat) (f) : (s.coreMod i f).netId = s.netId := rfl
@[simp] theorem State.coreMod_icing (s : State) (i : Nat) (f) : (s.coreMod i f).icing = s.icing := rfl
@[simp] theorem State.coreMod_loop (s : State) (i : Nat) (f) : (s.coreMod i f).loop = s.loop := rfl
@[simp] theorem State.coreMod_bias (s : State) (i : Nat) (f) : (s.coreMod i f).bias = s.bias := rfl
@[simp] theorem State.coreMod_biasLow (s : State) (i : Nat) (f) : (s.coreMod i f).biasLow = s.biasLow := rfl
@[simp] theorem State.coreMod_madc (s : State) (i : Nat) (f) : (s.coreMod i f).madc = s.madc := rfl
@[simp] theorem State.coreMod_mon (s : State) (i : Nat) (f) : (s.coreMod i f).mon = s.mon := rfl
@[simp] theorem State.coreMod_cal (s : State) (i : Nat) (f) : (s.coreMod i f).cal = s.cal := rfl
@[simp] theorem State.coreMod_dma (s : State) (i : Nat) (f) : (s.coreMod i f).dma = s.dma := rfl
@[simp] theorem State.coreMod_tierp (s : State) (i : Nat) (f) : (s.coreMod i f).tierp = s.tierp := rfl
@[simp] theorem State.coreMod_resp (s : State) (i : Nat) (f) : (s.coreMod i f).resp = s.resp := rfl
@[simp] theorem State.coreMod_free (s : State) (i : Nat) (f) : (s.coreMod i f).free = s.free := rfl
@[simp] theorem State.coreMod_pending (s : State) (i : Nat) (f) : (s.coreMod i f).pending = s.pending := rfl

@[simp] theorem State.biasAt_biasMod_self (s : State) (i : Nat) (f) : (s.biasMod i f).biasAt i = f (s.biasAt i) := Tab.get_upd_self _ _ _ _
@[simp] theorem State.biasAt_biasMod_ne (s : State) {i j : Nat} (f) (h : j ≠ i) : (s.biasMod i f).biasAt j = s.biasAt j := Tab.get_upd_ne _ _ _ h
@[simp] theorem State.biasMod_sys (s : State) (i : Nat) (f) : (s.biasMod i f).sys = s.sys := rfl
@[simp] theorem State.biasMod_spi (s : State) (i : Nat) (f) : (s.biasMod i f).spi = s.spi := rfl
@[simp] theorem State.biasMod_irq (s : State) (i : Nat) (f) : (s.biasMod i f).irq = s.irq := rfl
@[simp] theorem State.biasMod_mbx (s : State) (i : Nat) (f) : (s.biasMod i f).mbx = s.mbx := rfl
@[simp] theorem State.biasMod_qry (s : State) (i : Nat) (f) : (s.biasMod i f).qry = s.qry := rfl
@[simp] theorem State.biasMod_pwr (s : State) (i : Nat) (f) : (s.biasMod i f).pwr = s.pwr := rfl
@[simp] theorem State.biasMod_skew (s : State) (i : Nat) (f) : (s.biasMod i f).skew = s.skew := rfl
@[simp] theorem State.biasMod_sram (s : State) (i : Nat) (f) : (s.biasMod i f).sram = s.sram := rfl
@[simp] theorem State.biasMod_sramBad (s : State) (i : Nat) (f) : (s.biasMod i f).sramBad = s.sramBad := rfl
@[simp] theorem State.biasMod_sramSoft (s : State) (i : Nat) (f) : (s.biasMod i f).sramSoft = s.sramSoft := rfl
@[simp] theorem State.biasMod_bank (s : State) (i : Nat) (f) : (s.biasMod i f).bank = s.bank := rfl
@[simp] theorem State.biasMod_calMem (s : State) (i : Nat) (f) : (s.biasMod i f).calMem = s.calMem := rfl
@[simp] theorem State.biasMod_cliMem (s : State) (i : Nat) (f) : (s.biasMod i f).cliMem = s.cliMem := rfl
@[simp] theorem State.biasMod_loopRej (s : State) (i : Nat) (f) : (s.biasMod i f).loopRej = s.loopRej := rfl
@[simp] theorem State.biasMod_loopSyn (s : State) (i : Nat) (f) : (s.biasMod i f).loopSyn = s.loopSyn := rfl
@[simp] theorem State.biasMod_rx (s : State) (i : Nat) (f) : (s.biasMod i f).rx = s.rx := rfl
@[simp] theorem State.biasMod_tx (s : State) (i : Nat) (f) : (s.biasMod i f).tx = s.tx := rfl
@[simp] theorem State.biasMod_stretch (s : State) (i : Nat) (f) : (s.biasMod i f).stretch = s.stretch := rfl
@[simp] theorem State.biasMod_framer (s : State) (i : Nat) (f) : (s.biasMod i f).framer = s.framer := rfl
@[simp] theorem State.biasMod_mask (s : State) (i : Nat) (f) : (s.biasMod i f).mask = s.mask := rfl
@[simp] theorem State.biasMod_face (s : State) (i : Nat) (f) : (s.biasMod i f).face = s.face := rfl
@[simp] theorem State.biasMod_rxSlot (s : State) (i : Nat) (f) : (s.biasMod i f).rxSlot = s.rxSlot := rfl
@[simp] theorem State.biasMod_txSlot (s : State) (i : Nat) (f) : (s.biasMod i f).txSlot = s.txSlot := rfl
@[simp] theorem State.biasMod_client (s : State) (i : Nat) (f) : (s.biasMod i f).client = s.client := rfl
@[simp] theorem State.biasMod_streams (s : State) (i : Nat) (f) : (s.biasMod i f).streams = s.streams := rfl
@[simp] theorem State.biasMod_etype (s : State) (i : Nat) (f) : (s.biasMod i f).etype = s.etype := rfl
@[simp] theorem State.biasMod_port (s : State) (i : Nat) (f) : (s.biasMod i f).port = s.port := rfl
@[simp] theorem State.biasMod_hlane (s : State) (i : Nat) (f) : (s.biasMod i f).hlane = s.hlane := rfl
@[simp] theorem State.biasMod_nodeAddr (s : State) (i : Nat) (f) : (s.biasMod i f).nodeAddr = s.nodeAddr := rfl
@[simp] theorem State.biasMod_netId (s : State) (i : Nat) (f) : (s.biasMod i f).netId = s.netId := rfl
@[simp] theorem State.biasMod_icing (s : State) (i : Nat) (f) : (s.biasMod i f).icing = s.icing := rfl
@[simp] theorem State.biasMod_loop (s : State) (i : Nat) (f) : (s.biasMod i f).loop = s.loop := rfl
@[simp] theorem State.biasMod_core (s : State) (i : Nat) (f) : (s.biasMod i f).core = s.core := rfl
@[simp] theorem State.biasMod_biasLow (s : State) (i : Nat) (f) : (s.biasMod i f).biasLow = s.biasLow := rfl
@[simp] theorem State.biasMod_madc (s : State) (i : Nat) (f) : (s.biasMod i f).madc = s.madc := rfl
@[simp] theorem State.biasMod_mon (s : State) (i : Nat) (f) : (s.biasMod i f).mon = s.mon := rfl
@[simp] theorem State.biasMod_cal (s : State) (i : Nat) (f) : (s.biasMod i f).cal = s.cal := rfl
@[simp] theorem State.biasMod_dma (s : State) (i : Nat) (f) : (s.biasMod i f).dma = s.dma := rfl
@[simp] theorem State.biasMod_tierp (s : State) (i : Nat) (f) : (s.biasMod i f).tierp = s.tierp := rfl
@[simp] theorem State.biasMod_resp (s : State) (i : Nat) (f) : (s.biasMod i f).resp = s.resp := rfl
@[simp] theorem State.biasMod_free (s : State) (i : Nat) (f) : (s.biasMod i f).free = s.free := rfl
@[simp] theorem State.biasMod_pending (s : State) (i : Nat) (f) : (s.biasMod i f).pending = s.pending := rfl

@[simp] theorem State.madcAt_madcMod_self (s : State) (i : Nat) (f) : (s.madcMod i f).madcAt i = f (s.madcAt i) := Tab.get_upd_self _ _ _ _
@[simp] theorem State.madcAt_madcMod_ne (s : State) {i j : Nat} (f) (h : j ≠ i) : (s.madcMod i f).madcAt j = s.madcAt j := Tab.get_upd_ne _ _ _ h
@[simp] theorem State.madcMod_sys (s : State) (i : Nat) (f) : (s.madcMod i f).sys = s.sys := rfl
@[simp] theorem State.madcMod_spi (s : State) (i : Nat) (f) : (s.madcMod i f).spi = s.spi := rfl
@[simp] theorem State.madcMod_irq (s : State) (i : Nat) (f) : (s.madcMod i f).irq = s.irq := rfl
@[simp] theorem State.madcMod_mbx (s : State) (i : Nat) (f) : (s.madcMod i f).mbx = s.mbx := rfl
@[simp] theorem State.madcMod_qry (s : State) (i : Nat) (f) : (s.madcMod i f).qry = s.qry := rfl
@[simp] theorem State.madcMod_pwr (s : State) (i : Nat) (f) : (s.madcMod i f).pwr = s.pwr := rfl
@[simp] theorem State.madcMod_skew (s : State) (i : Nat) (f) : (s.madcMod i f).skew = s.skew := rfl
@[simp] theorem State.madcMod_sram (s : State) (i : Nat) (f) : (s.madcMod i f).sram = s.sram := rfl
@[simp] theorem State.madcMod_sramBad (s : State) (i : Nat) (f) : (s.madcMod i f).sramBad = s.sramBad := rfl
@[simp] theorem State.madcMod_sramSoft (s : State) (i : Nat) (f) : (s.madcMod i f).sramSoft = s.sramSoft := rfl
@[simp] theorem State.madcMod_bank (s : State) (i : Nat) (f) : (s.madcMod i f).bank = s.bank := rfl
@[simp] theorem State.madcMod_calMem (s : State) (i : Nat) (f) : (s.madcMod i f).calMem = s.calMem := rfl
@[simp] theorem State.madcMod_cliMem (s : State) (i : Nat) (f) : (s.madcMod i f).cliMem = s.cliMem := rfl
@[simp] theorem State.madcMod_loopRej (s : State) (i : Nat) (f) : (s.madcMod i f).loopRej = s.loopRej := rfl
@[simp] theorem State.madcMod_loopSyn (s : State) (i : Nat) (f) : (s.madcMod i f).loopSyn = s.loopSyn := rfl
@[simp] theorem State.madcMod_rx (s : State) (i : Nat) (f) : (s.madcMod i f).rx = s.rx := rfl
@[simp] theorem State.madcMod_tx (s : State) (i : Nat) (f) : (s.madcMod i f).tx = s.tx := rfl
@[simp] theorem State.madcMod_stretch (s : State) (i : Nat) (f) : (s.madcMod i f).stretch = s.stretch := rfl
@[simp] theorem State.madcMod_framer (s : State) (i : Nat) (f) : (s.madcMod i f).framer = s.framer := rfl
@[simp] theorem State.madcMod_mask (s : State) (i : Nat) (f) : (s.madcMod i f).mask = s.mask := rfl
@[simp] theorem State.madcMod_face (s : State) (i : Nat) (f) : (s.madcMod i f).face = s.face := rfl
@[simp] theorem State.madcMod_rxSlot (s : State) (i : Nat) (f) : (s.madcMod i f).rxSlot = s.rxSlot := rfl
@[simp] theorem State.madcMod_txSlot (s : State) (i : Nat) (f) : (s.madcMod i f).txSlot = s.txSlot := rfl
@[simp] theorem State.madcMod_client (s : State) (i : Nat) (f) : (s.madcMod i f).client = s.client := rfl
@[simp] theorem State.madcMod_streams (s : State) (i : Nat) (f) : (s.madcMod i f).streams = s.streams := rfl
@[simp] theorem State.madcMod_etype (s : State) (i : Nat) (f) : (s.madcMod i f).etype = s.etype := rfl
@[simp] theorem State.madcMod_port (s : State) (i : Nat) (f) : (s.madcMod i f).port = s.port := rfl
@[simp] theorem State.madcMod_hlane (s : State) (i : Nat) (f) : (s.madcMod i f).hlane = s.hlane := rfl
@[simp] theorem State.madcMod_nodeAddr (s : State) (i : Nat) (f) : (s.madcMod i f).nodeAddr = s.nodeAddr := rfl
@[simp] theorem State.madcMod_netId (s : State) (i : Nat) (f) : (s.madcMod i f).netId = s.netId := rfl
@[simp] theorem State.madcMod_icing (s : State) (i : Nat) (f) : (s.madcMod i f).icing = s.icing := rfl
@[simp] theorem State.madcMod_loop (s : State) (i : Nat) (f) : (s.madcMod i f).loop = s.loop := rfl
@[simp] theorem State.madcMod_core (s : State) (i : Nat) (f) : (s.madcMod i f).core = s.core := rfl
@[simp] theorem State.madcMod_bias (s : State) (i : Nat) (f) : (s.madcMod i f).bias = s.bias := rfl
@[simp] theorem State.madcMod_biasLow (s : State) (i : Nat) (f) : (s.madcMod i f).biasLow = s.biasLow := rfl
@[simp] theorem State.madcMod_mon (s : State) (i : Nat) (f) : (s.madcMod i f).mon = s.mon := rfl
@[simp] theorem State.madcMod_cal (s : State) (i : Nat) (f) : (s.madcMod i f).cal = s.cal := rfl
@[simp] theorem State.madcMod_dma (s : State) (i : Nat) (f) : (s.madcMod i f).dma = s.dma := rfl
@[simp] theorem State.madcMod_tierp (s : State) (i : Nat) (f) : (s.madcMod i f).tierp = s.tierp := rfl
@[simp] theorem State.madcMod_resp (s : State) (i : Nat) (f) : (s.madcMod i f).resp = s.resp := rfl
@[simp] theorem State.madcMod_free (s : State) (i : Nat) (f) : (s.madcMod i f).free = s.free := rfl
@[simp] theorem State.madcMod_pending (s : State) (i : Nat) (f) : (s.madcMod i f).pending = s.pending := rfl

@[simp] theorem State.monAt_monMod_self (s : State) (i : Nat) (f) : (s.monMod i f).monAt i = f (s.monAt i) := Tab.get_upd_self _ _ _ _
@[simp] theorem State.monAt_monMod_ne (s : State) {i j : Nat} (f) (h : j ≠ i) : (s.monMod i f).monAt j = s.monAt j := Tab.get_upd_ne _ _ _ h
@[simp] theorem State.monMod_sys (s : State) (i : Nat) (f) : (s.monMod i f).sys = s.sys := rfl
@[simp] theorem State.monMod_spi (s : State) (i : Nat) (f) : (s.monMod i f).spi = s.spi := rfl
@[simp] theorem State.monMod_irq (s : State) (i : Nat) (f) : (s.monMod i f).irq = s.irq := rfl
@[simp] theorem State.monMod_mbx (s : State) (i : Nat) (f) : (s.monMod i f).mbx = s.mbx := rfl
@[simp] theorem State.monMod_qry (s : State) (i : Nat) (f) : (s.monMod i f).qry = s.qry := rfl
@[simp] theorem State.monMod_pwr (s : State) (i : Nat) (f) : (s.monMod i f).pwr = s.pwr := rfl
@[simp] theorem State.monMod_skew (s : State) (i : Nat) (f) : (s.monMod i f).skew = s.skew := rfl
@[simp] theorem State.monMod_sram (s : State) (i : Nat) (f) : (s.monMod i f).sram = s.sram := rfl
@[simp] theorem State.monMod_sramBad (s : State) (i : Nat) (f) : (s.monMod i f).sramBad = s.sramBad := rfl
@[simp] theorem State.monMod_sramSoft (s : State) (i : Nat) (f) : (s.monMod i f).sramSoft = s.sramSoft := rfl
@[simp] theorem State.monMod_bank (s : State) (i : Nat) (f) : (s.monMod i f).bank = s.bank := rfl
@[simp] theorem State.monMod_calMem (s : State) (i : Nat) (f) : (s.monMod i f).calMem = s.calMem := rfl
@[simp] theorem State.monMod_cliMem (s : State) (i : Nat) (f) : (s.monMod i f).cliMem = s.cliMem := rfl
@[simp] theorem State.monMod_loopRej (s : State) (i : Nat) (f) : (s.monMod i f).loopRej = s.loopRej := rfl
@[simp] theorem State.monMod_loopSyn (s : State) (i : Nat) (f) : (s.monMod i f).loopSyn = s.loopSyn := rfl
@[simp] theorem State.monMod_rx (s : State) (i : Nat) (f) : (s.monMod i f).rx = s.rx := rfl
@[simp] theorem State.monMod_tx (s : State) (i : Nat) (f) : (s.monMod i f).tx = s.tx := rfl
@[simp] theorem State.monMod_stretch (s : State) (i : Nat) (f) : (s.monMod i f).stretch = s.stretch := rfl
@[simp] theorem State.monMod_framer (s : State) (i : Nat) (f) : (s.monMod i f).framer = s.framer := rfl
@[simp] theorem State.monMod_mask (s : State) (i : Nat) (f) : (s.monMod i f).mask = s.mask := rfl
@[simp] theorem State.monMod_face (s : State) (i : Nat) (f) : (s.monMod i f).face = s.face := rfl
@[simp] theorem State.monMod_rxSlot (s : State) (i : Nat) (f) : (s.monMod i f).rxSlot = s.rxSlot := rfl
@[simp] theorem State.monMod_txSlot (s : State) (i : Nat) (f) : (s.monMod i f).txSlot = s.txSlot := rfl
@[simp] theorem State.monMod_client (s : State) (i : Nat) (f) : (s.monMod i f).client = s.client := rfl
@[simp] theorem State.monMod_streams (s : State) (i : Nat) (f) : (s.monMod i f).streams = s.streams := rfl
@[simp] theorem State.monMod_etype (s : State) (i : Nat) (f) : (s.monMod i f).etype = s.etype := rfl
@[simp] theorem State.monMod_port (s : State) (i : Nat) (f) : (s.monMod i f).port = s.port := rfl
@[simp] theorem State.monMod_hlane (s : State) (i : Nat) (f) : (s.monMod i f).hlane = s.hlane := rfl
@[simp] theorem State.monMod_nodeAddr (s : State) (i : Nat) (f) : (s.monMod i f).nodeAddr = s.nodeAddr := rfl
@[simp] theorem State.monMod_netId (s : State) (i : Nat) (f) : (s.monMod i f).netId = s.netId := rfl
@[simp] theorem State.monMod_icing (s : State) (i : Nat) (f) : (s.monMod i f).icing = s.icing := rfl
@[simp] theorem State.monMod_loop (s : State) (i : Nat) (f) : (s.monMod i f).loop = s.loop := rfl
@[simp] theorem State.monMod_core (s : State) (i : Nat) (f) : (s.monMod i f).core = s.core := rfl
@[simp] theorem State.monMod_bias (s : State) (i : Nat) (f) : (s.monMod i f).bias = s.bias := rfl
@[simp] theorem State.monMod_biasLow (s : State) (i : Nat) (f) : (s.monMod i f).biasLow = s.biasLow := rfl
@[simp] theorem State.monMod_madc (s : State) (i : Nat) (f) : (s.monMod i f).madc = s.madc := rfl
@[simp] theorem State.monMod_cal (s : State) (i : Nat) (f) : (s.monMod i f).cal = s.cal := rfl
@[simp] theorem State.monMod_dma (s : State) (i : Nat) (f) : (s.monMod i f).dma = s.dma := rfl
@[simp] theorem State.monMod_tierp (s : State) (i : Nat) (f) : (s.monMod i f).tierp = s.tierp := rfl
@[simp] theorem State.monMod_resp (s : State) (i : Nat) (f) : (s.monMod i f).resp = s.resp := rfl
@[simp] theorem State.monMod_free (s : State) (i : Nat) (f) : (s.monMod i f).free = s.free := rfl
@[simp] theorem State.monMod_pending (s : State) (i : Nat) (f) : (s.monMod i f).pending = s.pending := rfl

@[simp] theorem State.qryAt_qryMod_self (s : State) (i : Nat) (f) : (s.qryMod i f).qryAt i = f (s.qryAt i) := Tab.get_upd_self _ _ _ _
@[simp] theorem State.qryAt_qryMod_ne (s : State) {i j : Nat} (f) (h : j ≠ i) : (s.qryMod i f).qryAt j = s.qryAt j := Tab.get_upd_ne _ _ _ h
@[simp] theorem State.qryMod_sys (s : State) (i : Nat) (f) : (s.qryMod i f).sys = s.sys := rfl
@[simp] theorem State.qryMod_spi (s : State) (i : Nat) (f) : (s.qryMod i f).spi = s.spi := rfl
@[simp] theorem State.qryMod_irq (s : State) (i : Nat) (f) : (s.qryMod i f).irq = s.irq := rfl
@[simp] theorem State.qryMod_mbx (s : State) (i : Nat) (f) : (s.qryMod i f).mbx = s.mbx := rfl
@[simp] theorem State.qryMod_pwr (s : State) (i : Nat) (f) : (s.qryMod i f).pwr = s.pwr := rfl
@[simp] theorem State.qryMod_skew (s : State) (i : Nat) (f) : (s.qryMod i f).skew = s.skew := rfl
@[simp] theorem State.qryMod_sram (s : State) (i : Nat) (f) : (s.qryMod i f).sram = s.sram := rfl
@[simp] theorem State.qryMod_sramBad (s : State) (i : Nat) (f) : (s.qryMod i f).sramBad = s.sramBad := rfl
@[simp] theorem State.qryMod_sramSoft (s : State) (i : Nat) (f) : (s.qryMod i f).sramSoft = s.sramSoft := rfl
@[simp] theorem State.qryMod_bank (s : State) (i : Nat) (f) : (s.qryMod i f).bank = s.bank := rfl
@[simp] theorem State.qryMod_calMem (s : State) (i : Nat) (f) : (s.qryMod i f).calMem = s.calMem := rfl
@[simp] theorem State.qryMod_cliMem (s : State) (i : Nat) (f) : (s.qryMod i f).cliMem = s.cliMem := rfl
@[simp] theorem State.qryMod_loopRej (s : State) (i : Nat) (f) : (s.qryMod i f).loopRej = s.loopRej := rfl
@[simp] theorem State.qryMod_loopSyn (s : State) (i : Nat) (f) : (s.qryMod i f).loopSyn = s.loopSyn := rfl
@[simp] theorem State.qryMod_rx (s : State) (i : Nat) (f) : (s.qryMod i f).rx = s.rx := rfl
@[simp] theorem State.qryMod_tx (s : State) (i : Nat) (f) : (s.qryMod i f).tx = s.tx := rfl
@[simp] theorem State.qryMod_stretch (s : State) (i : Nat) (f) : (s.qryMod i f).stretch = s.stretch := rfl
@[simp] theorem State.qryMod_framer (s : State) (i : Nat) (f) : (s.qryMod i f).framer = s.framer := rfl
@[simp] theorem State.qryMod_mask (s : State) (i : Nat) (f) : (s.qryMod i f).mask = s.mask := rfl
@[simp] theorem State.qryMod_face (s : State) (i : Nat) (f) : (s.qryMod i f).face = s.face := rfl
@[simp] theorem State.qryMod_rxSlot (s : State) (i : Nat) (f) : (s.qryMod i f).rxSlot = s.rxSlot := rfl
@[simp] theorem State.qryMod_txSlot (s : State) (i : Nat) (f) : (s.qryMod i f).txSlot = s.txSlot := rfl
@[simp] theorem State.qryMod_client (s : State) (i : Nat) (f) : (s.qryMod i f).client = s.client := rfl
@[simp] theorem State.qryMod_streams (s : State) (i : Nat) (f) : (s.qryMod i f).streams = s.streams := rfl
@[simp] theorem State.qryMod_etype (s : State) (i : Nat) (f) : (s.qryMod i f).etype = s.etype := rfl
@[simp] theorem State.qryMod_port (s : State) (i : Nat) (f) : (s.qryMod i f).port = s.port := rfl
@[simp] theorem State.qryMod_hlane (s : State) (i : Nat) (f) : (s.qryMod i f).hlane = s.hlane := rfl
@[simp] theorem State.qryMod_nodeAddr (s : State) (i : Nat) (f) : (s.qryMod i f).nodeAddr = s.nodeAddr := rfl
@[simp] theorem State.qryMod_netId (s : State) (i : Nat) (f) : (s.qryMod i f).netId = s.netId := rfl
@[simp] theorem State.qryMod_icing (s : State) (i : Nat) (f) : (s.qryMod i f).icing = s.icing := rfl
@[simp] theorem State.qryMod_loop (s : State) (i : Nat) (f) : (s.qryMod i f).loop = s.loop := rfl
@[simp] theorem State.qryMod_core (s : State) (i : Nat) (f) : (s.qryMod i f).core = s.core := rfl
@[simp] theorem State.qryMod_bias (s : State) (i : Nat) (f) : (s.qryMod i f).bias = s.bias := rfl
@[simp] theorem State.qryMod_biasLow (s : State) (i : Nat) (f) : (s.qryMod i f).biasLow = s.biasLow := rfl
@[simp] theorem State.qryMod_madc (s : State) (i : Nat) (f) : (s.qryMod i f).madc = s.madc := rfl
@[simp] theorem State.qryMod_mon (s : State) (i : Nat) (f) : (s.qryMod i f).mon = s.mon := rfl
@[simp] theorem State.qryMod_cal (s : State) (i : Nat) (f) : (s.qryMod i f).cal = s.cal := rfl
@[simp] theorem State.qryMod_dma (s : State) (i : Nat) (f) : (s.qryMod i f).dma = s.dma := rfl
@[simp] theorem State.qryMod_tierp (s : State) (i : Nat) (f) : (s.qryMod i f).tierp = s.tierp := rfl
@[simp] theorem State.qryMod_resp (s : State) (i : Nat) (f) : (s.qryMod i f).resp = s.resp := rfl
@[simp] theorem State.qryMod_free (s : State) (i : Nat) (f) : (s.qryMod i f).free = s.free := rfl
@[simp] theorem State.qryMod_pending (s : State) (i : Nat) (f) : (s.qryMod i f).pending = s.pending := rfl

@[simp] theorem State.chanAt_chanMod_self (s : State) (i : Nat) (f) : (s.chanMod i f).chanAt i = f (s.chanAt i) := Tab.get_upd_self _ _ _ _
@[simp] theorem State.chanAt_chanMod_ne (s : State) {i j : Nat} (f) (h : j ≠ i) : (s.chanMod i f).chanAt j = s.chanAt j := Tab.get_upd_ne _ _ _ h
@[simp] theorem State.chanMod_sys (s : State) (i : Nat) (f) : (s.chanMod i f).sys = s.sys := rfl
@[simp] theorem State.chanMod_spi (s : State) (i : Nat) (f) : (s.chanMod i f).spi = s.spi := rfl
@[simp] theorem State.chanMod_irq (s : State) (i : Nat) (f) : (s.chanMod i f).irq = s.irq := rfl
@[simp] theorem State.chanMod_mbx (s : State) (i : Nat) (f) : (s.chanMod i f).mbx = s.mbx := rfl
@[simp] theorem State.chanMod_qry (s : State) (i : Nat) (f) : (s.chanMod i f).qry = s.qry := rfl
@[simp] theorem State.chanMod_pwr (s : State) (i : Nat) (f) : (s.chanMod i f).pwr = s.pwr := rfl
@[simp] theorem State.chanMod_skew (s : State) (i : Nat) (f) : (s.chanMod i f).skew = s.skew := rfl
@[simp] theorem State.chanMod_sram (s : State) (i : Nat) (f) : (s.chanMod i f).sram = s.sram := rfl
@[simp] theorem State.chanMod_sramBad (s : State) (i : Nat) (f) : (s.chanMod i f).sramBad = s.sramBad := rfl
@[simp] theorem State.chanMod_sramSoft (s : State) (i : Nat) (f) : (s.chanMod i f).sramSoft = s.sramSoft := rfl
@[simp] theorem State.chanMod_bank (s : State) (i : Nat) (f) : (s.chanMod i f).bank = s.bank := rfl
@[simp] theorem State.chanMod_calMem (s : State) (i : Nat) (f) : (s.chanMod i f).calMem = s.calMem := rfl
@[simp] theorem State.chanMod_cliMem (s : State) (i : Nat) (f) : (s.chanMod i f).cliMem = s.cliMem := rfl
@[simp] theorem State.chanMod_loopRej (s : State) (i : Nat) (f) : (s.chanMod i f).loopRej = s.loopRej := rfl
@[simp] theorem State.chanMod_loopSyn (s : State) (i : Nat) (f) : (s.chanMod i f).loopSyn = s.loopSyn := rfl
@[simp] theorem State.chanMod_rx (s : State) (i : Nat) (f) : (s.chanMod i f).rx = s.rx := rfl
@[simp] theorem State.chanMod_tx (s : State) (i : Nat) (f) : (s.chanMod i f).tx = s.tx := rfl
@[simp] theorem State.chanMod_stretch (s : State) (i : Nat) (f) : (s.chanMod i f).stretch = s.stretch := rfl
@[simp] theorem State.chanMod_framer (s : State) (i : Nat) (f) : (s.chanMod i f).framer = s.framer := rfl
@[simp] theorem State.chanMod_mask (s : State) (i : Nat) (f) : (s.chanMod i f).mask = s.mask := rfl
@[simp] theorem State.chanMod_face (s : State) (i : Nat) (f) : (s.chanMod i f).face = s.face := rfl
@[simp] theorem State.chanMod_rxSlot (s : State) (i : Nat) (f) : (s.chanMod i f).rxSlot = s.rxSlot := rfl
@[simp] theorem State.chanMod_txSlot (s : State) (i : Nat) (f) : (s.chanMod i f).txSlot = s.txSlot := rfl
@[simp] theorem State.chanMod_client (s : State) (i : Nat) (f) : (s.chanMod i f).client = s.client := rfl
@[simp] theorem State.chanMod_streams (s : State) (i : Nat) (f) : (s.chanMod i f).streams = s.streams := rfl
@[simp] theorem State.chanMod_etype (s : State) (i : Nat) (f) : (s.chanMod i f).etype = s.etype := rfl
@[simp] theorem State.chanMod_port (s : State) (i : Nat) (f) : (s.chanMod i f).port = s.port := rfl
@[simp] theorem State.chanMod_hlane (s : State) (i : Nat) (f) : (s.chanMod i f).hlane = s.hlane := rfl
@[simp] theorem State.chanMod_nodeAddr (s : State) (i : Nat) (f) : (s.chanMod i f).nodeAddr = s.nodeAddr := rfl
@[simp] theorem State.chanMod_netId (s : State) (i : Nat) (f) : (s.chanMod i f).netId = s.netId := rfl
@[simp] theorem State.chanMod_icing (s : State) (i : Nat) (f) : (s.chanMod i f).icing = s.icing := rfl
@[simp] theorem State.chanMod_loop (s : State) (i : Nat) (f) : (s.chanMod i f).loop = s.loop := rfl
@[simp] theorem State.chanMod_core (s : State) (i : Nat) (f) : (s.chanMod i f).core = s.core := rfl
@[simp] theorem State.chanMod_bias (s : State) (i : Nat) (f) : (s.chanMod i f).bias = s.bias := rfl
@[simp] theorem State.chanMod_biasLow (s : State) (i : Nat) (f) : (s.chanMod i f).biasLow = s.biasLow := rfl
@[simp] theorem State.chanMod_madc (s : State) (i : Nat) (f) : (s.chanMod i f).madc = s.madc := rfl
@[simp] theorem State.chanMod_mon (s : State) (i : Nat) (f) : (s.chanMod i f).mon = s.mon := rfl
@[simp] theorem State.chanMod_cal (s : State) (i : Nat) (f) : (s.chanMod i f).cal = s.cal := rfl
@[simp] theorem State.chanMod_tierp (s : State) (i : Nat) (f) : (s.chanMod i f).tierp = s.tierp := rfl
@[simp] theorem State.chanMod_resp (s : State) (i : Nat) (f) : (s.chanMod i f).resp = s.resp := rfl
@[simp] theorem State.chanMod_free (s : State) (i : Nat) (f) : (s.chanMod i f).free = s.free := rfl
@[simp] theorem State.chanMod_pending (s : State) (i : Nat) (f) : (s.chanMod i f).pending = s.pending := rfl

@[simp] theorem State.timerAt_timerMod_self (s : State) (i : Nat) (f) : (s.timerMod i f).timerAt i = f (s.timerAt i) := Tab.get_upd_self _ _ _ _
@[simp] theorem State.timerAt_timerMod_ne (s : State) {i j : Nat} (f) (h : j ≠ i) : (s.timerMod i f).timerAt j = s.timerAt j := Tab.get_upd_ne _ _ _ h
@[simp] theorem State.timerMod_sys (s : State) (i : Nat) (f) : (s.timerMod i f).sys = s.sys := rfl
@[simp] theorem State.timerMod_spi (s : State) (i : Nat) (f) : (s.timerMod i f).spi = s.spi := rfl
@[simp] theorem State.timerMod_irq (s : State) (i : Nat) (f) : (s.timerMod i f).irq = s.irq := rfl
@[simp] theorem State.timerMod_mbx (s : State) (i : Nat) (f) : (s.timerMod i f).mbx = s.mbx := rfl
@[simp] theorem State.timerMod_qry (s : State) (i : Nat) (f) : (s.timerMod i f).qry = s.qry := rfl
@[simp] theorem State.timerMod_pwr (s : State) (i : Nat) (f) : (s.timerMod i f).pwr = s.pwr := rfl
@[simp] theorem State.timerMod_skew (s : State) (i : Nat) (f) : (s.timerMod i f).skew = s.skew := rfl
@[simp] theorem State.timerMod_sram (s : State) (i : Nat) (f) : (s.timerMod i f).sram = s.sram := rfl
@[simp] theorem State.timerMod_sramBad (s : State) (i : Nat) (f) : (s.timerMod i f).sramBad = s.sramBad := rfl
@[simp] theorem State.timerMod_sramSoft (s : State) (i : Nat) (f) : (s.timerMod i f).sramSoft = s.sramSoft := rfl
@[simp] theorem State.timerMod_bank (s : State) (i : Nat) (f) : (s.timerMod i f).bank = s.bank := rfl
@[simp] theorem State.timerMod_calMem (s : State) (i : Nat) (f) : (s.timerMod i f).calMem = s.calMem := rfl
@[simp] theorem State.timerMod_cliMem (s : State) (i : Nat) (f) : (s.timerMod i f).cliMem = s.cliMem := rfl
@[simp] theorem State.timerMod_loopRej (s : State) (i : Nat) (f) : (s.timerMod i f).loopRej = s.loopRej := rfl
@[simp] theorem State.timerMod_loopSyn (s : State) (i : Nat) (f) : (s.timerMod i f).loopSyn = s.loopSyn := rfl
@[simp] theorem State.timerMod_rx (s : State) (i : Nat) (f) : (s.timerMod i f).rx = s.rx := rfl
@[simp] theorem State.timerMod_tx (s : State) (i : Nat) (f) : (s.timerMod i f).tx = s.tx := rfl
@[simp] theorem State.timerMod_stretch (s : State) (i : Nat) (f) : (s.timerMod i f).stretch = s.stretch := rfl
@[simp] theorem State.timerMod_framer (s : State) (i : Nat) (f) : (s.timerMod i f).framer = s.framer := rfl
@[simp] theorem State.timerMod_mask (s : State) (i : Nat) (f) : (s.timerMod i f).mask = s.mask := rfl
@[simp] theorem State.timerMod_face (s : State) (i : Nat) (f) : (s.timerMod i f).face = s.face := rfl
@[simp] theorem State.timerMod_rxSlot (s : State) (i : Nat) (f) : (s.timerMod i f).rxSlot = s.rxSlot := rfl
@[simp] theorem State.timerMod_txSlot (s : State) (i : Nat) (f) : (s.timerMod i f).txSlot = s.txSlot := rfl
@[simp] theorem State.timerMod_client (s : State) (i : Nat) (f) : (s.timerMod i f).client = s.client := rfl
@[simp] theorem State.timerMod_streams (s : State) (i : Nat) (f) : (s.timerMod i f).streams = s.streams := rfl
@[simp] theorem State.timerMod_etype (s : State) (i : Nat) (f) : (s.timerMod i f).etype = s.etype := rfl
@[simp] theorem State.timerMod_port (s : State) (i : Nat) (f) : (s.timerMod i f).port = s.port := rfl
@[simp] theorem State.timerMod_hlane (s : State) (i : Nat) (f) : (s.timerMod i f).hlane = s.hlane := rfl
@[simp] theorem State.timerMod_nodeAddr (s : State) (i : Nat) (f) : (s.timerMod i f).nodeAddr = s.nodeAddr := rfl
@[simp] theorem State.timerMod_netId (s : State) (i : Nat) (f) : (s.timerMod i f).netId = s.netId := rfl
@[simp] theorem State.timerMod_icing (s : State) (i : Nat) (f) : (s.timerMod i f).icing = s.icing := rfl
@[simp] theorem State.timerMod_loop (s : State) (i : Nat) (f) : (s.timerMod i f).loop = s.loop := rfl
@[simp] theorem State.timerMod_core (s : State) (i : Nat) (f) : (s.timerMod i f).core = s.core := rfl
@[simp] theorem State.timerMod_bias (s : State) (i : Nat) (f) : (s.timerMod i f).bias = s.bias := rfl
@[simp] theorem State.timerMod_biasLow (s : State) (i : Nat) (f) : (s.timerMod i f).biasLow = s.biasLow := rfl
@[simp] theorem State.timerMod_madc (s : State) (i : Nat) (f) : (s.timerMod i f).madc = s.madc := rfl
@[simp] theorem State.timerMod_mon (s : State) (i : Nat) (f) : (s.timerMod i f).mon = s.mon := rfl
@[simp] theorem State.timerMod_cal (s : State) (i : Nat) (f) : (s.timerMod i f).cal = s.cal := rfl
@[simp] theorem State.timerMod_tierp (s : State) (i : Nat) (f) : (s.timerMod i f).tierp = s.tierp := rfl
@[simp] theorem State.timerMod_resp (s : State) (i : Nat) (f) : (s.timerMod i f).resp = s.resp := rfl
@[simp] theorem State.timerMod_free (s : State) (i : Nat) (f) : (s.timerMod i f).free = s.free := rfl
@[simp] theorem State.timerMod_pending (s : State) (i : Nat) (f) : (s.timerMod i f).pending = s.pending := rfl

@[simp] theorem State.cntAt_cntMod_self (s : State) (i : Nat) (f) : (s.cntMod i f).cntAt i = f (s.cntAt i) := Tab.get_upd_self _ _ _ _
@[simp] theorem State.cntAt_cntMod_ne (s : State) {i j : Nat} (f) (h : j ≠ i) : (s.cntMod i f).cntAt j = s.cntAt j := Tab.get_upd_ne _ _ _ h
@[simp] theorem State.cntMod_sys (s : State) (i : Nat) (f) : (s.cntMod i f).sys = s.sys := rfl
@[simp] theorem State.cntMod_spi (s : State) (i : Nat) (f) : (s.cntMod i f).spi = s.spi := rfl
@[simp] theorem State.cntMod_irq (s : State) (i : Nat) (f) : (s.cntMod i f).irq = s.irq := rfl
@[simp] theorem State.cntMod_mbx (s : State) (i : Nat) (f) : (s.cntMod i f).mbx = s.mbx := rfl
@[simp] theorem State.cntMod_qry (s : State) (i : Nat) (f) : (s.cntMod i f).qry = s.qry := rfl
@[simp] theorem State.cntMod_pwr (s : State) (i : Nat) (f) : (s.cntMod i f).pwr = s.pwr := rfl
@[simp] theorem State.cntMod_skew (s : State) (i : Nat) (f) : (s.cntMod i f).skew = s.skew := rfl
@[simp] theorem State.cntMod_sram (s : State) (i : Nat) (f) : (s.cntMod i f).sram = s.sram := rfl
@[simp] theorem State.cntMod_sramBad (s : State) (i : Nat) (f) : (s.cntMod i f).sramBad = s.sramBad := rfl
@[simp] theorem State.cntMod_sramSoft (s : State) (i : Nat) (f) : (s.cntMod i f).sramSoft = s.sramSoft := rfl
@[simp] theorem State.cntMod_bank (s : State) (i : Nat) (f) : (s.cntMod i f).bank = s.bank := rfl
@[simp] theorem State.cntMod_calMem (s : State) (i : Nat) (f) : (s.cntMod i f).calMem = s.calMem := rfl
@[simp] theorem State.cntMod_cliMem (s : State) (i : Nat) (f) : (s.cntMod i f).cliMem = s.cliMem := rfl
@[simp] theorem State.cntMod_loopRej (s : State) (i : Nat) (f) : (s.cntMod i f).loopRej = s.loopRej := rfl
@[simp] theorem State.cntMod_loopSyn (s : State) (i : Nat) (f) : (s.cntMod i f).loopSyn = s.loopSyn := rfl
@[simp] theorem State.cntMod_rx (s : State) (i : Nat) (f) : (s.cntMod i f).rx = s.rx := rfl
@[simp] theorem State.cntMod_tx (s : State) (i : Nat) (f) : (s.cntMod i f).tx = s.tx := rfl
@[simp] theorem State.cntMod_stretch (s : State) (i : Nat) (f) : (s.cntMod i f).stretch = s.stretch := rfl
@[simp] theorem State.cntMod_framer (s : State) (i : Nat) (f) : (s.cntMod i f).framer = s.framer := rfl
@[simp] theorem State.cntMod_mask (s : State) (i : Nat) (f) : (s.cntMod i f).mask = s.mask := rfl
@[simp] theorem State.cntMod_face (s : State) (i : Nat) (f) : (s.cntMod i f).face = s.face := rfl
@[simp] theorem State.cntMod_rxSlot (s : State) (i : Nat) (f) : (s.cntMod i f).rxSlot = s.rxSlot := rfl
@[simp] theorem State.cntMod_txSlot (s : State) (i : Nat) (f) : (s.cntMod i f).txSlot = s.txSlot := rfl
@[simp] theorem State.cntMod_client (s : State) (i : Nat) (f) : (s.cntMod i f).client = s.client := rfl
@[simp] theorem State.cntMod_streams (s : State) (i : Nat) (f) : (s.cntMod i f).streams = s.streams := rfl
@[simp] theorem State.cntMod_etype (s : State) (i : Nat) (f) : (s.cntMod i f).etype = s.etype := rfl
@[simp] theorem State.cntMod_port (s : State) (i : Nat) (f) : (s.cntMod i f).port = s.port := rfl
@[simp] theorem State.cntMod_hlane (s : State) (i : Nat) (f) : (s.cntMod i f).hlane = s.hlane := rfl
@[simp] theorem State.cntMod_nodeAddr (s : State) (i : Nat) (f) : (s.cntMod i f).nodeAddr = s.nodeAddr := rfl
@[simp] theorem State.cntMod_netId (s : State) (i : Nat) (f) : (s.cntMod i f).netId = s.netId := rfl
@[simp] theorem State.cntMod_icing (s : State) (i : Nat) (f) : (s.cntMod i f).icing = s.icing := rfl
@[simp] theorem State.cntMod_loop (s : State) (i : Nat) (f) : (s.cntMod i f).loop = s.loop := rfl
@[simp] theorem State.cntMod_core (s : State) (i : Nat) (f) : (s.cntMod i f).core = s.core := rfl
@[simp] theorem State.cntMod_bias (s : State) (i : Nat) (f) : (s.cntMod i f).bias = s.bias := rfl
@[simp] theorem State.cntMod_biasLow (s : State) (i : Nat) (f) : (s.cntMod i f).biasLow = s.biasLow := rfl
@[simp] theorem State.cntMod_madc (s : State) (i : Nat) (f) : (s.cntMod i f).madc = s.madc := rfl
@[simp] theorem State.cntMod_mon (s : State) (i : Nat) (f) : (s.cntMod i f).mon = s.mon := rfl
@[simp] theorem State.cntMod_cal (s : State) (i : Nat) (f) : (s.cntMod i f).cal = s.cal := rfl
@[simp] theorem State.cntMod_tierp (s : State) (i : Nat) (f) : (s.cntMod i f).tierp = s.tierp := rfl
@[simp] theorem State.cntMod_resp (s : State) (i : Nat) (f) : (s.cntMod i f).resp = s.resp := rfl
@[simp] theorem State.cntMod_free (s : State) (i : Nat) (f) : (s.cntMod i f).free = s.free := rfl
@[simp] theorem State.cntMod_pending (s : State) (i : Nat) (f) : (s.cntMod i f).pending = s.pending := rfl

@[simp] theorem State.winAt_winMod_self (s : State) (i : Nat) (f) : (s.winMod i f).winAt i = f (s.winAt i) := Tab.get_upd_self _ _ _ _
@[simp] theorem State.winAt_winMod_ne (s : State) {i j : Nat} (f) (h : j ≠ i) : (s.winMod i f).winAt j = s.winAt j := Tab.get_upd_ne _ _ _ h
@[simp] theorem State.winMod_sys (s : State) (i : Nat) (f) : (s.winMod i f).sys = s.sys := rfl
@[simp] theorem State.winMod_spi (s : State) (i : Nat) (f) : (s.winMod i f).spi = s.spi := rfl
@[simp] theorem State.winMod_irq (s : State) (i : Nat) (f) : (s.winMod i f).irq = s.irq := rfl
@[simp] theorem State.winMod_mbx (s : State) (i : Nat) (f) : (s.winMod i f).mbx = s.mbx := rfl
@[simp] theorem State.winMod_qry (s : State) (i : Nat) (f) : (s.winMod i f).qry = s.qry := rfl
@[simp] theorem State.winMod_pwr (s : State) (i : Nat) (f) : (s.winMod i f).pwr = s.pwr := rfl
@[simp] theorem State.winMod_skew (s : State) (i : Nat) (f) : (s.winMod i f).skew = s.skew := rfl
@[simp] theorem State.winMod_sram (s : State) (i : Nat) (f) : (s.winMod i f).sram = s.sram := rfl
@[simp] theorem State.winMod_sramBad (s : State) (i : Nat) (f) : (s.winMod i f).sramBad = s.sramBad := rfl
@[simp] theorem State.winMod_sramSoft (s : State) (i : Nat) (f) : (s.winMod i f).sramSoft = s.sramSoft := rfl
@[simp] theorem State.winMod_bank (s : State) (i : Nat) (f) : (s.winMod i f).bank = s.bank := rfl
@[simp] theorem State.winMod_calMem (s : State) (i : Nat) (f) : (s.winMod i f).calMem = s.calMem := rfl
@[simp] theorem State.winMod_cliMem (s : State) (i : Nat) (f) : (s.winMod i f).cliMem = s.cliMem := rfl
@[simp] theorem State.winMod_loopRej (s : State) (i : Nat) (f) : (s.winMod i f).loopRej = s.loopRej := rfl
@[simp] theorem State.winMod_loopSyn (s : State) (i : Nat) (f) : (s.winMod i f).loopSyn = s.loopSyn := rfl
@[simp] theorem State.winMod_rx (s : State) (i : Nat) (f) : (s.winMod i f).rx = s.rx := rfl
@[simp] theorem State.winMod_tx (s : State) (i : Nat) (f) : (s.winMod i f).tx = s.tx := rfl
@[simp] theorem State.winMod_stretch (s : State) (i : Nat) (f) : (s.winMod i f).stretch = s.stretch := rfl
@[simp] theorem State.winMod_framer (s : State) (i : Nat) (f) : (s.winMod i f).framer = s.framer := rfl
@[simp] theorem State.winMod_mask (s : State) (i : Nat) (f) : (s.winMod i f).mask = s.mask := rfl
@[simp] theorem State.winMod_face (s : State) (i : Nat) (f) : (s.winMod i f).face = s.face := rfl
@[simp] theorem State.winMod_rxSlot (s : State) (i : Nat) (f) : (s.winMod i f).rxSlot = s.rxSlot := rfl
@[simp] theorem State.winMod_txSlot (s : State) (i : Nat) (f) : (s.winMod i f).txSlot = s.txSlot := rfl
@[simp] theorem State.winMod_client (s : State) (i : Nat) (f) : (s.winMod i f).client = s.client := rfl
@[simp] theorem State.winMod_streams (s : State) (i : Nat) (f) : (s.winMod i f).streams = s.streams := rfl
@[simp] theorem State.winMod_etype (s : State) (i : Nat) (f) : (s.winMod i f).etype = s.etype := rfl
@[simp] theorem State.winMod_port (s : State) (i : Nat) (f) : (s.winMod i f).port = s.port := rfl
@[simp] theorem State.winMod_hlane (s : State) (i : Nat) (f) : (s.winMod i f).hlane = s.hlane := rfl
@[simp] theorem State.winMod_nodeAddr (s : State) (i : Nat) (f) : (s.winMod i f).nodeAddr = s.nodeAddr := rfl
@[simp] theorem State.winMod_netId (s : State) (i : Nat) (f) : (s.winMod i f).netId = s.netId := rfl
@[simp] theorem State.winMod_icing (s : State) (i : Nat) (f) : (s.winMod i f).icing = s.icing := rfl
@[simp] theorem State.winMod_loop (s : State) (i : Nat) (f) : (s.winMod i f).loop = s.loop := rfl
@[simp] theorem State.winMod_core (s : State) (i : Nat) (f) : (s.winMod i f).core = s.core := rfl
@[simp] theorem State.winMod_bias (s : State) (i : Nat) (f) : (s.winMod i f).bias = s.bias := rfl
@[simp] theorem State.winMod_biasLow (s : State) (i : Nat) (f) : (s.winMod i f).biasLow = s.biasLow := rfl
@[simp] theorem State.winMod_madc (s : State) (i : Nat) (f) : (s.winMod i f).madc = s.madc := rfl
@[simp] theorem State.winMod_mon (s : State) (i : Nat) (f) : (s.winMod i f).mon = s.mon := rfl
@[simp] theorem State.winMod_cal (s : State) (i : Nat) (f) : (s.winMod i f).cal = s.cal := rfl
@[simp] theorem State.winMod_tierp (s : State) (i : Nat) (f) : (s.winMod i f).tierp = s.tierp := rfl
@[simp] theorem State.winMod_resp (s : State) (i : Nat) (f) : (s.winMod i f).resp = s.resp := rfl
@[simp] theorem State.winMod_free (s : State) (i : Nat) (f) : (s.winMod i f).free = s.free := rfl
@[simp] theorem State.winMod_pending (s : State) (i : Nat) (f) : (s.winMod i f).pending = s.pending := rfl

@[simp] theorem State.turnAt_turnMod_self (s : State) (i : Nat) (f) : (s.turnMod i f).turnAt i = f (s.turnAt i) := Tab.get_upd_self _ _ _ _
@[simp] theorem State.turnAt_turnMod_ne (s : State) {i j : Nat} (f) (h : j ≠ i) : (s.turnMod i f).turnAt j = s.turnAt j := Tab.get_upd_ne _ _ _ h
@[simp] theorem State.turnMod_sys (s : State) (i : Nat) (f) : (s.turnMod i f).sys = s.sys := rfl
@[simp] theorem State.turnMod_spi (s : State) (i : Nat) (f) : (s.turnMod i f).spi = s.spi := rfl
@[simp] theorem State.turnMod_irq (s : State) (i : Nat) (f) : (s.turnMod i f).irq = s.irq := rfl
@[simp] theorem State.turnMod_mbx (s : State) (i : Nat) (f) : (s.turnMod i f).mbx = s.mbx := rfl
@[simp] theorem State.turnMod_qry (s : State) (i : Nat) (f) : (s.turnMod i f).qry = s.qry := rfl
@[simp] theorem State.turnMod_pwr (s : State) (i : Nat) (f) : (s.turnMod i f).pwr = s.pwr := rfl
@[simp] theorem State.turnMod_skew (s : State) (i : Nat) (f) : (s.turnMod i f).skew = s.skew := rfl
@[simp] theorem State.turnMod_sram (s : State) (i : Nat) (f) : (s.turnMod i f).sram = s.sram := rfl
@[simp] theorem State.turnMod_sramBad (s : State) (i : Nat) (f) : (s.turnMod i f).sramBad = s.sramBad := rfl
@[simp] theorem State.turnMod_sramSoft (s : State) (i : Nat) (f) : (s.turnMod i f).sramSoft = s.sramSoft := rfl
@[simp] theorem State.turnMod_bank (s : State) (i : Nat) (f) : (s.turnMod i f).bank = s.bank := rfl
@[simp] theorem State.turnMod_calMem (s : State) (i : Nat) (f) : (s.turnMod i f).calMem = s.calMem := rfl
@[simp] theorem State.turnMod_cliMem (s : State) (i : Nat) (f) : (s.turnMod i f).cliMem = s.cliMem := rfl
@[simp] theorem State.turnMod_loopRej (s : State) (i : Nat) (f) : (s.turnMod i f).loopRej = s.loopRej := rfl
@[simp] theorem State.turnMod_loopSyn (s : State) (i : Nat) (f) : (s.turnMod i f).loopSyn = s.loopSyn := rfl
@[simp] theorem State.turnMod_rx (s : State) (i : Nat) (f) : (s.turnMod i f).rx = s.rx := rfl
@[simp] theorem State.turnMod_tx (s : State) (i : Nat) (f) : (s.turnMod i f).tx = s.tx := rfl
@[simp] theorem State.turnMod_stretch (s : State) (i : Nat) (f) : (s.turnMod i f).stretch = s.stretch := rfl
@[simp] theorem State.turnMod_framer (s : State) (i : Nat) (f) : (s.turnMod i f).framer = s.framer := rfl
@[simp] theorem State.turnMod_mask (s : State) (i : Nat) (f) : (s.turnMod i f).mask = s.mask := rfl
@[simp] theorem State.turnMod_face (s : State) (i : Nat) (f) : (s.turnMod i f).face = s.face := rfl
@[simp] theorem State.turnMod_rxSlot (s : State) (i : Nat) (f) : (s.turnMod i f).rxSlot = s.rxSlot := rfl
@[simp] theorem State.turnMod_txSlot (s : State) (i : Nat) (f) : (s.turnMod i f).txSlot = s.txSlot := rfl
@[simp] theorem State.turnMod_client (s : State) (i : Nat) (f) : (s.turnMod i f).client = s.client := rfl
@[simp] theorem State.turnMod_streams (s : State) (i : Nat) (f) : (s.turnMod i f).streams = s.streams := rfl
@[simp] theorem State.turnMod_etype (s : State) (i : Nat) (f) : (s.turnMod i f).etype = s.etype := rfl
@[simp] theorem State.turnMod_port (s : State) (i : Nat) (f) : (s.turnMod i f).port = s.port := rfl
@[simp] theorem State.turnMod_hlane (s : State) (i : Nat) (f) : (s.turnMod i f).hlane = s.hlane := rfl
@[simp] theorem State.turnMod_nodeAddr (s : State) (i : Nat) (f) : (s.turnMod i f).nodeAddr = s.nodeAddr := rfl
@[simp] theorem State.turnMod_netId (s : State) (i : Nat) (f) : (s.turnMod i f).netId = s.netId := rfl
@[simp] theorem State.turnMod_icing (s : State) (i : Nat) (f) : (s.turnMod i f).icing = s.icing := rfl
@[simp] theorem State.turnMod_loop (s : State) (i : Nat) (f) : (s.turnMod i f).loop = s.loop := rfl
@[simp] theorem State.turnMod_core (s : State) (i : Nat) (f) : (s.turnMod i f).core = s.core := rfl
@[simp] theorem State.turnMod_bias (s : State) (i : Nat) (f) : (s.turnMod i f).bias = s.bias := rfl
@[simp] theorem State.turnMod_biasLow (s : State) (i : Nat) (f) : (s.turnMod i f).biasLow = s.biasLow := rfl
@[simp] theorem State.turnMod_madc (s : State) (i : Nat) (f) : (s.turnMod i f).madc = s.madc := rfl
@[simp] theorem State.turnMod_mon (s : State) (i : Nat) (f) : (s.turnMod i f).mon = s.mon := rfl
@[simp] theorem State.turnMod_cal (s : State) (i : Nat) (f) : (s.turnMod i f).cal = s.cal := rfl
@[simp] theorem State.turnMod_dma (s : State) (i : Nat) (f) : (s.turnMod i f).dma = s.dma := rfl
@[simp] theorem State.turnMod_resp (s : State) (i : Nat) (f) : (s.turnMod i f).resp = s.resp := rfl
@[simp] theorem State.turnMod_free (s : State) (i : Nat) (f) : (s.turnMod i f).free = s.free := rfl
@[simp] theorem State.turnMod_pending (s : State) (i : Nat) (f) : (s.turnMod i f).pending = s.pending := rfl

@[simp] theorem State.ctxAt_ctxMod_self (s : State) (i : Nat) (f) : (s.ctxMod i f).ctxAt i = f (s.ctxAt i) := Tab.get_upd_self _ _ _ _
@[simp] theorem State.ctxAt_ctxMod_ne (s : State) {i j : Nat} (f) (h : j ≠ i) : (s.ctxMod i f).ctxAt j = s.ctxAt j := Tab.get_upd_ne _ _ _ h
@[simp] theorem State.ctxMod_sys (s : State) (i : Nat) (f) : (s.ctxMod i f).sys = s.sys := rfl
@[simp] theorem State.ctxMod_spi (s : State) (i : Nat) (f) : (s.ctxMod i f).spi = s.spi := rfl
@[simp] theorem State.ctxMod_irq (s : State) (i : Nat) (f) : (s.ctxMod i f).irq = s.irq := rfl
@[simp] theorem State.ctxMod_mbx (s : State) (i : Nat) (f) : (s.ctxMod i f).mbx = s.mbx := rfl
@[simp] theorem State.ctxMod_qry (s : State) (i : Nat) (f) : (s.ctxMod i f).qry = s.qry := rfl
@[simp] theorem State.ctxMod_pwr (s : State) (i : Nat) (f) : (s.ctxMod i f).pwr = s.pwr := rfl
@[simp] theorem State.ctxMod_skew (s : State) (i : Nat) (f) : (s.ctxMod i f).skew = s.skew := rfl
@[simp] theorem State.ctxMod_sram (s : State) (i : Nat) (f) : (s.ctxMod i f).sram = s.sram := rfl
@[simp] theorem State.ctxMod_sramBad (s : State) (i : Nat) (f) : (s.ctxMod i f).sramBad = s.sramBad := rfl
@[simp] theorem State.ctxMod_sramSoft (s : State) (i : Nat) (f) : (s.ctxMod i f).sramSoft = s.sramSoft := rfl
@[simp] theorem State.ctxMod_bank (s : State) (i : Nat) (f) : (s.ctxMod i f).bank = s.bank := rfl
@[simp] theorem State.ctxMod_calMem (s : State) (i : Nat) (f) : (s.ctxMod i f).calMem = s.calMem := rfl
@[simp] theorem State.ctxMod_cliMem (s : State) (i : Nat) (f) : (s.ctxMod i f).cliMem = s.cliMem := rfl
@[simp] theorem State.ctxMod_loopRej (s : State) (i : Nat) (f) : (s.ctxMod i f).loopRej = s.loopRej := rfl
@[simp] theorem State.ctxMod_loopSyn (s : State) (i : Nat) (f) : (s.ctxMod i f).loopSyn = s.loopSyn := rfl
@[simp] theorem State.ctxMod_rx (s : State) (i : Nat) (f) : (s.ctxMod i f).rx = s.rx := rfl
@[simp] theorem State.ctxMod_tx (s : State) (i : Nat) (f) : (s.ctxMod i f).tx = s.tx := rfl
@[simp] theorem State.ctxMod_stretch (s : State) (i : Nat) (f) : (s.ctxMod i f).stretch = s.stretch := rfl
@[simp] theorem State.ctxMod_framer (s : State) (i : Nat) (f) : (s.ctxMod i f).framer = s.framer := rfl
@[simp] theorem State.ctxMod_mask (s : State) (i : Nat) (f) : (s.ctxMod i f).mask = s.mask := rfl
@[simp] theorem State.ctxMod_face (s : State) (i : Nat) (f) : (s.ctxMod i f).face = s.face := rfl
@[simp] theorem State.ctxMod_rxSlot (s : State) (i : Nat) (f) : (s.ctxMod i f).rxSlot = s.rxSlot := rfl
@[simp] theorem State.ctxMod_txSlot (s : State) (i : Nat) (f) : (s.ctxMod i f).txSlot = s.txSlot := rfl
@[simp] theorem State.ctxMod_client (s : State) (i : Nat) (f) : (s.ctxMod i f).client = s.client := rfl
@[simp] theorem State.ctxMod_etype (s : State) (i : Nat) (f) : (s.ctxMod i f).etype = s.etype := rfl
@[simp] theorem State.ctxMod_port (s : State) (i : Nat) (f) : (s.ctxMod i f).port = s.port := rfl
@[simp] theorem State.ctxMod_hlane (s : State) (i : Nat) (f) : (s.ctxMod i f).hlane = s.hlane := rfl
@[simp] theorem State.ctxMod_nodeAddr (s : State) (i : Nat) (f) : (s.ctxMod i f).nodeAddr = s.nodeAddr := rfl
@[simp] theorem State.ctxMod_netId (s : State) (i : Nat) (f) : (s.ctxMod i f).netId = s.netId := rfl
@[simp] theorem State.ctxMod_icing (s : State) (i : Nat) (f) : (s.ctxMod i f).icing = s.icing := rfl
@[simp] theorem State.ctxMod_loop (s : State) (i : Nat) (f) : (s.ctxMod i f).loop = s.loop := rfl
@[simp] theorem State.ctxMod_core (s : State) (i : Nat) (f) : (s.ctxMod i f).core = s.core := rfl
@[simp] theorem State.ctxMod_bias (s : State) (i : Nat) (f) : (s.ctxMod i f).bias = s.bias := rfl
@[simp] theorem State.ctxMod_biasLow (s : State) (i : Nat) (f) : (s.ctxMod i f).biasLow = s.biasLow := rfl
@[simp] theorem State.ctxMod_madc (s : State) (i : Nat) (f) : (s.ctxMod i f).madc = s.madc := rfl
@[simp] theorem State.ctxMod_mon (s : State) (i : Nat) (f) : (s.ctxMod i f).mon = s.mon := rfl
@[simp] theorem State.ctxMod_cal (s : State) (i : Nat) (f) : (s.ctxMod i f).cal = s.cal := rfl
@[simp] theorem State.ctxMod_dma (s : State) (i : Nat) (f) : (s.ctxMod i f).dma = s.dma := rfl
@[simp] theorem State.ctxMod_tierp (s : State) (i : Nat) (f) : (s.ctxMod i f).tierp = s.tierp := rfl
@[simp] theorem State.ctxMod_resp (s : State) (i : Nat) (f) : (s.ctxMod i f).resp = s.resp := rfl
@[simp] theorem State.ctxMod_free (s : State) (i : Nat) (f) : (s.ctxMod i f).free = s.free := rfl
@[simp] theorem State.ctxMod_pending (s : State) (i : Nat) (f) : (s.ctxMod i f).pending = s.pending := rfl

/-- Queuing an event (R390) changes the mailbox alone. -/
theorem raise_eq (op : Nat) (p : Bytes) (s : State) : raise op p s = { s with mbx := (raise op p s).mbx } := by
  unfold raise; split
  · rfl
  · split <;> rfl
@[simp] theorem raise_sys (op : Nat) (p : Bytes) (s : State) : (raise op p s).sys = s.sys := by rw [raise_eq]
@[simp] theorem raise_spi (op : Nat) (p : Bytes) (s : State) : (raise op p s).spi = s.spi := by rw [raise_eq]
@[simp] theorem raise_irq (op : Nat) (p : Bytes) (s : State) : (raise op p s).irq = s.irq := by rw [raise_eq]
@[simp] theorem raise_qry (op : Nat) (p : Bytes) (s : State) : (raise op p s).qry = s.qry := by rw [raise_eq]
@[simp] theorem raise_pwr (op : Nat) (p : Bytes) (s : State) : (raise op p s).pwr = s.pwr := by rw [raise_eq]
@[simp] theorem raise_skew (op : Nat) (p : Bytes) (s : State) : (raise op p s).skew = s.skew := by rw [raise_eq]
@[simp] theorem raise_sram (op : Nat) (p : Bytes) (s : State) : (raise op p s).sram = s.sram := by rw [raise_eq]
@[simp] theorem raise_sramBad (op : Nat) (p : Bytes) (s : State) : (raise op p s).sramBad = s.sramBad := by rw [raise_eq]
@[simp] theorem raise_sramSoft (op : Nat) (p : Bytes) (s : State) : (raise op p s).sramSoft = s.sramSoft := by rw [raise_eq]
@[simp] theorem raise_bank (op : Nat) (p : Bytes) (s : State) : (raise op p s).bank = s.bank := by rw [raise_eq]
@[simp] theorem raise_calMem (op : Nat) (p : Bytes) (s : State) : (raise op p s).calMem = s.calMem := by rw [raise_eq]
@[simp] theorem raise_cliMem (op : Nat) (p : Bytes) (s : State) : (raise op p s).cliMem = s.cliMem := by rw [raise_eq]
@[simp] theorem raise_loopRej (op : Nat) (p : Bytes) (s : State) : (raise op p s).loopRej = s.loopRej := by rw [raise_eq]
@[simp] theorem raise_loopSyn (op : Nat) (p : Bytes) (s : State) : (raise op p s).loopSyn = s.loopSyn := by rw [raise_eq]
@[simp] theorem raise_rx (op : Nat) (p : Bytes) (s : State) : (raise op p s).rx = s.rx := by rw [raise_eq]
@[simp] theorem raise_tx (op : Nat) (p : Bytes) (s : State) : (raise op p s).tx = s.tx := by rw [raise_eq]
@[simp] theorem raise_stretch (op : Nat) (p : Bytes) (s : State) : (raise op p s).stretch = s.stretch := by rw [raise_eq]
@[simp] theorem raise_framer (op : Nat) (p : Bytes) (s : State) : (raise op p s).framer = s.framer := by rw [raise_eq]
@[simp] theorem raise_mask (op : Nat) (p : Bytes) (s : State) : (raise op p s).mask = s.mask := by rw [raise_eq]
@[simp] theorem raise_face (op : Nat) (p : Bytes) (s : State) : (raise op p s).face = s.face := by rw [raise_eq]
@[simp] theorem raise_rxSlot (op : Nat) (p : Bytes) (s : State) : (raise op p s).rxSlot = s.rxSlot := by rw [raise_eq]
@[simp] theorem raise_txSlot (op : Nat) (p : Bytes) (s : State) : (raise op p s).txSlot = s.txSlot := by rw [raise_eq]
@[simp] theorem raise_client (op : Nat) (p : Bytes) (s : State) : (raise op p s).client = s.client := by rw [raise_eq]
@[simp] theorem raise_streams (op : Nat) (p : Bytes) (s : State) : (raise op p s).streams = s.streams := by rw [raise_eq]
@[simp] theorem raise_etype (op : Nat) (p : Bytes) (s : State) : (raise op p s).etype = s.etype := by rw [raise_eq]
@[simp] theorem raise_port (op : Nat) (p : Bytes) (s : State) : (raise op p s).port = s.port := by rw [raise_eq]
@[simp] theorem raise_hlane (op : Nat) (p : Bytes) (s : State) : (raise op p s).hlane = s.hlane := by rw [raise_eq]
@[simp] theorem raise_nodeAddr (op : Nat) (p : Bytes) (s : State) : (raise op p s).nodeAddr = s.nodeAddr := by rw [raise_eq]
@[simp] theorem raise_netId (op : Nat) (p : Bytes) (s : State) : (raise op p s).netId = s.netId := by rw [raise_eq]
@[simp] theorem raise_icing (op : Nat) (p : Bytes) (s : State) : (raise op p s).icing = s.icing := by rw [raise_eq]
@[simp] theorem raise_loop (op : Nat) (p : Bytes) (s : State) : (raise op p s).loop = s.loop := by rw [raise_eq]
@[simp] theorem raise_core (op : Nat) (p : Bytes) (s : State) : (raise op p s).core = s.core := by rw [raise_eq]
@[simp] theorem raise_bias (op : Nat) (p : Bytes) (s : State) : (raise op p s).bias = s.bias := by rw [raise_eq]
@[simp] theorem raise_biasLow (op : Nat) (p : Bytes) (s : State) : (raise op p s).biasLow = s.biasLow := by rw [raise_eq]
@[simp] theorem raise_madc (op : Nat) (p : Bytes) (s : State) : (raise op p s).madc = s.madc := by rw [raise_eq]
@[simp] theorem raise_mon (op : Nat) (p : Bytes) (s : State) : (raise op p s).mon = s.mon := by rw [raise_eq]
@[simp] theorem raise_cal (op : Nat) (p : Bytes) (s : State) : (raise op p s).cal = s.cal := by rw [raise_eq]
@[simp] theorem raise_dma (op : Nat) (p : Bytes) (s : State) : (raise op p s).dma = s.dma := by rw [raise_eq]
@[simp] theorem raise_tierp (op : Nat) (p : Bytes) (s : State) : (raise op p s).tierp = s.tierp := by rw [raise_eq]
@[simp] theorem raise_resp (op : Nat) (p : Bytes) (s : State) : (raise op p s).resp = s.resp := by rw [raise_eq]
@[simp] theorem raise_free (op : Nat) (p : Bytes) (s : State) : (raise op p s).free = s.free := by rw [raise_eq]
@[simp] theorem raise_pending (op : Nat) (p : Bytes) (s : State) : (raise op p s).pending = s.pending := by rw [raise_eq]

end Sys2Proof.Machine
end

