-- ==== Sys2Proof/Laws/Frames.lean ====
section
/-! SUPPORT. How completion and frames are shown: a command runs when its checks pass, and an update of one table
leaves what the frames of Safety.lean say it leaves. -/

namespace Sys2Proof.Machine

/-- A Parax command that passes the checks of R404 answers what its own rule makes of it. -/
theorem answers_of_run {c : Instr} {op : Nat} {st : Status} {p : Bytes} {s t : State} {k : State → Cmd}
    (hx : exec c s = parax op k s) (h : Takes op s) (hw : (k s).waits = false) (hf : (k s).form = none)
    (hr : (k s).ready = true) (hg : (k s).range = true) (hrun : (k s).run () = (t, st, p)) : Answers c op st p s t := by
  unfold Answers
  rw [hx]
  simp [parax, Cmd.execute, Cmd.pends, Cmd.reply, h.1, h.2, hw, hf, hr, hg, Reply.record, hrun]

/-- A Parax command that waits for its transfer has its effect, and no answer yet (R387, R418). -/
theorem completes_of_pends {c : Instr} {op : Nat} {p : Bytes} {s t : State} {k : State → Cmd}
    (hx : exec c s = parax op k s) (h : Takes op s) (hw : (k s).waits = true) (hf : (k s).form = none)
    (hr : (k s).ready = true) (hg : (k s).range = true) (hrun : (k s).run () = (t, .ok, p)) : Completes c s t := by
  unfold Completes
  rw [hx]
  simp [parax, Cmd.execute, Cmd.pends, Cmd.reply, h.1, h.2, hw, hf, hr, hg, hrun]

/-- A Parax command with a value out of range answers RANGE and changes nothing (R404). -/
theorem answers_of_range {c : Instr} {op : Nat} {s : State} {k : State → Cmd}
    (hx : exec c s = parax op k s) (h : Takes op s) (hf : (k s).form = none) (hr : (k s).ready = true)
    (hg : (k s).range = false) : Answers c op .range [] s s := by
  unfold Answers
  rw [hx]
  simp [parax, Cmd.execute, Cmd.pends, Cmd.reply, h.1, h.2, hf, hr, hg, Reply.record, deny]

/-- A Parax command whose block is not ready answers NOT_READY and changes nothing (R404). -/
theorem answers_of_notReady {c : Instr} {op : Nat} {s : State} {k : State → Cmd}
    (hx : exec c s = parax op k s) (h : Takes op s) (hf : (k s).form = none) (hr : (k s).ready = false) :
    Answers c op .notReady [] s s := by
  unfold Answers
  rw [hx]
  simp [parax, Cmd.execute, Cmd.pends, Cmd.reply, h.1, h.2, hf, hr, Reply.record, deny]

/-- A Parax command of a wrong form answers the status of R404 steps 2 and 3 and changes nothing. -/
theorem answers_of_form {c : Instr} {op : Nat} {st : Status} {s : State} {k : State → Cmd}
    (hx : exec c s = parax op k s) (h : s.mcpRuns = true) (hf : (k s).form = some st) (hst : st ≠ .ok) :
    Answers c op st [] s s := by
  unfold Answers
  rw [hx]
  simp [parax, Cmd.execute, Cmd.pends, Cmd.reply, h, hf, hst, Reply.record, deny]

/-- The same with the state left to be what the run leaves. -/
theorem exists_answers {c : Instr} {op : Nat} {st : Status} {p : Bytes} {s : State} {k : State → Cmd}
    {P : State → Prop} (hx : exec c s = parax op k s) (h : Takes op s) (hw : (k s).waits = false)
    (hf : (k s).form = none) (hr : (k s).ready = true) (hg : (k s).range = true) (h2 : ((k s).run ()).2 = (st, p))
    (hP : P ((k s).run ()).1) : ∃ t, Answers c op st p s t ∧ P t :=
  ⟨_, answers_of_run hx h hw hf hr hg (Prod.ext rfl h2), hP⟩

/-- A guarded device event outside reset whose guard holds has its effect. -/
theorem exists_eventIf {c : Instr} {s : State} {g : Bool} {f : State → State} {P : State → Prop}
    (hx : exec c s = eventIf g f s) (h : Live s) (hg : g = true) (hP : P (f s)) : ∃ t, Completes c s t ∧ P t := by
  refine ⟨_, ?_, hP⟩
  unfold Completes Live at *
  rw [hx]
  simp [eventIf, h, hg]

/-- A device event outside reset has its effect. -/
theorem exists_event {c : Instr} {s : State} {f : State → State} {P : State → Prop}
    (hx : exec c s = event f s) (h : Live s) (hP : P (f s)) : ∃ t, Completes c s t ∧ P t := by
  refine ⟨_, ?_, hP⟩
  unfold Completes Live at *
  rw [hx]
  simp [event, h]

/-- Queuing an event changes the mailbox alone. -/
theorem raise_only_mbx (op : Nat) (p : Bytes) (s : State) : { raise op p s with mbx := s.mbx } = s := by
  unfold raise
  split
  · rfl
  · split <;> rfl

/-- An event that the mailbox takes is the last one queued. -/
theorem raise_queued {op : Nat} {p : Bytes} {s : State} (h : TakesEvents s) : Queued op p (raise op p s) := by
  unfold raise Queued
  simp [h.1, Nat.not_le.mpr h.2]

@[simp] theorem onlyRx_refl (l : Nat) (s : State) : OnlyRx l s s := ⟨fun _ _ => rfl, rfl⟩
@[simp] theorem onlyRxEv_refl (l : Nat) (s : State) : OnlyRxEv l s s := ⟨fun _ _ => rfl, rfl⟩
@[simp] theorem onlyTx_refl (l : Nat) (s : State) : OnlyTx l s s := ⟨fun _ _ => rfl, rfl⟩

@[simp] theorem onlyRx_rxMod (l : Nat) (s t : State) (f) : OnlyRx l s (t.rxMod l f) ↔ OnlyRx l s t := by
  constructor
  · exact fun h => ⟨fun k hk => by simpa [hk] using h.1 k hk, h.2⟩
  · exact fun h => ⟨fun k hk => by simpa [hk] using h.1 k hk, h.2⟩

@[simp] theorem onlyRxEv_rxMod (l : Nat) (s t : State) (f) : OnlyRxEv l s (t.rxMod l f) ↔ OnlyRxEv l s t := by
  constructor
  · exact fun h => ⟨fun k hk => by simpa [hk] using h.1 k hk, h.2⟩
  · exact fun h => ⟨fun k hk => by simpa [hk] using h.1 k hk, h.2⟩

@[simp] theorem onlyTx_txMod (l : Nat) (s t : State) (f) : OnlyTx l s (t.txMod l f) ↔ OnlyTx l s t := by
  constructor
  · exact fun h => ⟨fun k hk => by simpa [hk] using h.1 k hk, h.2⟩
  · exact fun h => ⟨fun k hk => by simpa [hk] using h.1 k hk, h.2⟩

end Sys2Proof.Machine
end

