-- ==== Sys2Proof/Laws/Mems.lean ====
section
/-! SUPPORT. For each shared operation that writes no memory: it leaves the memories and the queue of waiting commands
as they are. Each is a rewrite rule from the outside in (↓), so that a chain of operations falls away at once. -/

namespace Sys2Proof.Machine
/-- The memories of a state and its queue: management SRAM, the banks, the calendars, the client table, the NVM image
(R20, R327, R384) and the commands that wait; that its lists and counters are in bounds, and that its RS counters agree. -/
abbrev Mems := Memory × CrumbMem × CrumbMem × CrumbMem × Memory × List Instr × Prop × Prop

/-- The RS counters of every lane agree. -/
def countsAgree (f : Tab Framer) : Prop := ∀ l, (Tab.get {} f l).cnt.agrees

/-- The memories and the queue of a state, and its bounds. -/
def State.mems (s : State) : Mems := (s.sram, s.bank, s.calMem, s.cliMem, s.cal.nvm, s.pending, bounded s.mbx.evq s.mbx.history s.dma.cnts, countsAgree s.framer)

@[simp ↓] theorem State.mems_mk (sys spi irq mbx qry pwr skew sram sramBad sramSoft bank calMem cliMem loopRej loopSyn rx tx stretch framer
    mask face rxSlot txSlot client streams etype port hlane nodeAddr netId icing loop core bias biasLow madc mon cal dma tierp
    resp free pending) :
    State.mems ⟨sys, spi, irq, mbx, qry, pwr, skew, sram, sramBad, sramSoft, bank, calMem,
    cliMem, loopRej, loopSyn, rx, tx, stretch, framer, mask, face, rxSlot, txSlot, client, streams, etype, port, hlane, nodeAddr, netId,
    icing, loop, core, bias, biasLow, madc, mon, cal, dma, tierp, resp, free, pending⟩ = (sram, bank, calMem, cliMem, cal.nvm, pending, bounded mbx.evq mbx.history dma.cnts, countsAgree framer) := by unfold State.mems; rfl

@[simp ↓] theorem State.mems_fold (s : State) : (s.sram, s.bank, s.calMem, s.cliMem, s.cal.nvm, s.pending, bounded s.mbx.evq s.mbx.history s.dma.cnts, countsAgree s.framer) = s.mems := rfl

@[simp ↓] theorem ite_mems (c : Prop) [Decidable c] (s t : State) : State.mems (if c then s else t) = if c then s.mems else t.mems := apply_ite _ _ _ _

theorem ite_eq_of {c : Prop} [Decidable c] {s t : State} {q : Mems} (h : c → s.mems = q) (k : ¬c → t.mems = q) : State.mems (if c then s else t) = q := by split <;> simp_all

theorem foldl_mems {α : Type} {f : State → α → State} {l : List α} (h : ∀ s a, (f s a).mems = s.mems) (s : State) : (l.foldl f s).mems = s.mems := by
  induction l generalizing s with
  | nil => rfl
  | cons a l ih => simp [ih, h]

@[simp ↓] theorem State.rxMod_mems (s : State) (a1 : Nat) (a2 : Rx → Rx) : (State.rxMod s a1 a2).mems = s.mems := by
  unfold State.rxMod
  simp

@[simp ↓] theorem State.txMod_mems (s : State) (a1 : Nat) (a2 : Tx → Tx) : (State.txMod s a1 a2).mems = s.mems := by
  unfold State.txMod
  simp

@[simp ↓] theorem State.stretchMod_mems (s : State) (a1 : Nat) (a2 : Stretch → Stretch) : (State.stretchMod s a1 a2).mems = s.mems := by
  unfold State.stretchMod
  simp

/-- A change of a framer after which its counters agree as before. -/
theorem State.framerMod_agree (s : State) (i : Nat) (f : Framer → Framer) (h : ∀ x, (f x).cnt.agrees = x.cnt.agrees) :
    (State.framerMod s i f).mems = s.mems := by
  have g (l : Nat) : (Tab.get {} (Tab.upd {} s.framer i f) l).cnt.agrees = (Tab.get {} s.framer l).cnt.agrees := by
    by_cases e : l = i
    · subst e; rw [Tab.get_upd_self]; exact h _
    · rw [Tab.get_upd_ne _ _ _ e]
  unfold State.framerMod State.mems countsAgree
  simp only [g]

@[simp ↓] theorem State.framerMod_mems (s : State) (i : Nat) (f : Framer → Framer) (h : ∀ x, (f x).cnt = x.cnt) :
    (State.framerMod s i f).mems = s.mems := State.framerMod_agree s i f (fun x => by rw [h x])

@[simp ↓] theorem State.maskMod_mems (s : State) (a1 : Nat) (a2 : LaneMask → LaneMask) : (State.maskMod s a1 a2).mems = s.mems := by
  unfold State.maskMod
  simp

@[simp ↓] theorem State.faceMod_mems (s : State) (a1 : Nat) (a2 : Face → Face) : (State.faceMod s a1 a2).mems = s.mems := by
  unfold State.faceMod
  simp

@[simp ↓] theorem State.rxSlotMod_mems (s : State) (a1 : Nat) (a2 : RxSlot → RxSlot) : (State.rxSlotMod s a1 a2).mems = s.mems := by
  unfold State.rxSlotMod
  simp

@[simp ↓] theorem State.txSlotMod_mems (s : State) (a1 : Nat) (a2 : TxSlot → TxSlot) : (State.txSlotMod s a1 a2).mems = s.mems := by
  unfold State.txSlotMod
  simp

@[simp ↓] theorem State.clientMod_mems (s : State) (a1 : Nat) (a2 : Client → Client) : (State.clientMod s a1 a2).mems = s.mems := by
  unfold State.clientMod
  simp

@[simp ↓] theorem State.portMod_mems (s : State) (a1 : Nat) (a2 : Port → Port) : (State.portMod s a1 a2).mems = s.mems := by
  unfold State.portMod
  simp

@[simp ↓] theorem State.hlaneMod_mems (s : State) (a1 : Nat) (a2 : HLane → HLane) : (State.hlaneMod s a1 a2).mems = s.mems := by
  unfold State.hlaneMod
  simp

@[simp ↓] theorem State.icingMod_mems (s : State) (a1 : Nat) (a2 : Icing → Icing) : (State.icingMod s a1 a2).mems = s.mems := by
  unfold State.icingMod
  simp

@[simp ↓] theorem State.loopMod_mems (s : State) (a1 : Nat) (a2 : Loop → Loop) : (State.loopMod s a1 a2).mems = s.mems := by
  unfold State.loopMod
  simp

@[simp ↓] theorem State.coreMod_mems (s : State) (a1 : Nat) (a2 : Core → Core) : (State.coreMod s a1 a2).mems = s.mems := by
  unfold State.coreMod
  simp

@[simp ↓] theorem State.biasMod_mems (s : State) (a1 : Nat) (a2 : Bias → Bias) : (State.biasMod s a1 a2).mems = s.mems := by
  unfold State.biasMod
  simp

@[simp ↓] theorem State.madcMod_mems (s : State) (a1 : Nat) (a2 : Madc → Madc) : (State.madcMod s a1 a2).mems = s.mems := by
  unfold State.madcMod
  simp

@[simp ↓] theorem State.monMod_mems (s : State) (a1 : Nat) (a2 : Mon → Mon) : (State.monMod s a1 a2).mems = s.mems := by
  unfold State.monMod
  simp

@[simp ↓] theorem State.qryMod_mems (s : State) (a1 : Nat) (a2 : Qry → Qry) : (State.qryMod s a1 a2).mems = s.mems := by
  unfold State.qryMod
  simp

@[simp ↓] theorem State.chanMod_mems (s : State) (a1 : Nat) (a2 : Chan → Chan) : (State.chanMod s a1 a2).mems = s.mems := by
  unfold State.chanMod
  simp

@[simp ↓] theorem State.timerMod_mems (s : State) (a1 : Nat) (a2 : Timer → Timer) : (State.timerMod s a1 a2).mems = s.mems := by
  unfold State.timerMod
  simp

/-- A change of a counter that leaves its assignment. -/
@[simp ↓] theorem State.cntMod_mems (s : State) (i : Nat) (f : Cnt → Cnt) (h : ∀ c, (f c).chain = c.chain ∧ (f c).source = c.source) :
    (State.cntMod s i f).mems = s.mems := by
  have g (n : Nat) : (Tab.get {} (Tab.upd {} s.dma.cnts i f) n).chain = (Tab.get {} s.dma.cnts n).chain
      ∧ (Tab.get {} (Tab.upd {} s.dma.cnts i f) n).source = (Tab.get {} s.dma.cnts n).source := by
    by_cases e : n = i
    · subst e; rw [Tab.get_upd_self]; exact h _
    · rw [Tab.get_upd_ne _ _ _ e]; exact ⟨rfl, rfl⟩
  unfold State.cntMod State.mems bounded
  simp only [g]

@[simp ↓] theorem State.winMod_mems (s : State) (a1 : Nat) (a2 : Window → Window) : (State.winMod s a1 a2).mems = s.mems := by
  unfold State.winMod
  simp

@[simp ↓] theorem State.turnMod_mems (s : State) (a1 : Nat) (a2 : TierLane → TierLane) : (State.turnMod s a1 a2).mems = s.mems := by
  unfold State.turnMod
  simp

@[simp ↓] theorem State.ctxMod_mems (s : State) (a1 : Nat) (a2 : Ctx → Ctx) : (State.ctxMod s a1 a2).mems = s.mems := by
  unfold State.ctxMod
  simp

@[simp ↓] theorem forEach_mems {α : Type} {f : α → State → State} {l : List α} {s : State} (h : ∀ a s, (f a s).mems = s.mems) : (forEach l f s).mems = s.mems := foldl_mems (fun s a => h a s) s

@[simp ↓] theorem State.setPd_mems (s : State) (a1 : List Nat) (a2 : Bool) : (State.setPd s a1 a2).mems = s.mems := by
  unfold State.setPd
  simp

@[simp ↓] theorem State.drawBelow_mems (s : State) (a1 : Nat) : (State.drawBelow s a1).2.mems = s.mems := by
  unfold State.drawBelow
  simp

@[simp ↓] theorem raise_mems (a0 : Nat) (a1 : Bytes) (s : State) : (raise a0 a1 s).mems = s.mems := by
  unfold raise
  split
  · rfl
  split
  · rfl
  · next k =>
    have e : (s.mbx.evq.length + 1 ≤ 256) = (s.mbx.evq.length ≤ 256) := by simp; omega
    simp only [↓State.mems_mk, bounded, List.length_append, List.length_singleton, e]
    rfl

@[simp ↓] theorem irqCnt_mems (s : State) : (irqCnt s).mems = s.mems := by
  unfold irqCnt
  simp

@[simp ↓] theorem State.eccFound_mems (s : State) (a1 : List Nat) : (State.eccFound s a1).mems = s.mems := by
  unfold State.eccFound
  split <;> simp

@[simp ↓] theorem State.sramSeen_mems (s : State) (a1 : Nat) (a2 : Nat) : (State.sramSeen s a1 a2).mems = s.mems := by
  unfold State.sramSeen
  simp

@[simp ↓] theorem State.afterRead_mems (s : State) (a1 : Nat) (a2 : Nat) : (State.afterRead s a1 a2).mems = s.mems := by
  unfold State.afterRead
  simp

@[simp ↓] theorem crumbError_mems (a0 : Nat) (a1 : Nat) (a2 : Nat) (s : State) : (crumbError a0 a1 a2 s).mems = s.mems := by
  unfold crumbError
  simp

/-- A change of the counters after which they agree as before. -/
theorem fecCount_agree (l : Nat) (g : FecCnt → FecCnt) (s : State) (h : ∀ c, (g c).agrees = c.agrees) : (fecCount l g s).mems = s.mems :=
  State.framerMod_agree s l _ (fun _ => h _)

@[simp ↓] theorem fecCount_mems (l : Nat) (g : FecCnt → FecCnt) (s : State)
    (h : ∀ c, (g c).rsCw = c.rsCw ∧ (g c).rsHist = c.rsHist ∧ (g c).rsUncorr = c.rsUncorr) : (fecCount l g s).mems = s.mems :=
  fecCount_agree l g s (fun c => by unfold FecCnt.agrees; rw [(h c).1, (h c).2.1, (h c).2.2])

@[simp ↓] theorem cntOverflow_mems (a0 : Nat) (s : State) : (cntOverflow a0 s).mems = s.mems := by
  unfold cntOverflow
  simp

@[simp ↓] theorem cntAdd_mems (a0 : Nat) (a1 : Nat) (s : State) : (cntAdd a0 a1 s).mems = s.mems := by
  unfold cntAdd
  simp

@[simp ↓] theorem countSource_mems (src idx n : Nat) (s : State) : (countSource src idx n s).mems = s.mems := by
  unfold countSource
  split
  · rfl
  · exact foldl_mems (fun s p => cntAdd_mems _ _ s) s

@[simp ↓] theorem countWindow_mems (a0 : Nat) (a1 : Nat) (a2 : Nat) (s : State) : (countWindow a0 a1 a2 s).mems = s.mems := by
  unfold countWindow
  simp

@[simp ↓] theorem okWith_mems (a0 : Bytes) (s : State) : (okWith a0 s).1.mems = s.mems := by
  unfold okWith
  simp

@[simp ↓] theorem ok_mems (s : State) : (ok s).1.mems = s.mems := by
  unfold ok
  simp

@[simp ↓] theorem deny_mems (a0 : Status) (s : State) : (deny a0 s).1.mems = s.mems := by
  unfold deny
  simp

@[simp ↓] theorem State.bufRead_mems (s : State) (a1 : W32) (a2 : Nat) : (State.bufRead s a1 a2).mems = s.mems := by
  unfold State.bufRead
  simp

@[simp ↓] theorem biasSafeOf_mems (a0 : Nat) (s : State) : (biasSafeOf a0 s).mems = s.mems := by
  unfold biasSafeOf
  simp

@[simp ↓] theorem biasReleaseOf_mems (a0 : Nat) (s : State) : (biasReleaseOf a0 s).mems = s.mems := by
  unfold biasReleaseOf
  simp

@[simp ↓] theorem biasBlock_mems (a0 : Nat) (a1 : W16) (s : State) : (biasBlock a0 a1 s).mems = s.mems := by
  unfold biasBlock
  simp

@[simp ↓] theorem setWords_mems (a0 : Nat) (a1 : List (Nat × W32)) (s : State) : (setWords a0 a1 s).mems = s.mems := by
  unfold setWords
  simp

@[simp ↓] theorem endTest_mems (a0 : Nat) (a1 : Nat) (s : State) : (endTest a0 a1 s).mems = s.mems := by
  unfold endTest
  dsimp only
  split <;> simp

@[simp ↓] theorem endTestOf_mems (a0 : Nat) (a1 : Nat) (s : State) : (endTestOf a0 a1 s).mems = s.mems := by
  unfold endTestOf
  split <;> simp

@[simp ↓] theorem loopFault_mems (a0 : Nat) (a1 : Nat) (s : State) : (loopFault a0 a1 s).mems = s.mems := by
  unfold loopFault
  simp

@[simp ↓] theorem loopCrumbStore_mems (a0 : Nat) (s : State) : (loopCrumbStore a0 s).mems = s.mems := by
  unfold loopCrumbStore
  simp

@[simp ↓] theorem loopCrumbFail_mems (a0 : Nat) (s : State) : (loopCrumbFail a0 s).mems = s.mems := by
  unfold loopCrumbFail
  simp

@[simp ↓] theorem biasTickAt_mems (a0 : Bool) (a1 : Nat) (s : State) : (biasTickAt a0 a1 s).mems = s.mems := by
  unfold biasTickAt
  simp

@[simp ↓] theorem biasFaultOf_mems (a0 : Byte) (a1 : Nat) (s : State) : (biasFaultOf a0 a1 s).mems = s.mems := by
  unfold biasFaultOf
  simp


@[simp ↓] theorem setTier_mems (a0 : BitVec 2) (s : State) : (setTier a0 s).mems = s.mems := by
  unfold setTier
  simp

@[simp ↓] theorem fwSeen_mems (s : State) : (fwSeen s).mems = s.mems := by
  unfold fwSeen
  simp

@[simp ↓] theorem moveClock_mems (s : State) : (moveClock s).mems = s.mems := by
  unfold moveClock
  simp


@[simp ↓] theorem wakeEvent_mems (s : State) : (wakeEvent s).mems = s.mems := by
  unfold wakeEvent
  simp

@[simp ↓] theorem bootFail_mems (a0 : BitVec 4) (a1 : Byte) (s : State) : (bootFail a0 a1 s).mems = s.mems := by
  unfold bootFail
  simp


@[simp ↓] theorem clearBits_mems (w : Nat) (v : W32) (f : Nat → State → State) (s : State)
    (h : ∀ n t, (f n t).mems = t.mems) : (clearBits w v f s).mems = s.mems := by
  refine forEach_mems fun b t => ?_
  split
  · exact h _ t
  · rfl

@[simp ↓] theorem carryLost_mems (a0 : Nat) (s : State) : (carryLost a0 s).mems = s.mems := by
  unfold carryLost
  simp

@[simp ↓] theorem cntWrite_mems (a0 : Nat) (a1 : W32) (a2 : Bool) (s : State) : (cntWrite a0 a1 a2 s).mems = s.mems := by
  unfold cntWrite
  simp

@[simp ↓] theorem cntValWrite_mems (a0 : Nat) (a1 : W32) (s : State) : (cntValWrite a0 a1 s).mems = s.mems := by
  unfold cntValWrite
  simp

@[simp ↓] theorem cntRegWrite_mems (a0 : Nat) (a1 : W32) (s : State) : (cntRegWrite a0 a1 s).mems = s.mems := by
  unfold cntRegWrite
  simp

@[simp ↓] theorem dmaIrq_mems (a0 : Nat) (s : State) : (dmaIrq a0 s).mems = s.mems := by
  unfold dmaIrq
  simp

@[simp ↓] theorem dmaCorrect_mems (a0 : Nat) (a1 : Bool) (a2 : Nat) (a3 : Nat) (s : State) : (dmaCorrect a0 a1 a2 a3 s).mems = s.mems := by
  unfold dmaCorrect
  simp

@[simp ↓] theorem dmaCommand_mems (a0 : Nat) (a1 : Nat) (a2 : Xfer) (a3 : Bytes) (s : State) : (dmaCommand a0 a1 a2 a3 s).mems = s.mems := by
  unfold dmaCommand
  dsimp only
  exact State.chanMod_mems s a0 _

@[simp ↓] theorem dmaCommandDown_mems (a0 : Nat) (a1 : Nat) (s : State) : (dmaCommandDown a0 a1 s).mems = s.mems := by
  unfold dmaCommandDown
  simp

@[simp ↓] theorem refreshClient_mems (a0 : Nat) (s : State) : (refreshClient a0 s).mems = s.mems := by
  unfold refreshClient
  simp

@[simp ↓] theorem flushQueue_mems (a0 : Nat) (a1 : Nat) (s : State) : (flushQueue a0 a1 s).mems = s.mems := by
  unfold flushQueue
  simp

@[simp ↓] theorem slotEnd_mems (a0 : Nat) (a1 : W32) (a2 : W32) (s : State) : (slotEnd a0 a1 a2 s).mems = s.mems := by
  unfold slotEnd
  simp

@[simp ↓] theorem slotChange_mems (a0 : Nat) (a1 : W32) (a2 : W32) (s : State) : (slotChange a0 a1 a2 s).mems = s.mems := by
  unfold slotChange
  simp

@[simp ↓] theorem resource_mems (a0 : State) (a1 : List Nat) (s : State) : (resource a0 a1 s).mems = s.mems := by
  unfold resource
  simp [apply_ite Framer.cnt]

@[simp ↓] theorem startLeaving_mems (a0 : Nat) (s : State) : (startLeaving a0 s).mems = s.mems := by
  unfold startLeaving
  simp

@[simp ↓] theorem stopLeaving_mems (a0 : Nat) (s : State) : (stopLeaving a0 s).mems = s.mems := by
  unfold stopLeaving
  simp

@[simp ↓] theorem laneDown_mems (a0 : Nat) (s : State) : (laneDown a0 s).mems = s.mems := by
  unfold laneDown
  simp

@[simp ↓] theorem laneTierMask_mems (a0 : Nat) (s : State) : (laneTierMask a0 s).mems = s.mems := by
  unfold laneTierMask
  simp

@[simp ↓] theorem laneStretchMask_mems (a0 : Nat) (a1 : Nat) (s : State) : (laneStretchMask a0 a1 s).mems = s.mems := by
  unfold laneStretchMask
  simp

@[simp ↓] theorem hunt_mems (a0 : Nat) (s : State) : (hunt a0 s).mems = s.mems := by
  unfold hunt
  simp

@[simp ↓] theorem stopSource_mems (a0 : Nat) (s : State) : (stopSource a0 s).mems = s.mems := by
  unfold stopSource
  split <;> simp

@[simp ↓] theorem startSource_mems (a0 : Nat) (s : State) : (startSource a0 s).mems = s.mems := by
  unfold startSource
  split <;> simp

@[simp ↓] theorem evalMismatch_mems (a0 : Nat) (s : State) : (evalMismatch a0 s).mems = s.mems := by
  unfold evalMismatch
  simp

@[simp ↓] theorem laneUnlocked_mems (lane : Nat) (s : State) : (laneUnlocked lane s).mems = s.mems := by
  unfold laneUnlocked
  simp

@[simp ↓] theorem laneRelocked_mems (lane : Nat) (s : State) : (laneRelocked lane s).mems = s.mems := by
  unfold laneRelocked
  simp

@[simp ↓] theorem pwrMod_mems (a0 : Pwr → Pwr) (s : State) : (pwrMod a0 s).mems = s.mems := by
  unfold pwrMod
  simp

@[simp ↓] theorem watchRx_mems (a0 : IcSt) (s : State) : (watchRx a0 s).mems = s.mems := by
  unfold watchRx
  simp

@[simp ↓] theorem tickOpen_mems (s : State) : (tickOpen s).mems = s.mems := by
  unfold tickOpen
  simp

@[simp ↓] theorem tickEnd_mems (s : State) : (tickEnd s).mems = s.mems := by
  unfold tickEnd
  simp

@[simp ↓] theorem faceSleeps_mems (a0 : Nat) (s : State) : (faceSleeps a0 s).mems = s.mems := by
  unfold faceSleeps
  simp

@[simp ↓] theorem chooseFar_mems (a0 : Nat) (s : State) : (chooseFar a0 s).mems = s.mems := by
  unfold chooseFar
  simp

@[simp ↓] theorem tierAgree_mems (a0 : Bool) (a1 : Byte) (a2 : Nat) (s : State) : (tierAgree a0 a1 a2 s).mems = s.mems := by
  unfold tierAgree
  simp

@[simp ↓] theorem ackOnAir_mems (a0 : Nat) (a1 : IcFrame) (s : State) : (ackOnAir a0 a1 s).mems = s.mems := by
  unfold ackOnAir
  dsimp only
  repeat' split
  all_goals simp

@[simp ↓] theorem noteGrade_mems (a0 : Nat) (a1 : Nat) (a2 : IcFrame) (s : State) : (noteGrade a0 a1 a2 s).mems = s.mems := by
  unfold noteGrade
  simp

@[simp ↓] theorem frameOnAir_mems (a0 : Nat) (a1 : Nat) (a2 : IcFrame) (s : State) : (frameOnAir a0 a1 a2 s).mems = s.mems := by
  unfold frameOnAir
  simp

@[simp ↓] theorem icQueueAt_mems (a0 : Nat) (a1 : Nat) (a2 : W16) (a3 : Bytes) (a4 : GradePick) (a5 : W16) (s : State) : (icQueueAt a0 a1 a2 a3 a4 a5 s).mems = s.mems := by
  unfold icQueueAt
  dsimp only
  repeat' split
  all_goals simp

@[simp ↓] theorem icQueue_mems (a0 : Nat) (a1 : Nat) (a2 : W16) (a3 : Bytes) (s : State) : (icQueue a0 a1 a2 a3 s).mems = s.mems := by
  unfold icQueue
  simp

@[simp ↓] theorem burstOver_mems (a0 : Nat) (s : State) : (burstOver a0 s).mems = s.mems := by
  unfold burstOver
  simp

@[simp ↓] theorem burstAbort_mems (a0 : Nat) (a1 : Nat) (s : State) : (burstAbort a0 a1 s).mems = s.mems := by
  unfold burstAbort
  split <;> simp

@[simp ↓] theorem answerReq_mems (a0 : Nat) (a1 : Bool) (a2 : W16) (a3 : Byte) (a4 : Bytes) (s : State) : (answerReq a0 a1 a2 a3 a4 s).mems = s.mems := by
  unfold answerReq
  simp

@[simp ↓] theorem icToSearch_mems (a0 : Nat) (s : State) : (icToSearch a0 s).mems = s.mems := by
  unfold icToSearch
  simp

@[simp ↓] theorem icCount_mems (a0 : Nat) (a1 : IcCnt → IcCnt) (s : State) : (icCount a0 a1 s).mems = s.mems := by
  unfold icCount
  simp

@[simp ↓] theorem txSet_mems (a0 : Nat) (a1 : TxSet → TxSet) (s : State) : (txSet a0 a1 s).mems = s.mems := by
  unfold txSet
  simp

@[simp ↓] theorem loseMemory_mems (a0 : Nat) (s : State) : (loseMemory a0 s).mems = s.mems := by
  unfold loseMemory
  simp

@[simp ↓] theorem clipsUpToDate_mems (a0 : Nat) (s : State) : (clipsUpToDate a0 s).mems = s.mems := by
  unfold clipsUpToDate
  simp

@[simp ↓] theorem burstStops_mems (a0 : Nat) (a1 : TxSt) (s : State) : (burstStops a0 a1 s).mems = s.mems := by
  unfold burstStops
  simp

@[simp ↓] theorem txShed_mems (a0 : Nat) (a1 : TxSt) (s : State) : (txShed a0 a1 s).mems = s.mems := by
  unfold txShed
  simp

@[simp ↓] theorem txEnter_mems (a0 : Nat) (a1 : TxSt) (s : State) : (txEnter a0 a1 s).mems = s.mems := by
  unfold txEnter
  simp

@[simp ↓] theorem txRate_mems (a0 : Nat) (a1 : Bool) (s : State) : (txRate a0 a1 s).mems = s.mems := by
  unfold txRate
  simp

@[simp ↓] theorem txAskRate_mems (a0 : Nat) (a1 : Bool) (s : State) : (txAskRate a0 a1 s).mems = s.mems := by
  unfold txAskRate
  simp

@[simp ↓] theorem txPowerUp_mems (a0 : Nat) (a1 : Bool) (s : State) : (txPowerUp a0 a1 s).mems = s.mems := by
  unfold txPowerUp
  simp

@[simp ↓] theorem txPowerDown_mems (a0 : Nat) (s : State) : (txPowerDown a0 s).mems = s.mems := by
  unfold txPowerDown
  simp

@[simp ↓] theorem periodCut_mems (a0 : Nat) (s : State) : (periodCut a0 s).mems = s.mems := by
  unfold periodCut
  simp

@[simp ↓] theorem endTrain_mems (a0 : Nat) (a1 : Nat) (s : State) : (endTrain a0 a1 s).mems = s.mems := by
  unfold endTrain
  split <;> simp

@[simp ↓] theorem askFeedback_mems (a0 : Nat) (s : State) : (askFeedback a0 s).mems = s.mems := by
  unfold askFeedback
  simp

@[simp ↓] theorem sendSegments_mems (a0 : Nat) (a1 : GradePick) (s : State) : (sendSegments a0 a1 s).mems = s.mems := by
  unfold sendSegments
  dsimp only
  split <;> simp

@[simp ↓] theorem startExchange_mems (a0 : Nat) (a1 : BitTable) (s : State) : (startExchange a0 a1 s).mems = s.mems := by
  unfold startExchange
  simp

@[simp ↓] theorem stretchFail_mems (a0 : Nat) (a1 : Nat) (s : State) : (stretchFail a0 a1 s).mems = s.mems := by
  unfold stretchFail
  simp

@[simp ↓] theorem startStretchLeaving_mems (a0 : Nat) (a1 : Nat) (s : State) : (startStretchLeaving a0 a1 s).mems = s.mems := by
  unfold startStretchLeaving
  simp

@[simp ↓] theorem countDown_mems (a0 : Nat) (s : State) : (countDown a0 s).mems = s.mems := by
  unfold countDown
  dsimp only
  split <;> simp

@[simp ↓] theorem countRetry_mems (a0 : Nat) (s : State) : (countRetry a0 s).mems = s.mems := by
  unfold countRetry
  simp

@[simp ↓] theorem formOverhead_mems (a0 : Nat) (s : State) : (formOverhead a0 s).mems = s.mems := by
  unfold formOverhead
  simp

@[simp ↓] theorem reframe_mems (a0 : Nat) (s : State) : (reframe a0 s).mems = s.mems := by
  unfold reframe
  simp [State.framerMod_mems s a0 Framer.giveBack (fun _ => rfl)]

@[simp ↓] theorem idCheck_mems (a0 : Nat) (a1 : W16) (a2 : Nat) (s : State) : (idCheck a0 a1 a2 s).mems = s.mems := by
  unfold idCheck
  simp

@[simp ↓] theorem mapFromHeader_mems (a0 : Nat) (a1 : W16) (a2 : Nat) (s : State) : (mapFromHeader a0 a1 a2 s).mems = s.mems := by
  unfold mapFromHeader
  simp

@[simp ↓] theorem takeHeader_mems (a0 : Nat) (a1 : Bytes) (s : State) : (takeHeader a0 a1 s).mems = s.mems := by
  unfold takeHeader
  simp

@[simp ↓] theorem fecTally_mems (l : Nat) (c : FecCounts) (s : State) : (fecTally l c s).mems = s.mems := by
  unfold fecTally
  simp only [↓countSource_mems]
  exact fecCount_agree _ _ _ (fun k => FecCnt.agrees_tally k _ c.rsHist c.rsUncorr rfl rfl rfl)

@[simp ↓] theorem fecAdd_mems (a0 : Nat) (a1 : FecCounts) (s : State) : (fecAdd a0 a1 s).mems = s.mems := by
  unfold fecAdd
  simp

@[simp ↓] theorem romLoad_mems (a0 : Nat) (s : State) : (romLoad a0 s).mems = s.mems := by
  unfold romLoad
  simp

@[simp ↓] theorem rxEnter_mems (a0 : Nat) (a1 : RxSt) (s : State) : (rxEnter a0 a1 s).mems = s.mems := by
  unfold rxEnter
  simp

@[simp ↓] theorem coldStart_mems (a0 : Nat) (s : State) : (coldStart a0 s).mems = s.mems := by
  unfold coldStart
  simp

@[simp ↓] theorem seededStart_mems (a0 : Nat) (a1 : Bool) (s : State) : (seededStart a0 a1 s).mems = s.mems := by
  unfold seededStart
  simp

@[simp ↓] theorem wakeCold_mems (a0 : Nat) (s : State) : (wakeCold a0 s).mems = s.mems := by
  unfold wakeCold
  simp

@[simp ↓] theorem checkerIdle_mems (a0 : Nat) (s : State) : (checkerIdle a0 s).mems = s.mems := by
  unfold checkerIdle
  simp

@[simp ↓] theorem warmFail_mems (a0 : Nat) (s : State) : (warmFail a0 s).mems = s.mems := by
  unfold warmFail
  simp

@[simp ↓] theorem acqRetry_mems (a0 : Nat) (s : State) : (acqRetry a0 s).mems = s.mems := by
  unfold acqRetry
  simp

@[simp ↓] theorem unlock_mems (a0 : Nat) (s : State) : (unlock a0 s).mems = s.mems := by
  unfold unlock
  simp

@[simp ↓] theorem feedbackLost_mems (a0 : Nat) (s : State) : (feedbackLost a0 s).mems = s.mems := by
  unfold feedbackLost
  simp

@[simp ↓] theorem leaveQuietly_mems (a0 : Nat) (a1 : RxSt) (s : State) : (leaveQuietly a0 a1 s).mems = s.mems := by
  unfold leaveQuietly
  simp

@[simp ↓] theorem enterLocked_mems (a0 : Nat) (s : State) : (enterLocked a0 s).mems = s.mems := by
  unfold enterLocked
  simp

@[simp ↓] theorem toAlign_mems (a0 : Nat) (s : State) : (toAlign a0 s).mems = s.mems := by
  unfold toAlign
  simp

@[simp ↓] theorem stopLane_mems (a0 : Nat) (s : State) : (stopLane a0 s).mems = s.mems := by
  unfold stopLane
  simp

@[simp ↓] theorem rxPowerDown_mems (a0 : Nat) (s : State) : (rxPowerDown a0 s).mems = s.mems := by
  unfold rxPowerDown
  simp

@[simp ↓] theorem calMod_mems {f : Cal → Cal} {s : State} (h : (f s.cal).nvm = s.cal.nvm) : (calMod f s).mems = s.mems := by simp [calMod, h]

@[simp ↓] theorem pair_mems (t : State) (st : Status) (p : Bytes) : State.mems (Prod.fst (t, st, p)) = t.mems := rfl

@[simp ↓] theorem loadTrims_mems (s : State) : (loadTrims s).mems = s.mems := by
  unfold loadTrims
  simp

@[simp ↓] theorem imagePending_mems (a0 : Bytes) (s : State) : (imagePending a0 s).mems = s.mems := by
  unfold imagePending
  simp

@[simp ↓] theorem calRunEnd_mems (a0 : Nat) (a1 : Nat) (s : State) : (calRunEnd a0 a1 s).mems = s.mems := by
  unfold calRunEnd
  split <;> simp

@[simp ↓] theorem calSkip_mems (kind n : Nat) (s : State) : (calSkip kind n s).mems = s.mems := by
  induction n generalizing s with
  | zero => rfl
  | succ n ih =>
    unfold calSkip
    repeat' split
    all_goals simp [ih]

@[simp ↓] theorem calDrop_mems (s : State) : (calDrop s).mems = s.mems := by
  unfold calDrop
  simp

@[simp ↓] theorem strobeDrop_mems (s : State) : (strobeDrop s).mems = s.mems := by
  unfold strobeDrop
  split <;> simp

@[simp ↓] theorem strobeEnd_mems (a0 : Strobe) (s : State) : (strobeEnd a0 s).mems = s.mems := by
  unfold strobeEnd
  simp

@[simp ↓] theorem strobeStop_mems (s : State) : (strobeStop s).mems = s.mems := by
  unfold strobeStop
  split <;> simp

@[simp ↓] theorem storeDrop_mems (s : State) : (storeDrop s).mems = s.mems := by
  unfold storeDrop
  simp

@[simp ↓] theorem calSwitch_mems (a0 : Nat) (s : State) : (calSwitch a0 s).mems = s.mems := by
  unfold calSwitch
  simp

@[simp ↓] theorem routeTo_mems (a0 : Nat) (a1 : W16) (s : State) : (routeTo a0 a1 s).mems = s.mems := by
  unfold routeTo
  simp

@[simp ↓] theorem slotRoute_mems (a0 : Nat) (a1 : Bytes) (a2 : Bool) (s : State) : (slotRoute a0 a1 a2 s).mems = s.mems := by
  unfold slotRoute
  simp

@[simp ↓] theorem cntClient_mems (a0 : Nat) (a1 : Client → Client) (s : State) : (cntClient a0 a1 s).mems = s.mems := by
  unfold cntClient
  simp

@[simp ↓] theorem addFrame_mems (a0 : Nat) (a1 : Option Nat) (a2 : Option Nat) (a3 : Bytes) (s : State) : (addFrame a0 a1 a2 a3 s).mems = s.mems := by
  unfold addFrame
  split <;> simp

@[simp ↓] theorem dropFrame_mems (a0 : Nat) (a1 : Frame) (s : State) : (dropFrame a0 a1 s).mems = s.mems := by
  unfold dropFrame
  simp

@[simp ↓] theorem mapInto_mems (a0 : Nat) (a1 : Option Nat) (a2 : Octet) (s : State) : (mapInto a0 a1 a2 s).mems = s.mems := by
  unfold mapInto
  split <;> simp

@[simp ↓] theorem blockSent_mems (a0 : Nat) (s : State) : (blockSent a0 s).mems = s.mems := by
  unfold blockSent
  simp

@[simp ↓] theorem portCount_mems (a0 : Nat) (a1 : Port → Port) (s : State) : (portCount a0 a1 s).mems = s.mems := by
  unfold portCount
  simp

@[simp ↓] theorem deliverHost_mems (a0 : Nat) (a1 : Egress) (s : State) : (deliverHost a0 a1 s).mems = s.mems := by
  unfold deliverHost
  simp

@[simp ↓] theorem strMod_mems (a0 : Streams → Streams) (s : State) : (strMod a0 s).mems = s.mems := by
  unfold strMod
  simp

@[simp ↓] theorem engCount_mems (a0 : EngCnt → EngCnt) (s : State) : (engCount a0 s).mems = s.mems := by
  unfold engCount
  simp

@[simp ↓] theorem countFatal_mems (a0 : Nat × Nat) (s : State) : (countFatal a0 s).mems = s.mems := by
  unfold countFatal
  simp

@[simp ↓] theorem failWord_mems (a0 : Nat × Nat) (s : State) : (failWord a0 s).mems = s.mems := by
  unfold failWord
  simp

@[simp ↓] theorem readEcc_mems (a0 : Nat × Nat) (s : State) : (readEcc a0 s).mems = s.mems := by
  unfold readEcc
  dsimp only
  repeat' split
  all_goals simp

@[simp ↓] theorem readWords_mems (a0 : Nat) (a1 : List Nat) (s : State) : (readWords a0 a1 s).mems = s.mems := by
  unfold readWords
  simp

@[simp ↓] theorem readCtx_mems (a0 : Nat) (s : State) : (readCtx a0 s).mems = s.mems := by
  unfold readCtx
  simp

@[simp ↓] theorem rewritten_mems (a0 : List (Nat × Nat)) (s : State) : (rewritten a0 s).mems = s.mems := by
  unfold rewritten
  simp

@[simp ↓] theorem readBuckets_mems (a0 : Bytes) (s : State) : (readBuckets a0 s).mems = s.mems := by
  unfold readBuckets
  simp

@[simp ↓] theorem readLookup_mems (a0 : Bytes) (s : State) : (readLookup a0 s).mems = s.mems := by
  unfold readLookup
  simp

@[simp ↓] theorem setKey_mems (a0 : Nat) (a1 : KeyEnt) (s : State) : (setKey a0 a1 s).mems = s.mems := by
  unfold setKey
  simp

@[simp ↓] theorem pickVictim_mems (key : Bytes) (s : State) : (pickVictim key s).2.mems = s.mems := by
  unfold pickVictim
  simp

@[simp ↓] theorem walk_mems (fuel : Nat) (e : KeyEnt) (key : Bytes) (s : State) : (walk fuel e key s).2.mems = s.mems := by
  induction fuel generalizing e key s with
  | zero =>
    unfold walk
    dsimp only
    split <;> simp
  | succ fuel ih =>
    unfold walk
    dsimp only
    split
    · simp
    · split
      · simp
      · split
        · rw [ih]
          simp
        · rw [ih]
          simp

@[simp ↓] theorem undoMoves_mems (a0 : Tab (Option KeyEnt)) (s : State) : (undoMoves a0 s).mems = s.mems := by
  unfold undoMoves
  simp

@[simp ↓] theorem insertKeys_mems (x : Nat) (l : List Bool) (s : State) : (insertKeys x l s).2.mems = s.mems := by
  induction l generalizing s with
  | nil => rfl
  | cons a l ih =>
    unfold insertKeys
    dsimp only
    split
    · dsimp only
      split
      · rw [ih]
        simp
      · simp [ih]
    · simp

@[simp ↓] theorem addStreamCtx_mems (x : Nat) (image : Bytes) (s : State) : (addStreamCtx x image s).2.mems = s.mems := by
  unfold addStreamCtx
  dsimp only
  split
  · simp
  · split
    · simp
    · generalize h : insertKeys _ _ _ = r
      have k := congrArg (fun p : Bool × State => p.2.mems) h
      simp at k
      obtain ⟨b, t⟩ := r
      cases b <;> simp [k]

@[simp ↓] theorem readSweep_mems (s : State) : (readSweep s).mems = s.mems := by
  unfold readSweep
  simp

@[simp ↓] theorem deleteStream_mems (a0 : Nat) (s : State) : (deleteStream a0 s).mems = s.mems := by
  unfold deleteStream
  simp

@[simp ↓] theorem addToStream_mems (a0 : Nat) (a1 : Nat) (a2 : Bytes) (s : State) : (addToStream a0 a1 a2 s).mems = s.mems := by
  unfold addToStream
  dsimp only
  repeat' split
  all_goals simp

@[simp ↓] theorem addStream_mems (a0 : Nat) (a1 : Nat) (a2 : Nat) (a3 : Bytes) (s : State) : (addStream a0 a1 a2 a3 s).mems = s.mems := by
  unfold addStream
  dsimp only
  repeat' split
  all_goals simp

@[simp ↓] theorem deliverClient_mems (a0 : Nat) (a1 : Nat) (a2 : Option Nat) (a3 : BitVec 4) (a4 : Bytes) (s : State) : (deliverClient a0 a1 a2 a3 a4 s).mems = s.mems := by
  unfold deliverClient
  simp

@[simp ↓] theorem deliverStream_mems (a0 : Nat) (a1 : Nat) (a2 : Nat) (a3 : BitVec 4) (a4 : Bytes) (s : State) : (deliverStream a0 a1 a2 a3 a4 s).mems = s.mems := by
  unfold deliverStream
  simp

@[simp ↓] theorem deliverUnread_mems (a0 : Nat) (a1 : Nat) (a2 : Nat) (a3 : Bytes) (s : State) : (deliverUnread a0 a1 a2 a3 s).mems = s.mems := by
  unfold deliverUnread
  simp

@[simp ↓] theorem dropInStream_mems (a0 : Nat) (a1 : Nat) (a2 : Nat) (a3 : Bytes) (s : State) : (dropInStream a0 a1 a2 a3 s).mems = s.mems := by
  unfold dropInStream
  dsimp only
  repeat' split
  all_goals simp

@[simp ↓] theorem dropStream_mems (a0 : Nat) (a1 : Nat) (a2 : Bytes) (s : State) : (dropStream a0 a1 a2 s).mems = s.mems := by
  unfold dropStream
  split
  · simp
  · split
    · simp
    · dsimp only
      split
      · simp
      · split <;> simp

@[simp ↓] theorem overrun_mems (a0 : Nat) (s : State) : (overrun a0 s).mems = s.mems := by
  unfold overrun
  simp

@[simp ↓] theorem enterAdd_mems (a0 : AddReq) (s : State) : (enterAdd a0 s).mems = s.mems := by
  unfold enterAdd
  simp

@[simp ↓] theorem enterDrop_mems (a0 : DropReq) (s : State) : (enterDrop a0 s).mems = s.mems := by
  unfold enterDrop
  simp

@[simp ↓] theorem bulkRecord_mems (a0 : Nat) (s : State) : (bulkRecord a0 s).2.mems = s.mems := by
  unfold bulkRecord
  dsimp only
  repeat' split
  all_goals simp

@[simp ↓] theorem hostQuads_mems (s : State) : (hostQuads s).mems = s.mems := by
  unfold hostQuads
  simp

@[simp ↓] theorem enterPort_mems (a0 : Nat) (a1 : PortSt) (a2 : Bool) (s : State) : (enterPort a0 a1 a2 s).mems = s.mems := by
  unfold enterPort
  simp

@[simp ↓] theorem locksTo_mems (a0 : Nat) (a1 : Byte) (a2 : Bool) (s : State) : (locksTo a0 a1 a2 s).mems = s.mems := by
  unfold locksTo
  simp

@[simp ↓] theorem portLeaves_mems (a0 : Nat) (s : State) : (portLeaves a0 s).mems = s.mems := by
  unfold portLeaves
  simp

@[simp ↓] theorem receiveTagged_mems (a0 : Nat) (a1 : Bytes) (s : State) : (receiveTagged a0 a1 s).mems = s.mems := by
  unfold receiveTagged
  simp

@[simp ↓] theorem receiveVlan_mems (a0 : Nat) (a1 : Bytes) (s : State) : (receiveVlan a0 a1 s).mems = s.mems := by
  unfold receiveVlan
  try dsimp only
  repeat' first | with_reducible rfl | (with_reducible refine ite_eq_of (fun _ => ?_) (fun _ => ?_)) | (simp; done) | split

@[simp ↓] theorem monDones_mems (a0 : Nat) (a1 : Nat) (s : State) : (monDones a0 a1 s).mems = s.mems := by
  unfold monDones
  simp

@[simp ↓] theorem monSettled_mems (a0 : Nat) (s : State) : (monSettled a0 s).mems = s.mems := by
  unfold monSettled
  simp

@[simp ↓] theorem monSame_mems (a0 : Nat) (s : State) : (monSame a0 s).mems = s.mems := by
  unfold monSame
  simp

@[simp ↓] theorem startSet_mems (a0 : Nat) (a1 : FiltRec) (s : State) : (startSet a0 a1 s).mems = s.mems := by
  unfold startSet
  simp

@[simp ↓] theorem startAsk_mems (a0 : Nat) (a1 : FiltAsk) (s : State) : (startAsk a0 a1 s).mems = s.mems := by
  unfold startAsk
  split
  · simp
  · cases a1 <;> simp

@[simp ↓] theorem monBoundary_mems (a0 : Nat) (s : State) : (monBoundary a0 s).mems = s.mems := by
  unfold monBoundary
  simp

@[simp ↓] theorem madcApply_mems (a0 : Nat) (s : State) : (madcApply a0 s).mems = s.mems := by
  unfold madcApply
  dsimp only
  repeat' split
  all_goals simp

@[simp ↓] theorem madcBoundary_mems (a0 : Nat) (s : State) : (madcBoundary a0 s).mems = s.mems := by
  unfold madcBoundary
  simp

@[simp ↓] theorem madcPower_mems (a0 : Nat) (s : State) : (madcPower a0 s).mems = s.mems := by
  unfold madcPower
  simp

@[simp ↓] theorem sendReq_mems (a0 : Nat) (a1 : ReqOut) (s : State) : (sendReq a0 a1 s).mems = s.mems := by
  unfold sendReq
  simp

@[simp ↓] theorem dropReq_mems (a0 : Nat) (a1 : Byte) (s : State) : (dropReq a0 a1 s).mems = s.mems := by
  unfold dropReq
  simp

@[simp ↓] theorem cancelReq_mems (a0 : Nat) (a1 : Byte) (s : State) : (cancelReq a0 a1 s).mems = s.mems := by
  unfold cancelReq
  split <;> simp

@[simp ↓] theorem keepReq_mems (a0 : Nat) (a1 : ReqIn) (s : State) : (keepReq a0 a1 s).mems = s.mems := by
  unfold keepReq
  simp

@[simp ↓] theorem acceptMode_mems (a0 : Nat) (a1 : W16) (a2 : Bytes) (s : State) : (acceptMode a0 a1 a2 s).mems = s.mems := by
  unfold acceptMode
  simp

@[simp ↓] theorem newModeReq_mems (a0 : Nat) (a1 : W16) (a2 : Bytes) (s : State) : (newModeReq a0 a1 a2 s).mems = s.mems := by
  unfold newModeReq
  simp

@[simp ↓] theorem modeFail_mems (a0 : Nat) (s : State) : (modeFail a0 s).mems = s.mems := by
  unfold modeFail
  simp

@[simp ↓] theorem takePrecode_mems (a0 : Nat) (a1 : Byte) (a2 : Bool) (s : State) : (takePrecode a0 a1 a2 s).mems = s.mems := by
  unfold takePrecode
  simp

@[simp ↓] theorem undoMode_mems (a0 : Nat) (a1 : Byte) (a2 : Byte) (s : State) : (undoMode a0 a1 a2 s).mems = s.mems := by
  unfold undoMode
  split <;> simp

@[simp ↓] theorem undoTier_mems (a0 : Nat) (s : State) : (undoTier a0 s).mems = s.mems := by
  unfold undoTier
  simp

@[simp ↓] theorem answerTier_mems (a0 : Nat) (a1 : W16) (a2 : Byte) (a3 : Byte) (s : State) : (answerTier a0 a1 a2 a3 s).mems = s.mems := by
  unfold answerTier
  simp

@[simp ↓] theorem tierCheck_mems (s : State) : (tierCheck s).mems = s.mems := by
  unfold tierCheck
  simp

@[simp ↓] theorem endTurn_mems (a0 : Nat) (a1 : Byte) (s : State) : (endTurn a0 a1 s).mems = s.mems := by
  unfold endTurn
  simp

@[simp ↓] theorem startTurn_mems (a0 : Nat) (s : State) : (startTurn a0 s).mems = s.mems := by
  unfold startTurn
  simp

@[simp ↓] theorem peerLimits_mems (s : State) : (peerLimits s).mems = s.mems := by
  unfold peerLimits
  simp

@[simp ↓] theorem lossDropped_mems (a0 : Nat) (s : State) : (lossDropped a0 s).mems = s.mems := by
  unfold lossDropped
  simp

@[simp ↓] theorem stretchEnd_mems (a0 : Nat) (s : State) : (stretchEnd a0 s).mems = s.mems := by
  unfold stretchEnd
  simp

@[simp ↓] theorem turnEnd_mems (a0 : Nat) (s : State) : (turnEnd a0 s).mems = s.mems := by
  unfold turnEnd
  simp

@[simp ↓] theorem negotiationsEnd_mems (s : State) : (negotiationsEnd s).mems = s.mems := by
  unfold negotiationsEnd
  simp

@[simp ↓] theorem portStop_mems (a0 : Nat) (s : State) : (portStop a0 s).mems = s.mems := by
  unfold portStop
  simp

@[simp ↓] theorem icingStop_mems (a0 : Nat) (s : State) : (icingStop a0 s).mems = s.mems := by
  unfold icingStop
  split <;> simp

@[simp ↓] theorem framesLost_mems (s : State) : (framesLost s).mems = s.mems := by
  unfold framesLost
  simp

@[simp ↓] theorem tier0Domains_mems (s : State) : (tier0Domains s).mems = s.mems := by
  unfold tier0Domains
  simp

@[simp ↓] theorem laneUp_mems (a0 : Nat) (s : State) : (laneUp a0 s).mems = s.mems := by
  unfold laneUp
  simp

@[simp ↓] theorem tierOne_mems (s : State) : (tierOne s).mems = s.mems := by
  unfold tierOne
  simp


@[simp ↓] theorem bringUp_mems (s : State) : (bringUp s).mems = s.mems := by
  unfold bringUp
  simp

@[simp ↓] theorem txClockLost_mems (a0 : Nat) (s : State) : (txClockLost a0 s).mems = s.mems := by
  unfold txClockLost
  simp

@[simp ↓] theorem loopOff_mems (a0 : Nat) (s : State) : (loopOff a0 s).mems = s.mems := by
  unfold loopOff
  simp

@[simp ↓] theorem State.strobeAfter_mems (s : State) : (State.strobeAfter s).2.mems = s.mems := by
  unfold State.strobeAfter
  dsimp only
  repeat' split
  all_goals simp

@[simp ↓] theorem calPart_mems (a0 : Nat) (a1 : Nat) (a2 : CalRun) (a3 : CalPart) (s : State) : (calPart a0 a1 a2 a3 s).mems = s.mems := by
  unfold calPart
  simp

@[simp ↓] theorem strobeLater_mems (a0 : Strobe) (s : State) : (strobeLater a0 s).mems = s.mems := by
  unfold strobeLater
  dsimp only
  repeat' split
  all_goals simp

@[simp ↓] theorem calStrobe_mems (a0 : Strobe) (s : State) : (calStrobe a0 s).mems = s.mems := by
  unfold calStrobe
  simp

@[simp ↓] theorem icDetect_mems (a0 : Nat) (a1 : Nat) (a2 : Nat) (a3 : IcWin) (s : State) : (icDetect a0 a1 a2 a3 s).mems = s.mems := by
  unfold icDetect
  simp

@[simp ↓] theorem icAbort_mems (a0 : Nat) (a1 : IcCnt → IcCnt) (s : State) : (icAbort a0 a1 s).mems = s.mems := by
  unfold icAbort
  simp

@[simp ↓] theorem detectWindow_mems (a0 : Nat) (a1 : IcWin) (s : State) : (detectWindow a0 a1 s).mems = s.mems := by
  unfold detectWindow
  simp

@[simp ↓] theorem recordLevels_mems (a0 : Nat) (a1 : W16) (a2 : W16) (a3 : W16) (a4 : Byte) (s : State) : (recordLevels a0 a1 a2 a3 a4 s).mems = s.mems := by
  unfold recordLevels
  simp

@[simp ↓] theorem goodFrame_mems (a0 : Nat) (a1 : Bytes) (a2 : W16) (a3 : W16) (s : State) : (goodFrame a0 a1 a2 a3 s).mems = s.mems := by
  unfold goodFrame
  simp

@[simp ↓] theorem burstOnAir_mems (a0 : Nat) (a1 : Burst) (a2 : List IcFrame) (s : State) : (burstOnAir a0 a1 a2 s).mems = s.mems := by
  unfold burstOnAir
  simp

@[simp ↓] theorem deferBurst_mems (a0 : Nat) (a1 : Burst) (a2 : List IcFrame) (s : State) : (deferBurst a0 a1 a2 s).mems = s.mems := by
  unfold deferBurst
  simp

@[simp ↓] theorem tryBurst_mems (a0 : Nat) (s : State) : (tryBurst a0 s).mems = s.mems := by
  unfold tryBurst
  dsimp only
  split <;> simp

@[simp ↓] theorem endMultiframe_mems (a0 : Nat) (s : State) : (endMultiframe a0 s).mems = s.mems := by
  unfold endMultiframe
  simp

@[simp ↓] theorem checkMod_mems (a0 : Byte) (a1 : Checker → Checker) (s : State) : (checkMod a0 a1 s).mems = s.mems := by
  unfold checkMod
  simp

@[simp ↓] theorem checkEnds_mems (a0 : Byte) (s : State) : (checkEnds a0 s).mems = s.mems := by
  unfold checkEnds
  simp

@[simp ↓] theorem agcWindow_mems (a0 : Nat) (a1 : Ratio) (s : State) : (agcWindow a0 a1 s).mems = s.mems := by
  unfold agcWindow
  simp

@[simp ↓] theorem adaptPam_mems (a0 : Nat) (a1 : List Int) (a2 : List Int) (a3 : Int) (s : State) : (adaptPam a0 a1 a2 a3 s).mems = s.mems := by
  unfold adaptPam
  simp

@[simp ↓] theorem adaptStretch_mems (a0 : Nat) (a1 : List Int) (a2 : List Int) (s : State) : (adaptStretch a0 a1 a2 s).mems = s.mems := by
  unfold adaptStretch
  simp

@[simp ↓] theorem recount_mems (l : Nat) (c : FecCounts) (s : State) : (recount l c s).mems = s.mems := by
  unfold recount
  dsimp only
  rw [State.rxMod_mems]
  refine fecCount_agree _ _ _ (fun k => ?_)
  apply FecCnt.agrees_recount k _ c.rsHist <;> with_reducible rfl

@[simp ↓] theorem mfCounts_mems (a0 : Nat) (a1 : W32) (a2 : Bool) (a3 : FecCounts) (s : State) : (mfCounts a0 a1 a2 a3 s).mems = s.mems := by
  unfold mfCounts
  dsimp only
  split <;> simp

@[simp ↓] theorem eqfCheck_mems (a0 : Nat) (s : State) : (eqfCheck a0 s).mems = s.mems := by
  unfold eqfCheck
  simp

@[simp ↓] theorem fecCheck_mems (a0 : Nat) (a1 : Nat) (a2 : Nat) (s : State) : (fecCheck a0 a1 a2 s).mems = s.mems := by
  unfold fecCheck
  simp

@[simp ↓] theorem answerFeedback_mems (a0 : Nat) (a1 : QualityMeas) (s : State) : (answerFeedback a0 a1 s).mems = s.mems := by
  unfold answerFeedback
  simp

@[simp ↓] theorem runCapture_mems (a0 : Nat) (s : State) : (runCapture a0 s).mems = s.mems := by
  unfold runCapture
  simp

@[simp ↓] theorem genHost_mems (a0 : Byte) (a1 : Byte) (a2 : Byte) (a3 : Byte) (s : State) : (genHost a0 a1 a2 a3 s).1.mems = s.mems := by
  unfold genHost
  dsimp only
  split <;> simp

@[simp ↓] theorem genLine_mems (a0 : Nat) (a1 : Byte) (a2 : Byte) (a3 : Byte) (a4 : Byte) (s : State) : (genLine a0 a1 a2 a3 a4 s).1.mems = s.mems := by
  unfold genLine
  dsimp only
  repeat' split
  all_goals simp

@[simp ↓] theorem tripsAge_mems (a0 : Nat) (s : State) : (tripsAge a0 s).mems = s.mems := by
  unfold tripsAge
  simp

@[simp ↓] theorem txRenew_mems (a0 : Nat) (s : State) : (txRenew a0 s).mems = s.mems := by
  unfold txRenew
  dsimp only
  split <;> simp

@[simp ↓] theorem applyClients_mems (a0 : Nat) (s : State) : (applyClients a0 s).mems = s.mems := by
  unfold applyClients
  simp

@[simp ↓] theorem calBoundary_mems (a0 : Nat) (s : State) : (calBoundary a0 s).mems = s.mems := by
  unfold calBoundary
  dsimp only
  split <;> simp

@[simp ↓] theorem txFault_mems (a0 : Nat) (s : State) : (txFault a0 s).mems = s.mems := by
  unfold txFault
  simp

@[simp ↓] theorem takeFeedback_mems (a0 : Nat) (a1 : Train) (a2 : Bytes) (s : State) : (takeFeedback a0 a1 a2 s).mems = s.mems := by
  unfold takeFeedback
  simp

@[simp ↓] theorem addRecord_mems (a0 : Nat) (a1 : W32 × W32 × W32 × W32) (s : State) : (addRecord a0 a1 s).mems = s.mems := by
  unfold addRecord
  simp

@[simp ↓] theorem testFrame_mems (a0 : Nat) (a1 : Test) (a2 : W32) (s : State) : (testFrame a0 a1 a2 s).mems = s.mems := by
  unfold testFrame
  simp

@[simp ↓] theorem testMissed_mems (a0 : Nat) (s : State) : (testMissed a0 s).mems = s.mems := by
  unfold testMissed
  split <;> simp

@[simp ↓] theorem loopMissed_mems (a0 : Nat) (s : State) : (loopMissed a0 s).mems = s.mems := by
  unfold loopMissed
  simp

@[simp ↓] theorem loopHold_mems (a0 : Nat) (s : State) : (loopHold a0 s).mems = s.mems := by
  unfold loopHold
  simp

@[simp ↓] theorem loopEvents_mems (a0 : Nat) (a1 : Loop) (a2 : Loop) (a3 : Bool) (s : State) : (loopEvents a0 a1 a2 a3 s).mems = s.mems := by
  unfold loopEvents
  simp

@[simp ↓] theorem loopCompute_mems (a0 : Nat) (s : State) : (loopCompute a0 s).mems = s.mems := by
  unfold loopCompute
  dsimp only
  repeat' split
  all_goals simp

theorem frameLoop_mems (r : FrameRun) (n : Nat) : (frameLoop r n).s.mems = r.s.mems := by
  unfold frameLoop
  dsimp only
  repeat' split
  all_goals simp

theorem frameLoops_mems (l : List Nat) (r : FrameRun) : (l.foldl frameLoop r).s.mems = r.s.mems := by
  induction l generalizing r with
  | nil => rfl
  | cons n l ih => rw [List.foldl_cons, ih, frameLoop_mems]

@[simp ↓] theorem applyWrite_mems (w : LoopWrite) (s : State) : (applyWrite w s).mems = s.mems := by
  have k : (w.words.foldl (fun s p => s.loopMod p.1 (fun l => l.take p.2.1 p.2.2)) s).mems = s.mems :=
    foldl_mems (fun s p => by simp) s
  unfold applyWrite
  dsimp only
  split
  · simp [k]
  · rw [forEach_mems fun m s => loopCrumbStore_mems m s, k]

@[simp ↓] theorem applyWrites_mems (q : Nat) (s : State) : (applyWrites q s).mems = s.mems := by
  unfold applyWrites
  rw [foldl_mems (fun s w => applyWrite_mems w s)]
  simp

@[simp ↓] theorem loopBoundary_mems (a0 : Nat) (s : State) : (loopBoundary a0 s).mems = s.mems := by
  unfold loopBoundary
  simp

@[simp ↓] theorem loopFrameEnd_mems (a0 : Nat) (s : State) : (loopFrameEnd a0 s).mems = s.mems := by
  unfold loopFrameEnd
  simp

@[simp ↓] theorem coreFrame_mems (q : Nat) (s : State) : (coreFrame q s).mems = s.mems := by
  unfold coreFrame
  simp [frameLoops_mems]

@[simp ↓] theorem monAsk_mems (a0 : Nat) (a1 : FiltAsk) (s : State) : (monAsk a0 a1 s).mems = s.mems := by
  unfold monAsk
  simp

@[simp ↓] theorem liSample_mems (a0 : Nat) (a1 : Nat) (a2 : Nat) (s : State) : (liSample a0 a1 a2 s).mems = s.mems := by
  unfold liSample
  simp

@[simp ↓] theorem earlyConversion_mems (a0 : Nat) (a1 : Bool) (s : State) : (earlyConversion a0 a1 s).mems = s.mems := by
  unfold earlyConversion
  simp

@[simp ↓] theorem txQuiet_mems (a0 : Nat) (s : State) : (txQuiet a0 s).mems = s.mems := by
  unfold txQuiet
  simp

@[simp ↓] theorem coresStop_mems (s : State) : (coresStop s).mems = s.mems := by
  unfold coresStop
  simp

@[simp ↓] theorem domainsOff_mems (s : State) : (domainsOff s).mems = s.mems := by
  unfold domainsOff
  simp

@[simp ↓] theorem toPower_mems (a0 : BitVec 4) (a1 : BitVec 4) (s : State) : (toPower a0 a1 s).mems = s.mems := by
  unfold toPower
  simp

@[simp ↓] theorem lostBias_mems (a0 : Nat) (s : State) : (lostBias a0 s).mems = s.mems := by
  unfold lostBias
  simp

@[simp ↓] theorem lostLoop_mems (a0 : Nat) (s : State) : (lostLoop a0 s).mems = s.mems := by
  unfold lostLoop
  simp

@[simp ↓] theorem streamsLost_mems (s : State) : (streamsLost s).mems = s.mems := by
  unfold streamsLost
  simp

@[simp ↓] theorem epochNext_mems (s : State) : (epochNext s).mems = s.mems := by
  unfold epochNext
  simp

@[simp ↓] theorem streamsKept_mems (s : State) : (streamsKept s).mems = s.mems := by
  unfold streamsKept
  simp

@[simp ↓] theorem loopCheck_mems (s : State) : (loopCheck s).mems = s.mems := by
  unfold loopCheck
  simp


@[simp ↓] theorem streamCheck_mems (s : State) : (streamCheck s).mems = s.mems := by
  unfold streamCheck
  simp

@[simp ↓] theorem coresWake_mems (s : State) : (coresWake s).mems = s.mems := by
  unfold coresWake
  simp

@[simp ↓] theorem abandonedReport_mems (a0 : Nat) (s : State) : (abandonedReport a0 s).mems = s.mems := by
  unfold abandonedReport
  simp

@[simp ↓] theorem windowsRestart_mems (s : State) : (windowsRestart s).mems = s.mems := by
  unfold windowsRestart
  exact foldl_mems (fun s p => by simp) s

@[simp ↓] theorem handshakeRefused_mems (a0 : Byte) (a1 : Byte) (s : State) : (handshakeRefused a0 a1 s).mems = s.mems := by
  unfold handshakeRefused
  simp

@[simp ↓] theorem parkRefused_mems (a0 : Byte) (a1 : Byte) (s : State) : (parkRefused a0 a1 s).1.mems = s.mems := by
  unfold parkRefused
  simp

@[simp ↓] theorem recClear_mems (s : State) : (recClear s).mems = s.mems := by
  unfold recClear
  simp

@[simp ↓] theorem tickMade_mems (a0 : List (Byte × List (BitVec 14))) (s : State) : (tickMade a0 s).mems = s.mems := by
  unfold tickMade
  simp

@[simp ↓] theorem writeFioPin_mems (a0 : Bool) (s : State) : (writeFioPin a0 s).mems = s.mems := by
  unfold writeFioPin
  simp

@[simp ↓] theorem qryWrite_mems (a0 : Nat) (a1 : W32) (s : State) : (qryWrite a0 a1 s).mems = s.mems := by
  unfold qryWrite
  simp

@[simp ↓] theorem qryConsume_mems (a0 : Nat) (s : State) : (qryConsume a0 s).mems = s.mems := by
  unfold qryConsume
  simp

@[simp ↓] theorem qryResult_mems (a0 : Nat) (s : State) : (qryResult a0 s).mems = s.mems := by
  unfold qryResult
  simp

@[simp ↓] theorem reinsert_mems (l : List (Nat × Bool)) (s : State) : (reinsert l s).2.mems = s.mems := by
  induction l generalizing s with
  | nil => rfl
  | cons p l ih =>
    unfold reinsert
    dsimp only
    split
    · rw [ih]
      simp
    · dsimp only
      rw [ih]
      simp

@[simp ↓] theorem sweepRead_mems (s : State) : (sweepRead s).2.mems = s.mems := by
  unfold sweepRead
  simp

@[simp ↓] theorem upsetWord_mems (a0 : (Nat × Nat) × Bool) (s : State) : (upsetWord a0 s).mems = s.mems := by
  unfold upsetWord
  simp

@[simp ↓] theorem abandonTable_mems (a0 : Nat) (s : State) : (abandonTable a0 s).mems = s.mems := by
  unfold abandonTable
  simp

@[simp ↓] theorem capacityDrop_mems (a0 : Nat) (a1 : Nat) (s : State) : (capacityDrop a0 a1 s).mems = s.mems := by
  unfold capacityDrop
  dsimp only
  split <;> simp

@[simp ↓] theorem tableArrived_mems (a0 : Nat) (a1 : Nat) (a2 : W16) (a3 : Bytes) (a4 : Bytes) (s : State) : (tableArrived a0 a1 a2 a3 a4 s).mems = s.mems := by
  unfold tableArrived
  simp

@[simp ↓] theorem idleTick_mems (s : State) : (idleTick s).mems = s.mems := by
  unfold idleTick
  simp


@[simp ↓] theorem inSequence_mems (a0 : Msg) (s : State) : (inSequence a0 s).mems = s.mems := by
  unfold inSequence
  simp

@[simp ↓] theorem consumeSlot_mems (s : State) : (consumeSlot s).mems = s.mems := by
  unfold consumeSlot
  simp

@[simp ↓] theorem readEffect_mems (a0 : Nat) (s : State) : (readEffect a0 s).mems = s.mems := by
  unfold readEffect
  simp

@[simp ↓] theorem readWord_mems (a0 : Nat) (s : State) : (readWord a0 s).2.mems = s.mems := by
  unfold readWord
  split <;> simp

@[simp ↓] theorem gctlWrite_mems (a0 : Nat) (a1 : W32) (s : State) : (gctlWrite a0 a1 s).mems = s.mems := by
  unfold gctlWrite
  split <;> simp

@[simp ↓] theorem doorbell_mems (a0 : BitVec 6) (s : State) : (doorbell a0 s).mems = s.mems := by
  unfold doorbell
  simp

@[simp ↓] theorem d2hHeadWrite_mems (a0 : BitVec 6) (s : State) : (d2hHeadWrite a0 s).mems = s.mems := by
  unfold d2hHeadWrite
  simp

@[simp ↓] theorem mbxWrite_mems (a0 : Nat) (a1 : W32) (s : State) : (mbxWrite a0 a1 s).mems = s.mems := by
  unfold mbxWrite
  simp

@[simp ↓] theorem spiWords_mems (addr : W24) (i n : Nat) (s : State) : (spiWords addr i n s).2.mems = s.mems := by
  induction n generalizing i s with
  | zero => rfl
  | succ n ih =>
    unfold spiWords
    simp [ih]

@[simp ↓] theorem spiFlag_mems (a0 : Spi → Spi) (s : State) : (spiFlag a0 s).mems = s.mems := by
  unfold spiFlag
  simp

@[simp ↓] theorem spiRead_mems (a0 : W24) (a1 : Byte) (a2 : Nat) (s : State) : (spiRead a0 a1 a2 s).mems = s.mems := by
  unfold spiRead
  simp

@[simp ↓] theorem regRead_mems (a0 : Nat) (s : State) : (regRead a0 s).mems = s.mems := by
  unfold regRead
  simp

@[simp ↓] theorem raiseSkew_mems (s : State) : (raiseSkew s).mems = s.mems := by
  unfold raiseSkew
  simp

@[simp ↓] theorem neighbourEval_mems (s : State) : (neighbourEval s).mems = s.mems := by
  unfold neighbourEval
  simp

@[simp ↓] theorem wanderTo_mems (a0 : Nat) (a1 : Nat) (s : State) : (wanderTo a0 a1 s).mems = s.mems := by
  unfold wanderTo
  simp

@[simp ↓] theorem fifoSlip_mems (a0 : Nat) (s : State) : (fifoSlip a0 s).mems = s.mems := by
  unfold fifoSlip
  simp

@[simp ↓] theorem State.withFetchWord_mems (s : State) (a1 : Nat) (a2 : Nat) : (State.withFetchWord s a1 a2).mems = s.mems := by
  unfold State.withFetchWord
  rfl

end Sys2Proof.Machine
end

