-- ==== Sys2Proof/Laws/Keeps.lean ====
section
/-! SUPPORT. For each shared operation that writes a memory, and for each Parax command: the memories stay in their
canonical form, and the queue of waiting commands stays as it is. -/

namespace Sys2Proof.Machine
/-- The memories are canonical, where `w` says so, the commands `q` wait, the bounds hold, where `v` says so, and the RS
counters agree, where `u` says so. With `w` as "the memories were canonical before", and so on, it says what an operation
keeps. -/
def Keeps (w v u : Prop) (q : List Instr) (m : Mems) : Prop :=
  (w → Memory.wf m.1 = true ∧ m.2.1.wf = true ∧ m.2.2.1.wf = true ∧ m.2.2.2.1.wf = true ∧ Memory.wf m.2.2.2.2.1 = true)
  ∧ m.2.2.2.2.2.1 = q ∧ (v → m.2.2.2.2.2.2.1) ∧ (u → m.2.2.2.2.2.2.2)
variable {w v u : Prop} {q : List Instr}

theorem keeps_if {c : Prop} [Decidable c] {s t : State} (h : c → Keeps w v u q s.mems) (k : ¬c → Keeps w v u q t.mems) : Keeps w v u q (State.mems (if c then s else t)) := by split <;> simp_all

@[simp ↓] theorem keeps_ite (c : Prop) [Decidable c] (s t : Mems) : Keeps w v u q (if c then s else t) = if c then Keeps w v u q s else Keeps w v u q t := apply_ite _ _ _ _

theorem keeps_mk {a e : Memory} {b c d : CrumbMem} {p : List Instr} {x y : Prop} (ha : w → Memory.wf a = true) (hb : w → b.wf = true)
    (hc : w → c.wf = true) (hd : w → d.wf = true) (he : w → Memory.wf e = true) (hp : p = q ∧ (v → x) ∧ (u → y)) :
    Keeps w v u q (a, b, c, d, e, p, x, y) := ⟨fun x => ⟨ha x, hb x, hc x, hd x, he x⟩, hp⟩

/-- A state that differs in the banks alone. -/
theorem keeps_bank {s : State} {b : CrumbMem} (h : Keeps w v u q s.mems) (k : w → b.wf = true) : Keeps w v u q (State.mems { s with bank := b }) :=
  ⟨fun x => ⟨(h.1 x).1, k x, (h.1 x).2.2⟩, h.2⟩

/-- What a state that keeps its bounds gives. -/
theorem Keeps.bounds {s : State} (h : Keeps w v u q s.mems) (x : v) : bounded s.mbx.evq s.mbx.history s.dma.cnts := h.2.2.1 x

/-- A state that differs in the mailbox alone. -/
theorem keeps_mbx {s : State} {m : Mbx} (h : Keeps w v u q s.mems) (k : v → bounded m.evq m.history s.dma.cnts) :
    Keeps w v u q (State.mems { s with mbx := m }) := ⟨h.1, h.2.1, k, h.2.2.2⟩

/-- The counters of a lane start afresh. -/
theorem cntClear_keeps {s : State} {l : Nat} (h : Keeps w v u q s.mems) : Keeps w v u q (s.framerMod l (fun f => { f with cnt := {} })).mems := by
  refine ⟨h.1, h.2.1, h.2.2.1, fun x n => ?_⟩
  unfold State.framerMod
  dsimp only [State.mems]
  rw [Tab.get_upd]
  split
  · rfl
  · exact h.2.2.2 x n

/-- Nothing waits, nothing was answered, and the counters stay. -/
theorem bounded_nil {e : List Ev} {l : List Hist} {c : Tab Cnt} (h : bounded e l c) : bounded [] [] c :=
  ⟨Nat.zero_le _, Nat.zero_le _, h.2.2⟩

theorem Memory.wf_write (m : Memory) (i : Nat) (l : List Byte) (h : Memory.wf m = true) : Memory.wf (Tab.write 0 m i l) = true := Tab.wf_write _ _ _ _ h

theorem Tab.wfAbove_ofList {α : Type} [DecidableEq α] (d : α) (l : List α) (i b : Nat) (h : b ≤ i) : Tab.wfAbove d b (Tab.ofList d i l) = true := by
  induction l generalizing i b with
  | nil => rfl
  | cons v l ih =>
    unfold Tab.ofList
    split
    · exact ih (i + 1) b (by omega)
    · simp [Tab.wfAbove, *]

theorem Memory.wf_ofList (l : List Byte) (i : Nat) : Memory.wf (Tab.ofList 0 i l) = true := Tab.wfAbove_ofList 0 l i 0 (Nat.zero_le i)

theorem CrumbMem.wf_store (m : CrumbMem) (i : Nat) (b : Bytes) (h : m.wf = true) : (m.store i b).wf = true := by
  simp only [CrumbMem.wf, Bool.and_eq_true] at *
  exact ⟨Memory.wf_write _ _ _ h.1, Tab.wf_set _ _ _ _ h.2⟩

theorem CrumbMem.wf_write (m : CrumbMem) (i : Nat) (b : Bytes) (h : m.wf = true) : (m.write i b).wf = true :=
  CrumbMem.wf_store m i b h

theorem CrumbMem.wf_reject (m : CrumbMem) (i : Nat) (h : m.wf = true) : (m.reject i).wf = true := by
  unfold CrumbMem.reject
  split <;> exact h

theorem forEach_keeps {α : Type} {f : α → State → State} {l : List α} {s : State} (h : ∀ a s, Keeps w v u q s.mems → Keeps w v u q (f a s).mems)
    (k : Keeps w v u q s.mems) : Keeps w v u q (forEach l f s).mems := by
  unfold forEach
  induction l generalizing s with
  | nil => exact k
  | cons a l ih => exact ih (h a s k)

theorem foldl_keeps {α : Type} {f : State → α → State} {l : List α} {s : State} (h : ∀ s a, Keeps w v u q s.mems → Keeps w v u q (f s a).mems)
    (k : Keeps w v u q s.mems) : Keeps w v u q (l.foldl f s).mems := forEach_keeps (f := fun a s => f s a) (fun a s => h s a) k

theorem wf_foldl_write (m : Memory) (l : List Nat) (b : Bytes) (h : Memory.wf m = true) :
    Memory.wf (l.foldl (fun m w => Tab.write 0 m (8 * w) b) m) = true := by
  induction l generalizing m with
  | nil => exact h
  | cons a l ih => exact ih _ (Memory.wf_write _ _ _ h)

@[simp ↓] theorem State.sramWrite_keeps (s : State) (a : Nat) (b : Bytes) (h : Keeps w v u q s.mems) : Keeps w v u q (s.sramWrite a b).mems :=
  ⟨fun x => ⟨Memory.wf_write _ _ _ (wf_foldl_write _ _ _ (h.1 x).1), (h.1 x).2⟩, h.2⟩

@[simp ↓] theorem respond_keeps (a0 : W32) (a1 : Bytes) (a2 : Bytes) (s : State) (h : Keeps w v u q s.mems) : Keeps w v u q (respond a0 a1 a2 s).1.mems := by
  unfold respond
  split <;> simp [h]

@[simp ↓] theorem writeMessage_keeps (flags : Byte) (op hseq : W16) (status : Byte) (b : Bytes) (s : State) (h : Keeps w v u q s.mems) :
    Keeps w v u q (writeMessage flags op hseq status b s).mems := by
  unfold writeMessage
  exact keeps_mbx (State.sramWrite_keeps s _ _ h) (fun x => h.bounds x)

@[simp ↓] theorem respondTo_keeps (op hseq : W16) (status : Byte) (b : Bytes) (s : State) (h : Keeps w v u q s.mems) :
    Keeps w v u q (respondTo op hseq status b s).mems := by
  have k := writeMessage_keeps (msgFlags 1 false false) op hseq status b s h
  unfold respondTo
  exact keeps_mbx k (fun x => ⟨(k.bounds x).1, List.length_take_le _ _, (k.bounds x).2.2⟩)

@[simp ↓] theorem execEnd_keeps (st : Status) (s : State) (h : Keeps w v u q s.mems) : Keeps w v u q (execEnd st s).mems := by
  unfold execEnd
  split
  · exact h
  · dsimp only
    split
    · exact h
    · exact respondTo_keeps _ _ _ _ _ h

@[simp ↓] theorem mbxInit_keeps (cause : Byte) (s : State) (h : Keeps w v u q s.mems) : Keeps w v u q (mbxInit cause s).mems := by
  have k (e : W16) (d : MbxMode) (n : W16) :
      Keeps w v u q (State.mems { s with mbx := { epoch := e, mode := d, evDropped := n } }) := keeps_mbx h (fun x => bounded_nil (h.bounds x))
  unfold mbxInit
  dsimp only
  split
  · simpa using k (s.mbx.epoch + 1) (if s.sys.fwRun then .fw else .rom) (if cause = 2 then satAdd 0 s.mbx.evq.length else 0)
  · simpa using k (s.mbx.epoch + 1) (if s.sys.fwRun then .fw else .rom) (if cause = 2 then satAdd 0 s.mbx.evq.length else 0)

@[simp ↓] theorem mcpFinish_keeps (s : State) (h : Keeps w v u q s.mems) : Keeps w v u q (mcpFinish s).mems := by
  unfold mcpFinish
  dsimp only
  repeat' split
  all_goals simp (maxDischargeDepth := 9) [h]

@[simp ↓] theorem startFirmware_keeps (src : BitVec 4) (img : Bytes) (s : State) (h : Keeps w v u q s.mems) :
    Keeps w v u q (startFirmware src img s).mems := by
  unfold startFirmware
  simp only [↓wakeEvent_mems]
  have k (y : Sys) (m : MbxMode) : Keeps w v u q (State.mems { s.sramWrite 0x40000 (slice img 256 (imgLength img)) with
      sys := y, mbx := { (s.sramWrite 0x40000 (slice img 256 (imgLength img))).mbx with mode := m } }) := State.sramWrite_keeps s _ _ h
  refine keeps_if (fun _ => mcpFinish_keeps _ (keeps_if (fun _ => k _ _) (fun _ => ?_))) (fun _ => keeps_if (fun _ => k _ _) (fun _ => ?_))
  · simpa only [↓moveClock_mems] using k _ _
  · simpa only [↓moveClock_mems] using k _ _

@[simp ↓] theorem flashImage_keeps (a0 : Bool) (a1 : Bytes) (s : State) (h : Keeps w v u q s.mems) : Keeps w v u q (flashImage a0 a1 s).mems := by
  unfold flashImage
  dsimp only
  repeat' split
  all_goals simp [h]

@[simp ↓] theorem mcpRestart_keeps (s : State) (h : Keeps w v u q s.mems) : Keeps w v u q (mcpRestart s).mems := by
  unfold mcpRestart
  dsimp only
  repeat' split
  all_goals simp (maxDischargeDepth := 9) [h]

@[simp ↓] theorem writeBack_keeps (a0 : Nat) (a1 : BitVec 4) (a2 : Nat) (s : State) (h : Keeps w v u q s.mems) : Keeps w v u q (writeBack a0 a1 a2 s).mems := by
  unfold writeBack
  dsimp only
  repeat' split
  all_goals simp [h]

@[simp ↓] theorem dmaError_keeps (a0 : Nat) (a1 : BitVec 4) (a2 : Nat) (s : State) (h : Keeps w v u q s.mems) : Keeps w v u q (dmaError a0 a1 a2 s).mems := by
  unfold dmaError
  simp [h]

@[simp ↓] theorem dmaFetch_keeps (a0 : Nat) (a1 : Nat) (s : State) (h : Keeps w v u q s.mems) : Keeps w v u q (dmaFetch a0 a1 s).mems := by
  unfold dmaFetch
  simp [h]

@[simp ↓] theorem dmaStart_keeps (a0 : Nat) (s : State) (h : Keeps w v u q s.mems) : Keeps w v u q (dmaStart a0 s).mems := by
  unfold dmaStart
  simp [h]

@[simp ↓] theorem dmaTrigger_keeps (a0 : Nat) (s : State) (h : Keeps w v u q s.mems) : Keeps w v u q (dmaTrigger a0 s).mems := by
  unfold dmaTrigger
  simp [h]

@[simp ↓] theorem dmaMove_keeps (a0 : Desc) (a1 : Nat) (a2 : Nat) (s : State) (h : Keeps w v u q s.mems) : Keeps w v u q (dmaMove a0 a1 a2 s).mems := by
  unfold dmaMove
  dsimp only
  repeat' split
  all_goals simp (maxDischargeDepth := 9) [h]

@[simp ↓] theorem dmaDone_keeps (a0 : Nat) (s : State) (h : Keeps w v u q s.mems) : Keeps w v u q (dmaDone a0 s).mems := by
  unfold dmaDone
  try dsimp only
  repeat' first | with_reducible assumption | (with_reducible refine keeps_if (fun _ => ?_) (fun _ => ?_)) | (simp (maxDischargeDepth := 12) [h]; done) | (with_reducible refine forEach_keeps (fun _ _ h => ?_) ?_) | split

@[simp ↓] theorem dmaArm_keeps (a0 : Nat) (a1 : Nat) (s : State) (h : Keeps w v u q s.mems) : Keeps w v u q (dmaArm a0 a1 s).mems := by
  unfold dmaArm
  simp [h]

@[simp ↓] theorem dmaLink_keeps (a0 : Nat) (a1 : Desc) (s : State) (h : Keeps w v u q s.mems) : Keeps w v u q (dmaLink a0 a1 s).mems := by
  unfold dmaLink
  dsimp only
  repeat' split
  all_goals simp (maxDischargeDepth := 9) [h]

@[simp ↓] theorem dmaFinish_keeps (a0 : Nat) (a1 : Desc) (s : State) (h : Keeps w v u q s.mems) : Keeps w v u q (dmaFinish a0 a1 s).mems := by
  unfold dmaFinish
  dsimp only
  repeat' split
  all_goals simp (maxDischargeDepth := 9) [h]

@[simp ↓] theorem dmaBursts_keeps (a0 : Nat) (a1 : Nat) (s : State) (h : Keeps w v u q s.mems) : Keeps w v u q (dmaBursts a0 a1 s).mems := by
  unfold dmaBursts
  dsimp only
  repeat' split
  all_goals simp (maxDischargeDepth := 9) [h]

@[simp ↓] theorem dmaComplete_keeps (ch : Nat) (d : Desc) (s : State) (h : Keeps w v u q s.mems) : Keeps w v u q (dmaComplete ch d s).mems := by
  unfold dmaComplete
  exact dmaFinish_keeps _ _ _ (forEach_keeps (fun k t h => dmaBursts_keeps _ _ _ h) h)

@[simp ↓] theorem dmaStop_keeps (a0 : BitVec 4) (a1 : Nat) (s : State) (h : Keeps w v u q s.mems) : Keeps w v u q (dmaStop a0 a1 s).mems := by
  unfold dmaStop
  dsimp only
  repeat' split
  all_goals simp (maxDischargeDepth := 9) [h]

@[simp ↓] theorem xferAnswer_keeps (ch : Nat) (s : State) (h : Keeps w v u q s.mems) : Keeps w v u q (xferAnswer ch s).mems := by
  unfold xferAnswer
  split
  · exact keeps_if (fun _ => execEnd_keeps _ _ h) (fun _ => h)
  · exact h

@[simp ↓] theorem xferDone_keeps (a0 : Nat) (s : State) (h : Keeps w v u q s.mems) : Keeps w v u q (xferDone a0 s).mems := by
  unfold xferDone
  split
  · exact h
  · exact xferAnswer_keeps _ _ (keeps_if (fun _ => State.sramWrite_keeps s _ _ h) (fun _ => State.sramWrite_keeps s _ _ h))

@[simp ↓] theorem xferCut_keeps (a0 : Nat) (s : State) (h : Keeps w v u q s.mems) : Keeps w v u q (xferCut a0 s).mems := by
  unfold xferCut
  dsimp only
  repeat' split
  all_goals simp (maxDischargeDepth := 9) [h]

@[simp ↓] theorem dmaDomainDown_keeps  (s : State) (h : Keeps w v u q s.mems) : Keeps w v u q (dmaDomainDown  s).mems := by
  unfold dmaDomainDown
  exact forEach_keeps (fun ch t h => dmaStop_keeps _ _ _ (xferCut_keeps _ _ h)) h

@[simp ↓] theorem captureDown_keeps (l : Nat) (s : State) (h : Keeps w v u q s.mems) : Keeps w v u q (captureDown l s).mems := by
  unfold captureDown
  exact forEach_keeps (fun ch t h => xferAnswer_keeps _ _ (xferCut_keeps _ _ h)) h

@[simp ↓] theorem saveCrumb8_keeps (lane : Nat) (s : State) (h : Keeps w v u q s.mems) : Keeps w v u q (saveCrumb8 lane s).mems := by
  unfold saveCrumb8
  exact keeps_bank h (fun x => CrumbMem.wf_store _ _ _ (h.1 x).2.1)

@[simp ↓] theorem saveTables_keeps (lane : Nat) (s : State) (h : Keeps w v u q s.mems) : Keeps w v u q (saveTables lane s).mems := by
  have k := saveCrumb8_keeps lane s h
  unfold saveTables
  exact keeps_bank k (fun x => CrumbMem.wf_store _ _ _ (CrumbMem.wf_store _ _ _ (k.1 x).2.1))

@[simp ↓] theorem saveSnr_keeps (lane : Nat) (snr : List W16) (s : State) (h : Keeps w v u q s.mems) : Keeps w v u q (saveSnr lane snr s).mems :=
  ⟨fun x => ⟨(h.1 x).1, CrumbMem.wf_store _ _ _ (CrumbMem.wf_store _ _ _ (h.1 x).2.1), (h.1 x).2.2⟩, h.2⟩

@[simp ↓] theorem rxTableSwitch_keeps (a0 : Nat) (a1 : BitTable) (s : State) (h : Keeps w v u q s.mems) : Keeps w v u q (rxTableSwitch a0 a1 s).mems := by
  unfold rxTableSwitch
  simp [h]

@[simp ↓] theorem stretchQuality_keeps (a0 : Nat) (a1 : List W16) (a2 : Nat) (s : State) (h : Keeps w v u q s.mems) : Keeps w v u q (stretchQuality a0 a1 a2 s).mems := by
  unfold stretchQuality
  dsimp only
  repeat' split
  all_goals simp [h]

@[simp ↓] theorem bankWrite_keeps (lane c : Nat) (b : Bytes) (s : State) (h : Keeps w v u q s.mems) : Keeps w v u q (bankWrite lane c b s).mems :=
  ⟨fun x => ⟨(h.1 x).1, CrumbMem.wf_write _ _ _ (h.1 x).2.1, (h.1 x).2.2⟩, h.2⟩

@[simp ↓] theorem bankStore_keeps (lane c : Nat) (b : Bytes) (s : State) (h : Keeps w v u q s.mems) : Keeps w v u q (bankStore lane c b s).mems :=
  ⟨fun x => ⟨(h.1 x).1, CrumbMem.wf_store _ _ _ (h.1 x).2.1, (h.1 x).2.2⟩, h.2⟩

@[simp ↓] theorem writeSnapshot_keeps (lane : Nat) (mse : W32) (freq : W16) (s : State) (h : Keeps w v u q s.mems) :
    Keeps w v u q (writeSnapshot lane mse freq s).mems := by
  unfold writeSnapshot
  refine bankStore_keeps _ _ _ _ (keeps_if (fun _ => ?_) (fun _ => ?_))
  · exact saveCrumb8_keeps _ _ (forEach_keeps (fun i t h => bankStore_keeps _ _ _ _ h) h)
  · exact bankStore_keeps _ _ _ _ (bankStore_keeps _ _ _ _ h)

@[simp ↓] theorem rejectBank_keeps (lane : Nat) (cs : List Nat) (s : State) (h : Keeps w v u q s.mems) : Keeps w v u q (rejectBank lane cs s).mems := by
  unfold rejectBank
  simp only [↓wakeCold_mems]
  refine forEach_keeps (fun c t h => ?_) h
  simp only [↓crumbError_mems, ↓State.mems_mk]
  exact ⟨fun x => ⟨(h.1 x).1, CrumbMem.wf_reject _ _ (h.1 x).2.1, (h.1 x).2.2⟩, h.2⟩

@[simp ↓] theorem choosePath_keeps (a0 : Nat) (s : State) (h : Keeps w v u q s.mems) : Keeps w v u q (choosePath a0 s).mems := by
  unfold choosePath
  simp [h]

@[simp ↓] theorem toWait_keeps (a0 : Nat) (s : State) (h : Keeps w v u q s.mems) : Keeps w v u q (toWait a0 s).mems := by
  unfold toWait
  simp [h]

@[simp ↓] theorem loseLock_keeps (a0 : Nat) (a1 : BitVec 2) (s : State) (h : Keeps w v u q s.mems) : Keeps w v u q (loseLock a0 a1 s).mems := by
  unfold loseLock
  simp [h]

@[simp ↓] theorem declareLoss_keeps (a0 : Nat) (a1 : BitVec 2) (s : State) (h : Keeps w v u q s.mems) : Keeps w v u q (declareLoss a0 a1 s).mems := by
  unfold declareLoss
  dsimp only
  repeat' split
  all_goals simp [h]

@[simp ↓] theorem rxRate_keeps (a0 : Nat) (a1 : Bool) (s : State) (h : Keeps w v u q s.mems) : Keeps w v u q (rxRate a0 a1 s).mems := by
  unfold rxRate
  simp [h]

@[simp ↓] theorem exchangeHeaders_keeps (a0 : Nat) (s : State) (h : Keeps w v u q s.mems) : Keeps w v u q (exchangeHeaders a0 s).mems := by
  unfold exchangeHeaders
  simp [h]

@[simp ↓] theorem rxMode_keeps (a0 : Nat) (a1 : Bool) (s : State) (h : Keeps w v u q s.mems) : Keeps w v u q (rxMode a0 a1 s).mems := by
  unfold rxMode
  simp [h]

@[simp ↓] theorem rxModeDue_keeps (a0 : Nat) (s : State) (h : Keeps w v u q s.mems) : Keeps w v u q (rxModeDue a0 s).mems := by
  unfold rxModeDue
  try dsimp only
  repeat' first | with_reducible assumption | (with_reducible refine keeps_if (fun _ => ?_) (fun _ => ?_)) | (simp (maxDischargeDepth := 12) [h]; done) | (with_reducible refine forEach_keeps (fun _ _ h => ?_) ?_) | split

@[simp ↓] theorem parkEnd_keeps (lane : Nat) (s : State) (h : Keeps w v u q s.mems) : Keeps w v u q (parkEnd lane s).mems := by
  unfold parkEnd
  simp [h]

@[simp ↓] theorem nvmWrite_keeps (img : Bytes) (s : State) (h : Keeps w v u q s.mems) : Keeps w v u q (nvmWrite img s).mems :=
  ⟨fun x => ⟨(h.1 x).1, (h.1 x).2.1, (h.1 x).2.2.1, (h.1 x).2.2.2.1, Memory.wf_ofList _ _⟩, h.2⟩

@[simp ↓] theorem calWrites_keeps (c f : Nat) (ws : List (Nat × Bytes)) (s : State) (h : Keeps w v u q s.mems) : Keeps w v u q (calWrites c f ws s).mems :=
  forEach_keeps (fun _ _ h => ⟨fun x => ⟨(h.1 x).1, (h.1 x).2.1, CrumbMem.wf_write _ _ _ (h.1 x).2.2.1, (h.1 x).2.2.2⟩, h.2⟩) h

@[simp ↓] theorem bulkRecords_keeps (n a : Nat) (s : State) (h : Keeps w v u q s.mems) : Keeps w v u q (bulkRecords n a s).2.2.2.mems := by
  induction n generalizing a s with
  | zero => exact h
  | succ n ih =>
    unfold bulkRecords
    dsimp only
    repeat' split
    next => exact ih _ _ (State.sramWrite_keeps _ _ _ (by simpa using h))
    next => exact ih _ _ (State.sramWrite_keeps _ _ _ (by simpa using h))
    next => simpa using h

@[simp ↓] theorem bulkCut_keeps (s : State) (h : Keeps w v u q s.mems) : Keeps w v u q (bulkCut s).mems := by
  unfold bulkCut
  dsimp only
  repeat' split
  all_goals simp (maxDischargeDepth := 9) [h]

@[simp ↓] theorem restoreTxTable_keeps (a0 : Nat) (s : State) (h : Keeps w v u q s.mems) : Keeps w v u q (restoreTxTable a0 s).mems := by
  unfold restoreTxTable
  try dsimp only
  repeat' first | with_reducible assumption | (with_reducible refine keeps_if (fun _ => ?_) (fun _ => ?_)) | (simp (maxDischargeDepth := 12) [h]; done) | (with_reducible refine forEach_keeps (fun _ _ h => ?_) ?_) | split

@[simp ↓] theorem txMode_keeps (a0 : Nat) (a1 : Bool) (s : State) (h : Keeps w v u q s.mems) : Keeps w v u q (txMode a0 a1 s).mems := by
  unfold txMode
  try dsimp only
  repeat' first | with_reducible assumption | (with_reducible refine keeps_if (fun _ => ?_) (fun _ => ?_)) | (simp (maxDischargeDepth := 12) [h]; done) | (with_reducible refine forEach_keeps (fun _ _ h => ?_) ?_) | split

@[simp ↓] theorem tierBegin_keeps (force : Bool) (lanes : W16) (s : State) (h : Keeps w v u q s.mems) :
    Keeps w v u q (tierBegin force lanes s).mems := by
  unfold tierBegin
  simp only [↓tierCheck_mems]
  refine forEach_keeps (fun l t h => keeps_if (fun _ => h) (fun _ => keeps_if (fun _ => ?_) (fun _ => ?_))) h
  · simp [h]
  · simp [h]

@[simp ↓] theorem laneOff_keeps (a0 : Nat) (s : State) (h : Keeps w v u q s.mems) : Keeps w v u q (laneOff a0 s).mems := by
  unfold laneOff
  try dsimp only
  repeat' first | with_reducible assumption | (with_reducible refine keeps_if (fun _ => ?_) (fun _ => ?_)) | (simp (maxDischargeDepth := 12) [h]; done) | (with_reducible refine forEach_keeps (fun _ _ h => ?_) ?_) | split

@[simp ↓] theorem tier0Start_keeps (s : State) (h : Keeps w v u q s.mems) : Keeps w v u q (tier0Start s).mems := by
  unfold tier0Start
  dsimp only
  repeat' split
  all_goals simp (maxDischargeDepth := 9) [h]

@[simp ↓] theorem State.cold_keeps (s : State) (h : Keeps w v u q s.mems) : Keeps w v u q s.cold.mems :=
  ⟨fun x => ⟨rfl, rfl, rfl, rfl, (h.1 x).2.2.2.2⟩, h.2.1, fun _ => ⟨Nat.zero_le _, Nat.zero_le _, fun _ h => by cases h⟩, fun _ _ => rfl⟩

@[simp ↓] theorem resetEnter_keeps (s : State) (h : Keeps w v u q s.mems) : Keeps w v u q (resetEnter s).mems := by
  unfold resetEnter
  simp [h]

@[simp ↓] theorem resetLeave_keeps (a0 : BitVec 6) (a1 : BitVec 2) (s : State) (h : Keeps w v u q s.mems) : Keeps w v u q (resetLeave a0 a1 s).mems := by
  unfold resetLeave
  simp [h]

@[simp ↓] theorem parkDue_keeps (l : Nat) (s : State) (h : Keeps w v u q s.mems) : Keeps w v u q (parkDue l s).mems := by
  unfold parkDue
  exact keeps_if (fun _ => parkEnd_keeps _ _ h) (fun _ => h)

@[simp ↓] theorem rsynLost_keeps  (s : State) (h : Keeps w v u q s.mems) : Keeps w v u q (rsynLost  s).mems := by
  have k : Keeps w v u q (forEach allLanes (fun l t => rxPowerDown l (txClockLost l (lossDropped l (laneOff l (parkDue l t))))) (negotiationsEnd s)).mems :=
    forEach_keeps (fun l t h => by simp [h]) (by simp [h])
  unfold rsynLost
  dsimp only
  simp only [↓ite_mems, ↓raise_mems, ↓setTier_mems, ↓State.mems_mk, ↓State.mems_fold, ↓State.setPd_mems, ↓madcPower_mems,
    ↓icingStop_mems, ↓framesLost_mems, ite_self]
  refine bulkCut_keeps _ (forEach_keeps (fun l t h => captureDown_keeps _ _ h) ?_)
  rw [forEach_mems (fun a s => by simp), forEach_mems (fun a s => by simp), forEach_mems (fun a s => by simp)]
  exact k

@[simp ↓] theorem storeBegin_keeps (a0 : Bytes) (a1 : Bool) (s : State) (h : Keeps w v u q s.mems) : Keeps w v u q (storeBegin a0 a1 s).mems := by
  unfold storeBegin
  simp [h]

@[simp ↓] theorem placeEchoes_keeps (a0 : Nat) (s : State) (h : Keeps w v u q s.mems) : Keeps w v u q (placeEchoes a0 s).mems := by
  unfold placeEchoes
  dsimp only
  repeat' split
  all_goals simp [h]

@[simp ↓] theorem guardTrip_keeps (a0 : Nat) (a1 : Bool) (s : State) (h : Keeps w v u q s.mems) : Keeps w v u q (guardTrip a0 a1 s).mems := by
  unfold guardTrip
  try dsimp only
  repeat' first | with_reducible assumption | (with_reducible refine keeps_if (fun _ => ?_) (fun _ => ?_)) | (simp (maxDischargeDepth := 12) [h]; done) | (with_reducible refine forEach_keeps (fun _ _ h => ?_) ?_) | split

@[simp ↓] theorem pilotCheck_keeps (a0 : Nat) (a1 : Byte) (a2 : FecCounts) (s : State) (h : Keeps w v u q s.mems) : Keeps w v u q (pilotCheck a0 a1 a2 s).mems := by
  unfold pilotCheck
  try dsimp only
  repeat' first | with_reducible assumption | (with_reducible refine keeps_if (fun _ => ?_) (fun _ => ?_)) | (simp (maxDischargeDepth := 12) [h]; done) | (with_reducible refine forEach_keeps (fun _ _ h => ?_) ?_) | split

@[simp ↓] theorem backgroundSearch_keeps (a0 : Nat) (a1 : QualityMeas) (s : State) (h : Keeps w v u q s.mems) : Keeps w v u q (backgroundSearch a0 a1 s).mems := by
  unfold backgroundSearch
  dsimp only
  repeat' split
  all_goals simp [h]

@[simp ↓] theorem stretchPeriod_keeps (a0 : Nat) (a1 : List Ratio) (a2 : Nat) (s : State) (h : Keeps w v u q s.mems) : Keeps w v u q (stretchPeriod a0 a1 a2 s).mems := by
  unfold stretchPeriod
  try dsimp only
  repeat' first | with_reducible assumption | (with_reducible refine keeps_if (fun _ => ?_) (fun _ => ?_)) | (simp (maxDischargeDepth := 12) [h]; done) | (with_reducible refine forEach_keeps (fun _ _ h => ?_) ?_) | split

@[simp ↓] theorem txMove_keeps (lane : Nat) (s : State) (h : Keeps w v u q s.mems) : Keeps w v u q (txMove lane s).mems := by
  unfold txMove
  dsimp only
  repeat' split
  all_goals simp [h]

@[simp ↓] theorem txBoundary_keeps (lane : Nat) (s : State) (h : Keeps w v u q s.mems) : Keeps w v u q (txBoundary lane s).mems := by
  unfold txBoundary
  simp [h]

@[simp ↓] theorem retentionSave_keeps (a0 : Nat) (s : State) (h : Keeps w v u q s.mems) : Keeps w v u q (retentionSave a0 s).mems := by
  unfold retentionSave
  simp [h]

@[simp ↓] theorem sleepBegin_keeps  (s : State) (h : Keeps w v u q s.mems) : Keeps w v u q (sleepBegin  s).mems := by
  unfold sleepBegin
  dsimp only
  rw [forEach_mems (fun n t => by simp), pwrMod_mems]
  exact forEach_keeps (fun l t h => parkDue_keeps _ _ h) h

@[simp ↓] theorem laneStop_keeps (a0 : Nat) (s : State) (h : Keeps w v u q s.mems) : Keeps w v u q (laneStop a0 s).mems := by
  unfold laneStop
  simp [h]

@[simp ↓] theorem lanePlanned_keeps (a0 : Nat) (s : State) (h : Keeps w v u q s.mems) : Keeps w v u q (lanePlanned a0 s).mems := by
  unfold lanePlanned
  simp [h]

@[simp ↓] theorem laneShed_keeps (a0 : Nat) (s : State) (h : Keeps w v u q s.mems) : Keeps w v u q (laneShed a0 s).mems := by
  unfold laneShed
  simp [h]

@[simp ↓] theorem domainsDown_keeps (s : State) (h : Keeps w v u q s.mems) : Keeps w v u q (domainsDown s).mems := by
  unfold domainsDown
  simp only [↓domainsOff_mems]
  try dsimp only
  repeat' first | with_reducible assumption | (with_reducible refine keeps_if (fun _ => ?_) (fun _ => ?_)) | (simp (maxDischargeDepth := 12) [h]; done) | (with_reducible refine forEach_keeps (fun _ _ h => ?_) ?_) | split

@[simp ↓] theorem startResets_keeps (s : State) (h : Keeps w v u q s.mems) : Keeps w v u q (startResets s).mems :=
  ⟨fun x => ⟨(h.1 x).1, rfl, rfl, rfl, (h.1 x).2.2.2.2⟩, h.2⟩

theorem lostSram_wf (s : State) : Memory.wf s.lostSram = true := Memory.wf_ofList _ _

theorem lostCrumbs_wf (s : State) (base n : Nat) (m : CrumbMem) (h : m.wf = true) : (lostCrumbs s base n m).wf = true := by
  simp only [CrumbMem.wf, Bool.and_eq_true] at *
  exact ⟨Memory.wf_ofList _ _, h.2⟩

theorem memoriesLost_mems (s : State) : (memoriesLost s).mems = (s.lostSram, lostCrumbs s 0 512 s.bank,
    lostCrumbs s 0x100000 32 s.calMem, lostCrumbs s 0x200000 64 s.cliMem, s.cal.nvm, s.pending, bounded s.mbx.evq s.mbx.history [], countsAgree s.framer) := by
  unfold memoriesLost
  rw [State.mems_mk]

@[simp ↓] theorem memoriesLost_keeps (s : State) (h : Keeps w v u q s.mems) : Keeps w v u q (memoriesLost s).mems := by
  rw [memoriesLost_mems]
  exact keeps_mk (fun _ => lostSram_wf s) (fun x => lostCrumbs_wf s 0 512 s.bank (h.1 x).2.1)
    (fun x => lostCrumbs_wf s 0x100000 32 s.calMem (h.1 x).2.2.1)
    (fun x => lostCrumbs_wf s 0x200000 64 s.cliMem (h.1 x).2.2.2.1) (fun x => (h.1 x).2.2.2.2) ⟨h.2.1, fun x => ⟨(h.bounds x).1, (h.bounds x).2.1, fun _ e => by cases e⟩, h.2.2.2⟩

@[simp ↓] theorem laneDefaults_keeps (l : Nat) (s : State) (h : Keeps w v u q s.mems) : Keeps w v u q (laneDefaults l s).mems := by
  unfold laneDefaults
  exact cntClear_keeps (by simpa using h)

@[simp ↓] theorem shadowCheck_keeps (s : State) (h : Keeps w v u q s.mems) : Keeps w v u q (shadowCheck s).mems := by
  unfold shadowCheck
  simp only [↓pwrMod_mems]
  exact forEach_keeps (fun l t h => laneDefaults_keeps l t h) h

@[simp ↓] theorem banksLost_keeps (s : State) (h : Keeps w v u q s.mems) : Keeps w v u q (banksLost s).mems := by
  unfold banksLost
  simp only [↓loadTrims_mems, ↓State.mems_mk, ↓State.mems_fold]
  rw [forEach_mems (fun a s => by simp), foldl_mems (fun a s => by simp)]
  exact forEach_keeps (fun l t h => laneDefaults_keeps l t h) (memoriesLost_keeps s h)

@[simp ↓] theorem startAgain_keeps (s : State) (h : Keeps w v u q s.mems) : Keeps w v u q (startAgain s).mems := by
  unfold startAgain
  simp [h]

@[simp ↓] theorem wakeStart_keeps (a0 : BitVec 4) (a1 : Byte) (a2 : BitVec 4) (a3 : BitVec 1) (s : State) (h : Keeps w v u q s.mems) : Keeps w v u q (wakeStart a0 a1 a2 a3 s).mems := by
  unfold wakeStart
  simp [h]

@[simp ↓] theorem calendarCheck_keeps (f : Nat) (s : State) (h : Keeps w v u q s.mems) : Keeps w v u q (calendarCheck f s).mems := by
  unfold calendarCheck
  dsimp only
  refine keeps_if (fun _ => h) (fun _ => ?_)
  simp only [↓pwrMod_mems, ↓resource_mems, ↓State.faceMod_mems]
  refine forEach_keeps (fun c t h => ?_) h
  simp only [↓crumbError_mems, ↓State.mems_mk]
  exact ⟨fun x => ⟨(h.1 x).1, (h.1 x).2.1, CrumbMem.wf_reject _ _ (h.1 x).2.2.1, (h.1 x).2.2.2⟩, h.2⟩

@[simp ↓] theorem clientCheck_keeps (s : State) (h : Keeps w v u q s.mems) : Keeps w v u q (clientCheck s).mems := by
  unfold clientCheck
  dsimp only
  simp only [↓pwrMod_mems]
  refine forEach_keeps (fun c t h => ?_) h
  rw [forEach_mems (fun a s => by simp)]
  simp only [↓crumbError_mems, ↓State.mems_mk]
  exact ⟨fun x => ⟨(h.1 x).1, (h.1 x).2.1, (h.1 x).2.2.1, CrumbMem.wf_reject _ _ (h.1 x).2.2.2.1, (h.1 x).2.2.2.2⟩, h.2⟩

@[simp ↓] theorem firmwareCheck_keeps (s : State) (h : Keeps w v u q s.mems) : Keeps w v u q (firmwareCheck s).mems := by
  unfold firmwareCheck
  dsimp only
  repeat' split
  all_goals simp (maxDischargeDepth := 9) [h]

@[simp ↓] theorem laneWakeRx_keeps (a0 : Nat) (s : State) (h : Keeps w v u q s.mems) : Keeps w v u q (laneWakeRx a0 s).mems := by
  unfold laneWakeRx
  simp [h]

@[simp ↓] theorem laneWake_keeps (a0 : Bool) (a1 : Nat) (s : State) (h : Keeps w v u q s.mems) : Keeps w v u q (laneWake a0 a1 s).mems := by
  unfold laneWake
  simp [h]

@[simp ↓] theorem wakeDomainsUp_keeps  (s : State) (h : Keeps w v u q s.mems) : Keeps w v u q (wakeDomainsUp  s).mems := by
  unfold wakeDomainsUp
  simp only [↓wakeEvent_mems, ↓ite_mems, ↓moveClock_mems, ite_self, ↓pwrMod_mems, ↓abandonedReport_mems]
  refine execEnd_keeps _ _ (keeps_if (fun _ => ?_) (fun _ => ?_))
  all_goals
    try rw [coresWake_mems]
    refine forEach_keeps (fun l t h => laneWake_keeps _ _ _ h) ?_
    rw [forEach_mems (fun f t => by simp)]
    simp only [↓toPower_mems, ↓madcPower_mems, ↓windowsRestart_mems, ↓streamCheck_mems, ↓loopCheck_mems]
    refine clientCheck_keeps _ (calendarCheck_keeps _ _ (calendarCheck_keeps _ _ (firmwareCheck_keeps _ (shadowCheck_keeps _ ?_))))
    refine keeps_if (fun _ => ?_) (fun _ => ?_)
    · rw [hostQuads_mems]
      exact banksLost_keeps _ (by simpa using h)
    · simpa using h

@[simp ↓] theorem laneRestart_keeps (a0 : Nat) (s : State) (h : Keeps w v u q s.mems) : Keeps w v u q (laneRestart a0 s).mems := by
  unfold laneRestart
  simp [h]

@[simp ↓] theorem handshakeUndo_keeps (s : State) (h : Keeps w v u q s.mems) : Keeps w v u q (handshakeUndo s).mems := by
  unfold handshakeUndo
  simp only [↓raise_mems, ↓pwrMod_mems]
  have k : Keeps w v u q (State.mems (if 6 < s.pwr.step.toNat then coresWake (toPower 1 0 s) else toPower 1 0 s)) :=
    keeps_if (fun _ => by simpa using h) (fun _ => by simpa using h)
  exact keeps_if (fun _ => forEach_keeps (fun l t h => laneRestart_keeps _ _ h) k) (fun _ => k)

@[simp ↓] theorem holdShed_keeps  (s : State) (h : Keeps w v u q s.mems) : Keeps w v u q (holdShed  s).mems := by
  have k (t : State) (b : Bool) (h : Keeps w v u q t.mems) :
      Keeps w v u q (storeDrop (strobeDrop (calDrop (negotiationsEnd (if b then sleepBegin t else t))))).mems := by
    simp only [↓storeDrop_mems, ↓strobeDrop_mems, ↓calDrop_mems, ↓negotiationsEnd_mems]
    exact keeps_if (fun _ => sleepBegin_keeps _ h) (fun _ => h)
  have e : Keeps w v u q (State.mems (if s.pwr.cur == 5 then epochNext s else s)) := keeps_if (fun _ => by simpa using h) (fun _ => h)
  have m := k _ (s.pwr.cur == 1) e
  unfold holdShed
  simp only [↓toPower_mems, ↓pwrMod_mems]
  rw [forEach_mems (fun p t => by simp)]
  simp only [↓icingStop_mems]
  refine keeps_if (fun _ => ?_) (fun _ => (coresStop_mems _).symm ▸ ?_)
  all_goals
    refine keeps_if (fun _ => ?_) (fun _ => forEach_keeps (fun l t h => laneShed_keeps _ _ h) m)
    rw [forEach_mems (fun a s => by simp)]
    exact m

@[simp ↓] theorem holdActs_keeps (s : State) (h : Keeps w v u q s.mems) : Keeps w v u q (holdActs s).mems := by
  unfold holdActs
  simp [h]

@[simp ↓] theorem holdReached_keeps (s : State) (h : Keeps w v u q s.mems) : Keeps w v u q (holdReached s).mems := by
  unfold holdReached
  simp [h]

@[simp ↓] theorem toffeeEntered_keeps (s : State) (h : Keeps w v u q s.mems) : Keeps w v u q (toffeeEntered s).mems := by
  unfold toffeeEntered
  simp [h]

@[simp ↓] theorem offEntered_keeps (s : State) (h : Keeps w v u q s.mems) : Keeps w v u q (offEntered s).mems := by
  unfold offEntered
  simp [h]

@[simp ↓] theorem agree_keeps (a0 : Nat) (s : State) (h : Keeps w v u q s.mems) : Keeps w v u q (agree a0 s).mems := by
  unfold agree
  try dsimp only
  repeat' first | with_reducible assumption | (with_reducible refine keeps_if (fun _ => ?_) (fun _ => ?_)) | (simp (maxDischargeDepth := 12) [h]; done) | (with_reducible refine forEach_keeps (fun _ _ h => ?_) ?_) | split

@[simp ↓] theorem laneParked_keeps (a0 : Nat) (s : State) (h : Keeps w v u q s.mems) : Keeps w v u q (laneParked a0 s).mems := by
  unfold laneParked
  simp [h]

@[simp ↓] theorem laneUnparked_keeps (a0 : Nat) (s : State) (h : Keeps w v u q s.mems) : Keeps w v u q (laneUnparked a0 s).mems := by
  unfold laneUnparked
  simp [h]

@[simp ↓] theorem writeHoldEn_keeps (a0 : Bool) (s : State) (h : Keeps w v u q s.mems) : Keeps w v u q (writeHoldEn a0 s).mems := by
  unfold writeHoldEn
  simp [h]

@[simp ↓] theorem buildTable_keeps (a0 : Nat) (a1 : List W16) (s : State) (h : Keeps w v u q s.mems) : Keeps w v u q (buildTable a0 a1 s).mems := by
  unfold buildTable
  dsimp only
  repeat' split
  all_goals simp [h]

@[simp ↓] theorem txTableSwitch_keeps (a0 : Nat) (a1 : BitTable) (s : State) (h : Keeps w v u q s.mems) : Keeps w v u q (txTableSwitch a0 a1 s).mems := by
  unfold txTableSwitch
  simp [h]

@[simp ↓] theorem resyncSeq_keeps (hseq : W16) (s : State) (h : Keeps w v u q s.mems) : Keeps w v u q (resyncSeq hseq s).mems :=
  keeps_mbx h (fun x => ⟨(h.bounds x).1, Nat.zero_le _, (h.bounds x).2.2⟩)

@[simp ↓] theorem eventWrite_keeps (s : State) (h : Keeps w v u q s.mems) : Keeps w v u q (eventWrite s).mems := by
  unfold eventWrite
  split
  · exact h
  · next e r k =>
    refine writeMessage_keeps _ _ _ _ _ _ (keeps_mbx h (fun x => ⟨?_, (h.bounds x).2⟩))
    have := (h.bounds x).1
    rw [k] at this
    exact Nat.le_of_succ_le this

@[simp ↓] theorem pwrCtrlWrite_keeps (a0 : W32) (s : State) (h : Keeps w v u q s.mems) : Keeps w v u q (pwrCtrlWrite a0 s).mems := by
  unfold pwrCtrlWrite
  simp [h]

@[simp ↓] theorem chanWrite_keeps (n : Nat) (k : Nat) (x : W32) (s : State) (h : Keeps w v u q s.mems) : Keeps w v u q (chanWrite n k x s).mems := by
  unfold chanWrite
  refine keeps_if (fun _ => h) (fun _ => ?_)
  split <;> simp [h]

@[simp ↓] theorem dmaWrite_keeps (a0 : Nat) (a1 : W32) (s : State) (h : Keeps w v u q s.mems) : Keeps w v u q (dmaWrite a0 a1 s).mems := by
  unfold dmaWrite
  simp [h]

@[simp ↓] theorem windowWrite_keeps (a0 : Nat) (a1 : W32) (s : State) (h : Keeps w v u q s.mems) : Keeps w v u q (windowWrite a0 a1 s).mems := by
  unfold windowWrite
  simp [h]

@[simp ↓] theorem regWrite_keeps (a0 : Nat) (a1 : W32) (s : State) (h : Keeps w v u q s.mems) : Keeps w v u q (regWrite a0 a1 s).mems := by
  unfold regWrite
  simp [h]

@[simp ↓] theorem writeWord_keeps (a0 : Nat) (a1 : W32) (s : State) (h : Keeps w v u q s.mems) : Keeps w v u q (writeWord a0 a1 s).mems := by
  unfold writeWord
  simp [h]

@[simp ↓] theorem spiWriteWords_keeps (b : Bool) (addr : W24) (i : Nat) (l : List W32) (s : State) (h : Keeps w v u q s.mems) :
    Keeps w v u q (spiWriteWords b addr i l s).mems := by
  induction l generalizing i s with
  | nil => exact h
  | cons v l ih =>
    refine ih _ _ ?_
    split <;> simp [h]

@[simp ↓] theorem spiCommit_keeps (a0 : Bool) (a1 : W24) (a2 : Byte) (a3 : Bytes) (s : State) (h : Keeps w v u q s.mems) : Keeps w v u q (spiCommit a0 a1 a2 a3 s).mems := by
  unfold spiCommit
  simp [h]

@[simp ↓] theorem okWith_fst (p : Bytes) (s : State) : (okWith p s).1 = s := rfl

@[simp ↓] theorem ok_fst (s : State) : (ok s).1 = s := rfl

@[simp ↓] theorem deny_fst (st : Status) (s : State) : (deny st s).1 = s := rfl

@[simp ↓] theorem ite_fst (c : Prop) [Decidable c] (a b : Reply) : (if c then a else b).1 = if c then a.1 else b.1 := apply_ite _ _ _ _

@[simp ↓] theorem cmdBiasConfig_keeps (a0 : Byte) (a1 : Byte) (a2 : Bytes) (a3 : W16) (s : State) (h : Keeps w v u q s.mems) : Keeps w v u q ((cmdBiasConfig a0 a1 a2 a3 s).run ()).1.mems := by
  unfold cmdBiasConfig
  simp [h]

@[simp ↓] theorem cmdBiasEnable_keeps (a0 : Byte) (a1 : Byte) (a2 : W16) (s : State) (h : Keeps w v u q s.mems) : Keeps w v u q ((cmdBiasEnable a0 a1 a2 s).run ()).1.mems := by
  unfold cmdBiasEnable
  simp [h]

@[simp ↓] theorem cmdBiasDisable_keeps (a0 : Byte) (s : State) (h : Keeps w v u q s.mems) : Keeps w v u q ((cmdBiasDisable a0 s).run ()).1.mems := by
  unfold cmdBiasDisable
  simp [h]

@[simp ↓] theorem cmdBiasCode_keeps (a0 : Byte) (a1 : W16) (s : State) (h : Keeps w v u q s.mems) : Keeps w v u q ((cmdBiasCode a0 a1 s).run ()).1.mems := by
  unfold cmdBiasCode
  simp [h]

@[simp ↓] theorem cmdBiasSafe_keeps (a0 : Byte) (a1 : Byte) (s : State) (h : Keeps w v u q s.mems) : Keeps w v u q ((cmdBiasSafe a0 a1 s).run ()).1.mems := by
  unfold cmdBiasSafe
  simp [h]

@[simp ↓] theorem cmdBiasRelease_keeps (a0 : Byte) (a1 : Byte) (s : State) (h : Keeps w v u q s.mems) : Keeps w v u q ((cmdBiasRelease a0 a1 s).run ()).1.mems := by
  unfold cmdBiasRelease
  simp [h]

@[simp ↓] theorem cmdBiasStatus_keeps (a0 : Byte) (a1 : Byte) (s : State) (h : Keeps w v u q s.mems) : Keeps w v u q ((cmdBiasStatus a0 a1 s).run ()).1.mems := by
  unfold cmdBiasStatus
  simp [h]

@[simp ↓] theorem cmdCalWrite_keeps (a0 : Byte) (a1 : W16) (a2 : W32) (a3 : Bytes) (s : State) (h : Keeps w v u q s.mems) : Keeps w v u q ((cmdCalWrite a0 a1 a2 a3 s).run ()).1.mems := by
  unfold cmdCalWrite
  simp [h]

@[simp ↓] theorem cmdCalRead_keeps (a0 : Byte) (a1 : Byte) (a2 : W16) (a3 : W16) (a4 : W32) (s : State) (h : Keeps w v u q s.mems) : Keeps w v u q ((cmdCalRead a0 a1 a2 a3 a4 s).run ()).1.mems := by
  unfold cmdCalRead
  simp [h]

@[simp ↓] theorem cmdCalCopy_keeps (face : Byte) (s : State) (h : Keeps w v u q s.mems) : Keeps w v u q ((cmdCalCopy face s).run ()).1.mems := by
  unfold cmdCalCopy
  simp only [↓ite_fst, ↓ok_fst, ↓deny_fst]
  refine keeps_if (fun _ => h) (fun _ => forEach_keeps (fun k t h => ?_) h)
  rw [State.mems_mk]
  exact keeps_mk (fun x => (h.1 x).1) (fun x => (h.1 x).2.1) (fun x => CrumbMem.wf_write _ _ _ (h.1 x).2.2.1)
    (fun x => (h.1 x).2.2.2.1) (fun x => (h.1 x).2.2.2.2) h.2

theorem rejectCal_keeps (f : Nat) (l : List Nat) (s : State) (h : Keeps w v u q s.mems) :
    Keeps w v u q (forEach l (fun i t => crumbError 1 f i { t with calMem := t.calMem.reject i }) s).mems := by
  refine forEach_keeps (fun i t h => ?_) h
  rw [crumbError_mems, State.mems_mk]
  exact keeps_mk (fun x => (h.1 x).1) (fun x => (h.1 x).2.1) (fun x => CrumbMem.wf_reject _ _ (h.1 x).2.2.1)
    (fun x => (h.1 x).2.2.2.1) (fun x => (h.1 x).2.2.2.2) h.2

@[simp ↓] theorem cmdCalCommit_keeps (face flags atMfc : Byte) (s : State) (h : Keeps w v u q s.mems) :
    Keeps w v u q ((cmdCalCommit face flags atMfc s).run ()).1.mems := by
  unfold cmdCalCommit
  simp only [↓ite_fst, ↓deny_fst]
  refine keeps_if (fun _ => h) (fun _ => ?_)
  split
  · rw [deny_fst, raise_mems]
    exact rejectCal_keeps _ _ _ h
  · rw [okWith_fst, State.faceMod_mems]
    exact h

@[simp ↓] theorem cmdCalCancel_keeps (a0 : Byte) (s : State) (h : Keeps w v u q s.mems) : Keeps w v u q ((cmdCalCancel a0 s).run ()).1.mems := by
  unfold cmdCalCancel
  dsimp only
  repeat' split
  all_goals simp [h]

@[simp ↓] theorem cmdCalStatusCalendar_keeps (a0 : Byte) (a1 : W32) (s : State) (h : Keeps w v u q s.mems) : Keeps w v u q ((cmdCalStatusCalendar a0 a1 s).run ()).1.mems := by
  unfold cmdCalStatusCalendar
  simp [h]

@[simp ↓] theorem cmdCalRouteRead_keeps (a0 : Byte) (a1 : W16) (a2 : W16) (a3 : W32) (s : State) (h : Keeps w v u q s.mems) : Keeps w v u q ((cmdCalRouteRead a0 a1 a2 a3 s).run ()).1.mems := by
  unfold cmdCalRouteRead
  simp [h]

@[simp ↓] theorem cmdClientSet_keeps (client : W16) (entry : Bytes) (s : State) (h : Keeps w v u q s.mems) :
    Keeps w v u q ((cmdClientSet client entry s).run ()).1.mems := by
  have k (t : State) (c : Nat) (e : t.cliMem = s.cliMem) (x : w) : (t.clientCrumb c).wf = true := by
    unfold State.clientCrumb
    dsimp only
    rw [e]
    split
    · exact CrumbMem.wf_write _ _ _ (h.1 x).2.2.2.1
    · exact CrumbMem.wf_write _ _ _ (h.1 x).2.2.2.1
  unfold cmdClientSet
  simp only [↓ite_fst, ↓ok_fst, ↓deny_fst]
  refine keeps_if (fun _ => h) (fun _ => keeps_if (fun _ => h) (fun _ => keeps_if (fun _ => ?_) (fun _ => ?_)))
  · rw [State.mems_mk]
    exact keeps_mk (fun x => (h.1 x).1) (fun x => (h.1 x).2.1) (fun x => (h.1 x).2.2.1)
      (k _ _ rfl) (fun x => (h.1 x).2.2.2.2) h.2
  · rw [crumbError_mems, State.mems_mk]
    exact keeps_mk (fun x => (h.1 x).1) (fun x => (h.1 x).2.1) (fun x => (h.1 x).2.2.1)
      (fun x => CrumbMem.wf_reject _ _ (h.1 x).2.2.2.1) (fun x => (h.1 x).2.2.2.2) h.2

@[simp ↓] theorem cmdClientGet_keeps (a0 : W16) (s : State) (h : Keeps w v u q s.mems) : Keeps w v u q ((cmdClientGet a0 s).run ()).1.mems := by
  unfold cmdClientGet
  simp [h]

@[simp ↓] theorem cmdClientStatus_keeps (a0 : W16) (a1 : W32) (s : State) (h : Keeps w v u q s.mems) : Keeps w v u q ((cmdClientStatus a0 a1 s).run ()).1.mems := by
  unfold cmdClientStatus
  simp [h]

@[simp ↓] theorem cmdClientCountersRead_keeps (a0 : W16) (a1 : Byte) (s : State) (h : Keeps w v u q s.mems) : Keeps w v u q ((cmdClientCountersRead a0 a1 s).run ()).1.mems := by
  unfold cmdClientCountersRead
  simp [h]

@[simp ↓] theorem cmdThroughStatus_keeps (a0 : W16) (a1 : Byte) (s : State) (h : Keeps w v u q s.mems) : Keeps w v u q ((cmdThroughStatus a0 a1 s).run ()).1.mems := by
  unfold cmdThroughStatus
  simp [h]

@[simp ↓] theorem cmdCalRun_keeps (a0 : Byte) (a1 : Byte) (a2 : Byte) (a3 : Bytes) (a4 : Byte) (s : State) (h : Keeps w v u q s.mems) : Keeps w v u q ((cmdCalRun a0 a1 a2 a3 a4 s).run ()).1.mems := by
  unfold cmdCalRun
  simp [h]

@[simp ↓] theorem cmdCalApply_keeps (kinds flags : Byte) (s : State) (h : Keeps w v u q s.mems) :
    Keeps w v u q ((cmdCalApply kinds flags s).run ()).1.mems := by
  have k := State.strobeAfter_mems s
  unfold cmdCalApply
  simp only [↓ite_fst, ↓deny_fst]
  refine keeps_if (fun _ => h) (fun _ => ?_)
  split
  · next e => rw [e] at k; exact k ▸ h
  · next e => rw [e] at k; rw [okWith_fst, calMod_mems rfl]; exact k ▸ h

@[simp ↓] theorem cmdCalDiscard_keeps (a0 : Byte) (s : State) (h : Keeps w v u q s.mems) : Keeps w v u q ((cmdCalDiscard a0 s).run ()).1.mems := by
  unfold cmdCalDiscard
  simp [h]

@[simp ↓] theorem cmdCalStatusCalibration_keeps (a0 : W32) (s : State) (h : Keeps w v u q s.mems) : Keeps w v u q ((cmdCalStatusCalibration a0 s).run ()).1.mems := by
  unfold cmdCalStatusCalibration
  simp [h]

@[simp ↓] theorem cmdCalLoad_keeps  (s : State) (h : Keeps w v u q s.mems) : Keeps w v u q ((cmdCalLoad  s).run ()).1.mems := by
  unfold cmdCalLoad
  simp [h]

@[simp ↓] theorem cmdCalStore_keeps (a0 : W16) (a1 : W32) (a2 : Byte) (a3 : Bytes) (s : State) (h : Keeps w v u q s.mems) : Keeps w v u q ((cmdCalStore a0 a1 a2 a3 s).run ()).1.mems := by
  unfold cmdCalStore
  dsimp only
  repeat' split
  all_goals simp [h]

@[simp ↓] theorem cmdCalImageWrite_keeps (a0 : W16) (a1 : W32) (a2 : Byte) (a3 : W32) (s : State) (h : Keeps w v u q s.mems) : Keeps w v u q ((cmdCalImageWrite a0 a1 a2 a3 s).run ()).1.mems := by
  unfold cmdCalImageWrite
  split <;> simp [h]

@[simp ↓] theorem cmdCalImageExport_keeps (a0 : Byte) (a1 : W32) (s : State) (h : Keeps w v u q s.mems) : Keeps w v u q ((cmdCalImageExport a0 a1 s).run ()).1.mems := by
  unfold cmdCalImageExport
  simp [h]

@[simp ↓] theorem cmdLaneCaptureFetch_keeps (a0 : Byte) (a1 : Byte) (a2 : W32) (s : State) (h : Keeps w v u q s.mems) : Keeps w v u q ((cmdLaneCaptureFetch a0 a1 a2 s).run ()).1.mems := by
  unfold cmdLaneCaptureFetch
  simp [h]

@[simp ↓] theorem cmdLoopTestFetch_keeps (a0 : Byte) (a1 : Byte) (a2 : W32) (s : State) (h : Keeps w v u q s.mems) : Keeps w v u q ((cmdLoopTestFetch a0 a1 a2 s).run ()).1.mems := by
  unfold cmdLoopTestFetch
  simp [h]

@[simp ↓] theorem cmdCntAssign_keeps (cnt source index : W16) (flags : Byte) (s : State) (h : Keeps w v u q s.mems) :
    Keeps w v u q ((cmdCntAssign cnt source index flags s).run ()).1.mems := by
  have k (c : Tab Cnt) (e : ∀ m, ((Tab.get {} s.dma.cnts (2 * m)).chain = true → (Tab.get {} s.dma.cnts (2 * m + 1)).source = 0) →
      (Tab.get {} c (2 * m)).chain = true → (Tab.get {} c (2 * m + 1)).source = 0) :
      Keeps w v u q (State.mems { s with dma := { s.dma with cnts := c } }) :=
    ⟨h.1, h.2.1, fun x => ⟨(h.bounds x).1, (h.bounds x).2.1, fun m => e m ((h.bounds x).2.2 m)⟩, h.2.2.2⟩
  unfold cmdCntAssign
  simp only [↓ite_fst, ↓ok_fst, ↓deny_fst]
  refine keeps_if (fun _ => h) (fun p => ?_)
  simp only [State.cntAt, Bool.and_eq_true, decide_eq_true_eq, not_and] at p
  simp only [State.cntAt]
  generalize cnt.toNat = n at p ⊢
  refine keeps_if (fun d => k _ (fun m g => ?_)) (fun d => keeps_if (fun e => k _ (fun m g => ?_)) (fun e => k _ (fun m g => ?_)))
  all_goals
    intro c
    simp only [State.cntMod, Tab.get_upd] at c d ⊢
    rcases (by omega : n = 2 * m ∨ n = 2 * m + 1 ∨ 2 * m = n + 1 ∨ (2 * m ≠ n ∧ 2 * m + 1 ≠ n ∧ 2 * m ≠ n + 1 ∧ 2 * m + 1 ≠ n + 1))
      with rfl | rfl | f | ⟨f, f1, f2, f3⟩
    · simp_all
    · have e : ¬2 * m = 2 * m + 1 + 1 := by omega
      have p := p (by omega)
      simp_all
    · have e : ¬n + 1 = n ∧ ¬n + 1 + 1 = n ∧ ¬n + 1 + 1 = n + 1 := by omega
      clear p
      rw [f] at g c ⊢
      simp_all
    · simp_all

@[simp ↓] theorem cmdCntWindowConfig_keeps (a0 : Byte) (a1 : W16) (a2 : W16) (s : State) (h : Keeps w v u q s.mems) : Keeps w v u q ((cmdCntWindowConfig a0 a1 a2 s).run ()).1.mems := by
  unfold cmdCntWindowConfig
  simp [h]

@[simp ↓] theorem cmdCntWindowRead_keeps (a0 : Byte) (a1 : W16) (s : State) (h : Keeps w v u q s.mems) : Keeps w v u q ((cmdCntWindowRead a0 a1 s).run ()).1.mems := by
  unfold cmdCntWindowRead
  simp [h]

@[simp ↓] theorem cmdFecConfig_keeps (a0 : Byte) (a1 : Byte) (a2 : W16) (s : State) (h : Keeps w v u q s.mems) : Keeps w v u q ((cmdFecConfig a0 a1 a2 s).run ()).1.mems := by
  unfold cmdFecConfig
  simp [h]

@[simp ↓] theorem cmdFecCountersRead_keeps (lane flags : Byte) (s : State) (h : Keeps w v u q s.mems) :
    Keeps w v u q ((cmdFecCountersRead lane flags s).run ()).1.mems := by
  unfold cmdFecCountersRead
  simp only [↓okWith_fst]
  exact keeps_if (fun _ => cntClear_keeps h) (fun _ => h)

@[simp ↓] theorem cmdFrameStatus_keeps (a0 : Byte) (s : State) (h : Keeps w v u q s.mems) : Keeps w v u q ((cmdFrameStatus a0 s).run ()).1.mems := by
  unfold cmdFrameStatus
  simp [h]

@[simp ↓] theorem cmdFrameIdExpect_keeps (a0 : Byte) (a1 : Byte) (a2 : Byte) (a3 : W16) (a4 : Byte) (s : State) (h : Keeps w v u q s.mems) : Keeps w v u q ((cmdFrameIdExpect a0 a1 a2 a3 a4 s).run ()).1.mems := by
  unfold cmdFrameIdExpect
  simp [h]

@[simp ↓] theorem cmdFrameTraceSet_keeps (a0 : Byte) (a1 : Bytes) (s : State) (h : Keeps w v u q s.mems) : Keeps w v u q ((cmdFrameTraceSet a0 a1 s).run ()).1.mems := by
  unfold cmdFrameTraceSet
  simp [h]

@[simp ↓] theorem cmdFrameGccSend_keeps (a0 : Byte) (a1 : Byte) (a2 : Bytes) (s : State) (h : Keeps w v u q s.mems) : Keeps w v u q ((cmdFrameGccSend a0 a1 a2 s).run ()).1.mems := by
  unfold cmdFrameGccSend
  simp [h]

@[simp ↓] theorem cmdFrameGccRead_keeps (a0 : Byte) (a1 : Byte) (a2 : W32) (s : State) (h : Keeps w v u q s.mems) : Keeps w v u q ((cmdFrameGccRead a0 a1 a2 s).run ()).1.mems := by
  unfold cmdFrameGccRead
  simp [h]

@[simp ↓] theorem cmdHostConfig_keeps (a0 : W16) (s : State) (h : Keeps w v u q s.mems) : Keeps w v u q ((cmdHostConfig a0 s).run ()).1.mems := by
  unfold cmdHostConfig
  simp [h]

@[simp ↓] theorem cmdHostPortConfig_keeps (a0 : Byte) (a1 : Byte) (a2 : Byte) (a3 : Byte) (a4 : Byte) (a5 : Byte) (s : State) (h : Keeps w v u q s.mems) : Keeps w v u q ((cmdHostPortConfig a0 a1 a2 a3 a4 a5 s).run ()).1.mems := by
  unfold cmdHostPortConfig
  simp [h]

@[simp ↓] theorem cmdHostLaneEq_keeps (a0 : Byte) (a1 : Byte) (a2 : Bytes) (a3 : Byte) (a4 : Byte) (a5 : Byte) (s : State) (h : Keeps w v u q s.mems) : Keeps w v u q ((cmdHostLaneEq a0 a1 a2 a3 a4 a5 s).run ()).1.mems := by
  unfold cmdHostLaneEq
  simp [h]

@[simp ↓] theorem cmdHostPortStatus_keeps (a0 : Byte) (s : State) (h : Keeps w v u q s.mems) : Keeps w v u q ((cmdHostPortStatus a0 s).run ()).1.mems := by
  unfold cmdHostPortStatus
  simp [h]

@[simp ↓] theorem cmdHostLoopbackSet_keeps (a0 : Byte) (a1 : Byte) (s : State) (h : Keeps w v u q s.mems) : Keeps w v u q ((cmdHostLoopbackSet a0 a1 s).run ()).1.mems := by
  unfold cmdHostLoopbackSet
  simp [h]

@[simp ↓] theorem cmdHostCountersRead_keeps (a0 : Byte) (a1 : Byte) (a2 : W32) (s : State) (h : Keeps w v u q s.mems) : Keeps w v u q ((cmdHostCountersRead a0 a1 a2 s).run ()).1.mems := by
  unfold cmdHostCountersRead
  simp [h]

@[simp ↓] theorem cmdIcingConfig_keeps (a0 : Byte) (a1 : W32) (a2 : W16) (a3 : Byte) (a4 : Byte) (a5 : Byte) (a6 : Byte) (a7 : Byte) (a8 : Byte) (a9 : Byte) (a10 : W16) (a11 : Byte) (a12 : Byte) (a13 : Byte) (a14 : Byte) (a15 : Byte) (a16 : W16) (a17 : Byte) (a18 : Byte) (s : State) (h : Keeps w v u q s.mems) : Keeps w v u q ((cmdIcingConfig a0 a1 a2 a3 a4 a5 a6 a7 a8 a9 a10 a11 a12 a13 a14 a15 a16 a17 a18 s).run ()).1.mems := by
  unfold cmdIcingConfig
  simp [h]

@[simp ↓] theorem cmdIcingStatus_keeps (a0 : Byte) (s : State) (h : Keeps w v u q s.mems) : Keeps w v u q ((cmdIcingStatus a0 s).run ()).1.mems := by
  unfold cmdIcingStatus
  simp [h]

@[simp ↓] theorem cmdIcingNeighbours_keeps (a0 : Byte) (s : State) (h : Keeps w v u q s.mems) : Keeps w v u q ((cmdIcingNeighbours a0 s).run ()).1.mems := by
  unfold cmdIcingNeighbours
  simp [h]

@[simp ↓] theorem cmdIcingPin_keeps (a0 : Byte) (a1 : W16) (s : State) (h : Keeps w v u q s.mems) : Keeps w v u q ((cmdIcingPin a0 a1 s).run ()).1.mems := by
  unfold cmdIcingPin
  simp [h]

@[simp ↓] theorem cmdIcingLaneMap_keeps (a0 : Byte) (a1 : Byte) (a2 : Byte) (s : State) (h : Keeps w v u q s.mems) : Keeps w v u q ((cmdIcingLaneMap a0 a1 a2 s).run ()).1.mems := by
  unfold cmdIcingLaneMap
  simp [h]

@[simp ↓] theorem cmdIcingLevelQuery_keeps (a0 : Byte) (a1 : W16) (s : State) (h : Keeps w v u q s.mems) : Keeps w v u q ((cmdIcingLevelQuery a0 a1 s).run ()).1.mems := by
  unfold cmdIcingLevelQuery
  simp [h]

@[simp ↓] theorem cmdIcingMsgSend_keeps (a0 : Byte) (a1 : W16) (a2 : Byte) (a3 : Byte) (a4 : Bytes) (s : State) (h : Keeps w v u q s.mems) : Keeps w v u q ((cmdIcingMsgSend a0 a1 a2 a3 a4 s).run ()).1.mems := by
  unfold cmdIcingMsgSend
  simp [h]

@[simp ↓] theorem cmdIcingMsgRead_keeps (a0 : Byte) (a1 : Byte) (a2 : W32) (s : State) (h : Keeps w v u q s.mems) : Keeps w v u q ((cmdIcingMsgRead a0 a1 a2 s).run ()).1.mems := by
  unfold cmdIcingMsgRead
  simp [h]

@[simp ↓] theorem cmdIcingWakeSend_keeps (a0 : Byte) (a1 : W16) (a2 : Byte) (a3 : W16) (a4 : Byte) (s : State) (h : Keeps w v u q s.mems) : Keeps w v u q ((cmdIcingWakeSend a0 a1 a2 a3 a4 s).run ()).1.mems := by
  unfold cmdIcingWakeSend
  simp [h]

@[simp ↓] theorem cmdIcingCountersRead_keeps (a0 : Byte) (a1 : Byte) (s : State) (h : Keeps w v u q s.mems) : Keeps w v u q ((cmdIcingCountersRead a0 a1 s).run ()).1.mems := by
  unfold cmdIcingCountersRead
  simp [h]

@[simp ↓] theorem cmdLaneConfig_keeps (a0 : Byte) (a1 : W16) (a2 : Byte) (a3 : Byte) (a4 : Byte) (a5 : Byte) (a6 : Byte) (a7 : Byte) (a8 : W16) (a9 : Byte) (a10 : Byte) (a11 : Byte) (a12 : Byte) (s : State) (h : Keeps w v u q s.mems) : Keeps w v u q ((cmdLaneConfig a0 a1 a2 a3 a4 a5 a6 a7 a8 a9 a10 a11 a12 s).run ()).1.mems := by
  unfold cmdLaneConfig
  simp [h]

@[simp ↓] theorem cmdLaneStart_keeps (a0 : Byte) (s : State) (h : Keeps w v u q s.mems) : Keeps w v u q ((cmdLaneStart a0 s).run ()).1.mems := by
  unfold cmdLaneStart
  simp [h]

@[simp ↓] theorem cmdLaneStop_keeps (a0 : Byte) (s : State) (h : Keeps w v u q s.mems) : Keeps w v u q ((cmdLaneStop a0 s).run ()).1.mems := by
  unfold cmdLaneStop
  simp [h]

@[simp ↓] theorem cmdLaneStatus_keeps (a0 : Byte) (s : State) (h : Keeps w v u q s.mems) : Keeps w v u q ((cmdLaneStatus a0 s).run ()).1.mems := by
  unfold cmdLaneStatus
  simp [h]

@[simp ↓] theorem cmdLaneQuality_keeps (a0 : Byte) (s : State) (h : Keeps w v u q s.mems) : Keeps w v u q ((cmdLaneQuality a0 s).run ()).1.mems := by
  unfold cmdLaneQuality
  simp [h]

@[simp ↓] theorem cmdLaneAdapt_keeps (a0 : Byte) (a1 : Byte) (a2 : Byte) (a3 : Bytes) (a4 : Bytes) (s : State) (h : Keeps w v u q s.mems) : Keeps w v u q ((cmdLaneAdapt a0 a1 a2 a3 a4 s).run ()).1.mems := by
  unfold cmdLaneAdapt
  simp [h]

@[simp ↓] theorem cmdLaneCoefRead_keeps (a0 : Byte) (a1 : Byte) (a2 : Byte) (a3 : W32) (s : State) (h : Keeps w v u q s.mems) : Keeps w v u q ((cmdLaneCoefRead a0 a1 a2 a3 s).run ()).1.mems := by
  unfold cmdLaneCoefRead
  simp [h]

@[simp ↓] theorem cmdLaneCoefWrite_keeps (lane first count : Byte) (buf : W32) (data : Bytes) (s : State) (h : Keeps w v u q s.mems) :
    Keeps w v u q ((cmdLaneCoefWrite lane first count buf data s).run ()).1.mems := by
  unfold cmdLaneCoefWrite
  simp only [↓ite_fst, ↓ok_fst, ↓deny_fst]
  refine keeps_if (fun _ => h) (fun _ => keeps_if (fun _ => h) (fun _ => bankWrite_keeps _ _ _ _ ?_))
  exact forEach_keeps (fun i t h => bankWrite_keeps _ _ _ _ h) (by simpa using h)

@[simp ↓] theorem cmdLaneCoefCopy_keeps (src dst : Byte) (s : State) (h : Keeps w v u q s.mems) :
    Keeps w v u q ((cmdLaneCoefCopy src dst s).run ()).1.mems := by
  unfold cmdLaneCoefCopy
  simp only [↓ite_fst, ↓ok_fst, ↓deny_fst]
  refine keeps_if (fun _ => h) (fun _ => keeps_if (fun _ => h) (fun _ => bankWrite_keeps _ _ _ _ ?_))
  exact forEach_keeps (fun i t h => bankWrite_keeps _ _ _ _ h) h

@[simp ↓] theorem cmdLaneEchoSearch_keeps (a0 : Byte) (s : State) (h : Keeps w v u q s.mems) : Keeps w v u q ((cmdLaneEchoSearch a0 s).run ()).1.mems := by
  unfold cmdLaneEchoSearch
  simp [h]

@[simp ↓] theorem cmdLaneCaptureArm_keeps (a0 : Byte) (a1 : Byte) (a2 : Byte) (a3 : W32) (a4 : Byte) (a5 : Byte) (s : State) (h : Keeps w v u q s.mems) : Keeps w v u q ((cmdLaneCaptureArm a0 a1 a2 a3 a4 a5 s).run ()).1.mems := by
  unfold cmdLaneCaptureArm
  simp [h]

@[simp ↓] theorem cmdTestCheck_keeps (a0 : Byte) (a1 : Byte) (a2 : Byte) (s : State) (h : Keeps w v u q s.mems) : Keeps w v u q ((cmdTestCheck a0 a1 a2 s).run ()).1.mems := by
  unfold cmdTestCheck
  simp [h]

@[simp ↓] theorem cmdTestCheckRead_keeps (a0 : Byte) (a1 : Byte) (s : State) (h : Keeps w v u q s.mems) : Keeps w v u q ((cmdTestCheckRead a0 a1 s).run ()).1.mems := by
  unfold cmdTestCheckRead
  simp [h]

@[simp ↓] theorem cmdTxConfig_keeps (a0 : Byte) (a1 : Byte) (a2 : Byte) (a3 : Byte) (s : State) (h : Keeps w v u q s.mems) : Keeps w v u q ((cmdTxConfig a0 a1 a2 a3 s).run ()).1.mems := by
  unfold cmdTxConfig
  simp [h]

@[simp ↓] theorem cmdTxEnable_keeps (a0 : Byte) (a1 : Byte) (s : State) (h : Keeps w v u q s.mems) : Keeps w v u q ((cmdTxEnable a0 a1 s).run ()).1.mems := by
  unfold cmdTxEnable
  simp [h]

@[simp ↓] theorem cmdTxSquelch_keeps (a0 : Byte) (a1 : Byte) (s : State) (h : Keeps w v u q s.mems) : Keeps w v u q ((cmdTxSquelch a0 a1 s).run ()).1.mems := by
  unfold cmdTxSquelch
  simp [h]

@[simp ↓] theorem cmdTxFirSet_keeps (a0 : Byte) (a1 : Bytes) (s : State) (h : Keeps w v u q s.mems) : Keeps w v u q ((cmdTxFirSet a0 a1 s).run ()).1.mems := by
  unfold cmdTxFirSet
  simp [h]

@[simp ↓] theorem cmdTxPdWrite_keeps (a0 : Byte) (a1 : Bytes) (s : State) (h : Keeps w v u q s.mems) : Keeps w v u q ((cmdTxPdWrite a0 a1 s).run ()).1.mems := by
  unfold cmdTxPdWrite
  simp [h]

@[simp ↓] theorem cmdTxPdRead_keeps (a0 : Byte) (s : State) (h : Keeps w v u q s.mems) : Keeps w v u q ((cmdTxPdRead a0 s).run ()).1.mems := by
  unfold cmdTxPdRead
  simp [h]

@[simp ↓] theorem cmdTxPdTrain_keeps (a0 : Byte) (a1 : Byte) (a2 : Byte) (s : State) (h : Keeps w v u q s.mems) : Keeps w v u q ((cmdTxPdTrain a0 a1 a2 s).run ()).1.mems := by
  unfold cmdTxPdTrain
  simp [h]

@[simp ↓] theorem cmdTxSwing_keeps (a0 : Byte) (a1 : Byte) (s : State) (h : Keeps w v u q s.mems) : Keeps w v u q ((cmdTxSwing a0 a1 s).run ()).1.mems := by
  unfold cmdTxSwing
  simp [h]

@[simp ↓] theorem cmdTxSkew_keeps (a0 : Byte) (a1 : Byte) (a2 : Byte) (a3 : Byte) (s : State) (h : Keeps w v u q s.mems) : Keeps w v u q ((cmdTxSkew a0 a1 a2 a3 s).run ()).1.mems := by
  unfold cmdTxSkew
  simp [h]

@[simp ↓] theorem cmdTxStatus_keeps (a0 : Byte) (s : State) (h : Keeps w v u q s.mems) : Keeps w v u q ((cmdTxStatus a0 s).run ()).1.mems := by
  unfold cmdTxStatus
  simp [h]

@[simp ↓] theorem cmdTestGen_keeps (a0 : Byte) (a1 : Byte) (a2 : Byte) (a3 : Byte) (a4 : Byte) (s : State) (h : Keeps w v u q s.mems) : Keeps w v u q ((cmdTestGen a0 a1 a2 a3 a4 s).run ()).1.mems := by
  unfold cmdTestGen
  simp [h]

@[simp ↓] theorem cmdLoopbackSet_keeps (a0 : Byte) (a1 : Byte) (s : State) (h : Keeps w v u q s.mems) : Keeps w v u q ((cmdLoopbackSet a0 a1 s).run ()).1.mems := by
  unfold cmdLoopbackSet
  simp [h]

@[simp ↓] theorem cmdLoopTemplateApply_keeps (a0 : Byte) (a1 : Byte) (s : State) (h : Keeps w v u q s.mems) : Keeps w v u q ((cmdLoopTemplateApply a0 a1 s).run ()).1.mems := by
  unfold cmdLoopTemplateApply
  dsimp only
  repeat' split
  all_goals simp [h]

@[simp ↓] theorem cmdLoopWrite_keeps (a0 : Byte) (a1 : Byte) (a2 : Byte) (a3 : Byte) (a4 : W32) (a5 : Bytes) (s : State) (h : Keeps w v u q s.mems) : Keeps w v u q ((cmdLoopWrite a0 a1 a2 a3 a4 a5 s).run ()).1.mems := by
  unfold cmdLoopWrite
  simp [h]

@[simp ↓] theorem cmdLoopRead_keeps (a0 : Byte) (s : State) (h : Keeps w v u q s.mems) : Keeps w v u q ((cmdLoopRead a0 s).run ()).1.mems := by
  unfold cmdLoopRead
  simp [h]

@[simp ↓] theorem cmdLoopMode_keeps (a0 : Byte) (a1 : Byte) (a2 : Byte) (a3 : W32) (a4 : W32) (a5 : W32) (a6 : W32) (s : State) (h : Keeps w v u q s.mems) : Keeps w v u q ((cmdLoopMode a0 a1 a2 a3 a4 a5 a6 s).run ()).1.mems := by
  unfold cmdLoopMode
  dsimp only
  repeat' split
  all_goals simp [h]

@[simp ↓] theorem cmdLoopTarget_keeps (a0 : Byte) (a1 : Byte) (a2 : W32) (s : State) (h : Keeps w v u q s.mems) : Keeps w v u q ((cmdLoopTarget a0 a1 a2 s).run ()).1.mems := by
  unfold cmdLoopTarget
  simp [h]

@[simp ↓] theorem cmdLoopStatus_keeps (a0 : Byte) (a1 : Byte) (s : State) (h : Keeps w v u q s.mems) : Keeps w v u q ((cmdLoopStatus a0 a1 s).run ()).1.mems := by
  unfold cmdLoopStatus
  simp [h]

@[simp ↓] theorem cmdLoopTestStart_keeps (a0 : Byte) (a1 : Byte) (a2 : Byte) (a3 : Byte) (a4 : W32) (a5 : W32) (a6 : W16) (a7 : W16) (a8 : W16) (s : State) (h : Keeps w v u q s.mems) : Keeps w v u q ((cmdLoopTestStart a0 a1 a2 a3 a4 a5 a6 a7 a8 s).run ()).1.mems := by
  unfold cmdLoopTestStart
  simp [h]

@[simp ↓] theorem cmdLoopEngineStatus_keeps  (s : State) (h : Keeps w v u q s.mems) : Keeps w v u q ((cmdLoopEngineStatus  s).run ()).1.mems := by
  unfold cmdLoopEngineStatus
  simp [h]

@[simp ↓] theorem cmdMonScanConfig_keeps (a0 : Byte) (a1 : W64) (a2 : Byte) (a3 : Byte) (s : State) (h : Keeps w v u q s.mems) : Keeps w v u q ((cmdMonScanConfig a0 a1 a2 a3 s).run ()).1.mems := by
  unfold cmdMonScanConfig
  simp [h]

@[simp ↓] theorem cmdMonRefbuf_keeps (a0 : Byte) (a1 : Byte) (s : State) (h : Keeps w v u q s.mems) : Keeps w v u q ((cmdMonRefbuf a0 a1 s).run ()).1.mems := by
  unfold cmdMonRefbuf
  simp [h]

@[simp ↓] theorem cmdMonFilterSet_keeps (a0 : Byte) (a1 : Bytes) (s : State) (h : Keeps w v u q s.mems) : Keeps w v u q ((cmdMonFilterSet a0 a1 s).run ()).1.mems := by
  unfold cmdMonFilterSet
  simp [h]

@[simp ↓] theorem cmdMonFilterGet_keeps (a0 : Byte) (s : State) (h : Keeps w v u q s.mems) : Keeps w v u q ((cmdMonFilterGet a0 s).run ()).1.mems := by
  unfold cmdMonFilterGet
  simp [h]

@[simp ↓] theorem cmdMonFilterSync_keeps (a0 : Byte) (s : State) (h : Keeps w v u q s.mems) : Keeps w v u q ((cmdMonFilterSync a0 s).run ()).1.mems := by
  unfold cmdMonFilterSync
  simp [h]

@[simp ↓] theorem cmdMonRead_keeps (a0 : Byte) (a1 : Byte) (a2 : W32) (s : State) (h : Keeps w v u q s.mems) : Keeps w v u q ((cmdMonRead a0 a1 a2 s).run ()).1.mems := by
  unfold cmdMonRead
  simp [h]

@[simp ↓] theorem cmdMonStatus_keeps (a0 : Byte) (a1 : Byte) (s : State) (h : Keeps w v u q s.mems) : Keeps w v u q ((cmdMonStatus a0 a1 s).run ()).1.mems := by
  unfold cmdMonStatus
  simp [h]

@[simp ↓] theorem cmdStretchMove_keeps (a0 : Bool) (a1 : Byte) (s : State) (h : Keeps w v u q s.mems) : Keeps w v u q ((cmdStretchMove a0 a1 s).run ()).1.mems := by
  unfold cmdStretchMove
  simp [h]

@[simp ↓] theorem cmdStretchReply_keeps (a0 : Byte) (a1 : Byte) (a2 : Byte) (s : State) (h : Keeps w v u q s.mems) : Keeps w v u q ((cmdStretchReply a0 a1 a2 s).run ()).1.mems := by
  unfold cmdStretchReply
  dsimp only
  repeat' split
  all_goals simp [h]

@[simp ↓] theorem cmdTierReply_keeps (a0 : Byte) (a1 : Byte) (a2 : Byte) (s : State) (h : Keeps w v u q s.mems) : Keeps w v u q ((cmdTierReply a0 a1 a2 s).run ()).1.mems := by
  unfold cmdTierReply
  dsimp only
  repeat' split
  all_goals simp [h]

@[simp ↓] theorem cmdPwrEnter_keeps (a0 : Byte) (s : State) (h : Keeps w v u q s.mems) : Keeps w v u q ((cmdPwrEnter a0 s).run ()).1.mems := by
  unfold cmdPwrEnter
  simp [h]

@[simp ↓] theorem cmdPwrLanePark_keeps (a0 : Byte) (a1 : Byte) (s : State) (h : Keeps w v u q s.mems) : Keeps w v u q ((cmdPwrLanePark a0 a1 s).run ()).1.mems := by
  unfold cmdPwrLanePark
  simp [h]

@[simp ↓] theorem cmdPwrLaneUnpark_keeps (a0 : Byte) (s : State) (h : Keeps w v u q s.mems) : Keeps w v u q ((cmdPwrLaneUnpark a0 s).run ()).1.mems := by
  unfold cmdPwrLaneUnpark
  simp [h]

@[simp ↓] theorem cmdPwrStatus_keeps  (s : State) (h : Keeps w v u q s.mems) : Keeps w v u q ((cmdPwrStatus  s).run ()).1.mems := by
  unfold cmdPwrStatus
  simp [h]

@[simp ↓] theorem cmdPwrWakeRecord_keeps (a0 : Byte) (s : State) (h : Keeps w v u q s.mems) : Keeps w v u q ((cmdPwrWakeRecord a0 s).run ()).1.mems := by
  unfold cmdPwrWakeRecord
  simp [h]

@[simp ↓] theorem cmdPwrWatchConfig_keeps (a0 : W16) (a1 : Byte) (a2 : Byte) (a3 : W32) (a4 : Bytes) (s : State) (h : Keeps w v u q s.mems) : Keeps w v u q ((cmdPwrWatchConfig a0 a1 a2 a3 a4 s).run ()).1.mems := by
  unfold cmdPwrWatchConfig
  simp [h]

@[simp ↓] theorem cmdStreamConfig_keeps (a0 : Byte) (a1 : Byte) (a2 : W16) (s : State) (h : Keeps w v u q s.mems) : Keeps w v u q ((cmdStreamConfig a0 a1 a2 s).run ()).1.mems := by
  unfold cmdStreamConfig
  simp [h]

@[simp ↓] theorem cmdStreamProfileSet_keeps (a0 : Byte) (a1 : Byte) (a2 : W16) (a3 : W16) (s : State) (h : Keeps w v u q s.mems) : Keeps w v u q ((cmdStreamProfileSet a0 a1 a2 a3 s).run ()).1.mems := by
  unfold cmdStreamProfileSet
  simp [h]

@[simp ↓] theorem cmdStreamProfileGet_keeps (a0 : Byte) (s : State) (h : Keeps w v u q s.mems) : Keeps w v u q ((cmdStreamProfileGet a0 s).run ()).1.mems := by
  unfold cmdStreamProfileGet
  simp [h]

@[simp ↓] theorem cmdStreamAdd_keeps (a0 : W32) (a1 : Bytes) (s : State) (h : Keeps w v u q s.mems) : Keeps w v u q ((cmdStreamAdd a0 a1 s).run ()).1.mems := by
  unfold cmdStreamAdd
  simp [h]

@[simp ↓] theorem cmdStreamDelete_keeps (a0 : W32) (s : State) (h : Keeps w v u q s.mems) : Keeps w v u q ((cmdStreamDelete a0 s).run ()).1.mems := by
  unfold cmdStreamDelete
  simp [h]

@[simp ↓] theorem cmdStreamBulkLoad_keeps (a0 : Byte) (a1 : W32) (a2 : W32) (s : State) (h : Keeps w v u q s.mems) : Keeps w v u q ((cmdStreamBulkLoad a0 a1 a2 s).run ()).1.mems := by
  unfold cmdStreamBulkLoad
  simp [h]

@[simp ↓] theorem cmdStreamRead_keeps (a0 : W32) (s : State) (h : Keeps w v u q s.mems) : Keeps w v u q ((cmdStreamRead a0 s).run ()).1.mems := by
  unfold cmdStreamRead
  simp [h]

@[simp ↓] theorem cmdStreamWrite_keeps (a0 : W32) (a1 : W16) (a2 : Bytes) (s : State) (h : Keeps w v u q s.mems) : Keeps w v u q ((cmdStreamWrite a0 a1 a2 s).run ()).1.mems := by
  unfold cmdStreamWrite
  simp [h]

@[simp ↓] theorem cmdStreamFind_keeps (a0 : Bytes) (s : State) (h : Keeps w v u q s.mems) : Keeps w v u q ((cmdStreamFind a0 s).run ()).1.mems := by
  unfold cmdStreamFind
  dsimp only
  repeat' split
  all_goals simp [h]

@[simp ↓] theorem cmdStreamTakeAny_keeps (a0 : W32) (s : State) (h : Keeps w v u q s.mems) : Keeps w v u q ((cmdStreamTakeAny a0 s).run ()).1.mems := by
  unfold cmdStreamTakeAny
  simp [h]

@[simp ↓] theorem cmdStreamRekey_keeps (a0 : Byte) (a1 : W16) (s : State) (h : Keeps w v u q s.mems) : Keeps w v u q ((cmdStreamRekey a0 a1 s).run ()).1.mems := by
  unfold cmdStreamRekey
  simp [h]

@[simp ↓] theorem cmdStreamCountersRead_keeps (a0 : W32) (a1 : Byte) (s : State) (h : Keeps w v u q s.mems) : Keeps w v u q ((cmdStreamCountersRead a0 a1 s).run ()).1.mems := by
  unfold cmdStreamCountersRead
  simp [h]

@[simp ↓] theorem cmdStreamLedList_keeps (a0 : W32) (a1 : W32) (s : State) (h : Keeps w v u q s.mems) : Keeps w v u q ((cmdStreamLedList a0 a1 s).run ()).1.mems := by
  unfold cmdStreamLedList
  simp [h]

@[simp ↓] theorem cmdStreamEngineStatus_keeps  (s : State) (h : Keeps w v u q s.mems) : Keeps w v u q ((cmdStreamEngineStatus  s).run ()).1.mems := by
  unfold cmdStreamEngineStatus
  simp [h]

@[simp ↓] theorem cmdStretchConfig_keeps (a0 : Byte) (a1 : Byte) (a2 : Byte) (a3 : Byte) (a4 : Byte) (a5 : Byte) (a6 : Byte) (a7 : Byte) (s : State) (h : Keeps w v u q s.mems) : Keeps w v u q ((cmdStretchConfig a0 a1 a2 a3 a4 a5 a6 a7 s).run ()).1.mems := by
  unfold cmdStretchConfig
  simp [h]

@[simp ↓] theorem cmdStretchReload_keeps (a0 : Byte) (s : State) (h : Keeps w v u q s.mems) : Keeps w v u q ((cmdStretchReload a0 s).run ()).1.mems := by
  unfold cmdStretchReload
  simp [h]

@[simp ↓] theorem cmdStretchStatus_keeps (a0 : Byte) (s : State) (h : Keeps w v u q s.mems) : Keeps w v u q ((cmdStretchStatus a0 s).run ()).1.mems := by
  unfold cmdStretchStatus
  simp [h]

@[simp ↓] theorem cmdStretchTableRead_keeps (a0 : Byte) (a1 : W32) (s : State) (h : Keeps w v u q s.mems) : Keeps w v u q ((cmdStretchTableRead a0 a1 s).run ()).1.mems := by
  unfold cmdStretchTableRead
  simp [h]

@[simp ↓] theorem cmdStretchTableWrite_keeps (a0 : Byte) (a1 : Byte) (a2 : W32) (a3 : Bytes) (s : State) (h : Keeps w v u q s.mems) : Keeps w v u q ((cmdStretchTableWrite a0 a1 a2 a3 s).run ()).1.mems := by
  unfold cmdStretchTableWrite
  simp [h]

@[simp ↓] theorem cmdStretchSnrRead_keeps (a0 : Byte) (a1 : W32) (s : State) (h : Keeps w v u q s.mems) : Keeps w v u q ((cmdStretchSnrRead a0 a1 s).run ()).1.mems := by
  unfold cmdStretchSnrRead
  simp [h]

@[simp ↓] theorem cmdSysIdentity_keeps  (s : State) (h : Keeps w v u q s.mems) : Keeps w v u q ((cmdSysIdentity  s).run ()).1.mems := by
  unfold cmdSysIdentity
  simp [h]

@[simp ↓] theorem cmdSysStatus_keeps  (s : State) (h : Keeps w v u q s.mems) : Keeps w v u q ((cmdSysStatus  s).run ()).1.mems := by
  unfold cmdSysStatus
  simp [h]

@[simp ↓] theorem cmdTierSet_keeps (a0 : Byte) (a1 : Byte) (a2 : W16) (s : State) (h : Keeps w v u q s.mems) : Keeps w v u q ((cmdTierSet a0 a1 a2 s).run ()).1.mems := by
  unfold cmdTierSet
  simp [h]

@[simp ↓] theorem cmdFwLoadBegin_keeps (a0 : W32) (s : State) (h : Keeps w v u q s.mems) : Keeps w v u q ((cmdFwLoadBegin a0 s).run ()).1.mems := by
  unfold cmdFwLoadBegin
  simp [h]

@[simp ↓] theorem cmdFwLoadSeg_keeps (a0 : W32) (a1 : W32) (s : State) (h : Keeps w v u q s.mems) : Keeps w v u q ((cmdFwLoadSeg a0 a1 s).run ()).1.mems := by
  unfold cmdFwLoadSeg
  dsimp only
  repeat' split
  all_goals simp [h]

@[simp ↓] theorem cmdFwLoadEnd_keeps  (s : State) (h : Keeps w v u q s.mems) : Keeps w v u q ((cmdFwLoadEnd  s).run ()).1.mems := by
  unfold cmdFwLoadEnd
  dsimp only
  repeat' split
  all_goals simp [h]

@[simp ↓] theorem cmdLanePark_keeps (lane action flags : Byte) (s : State) (h : Keeps w v u q s.mems) :
    Keeps w v u q ((cmdLanePark lane action flags s).run ()).1.mems := by
  unfold cmdLanePark
  split
  · exact cmdPwrLanePark_keeps _ _ _ h
  · exact cmdPwrLaneUnpark_keeps _ _ h

@[simp ↓] theorem cmdParaxResync_keeps  (s : State) (h : Keeps w v u q s.mems) : Keeps w v u q ((cmdParaxResync  s).run ()).1.mems := by
  unfold cmdParaxResync
  simp [h]

/-- What a command's run keeps. -/
def CmdKeeps (c : State → Cmd) : Prop :=
  ∀ (w v u : Prop) (q : List Instr) (s : State), Keeps w v u q s.mems → Keeps w v u q ((c s).run ()).1.mems

theorem reply_keeps {c : State → Cmd} (op : Nat) (s : State) (hc : CmdKeeps c) (h : Keeps w v u q s.mems) :
    Keeps w v u q ((c s).reply op s).1.mems := by
  unfold Cmd.reply
  split
  · exact h
  · simp only [↓ite_fst]
    exact keeps_if (fun _ => h) (fun _ => keeps_if (fun _ => h) (fun _ => hc w v u q s h))

theorem record_keeps (op : Nat) (r : Reply) (h : Keeps w v u q r.1.mems) : Keeps w v u q (Reply.record op r).mems := h

theorem layoutSystem_keeps {n : Nat} {p : Bytes} {l : Layout} (e : layoutSystem n p = some l) : CmdKeeps l.cmd := by
  intro w v u q s h
  unfold layoutSystem at e
  split at e
  all_goals first
    | exact (Option.some_ne_none _ e.symm).elim
    | (injection e with e; subst e; simp [h]; done)

theorem layoutLane_keeps {n : Nat} {p : Bytes} {l : Layout} (e : layoutLane n p = some l) : CmdKeeps l.cmd := by
  intro w v u q s h
  unfold layoutLane at e
  split at e
  all_goals first
    | exact (Option.some_ne_none _ e.symm).elim
    | (injection e with e; subst e; simp [h]; done)

theorem layoutTx_keeps {n : Nat} {p : Bytes} {l : Layout} (e : layoutTx n p = some l) : CmdKeeps l.cmd := by
  intro w v u q s h
  unfold layoutTx at e
  split at e
  all_goals first
    | exact (Option.some_ne_none _ e.symm).elim
    | (injection e with e; subst e; simp [h]; done)

theorem layoutStretch_keeps {n : Nat} {p : Bytes} {l : Layout} (e : layoutStretch n p = some l) : CmdKeeps l.cmd := by
  intro w v u q s h
  unfold layoutStretch at e
  split at e
  all_goals first
    | exact (Option.some_ne_none _ e.symm).elim
    | (injection e with e; subst e; simp [h]; done)

theorem layoutFrame_keeps {n : Nat} {p : Bytes} {l : Layout} (e : layoutFrame n p = some l) : CmdKeeps l.cmd := by
  intro w v u q s h
  unfold layoutFrame at e
  split at e
  all_goals first
    | exact (Option.some_ne_none _ e.symm).elim
    | (injection e with e; subst e; simp [h]; done)

theorem layoutCalendar_keeps {n : Nat} {p : Bytes} {l : Layout} (e : layoutCalendar n p = some l) : CmdKeeps l.cmd := by
  intro w v u q s h
  unfold layoutCalendar at e
  split at e
  all_goals first
    | exact (Option.some_ne_none _ e.symm).elim
    | (injection e with e; subst e; simp [h]; done)

theorem layoutClient_keeps {n : Nat} {p : Bytes} {l : Layout} (e : layoutClient n p = some l) : CmdKeeps l.cmd := by
  intro w v u q s h
  unfold layoutClient at e
  split at e
  all_goals first
    | exact (Option.some_ne_none _ e.symm).elim
    | (injection e with e; subst e; simp [h]; done)

theorem layoutStream_keeps {n : Nat} {p : Bytes} {l : Layout} (e : layoutStream n p = some l) : CmdKeeps l.cmd := by
  intro w v u q s h
  unfold layoutStream at e
  split at e
  all_goals first
    | exact (Option.some_ne_none _ e.symm).elim
    | (injection e with e; subst e; simp [h]; done)

theorem layoutHost_keeps {n : Nat} {p : Bytes} {l : Layout} (e : layoutHost n p = some l) : CmdKeeps l.cmd := by
  intro w v u q s h
  unfold layoutHost at e
  split at e
  all_goals first
    | exact (Option.some_ne_none _ e.symm).elim
    | (injection e with e; subst e; simp [h]; done)

theorem layoutIcing_keeps {n : Nat} {p : Bytes} {l : Layout} (e : layoutIcing n p = some l) : CmdKeeps l.cmd := by
  intro w v u q s h
  unfold layoutIcing at e
  split at e
  all_goals first
    | exact (Option.some_ne_none _ e.symm).elim
    | (injection e with e; subst e; simp [h]; done)

theorem layoutLoop_keeps {n : Nat} {p : Bytes} {l : Layout} (e : layoutLoop n p = some l) : CmdKeeps l.cmd := by
  intro w v u q s h
  unfold layoutLoop at e
  split at e
  all_goals first
    | exact (Option.some_ne_none _ e.symm).elim
    | (injection e with e; subst e; simp [h]; done)

theorem layoutBias_keeps {n : Nat} {p : Bytes} {l : Layout} (e : layoutBias n p = some l) : CmdKeeps l.cmd := by
  intro w v u q s h
  unfold layoutBias at e
  split at e
  all_goals first
    | exact (Option.some_ne_none _ e.symm).elim
    | (injection e with e; subst e; simp [h]; done)

theorem layoutMonitor_keeps {n : Nat} {p : Bytes} {l : Layout} (e : layoutMonitor n p = some l) : CmdKeeps l.cmd := by
  intro w v u q s h
  unfold layoutMonitor at e
  split at e
  all_goals first
    | exact (Option.some_ne_none _ e.symm).elim
    | (injection e with e; subst e; simp [h]; done)

theorem layoutCalibration_keeps {n : Nat} {p : Bytes} {l : Layout} (e : layoutCalibration n p = some l) : CmdKeeps l.cmd := by
  intro w v u q s h
  unfold layoutCalibration at e
  split at e
  all_goals first
    | exact (Option.some_ne_none _ e.symm).elim
    | (injection e with e; subst e; simp [h]; done)

theorem layoutPower_keeps {n : Nat} {p : Bytes} {l : Layout} (e : layoutPower n p = some l) : CmdKeeps l.cmd := by
  intro w v u q s h
  unfold layoutPower at e
  split at e
  all_goals first
    | exact (Option.some_ne_none _ e.symm).elim
    | (injection e with e; subst e; simp [h]; done)

theorem layoutCounter_keeps {n : Nat} {p : Bytes} {l : Layout} (e : layoutCounter n p = some l) : CmdKeeps l.cmd := by
  intro w v u q s h
  unfold layoutCounter at e
  split at e
  all_goals first
    | exact (Option.some_ne_none _ e.symm).elim
    | (injection e with e; subst e; simp [h]; done)

theorem layoutOf_keeps {op : Nat} {p : Bytes} {l : Layout} (e : layoutOf op p = some l) : CmdKeeps l.cmd := by
  unfold layoutOf at e
  split at e
  all_goals first
    | exact (Option.some_ne_none _ e.symm).elim
    | exact layoutSystem_keeps e | exact layoutLane_keeps e | exact layoutTx_keeps e | exact layoutStretch_keeps e
    | exact layoutFrame_keeps e | exact layoutCalendar_keeps e | exact layoutClient_keeps e | exact layoutStream_keeps e
    | exact layoutHost_keeps e | exact layoutIcing_keeps e | exact layoutLoop_keeps e | exact layoutBias_keeps e
    | exact layoutMonitor_keeps e | exact layoutCalibration_keeps e | exact layoutPower_keeps e | exact layoutCounter_keeps e

theorem paraxCommand_keeps (op : Nat) (p : Bytes) : CmdKeeps (paraxCommand op p) := by
  intro w v u q s h
  unfold paraxCommand
  split
  · exact h
  next l e =>
    split
    · exact h
    · exact layoutOf_keeps e w v u q s h

theorem command_keeps (m : Msg) : CmdKeeps m.command := by
  intro w v u q s h
  unfold Msg.command
  split
  · exact cmdParaxResync_keeps s h
  · exact paraxCommand_keeps _ _ w v u q s h

theorem execute_keeps (m : Msg) (s : State) (h : Keeps w v u q s.mems) : Keeps w v u q (execute m s).mems := by
  have k := reply_keeps m.op.toNat s (command_keeps m) h
  unfold execute
  refine keeps_if (fun _ => keeps_mbx k (fun x => k.bounds x)) (fun _ => respondTo_keeps _ _ _ _ _ ?_)
  exact record_keeps _ _ k

theorem handle_keeps (m : Msg) (s : State) (h : Keeps w v u q s.mems) : Keeps w v u q (handle m s).mems := by
  unfold handle
  refine keeps_if (fun _ => execute_keeps _ _ (resyncSeq_keeps _ _ h)) (fun _ =>
    keeps_if (fun _ => execute_keeps _ _ (by simpa using h)) (fun _ => ?_))
  split
  · exact writeMessage_keeps _ _ _ _ _ _ h
  · exact keeps_if (fun _ => execute_keeps _ _ (by simpa using h)) (fun _ =>
      keeps_if (fun _ => execute_keeps _ _ (by simpa using h)) (fun _ => writeMessage_keeps _ _ _ _ _ _ h))

theorem commandTake_keeps (s : State) (h : Keeps w v u q s.mems) : Keeps w v u q (commandTake s).mems := by
  unfold commandTake
  dsimp only
  split
  · simpa using h
  · exact handle_keeps _ _ (by simpa using h)

/-- What a result keeps where it is a next state. -/
def NextKeeps (w v u : Prop) (q : List Instr) (r : Result) : Prop := ∀ t, r = .next t → Keeps w v u q t.mems

theorem next_keeps {s : State} (h : Keeps w v u q s.mems) : NextKeeps w v u q (.next s) := by
  intro t e
  injection e with e
  subst e
  exact h

theorem still_keeps {s : State} (h : Keeps w v u q s.mems) : NextKeeps w v u q s.still := by
  unfold State.still
  split
  · exact next_keeps h
  · intro t e; cases e

theorem event_keeps {f : State → State} {s : State} (h : Keeps w v u q s.mems) (hf : Keeps w v u q s.mems → Keeps w v u q (f s).mems) :
    NextKeeps w v u q (event f s) := by
  unfold event
  split
  · exact still_keeps h
  · exact next_keeps (hf h)

theorem pinEvent_keeps {g f : State → State} {s : State} (h : Keeps w v u q s.mems) (hg : Keeps w v u q s.mems → Keeps w v u q (g s).mems)
    (hf : Keeps w v u q s.mems → Keeps w v u q (f s).mems) : NextKeeps w v u q (pinEvent g f s) := by
  unfold pinEvent
  split
  · split
    · exact next_keeps (hg h)
    · exact still_keeps h
  · exact next_keeps (hf h)

theorem eventIf_keeps {g : Bool} {f : State → State} {s : State} (h : Keeps w v u q s.mems)
    (hf : Keeps w v u q s.mems → Keeps w v u q (f s).mems) : NextKeeps w v u q (eventIf g f s) := by
  unfold eventIf
  split
  · exact still_keeps h
  · split
    · exact next_keeps (hf h)
    · exact next_keeps h

theorem parax_keeps {op : Nat} {c : State → Cmd} {s : State} (h : Keeps w v u q s.mems) (hc : CmdKeeps c) :
    NextKeeps w v u q (parax op c s) := by
  unfold parax
  split
  · refine next_keeps ?_
    unfold Cmd.execute
    exact keeps_if (fun _ => reply_keeps op s hc h) (fun _ => record_keeps _ _ (reply_keeps op s hc h))
  · exact still_keeps h

end Sys2Proof.Machine
end

