-- ==== Sys2Proof/Laws/Reads.lean ====
section
/-! SUPPORT. Reads of one table of State after an update of another, after an event and after a write of management SRAM. -/

namespace Sys2Proof.Machine

@[simp] theorem State.rxAt_txMod (s : State) (i j : Nat) (f) : (s.txMod j f).rxAt i = s.rxAt i := rfl
@[simp] theorem State.rxAt_stretchMod (s : State) (i j : Nat) (f) : (s.stretchMod j f).rxAt i = s.rxAt i := rfl
@[simp] theorem State.rxAt_framerMod (s : State) (i j : Nat) (f) : (s.framerMod j f).rxAt i = s.rxAt i := rfl
@[simp] theorem State.rxAt_maskMod (s : State) (i j : Nat) (f) : (s.maskMod j f).rxAt i = s.rxAt i := rfl
@[simp] theorem State.rxAt_faceMod (s : State) (i j : Nat) (f) : (s.faceMod j f).rxAt i = s.rxAt i := rfl
@[simp] theorem State.rxAt_rxSlotMod (s : State) (i j : Nat) (f) : (s.rxSlotMod j f).rxAt i = s.rxAt i := rfl
@[simp] theorem State.rxAt_txSlotMod (s : State) (i j : Nat) (f) : (s.txSlotMod j f).rxAt i = s.rxAt i := rfl
@[simp] theorem State.rxAt_clientMod (s : State) (i j : Nat) (f) : (s.clientMod j f).rxAt i = s.rxAt i := rfl
@[simp] theorem State.rxAt_portMod (s : State) (i j : Nat) (f) : (s.portMod j f).rxAt i = s.rxAt i := rfl
@[simp] theorem State.rxAt_hlaneMod (s : State) (i j : Nat) (f) : (s.hlaneMod j f).rxAt i = s.rxAt i := rfl
@[simp] theorem State.rxAt_icingMod (s : State) (i j : Nat) (f) : (s.icingMod j f).rxAt i = s.rxAt i := rfl
@[simp] theorem State.rxAt_loopMod (s : State) (i j : Nat) (f) : (s.loopMod j f).rxAt i = s.rxAt i := rfl
@[simp] theorem State.rxAt_coreMod (s : State) (i j : Nat) (f) : (s.coreMod j f).rxAt i = s.rxAt i := rfl
@[simp] theorem State.rxAt_biasMod (s : State) (i j : Nat) (f) : (s.biasMod j f).rxAt i = s.rxAt i := rfl
@[simp] theorem State.rxAt_madcMod (s : State) (i j : Nat) (f) : (s.madcMod j f).rxAt i = s.rxAt i := rfl
@[simp] theorem State.rxAt_monMod (s : State) (i j : Nat) (f) : (s.monMod j f).rxAt i = s.rxAt i := rfl
@[simp] theorem State.rxAt_qryMod (s : State) (i j : Nat) (f) : (s.qryMod j f).rxAt i = s.rxAt i := rfl
@[simp] theorem State.rxAt_chanMod (s : State) (i j : Nat) (f) : (s.chanMod j f).rxAt i = s.rxAt i := rfl
@[simp] theorem State.rxAt_timerMod (s : State) (i j : Nat) (f) : (s.timerMod j f).rxAt i = s.rxAt i := rfl
@[simp] theorem State.rxAt_cntMod (s : State) (i j : Nat) (f) : (s.cntMod j f).rxAt i = s.rxAt i := rfl
@[simp] theorem State.rxAt_winMod (s : State) (i j : Nat) (f) : (s.winMod j f).rxAt i = s.rxAt i := rfl
@[simp] theorem State.rxAt_turnMod (s : State) (i j : Nat) (f) : (s.turnMod j f).rxAt i = s.rxAt i := rfl
@[simp] theorem State.rxAt_ctxMod (s : State) (i j : Nat) (f) : (s.ctxMod j f).rxAt i = s.rxAt i := rfl
@[simp] theorem State.rxAt_raise (s : State) (i op : Nat) (p : Bytes) : (raise op p s).rxAt i = s.rxAt i := by
  unfold State.rxAt
  rw [raise_rx]
@[simp] theorem State.rxAt_sramWrite (s : State) (i a : Nat) (b : Bytes) : (s.sramWrite a b).rxAt i = s.rxAt i := rfl
@[simp] theorem takesEvents_rxMod (s : State) (i : Nat) (f) : TakesEvents (s.rxMod i f) ↔ TakesEvents s := Iff.rfl
@[simp] theorem State.txAt_rxMod (s : State) (i j : Nat) (f) : (s.rxMod j f).txAt i = s.txAt i := rfl
@[simp] theorem State.txAt_stretchMod (s : State) (i j : Nat) (f) : (s.stretchMod j f).txAt i = s.txAt i := rfl
@[simp] theorem State.txAt_framerMod (s : State) (i j : Nat) (f) : (s.framerMod j f).txAt i = s.txAt i := rfl
@[simp] theorem State.txAt_maskMod (s : State) (i j : Nat) (f) : (s.maskMod j f).txAt i = s.txAt i := rfl
@[simp] theorem State.txAt_faceMod (s : State) (i j : Nat) (f) : (s.faceMod j f).txAt i = s.txAt i := rfl
@[simp] theorem State.txAt_rxSlotMod (s : State) (i j : Nat) (f) : (s.rxSlotMod j f).txAt i = s.txAt i := rfl
@[simp] theorem State.txAt_txSlotMod (s : State) (i j : Nat) (f) : (s.txSlotMod j f).txAt i = s.txAt i := rfl
@[simp] theorem State.txAt_clientMod (s : State) (i j : Nat) (f) : (s.clientMod j f).txAt i = s.txAt i := rfl
@[simp] theorem State.txAt_portMod (s : State) (i j : Nat) (f) : (s.portMod j f).txAt i = s.txAt i := rfl
@[simp] theorem State.txAt_hlaneMod (s : State) (i j : Nat) (f) : (s.hlaneMod j f).txAt i = s.txAt i := rfl
@[simp] theorem State.txAt_icingMod (s : State) (i j : Nat) (f) : (s.icingMod j f).txAt i = s.txAt i := rfl
@[simp] theorem State.txAt_loopMod (s : State) (i j : Nat) (f) : (s.loopMod j f).txAt i = s.txAt i := rfl
@[simp] theorem State.txAt_coreMod (s : State) (i j : Nat) (f) : (s.coreMod j f).txAt i = s.txAt i := rfl
@[simp] theorem State.txAt_biasMod (s : State) (i j : Nat) (f) : (s.biasMod j f).txAt i = s.txAt i := rfl
@[simp] theorem State.txAt_madcMod (s : State) (i j : Nat) (f) : (s.madcMod j f).txAt i = s.txAt i := rfl
@[simp] theorem State.txAt_monMod (s : State) (i j : Nat) (f) : (s.monMod j f).txAt i = s.txAt i := rfl
@[simp] theorem State.txAt_qryMod (s : State) (i j : Nat) (f) : (s.qryMod j f).txAt i = s.txAt i := rfl
@[simp] theorem State.txAt_chanMod (s : State) (i j : Nat) (f) : (s.chanMod j f).txAt i = s.txAt i := rfl
@[simp] theorem State.txAt_timerMod (s : State) (i j : Nat) (f) : (s.timerMod j f).txAt i = s.txAt i := rfl
@[simp] theorem State.txAt_cntMod (s : State) (i j : Nat) (f) : (s.cntMod j f).txAt i = s.txAt i := rfl
@[simp] theorem State.txAt_winMod (s : State) (i j : Nat) (f) : (s.winMod j f).txAt i = s.txAt i := rfl
@[simp] theorem State.txAt_turnMod (s : State) (i j : Nat) (f) : (s.turnMod j f).txAt i = s.txAt i := rfl
@[simp] theorem State.txAt_ctxMod (s : State) (i j : Nat) (f) : (s.ctxMod j f).txAt i = s.txAt i := rfl
@[simp] theorem State.txAt_raise (s : State) (i op : Nat) (p : Bytes) : (raise op p s).txAt i = s.txAt i := by
  unfold State.txAt
  rw [raise_tx]
@[simp] theorem State.txAt_sramWrite (s : State) (i a : Nat) (b : Bytes) : (s.sramWrite a b).txAt i = s.txAt i := rfl
@[simp] theorem takesEvents_txMod (s : State) (i : Nat) (f) : TakesEvents (s.txMod i f) ↔ TakesEvents s := Iff.rfl
@[simp] theorem State.stretchAt_rxMod (s : State) (i j : Nat) (f) : (s.rxMod j f).stretchAt i = s.stretchAt i := rfl
@[simp] theorem State.stretchAt_txMod (s : State) (i j : Nat) (f) : (s.txMod j f).stretchAt i = s.stretchAt i := rfl
@[simp] theorem State.stretchAt_framerMod (s : State) (i j : Nat) (f) : (s.framerMod j f).stretchAt i = s.stretchAt i := rfl
@[simp] theorem State.stretchAt_maskMod (s : State) (i j : Nat) (f) : (s.maskMod j f).stretchAt i = s.stretchAt i := rfl
@[simp] theorem State.stretchAt_faceMod (s : State) (i j : Nat) (f) : (s.faceMod j f).stretchAt i = s.stretchAt i := rfl
@[simp] theorem State.stretchAt_rxSlotMod (s : State) (i j : Nat) (f) : (s.rxSlotMod j f).stretchAt i = s.stretchAt i := rfl
@[simp] theorem State.stretchAt_txSlotMod (s : State) (i j : Nat) (f) : (s.txSlotMod j f).stretchAt i = s.stretchAt i := rfl
@[simp] theorem State.stretchAt_clientMod (s : State) (i j : Nat) (f) : (s.clientMod j f).stretchAt i = s.stretchAt i := rfl
@[simp] theorem State.stretchAt_portMod (s : State) (i j : Nat) (f) : (s.portMod j f).stretchAt i = s.stretchAt i := rfl
@[simp] theorem State.stretchAt_hlaneMod (s : State) (i j : Nat) (f) : (s.hlaneMod j f).stretchAt i = s.stretchAt i := rfl
@[simp] theorem State.stretchAt_icingMod (s : State) (i j : Nat) (f) : (s.icingMod j f).stretchAt i = s.stretchAt i := rfl
@[simp] theorem State.stretchAt_loopMod (s : State) (i j : Nat) (f) : (s.loopMod j f).stretchAt i = s.stretchAt i := rfl
@[simp] theorem State.stretchAt_coreMod (s : State) (i j : Nat) (f) : (s.coreMod j f).stretchAt i = s.stretchAt i := rfl
@[simp] theorem State.stretchAt_biasMod (s : State) (i j : Nat) (f) : (s.biasMod j f).stretchAt i = s.stretchAt i := rfl
@[simp] theorem State.stretchAt_madcMod (s : State) (i j : Nat) (f) : (s.madcMod j f).stretchAt i = s.stretchAt i := rfl
@[simp] theorem State.stretchAt_monMod (s : State) (i j : Nat) (f) : (s.monMod j f).stretchAt i = s.stretchAt i := rfl
@[simp] theorem State.stretchAt_qryMod (s : State) (i j : Nat) (f) : (s.qryMod j f).stretchAt i = s.stretchAt i := rfl
@[simp] theorem State.stretchAt_chanMod (s : State) (i j : Nat) (f) : (s.chanMod j f).stretchAt i = s.stretchAt i := rfl
@[simp] theorem State.stretchAt_timerMod (s : State) (i j : Nat) (f) : (s.timerMod j f).stretchAt i = s.stretchAt i := rfl
@[simp] theorem State.stretchAt_cntMod (s : State) (i j : Nat) (f) : (s.cntMod j f).stretchAt i = s.stretchAt i := rfl
@[simp] theorem State.stretchAt_winMod (s : State) (i j : Nat) (f) : (s.winMod j f).stretchAt i = s.stretchAt i := rfl
@[simp] theorem State.stretchAt_turnMod (s : State) (i j : Nat) (f) : (s.turnMod j f).stretchAt i = s.stretchAt i := rfl
@[simp] theorem State.stretchAt_ctxMod (s : State) (i j : Nat) (f) : (s.ctxMod j f).stretchAt i = s.stretchAt i := rfl
@[simp] theorem State.stretchAt_raise (s : State) (i op : Nat) (p : Bytes) : (raise op p s).stretchAt i = s.stretchAt i := by
  unfold State.stretchAt
  rw [raise_stretch]
@[simp] theorem State.stretchAt_sramWrite (s : State) (i a : Nat) (b : Bytes) : (s.sramWrite a b).stretchAt i = s.stretchAt i := rfl
@[simp] theorem takesEvents_stretchMod (s : State) (i : Nat) (f) : TakesEvents (s.stretchMod i f) ↔ TakesEvents s := Iff.rfl
@[simp] theorem State.framerAt_rxMod (s : State) (i j : Nat) (f) : (s.rxMod j f).framerAt i = s.framerAt i := rfl
@[simp] theorem State.framerAt_txMod (s : State) (i j : Nat) (f) : (s.txMod j f).framerAt i = s.framerAt i := rfl
@[simp] theorem State.framerAt_stretchMod (s : State) (i j : Nat) (f) : (s.stretchMod j f).framerAt i = s.framerAt i := rfl
@[simp] theorem State.framerAt_maskMod (s : State) (i j : Nat) (f) : (s.maskMod j f).framerAt i = s.framerAt i := rfl
@[simp] theorem State.framerAt_faceMod (s : State) (i j : Nat) (f) : (s.faceMod j f).framerAt i = s.framerAt i := rfl
@[simp] theorem State.framerAt_rxSlotMod (s : State) (i j : Nat) (f) : (s.rxSlotMod j f).framerAt i = s.framerAt i := rfl
@[simp] theorem State.framerAt_txSlotMod (s : State) (i j : Nat) (f) : (s.txSlotMod j f).framerAt i = s.framerAt i := rfl
@[simp] theorem State.framerAt_clientMod (s : State) (i j : Nat) (f) : (s.clientMod j f).framerAt i = s.framerAt i := rfl
@[simp] theorem State.framerAt_portMod (s : State) (i j : Nat) (f) : (s.portMod j f).framerAt i = s.framerAt i := rfl
@[simp] theorem State.framerAt_hlaneMod (s : State) (i j : Nat) (f) : (s.hlaneMod j f).framerAt i = s.framerAt i := rfl
@[simp] theorem State.framerAt_icingMod (s : State) (i j : Nat) (f) : (s.icingMod j f).framerAt i = s.framerAt i := rfl
@[simp] theorem State.framerAt_loopMod (s : State) (i j : Nat) (f) : (s.loopMod j f).framerAt i = s.framerAt i := rfl
@[simp] theorem State.framerAt_coreMod (s : State) (i j : Nat) (f) : (s.coreMod j f).framerAt i = s.framerAt i := rfl
@[simp] theorem State.framerAt_biasMod (s : State) (i j : Nat) (f) : (s.biasMod j f).framerAt i = s.framerAt i := rfl
@[simp] theorem State.framerAt_madcMod (s : State) (i j : Nat) (f) : (s.madcMod j f).framerAt i = s.framerAt i := rfl
@[simp] theorem State.framerAt_monMod (s : State) (i j : Nat) (f) : (s.monMod j f).framerAt i = s.framerAt i := rfl
@[simp] theorem State.framerAt_qryMod (s : State) (i j : Nat) (f) : (s.qryMod j f).framerAt i = s.framerAt i := rfl
@[simp] theorem State.framerAt_chanMod (s : State) (i j : Nat) (f) : (s.chanMod j f).framerAt i = s.framerAt i := rfl
@[simp] theorem State.framerAt_timerMod (s : State) (i j : Nat) (f) : (s.timerMod j f).framerAt i = s.framerAt i := rfl
@[simp] theorem State.framerAt_cntMod (s : State) (i j : Nat) (f) : (s.cntMod j f).framerAt i = s.framerAt i := rfl
@[simp] theorem State.framerAt_winMod (s : State) (i j : Nat) (f) : (s.winMod j f).framerAt i = s.framerAt i := rfl
@[simp] theorem State.framerAt_turnMod (s : State) (i j : Nat) (f) : (s.turnMod j f).framerAt i = s.framerAt i := rfl
@[simp] theorem State.framerAt_ctxMod (s : State) (i j : Nat) (f) : (s.ctxMod j f).framerAt i = s.framerAt i := rfl
@[simp] theorem State.framerAt_raise (s : State) (i op : Nat) (p : Bytes) : (raise op p s).framerAt i = s.framerAt i := by
  unfold State.framerAt
  rw [raise_framer]
@[simp] theorem State.framerAt_sramWrite (s : State) (i a : Nat) (b : Bytes) : (s.sramWrite a b).framerAt i = s.framerAt i := rfl
@[simp] theorem takesEvents_framerMod (s : State) (i : Nat) (f) : TakesEvents (s.framerMod i f) ↔ TakesEvents s := Iff.rfl
@[simp] theorem State.maskAt_rxMod (s : State) (i j : Nat) (f) : (s.rxMod j f).maskAt i = s.maskAt i := rfl
@[simp] theorem State.maskAt_txMod (s : State) (i j : Nat) (f) : (s.txMod j f).maskAt i = s.maskAt i := rfl
@[simp] theorem State.maskAt_stretchMod (s : State) (i j : Nat) (f) : (s.stretchMod j f).maskAt i = s.maskAt i := rfl
@[simp] theorem State.maskAt_framerMod (s : State) (i j : Nat) (f) : (s.framerMod j f).maskAt i = s.maskAt i := rfl
@[simp] theorem State.maskAt_faceMod (s : State) (i j : Nat) (f) : (s.faceMod j f).maskAt i = s.maskAt i := rfl
@[simp] theorem State.maskAt_rxSlotMod (s : State) (i j : Nat) (f) : (s.rxSlotMod j f).maskAt i = s.maskAt i := rfl
@[simp] theorem State.maskAt_txSlotMod (s : State) (i j : Nat) (f) : (s.txSlotMod j f).maskAt i = s.maskAt i := rfl
@[simp] theorem State.maskAt_clientMod (s : State) (i j : Nat) (f) : (s.clientMod j f).maskAt i = s.maskAt i := rfl
@[simp] theorem State.maskAt_portMod (s : State) (i j : Nat) (f) : (s.portMod j f).maskAt i = s.maskAt i := rfl
@[simp] theorem State.maskAt_hlaneMod (s : State) (i j : Nat) (f) : (s.hlaneMod j f).maskAt i = s.maskAt i := rfl
@[simp] theorem State.maskAt_icingMod (s : State) (i j : Nat) (f) : (s.icingMod j f).maskAt i = s.maskAt i := rfl
@[simp] theorem State.maskAt_loopMod (s : State) (i j : Nat) (f) : (s.loopMod j f).maskAt i = s.maskAt i := rfl
@[simp] theorem State.maskAt_coreMod (s : State) (i j : Nat) (f) : (s.coreMod j f).maskAt i = s.maskAt i := rfl
@[simp] theorem State.maskAt_biasMod (s : State) (i j : Nat) (f) : (s.biasMod j f).maskAt i = s.maskAt i := rfl
@[simp] theorem State.maskAt_madcMod (s : State) (i j : Nat) (f) : (s.madcMod j f).maskAt i = s.maskAt i := rfl
@[simp] theorem State.maskAt_monMod (s : State) (i j : Nat) (f) : (s.monMod j f).maskAt i = s.maskAt i := rfl
@[simp] theorem State.maskAt_qryMod (s : State) (i j : Nat) (f) : (s.qryMod j f).maskAt i = s.maskAt i := rfl
@[simp] theorem State.maskAt_chanMod (s : State) (i j : Nat) (f) : (s.chanMod j f).maskAt i = s.maskAt i := rfl
@[simp] theorem State.maskAt_timerMod (s : State) (i j : Nat) (f) : (s.timerMod j f).maskAt i = s.maskAt i := rfl
@[simp] theorem State.maskAt_cntMod (s : State) (i j : Nat) (f) : (s.cntMod j f).maskAt i = s.maskAt i := rfl
@[simp] theorem State.maskAt_winMod (s : State) (i j : Nat) (f) : (s.winMod j f).maskAt i = s.maskAt i := rfl
@[simp] theorem State.maskAt_turnMod (s : State) (i j : Nat) (f) : (s.turnMod j f).maskAt i = s.maskAt i := rfl
@[simp] theorem State.maskAt_ctxMod (s : State) (i j : Nat) (f) : (s.ctxMod j f).maskAt i = s.maskAt i := rfl
@[simp] theorem State.maskAt_raise (s : State) (i op : Nat) (p : Bytes) : (raise op p s).maskAt i = s.maskAt i := by
  unfold State.maskAt
  rw [raise_mask]
@[simp] theorem State.maskAt_sramWrite (s : State) (i a : Nat) (b : Bytes) : (s.sramWrite a b).maskAt i = s.maskAt i := rfl
@[simp] theorem takesEvents_maskMod (s : State) (i : Nat) (f) : TakesEvents (s.maskMod i f) ↔ TakesEvents s := Iff.rfl
@[simp] theorem State.faceAt_rxMod (s : State) (i j : Nat) (f) : (s.rxMod j f).faceAt i = s.faceAt i := rfl
@[simp] theorem State.faceAt_txMod (s : State) (i j : Nat) (f) : (s.txMod j f).faceAt i = s.faceAt i := rfl
@[simp] theorem State.faceAt_stretchMod (s : State) (i j : Nat) (f) : (s.stretchMod j f).faceAt i = s.faceAt i := rfl
@[simp] theorem State.faceAt_framerMod (s : State) (i j : Nat) (f) : (s.framerMod j f).faceAt i = s.faceAt i := rfl
@[simp] theorem State.faceAt_maskMod (s : State) (i j : Nat) (f) : (s.maskMod j f).faceAt i = s.faceAt i := rfl
@[simp] theorem State.faceAt_rxSlotMod (s : State) (i j : Nat) (f) : (s.rxSlotMod j f).faceAt i = s.faceAt i := rfl
@[simp] theorem State.faceAt_txSlotMod (s : State) (i j : Nat) (f) : (s.txSlotMod j f).faceAt i = s.faceAt i := rfl
@[simp] theorem State.faceAt_clientMod (s : State) (i j : Nat) (f) : (s.clientMod j f).faceAt i = s.faceAt i := rfl
@[simp] theorem State.faceAt_portMod (s : State) (i j : Nat) (f) : (s.portMod j f).faceAt i = s.faceAt i := rfl
@[simp] theorem State.faceAt_hlaneMod (s : State) (i j : Nat) (f) : (s.hlaneMod j f).faceAt i = s.faceAt i := rfl
@[simp] theorem State.faceAt_icingMod (s : State) (i j : Nat) (f) : (s.icingMod j f).faceAt i = s.faceAt i := rfl
@[simp] theorem State.faceAt_loopMod (s : State) (i j : Nat) (f) : (s.loopMod j f).faceAt i = s.faceAt i := rfl
@[simp] theorem State.faceAt_coreMod (s : State) (i j : Nat) (f) : (s.coreMod j f).faceAt i = s.faceAt i := rfl
@[simp] theorem State.faceAt_biasMod (s : State) (i j : Nat) (f) : (s.biasMod j f).faceAt i = s.faceAt i := rfl
@[simp] theorem State.faceAt_madcMod (s : State) (i j : Nat) (f) : (s.madcMod j f).faceAt i = s.faceAt i := rfl
@[simp] theorem State.faceAt_monMod (s : State) (i j : Nat) (f) : (s.monMod j f).faceAt i = s.faceAt i := rfl
@[simp] theorem State.faceAt_qryMod (s : State) (i j : Nat) (f) : (s.qryMod j f).faceAt i = s.faceAt i := rfl
@[simp] theorem State.faceAt_chanMod (s : State) (i j : Nat) (f) : (s.chanMod j f).faceAt i = s.faceAt i := rfl
@[simp] theorem State.faceAt_timerMod (s : State) (i j : Nat) (f) : (s.timerMod j f).faceAt i = s.faceAt i := rfl
@[simp] theorem State.faceAt_cntMod (s : State) (i j : Nat) (f) : (s.cntMod j f).faceAt i = s.faceAt i := rfl
@[simp] theorem State.faceAt_winMod (s : State) (i j : Nat) (f) : (s.winMod j f).faceAt i = s.faceAt i := rfl
@[simp] theorem State.faceAt_turnMod (s : State) (i j : Nat) (f) : (s.turnMod j f).faceAt i = s.faceAt i := rfl
@[simp] theorem State.faceAt_ctxMod (s : State) (i j : Nat) (f) : (s.ctxMod j f).faceAt i = s.faceAt i := rfl
@[simp] theorem State.faceAt_raise (s : State) (i op : Nat) (p : Bytes) : (raise op p s).faceAt i = s.faceAt i := by
  unfold State.faceAt
  rw [raise_face]
@[simp] theorem State.faceAt_sramWrite (s : State) (i a : Nat) (b : Bytes) : (s.sramWrite a b).faceAt i = s.faceAt i := rfl
@[simp] theorem takesEvents_faceMod (s : State) (i : Nat) (f) : TakesEvents (s.faceMod i f) ↔ TakesEvents s := Iff.rfl
@[simp] theorem State.rxSlotAt_rxMod (s : State) (i j : Nat) (f) : (s.rxMod j f).rxSlotAt i = s.rxSlotAt i := rfl
@[simp] theorem State.rxSlotAt_txMod (s : State) (i j : Nat) (f) : (s.txMod j f).rxSlotAt i = s.rxSlotAt i := rfl
@[simp] theorem State.rxSlotAt_stretchMod (s : State) (i j : Nat) (f) : (s.stretchMod j f).rxSlotAt i = s.rxSlotAt i := rfl
@[simp] theorem State.rxSlotAt_framerMod (s : State) (i j : Nat) (f) : (s.framerMod j f).rxSlotAt i = s.rxSlotAt i := rfl
@[simp] theorem State.rxSlotAt_maskMod (s : State) (i j : Nat) (f) : (s.maskMod j f).rxSlotAt i = s.rxSlotAt i := rfl
@[simp] theorem State.rxSlotAt_faceMod (s : State) (i j : Nat) (f) : (s.faceMod j f).rxSlotAt i = s.rxSlotAt i := rfl
@[simp] theorem State.rxSlotAt_txSlotMod (s : State) (i j : Nat) (f) : (s.txSlotMod j f).rxSlotAt i = s.rxSlotAt i := rfl
@[simp] theorem State.rxSlotAt_clientMod (s : State) (i j : Nat) (f) : (s.clientMod j f).rxSlotAt i = s.rxSlotAt i := rfl
@[simp] theorem State.rxSlotAt_portMod (s : State) (i j : Nat) (f) : (s.portMod j f).rxSlotAt i = s.rxSlotAt i := rfl
@[simp] theorem State.rxSlotAt_hlaneMod (s : State) (i j : Nat) (f) : (s.hlaneMod j f).rxSlotAt i = s.rxSlotAt i := rfl
@[simp] theorem State.rxSlotAt_icingMod (s : State) (i j : Nat) (f) : (s.icingMod j f).rxSlotAt i = s.rxSlotAt i := rfl
@[simp] theorem State.rxSlotAt_loopMod (s : State) (i j : Nat) (f) : (s.loopMod j f).rxSlotAt i = s.rxSlotAt i := rfl
@[simp] theorem State.rxSlotAt_coreMod (s : State) (i j : Nat) (f) : (s.coreMod j f).rxSlotAt i = s.rxSlotAt i := rfl
@[simp] theorem State.rxSlotAt_biasMod (s : State) (i j : Nat) (f) : (s.biasMod j f).rxSlotAt i = s.rxSlotAt i := rfl
@[simp] theorem State.rxSlotAt_madcMod (s : State) (i j : Nat) (f) : (s.madcMod j f).rxSlotAt i = s.rxSlotAt i := rfl
@[simp] theorem State.rxSlotAt_monMod (s : State) (i j : Nat) (f) : (s.monMod j f).rxSlotAt i = s.rxSlotAt i := rfl
@[simp] theorem State.rxSlotAt_qryMod (s : State) (i j : Nat) (f) : (s.qryMod j f).rxSlotAt i = s.rxSlotAt i := rfl
@[simp] theorem State.rxSlotAt_chanMod (s : State) (i j : Nat) (f) : (s.chanMod j f).rxSlotAt i = s.rxSlotAt i := rfl
@[simp] theorem State.rxSlotAt_timerMod (s : State) (i j : Nat) (f) : (s.timerMod j f).rxSlotAt i = s.rxSlotAt i := rfl
@[simp] theorem State.rxSlotAt_cntMod (s : State) (i j : Nat) (f) : (s.cntMod j f).rxSlotAt i = s.rxSlotAt i := rfl
@[simp] theorem State.rxSlotAt_winMod (s : State) (i j : Nat) (f) : (s.winMod j f).rxSlotAt i = s.rxSlotAt i := rfl
@[simp] theorem State.rxSlotAt_turnMod (s : State) (i j : Nat) (f) : (s.turnMod j f).rxSlotAt i = s.rxSlotAt i := rfl
@[simp] theorem State.rxSlotAt_ctxMod (s : State) (i j : Nat) (f) : (s.ctxMod j f).rxSlotAt i = s.rxSlotAt i := rfl
@[simp] theorem State.rxSlotAt_raise (s : State) (i op : Nat) (p : Bytes) : (raise op p s).rxSlotAt i = s.rxSlotAt i := by
  unfold State.rxSlotAt
  rw [raise_rxSlot]
@[simp] theorem State.rxSlotAt_sramWrite (s : State) (i a : Nat) (b : Bytes) : (s.sramWrite a b).rxSlotAt i = s.rxSlotAt i := rfl
@[simp] theorem takesEvents_rxSlotMod (s : State) (i : Nat) (f) : TakesEvents (s.rxSlotMod i f) ↔ TakesEvents s := Iff.rfl
@[simp] theorem State.txSlotAt_rxMod (s : State) (i j : Nat) (f) : (s.rxMod j f).txSlotAt i = s.txSlotAt i := rfl
@[simp] theorem State.txSlotAt_txMod (s : State) (i j : Nat) (f) : (s.txMod j f).txSlotAt i = s.txSlotAt i := rfl
@[simp] theorem State.txSlotAt_stretchMod (s : State) (i j : Nat) (f) : (s.stretchMod j f).txSlotAt i = s.txSlotAt i := rfl
@[simp] theorem State.txSlotAt_framerMod (s : State) (i j : Nat) (f) : (s.framerMod j f).txSlotAt i = s.txSlotAt i := rfl
@[simp] theorem State.txSlotAt_maskMod (s : State) (i j : Nat) (f) : (s.maskMod j f).txSlotAt i = s.txSlotAt i := rfl
@[simp] theorem State.txSlotAt_faceMod (s : State) (i j : Nat) (f) : (s.faceMod j f).txSlotAt i = s.txSlotAt i := rfl
@[simp] theorem State.txSlotAt_rxSlotMod (s : State) (i j : Nat) (f) : (s.rxSlotMod j f).txSlotAt i = s.txSlotAt i := rfl
@[simp] theorem State.txSlotAt_clientMod (s : State) (i j : Nat) (f) : (s.clientMod j f).txSlotAt i = s.txSlotAt i := rfl
@[simp] theorem State.txSlotAt_portMod (s : State) (i j : Nat) (f) : (s.portMod j f).txSlotAt i = s.txSlotAt i := rfl
@[simp] theorem State.txSlotAt_hlaneMod (s : State) (i j : Nat) (f) : (s.hlaneMod j f).txSlotAt i = s.txSlotAt i := rfl
@[simp] theorem State.txSlotAt_icingMod (s : State) (i j : Nat) (f) : (s.icingMod j f).txSlotAt i = s.txSlotAt i := rfl
@[simp] theorem State.txSlotAt_loopMod (s : State) (i j : Nat) (f) : (s.loopMod j f).txSlotAt i = s.txSlotAt i := rfl
@[simp] theorem State.txSlotAt_coreMod (s : State) (i j : Nat) (f) : (s.coreMod j f).txSlotAt i = s.txSlotAt i := rfl
@[simp] theorem State.txSlotAt_biasMod (s : State) (i j : Nat) (f) : (s.biasMod j f).txSlotAt i = s.txSlotAt i := rfl
@[simp] theorem State.txSlotAt_madcMod (s : State) (i j : Nat) (f) : (s.madcMod j f).txSlotAt i = s.txSlotAt i := rfl
@[simp] theorem State.txSlotAt_monMod (s : State) (i j : Nat) (f) : (s.monMod j f).txSlotAt i = s.txSlotAt i := rfl
@[simp] theorem State.txSlotAt_qryMod (s : State) (i j : Nat) (f) : (s.qryMod j f).txSlotAt i = s.txSlotAt i := rfl
@[simp] theorem State.txSlotAt_chanMod (s : State) (i j : Nat) (f) : (s.chanMod j f).txSlotAt i = s.txSlotAt i := rfl
@[simp] theorem State.txSlotAt_timerMod (s : State) (i j : Nat) (f) : (s.timerMod j f).txSlotAt i = s.txSlotAt i := rfl
@[simp] theorem State.txSlotAt_cntMod (s : State) (i j : Nat) (f) : (s.cntMod j f).txSlotAt i = s.txSlotAt i := rfl
@[simp] theorem State.txSlotAt_winMod (s : State) (i j : Nat) (f) : (s.winMod j f).txSlotAt i = s.txSlotAt i := rfl
@[simp] theorem State.txSlotAt_turnMod (s : State) (i j : Nat) (f) : (s.turnMod j f).txSlotAt i = s.txSlotAt i := rfl
@[simp] theorem State.txSlotAt_ctxMod (s : State) (i j : Nat) (f) : (s.ctxMod j f).txSlotAt i = s.txSlotAt i := rfl
@[simp] theorem State.txSlotAt_raise (s : State) (i op : Nat) (p : Bytes) : (raise op p s).txSlotAt i = s.txSlotAt i := by
  unfold State.txSlotAt
  rw [raise_txSlot]
@[simp] theorem State.txSlotAt_sramWrite (s : State) (i a : Nat) (b : Bytes) : (s.sramWrite a b).txSlotAt i = s.txSlotAt i := rfl
@[simp] theorem takesEvents_txSlotMod (s : State) (i : Nat) (f) : TakesEvents (s.txSlotMod i f) ↔ TakesEvents s := Iff.rfl
@[simp] theorem State.clientAt_rxMod (s : State) (i j : Nat) (f) : (s.rxMod j f).clientAt i = s.clientAt i := rfl
@[simp] theorem State.clientAt_txMod (s : State) (i j : Nat) (f) : (s.txMod j f).clientAt i = s.clientAt i := rfl
@[simp] theorem State.clientAt_stretchMod (s : State) (i j : Nat) (f) : (s.stretchMod j f).clientAt i = s.clientAt i := rfl
@[simp] theorem State.clientAt_framerMod (s : State) (i j : Nat) (f) : (s.framerMod j f).clientAt i = s.clientAt i := rfl
@[simp] theorem State.clientAt_maskMod (s : State) (i j : Nat) (f) : (s.maskMod j f).clientAt i = s.clientAt i := rfl
@[simp] theorem State.clientAt_faceMod (s : State) (i j : Nat) (f) : (s.faceMod j f).clientAt i = s.clientAt i := rfl
@[simp] theorem State.clientAt_rxSlotMod (s : State) (i j : Nat) (f) : (s.rxSlotMod j f).clientAt i = s.clientAt i := rfl
@[simp] theorem State.clientAt_txSlotMod (s : State) (i j : Nat) (f) : (s.txSlotMod j f).clientAt i = s.clientAt i := rfl
@[simp] theorem State.clientAt_portMod (s : State) (i j : Nat) (f) : (s.portMod j f).clientAt i = s.clientAt i := rfl
@[simp] theorem State.clientAt_hlaneMod (s : State) (i j : Nat) (f) : (s.hlaneMod j f).clientAt i = s.clientAt i := rfl
@[simp] theorem State.clientAt_icingMod (s : State) (i j : Nat) (f) : (s.icingMod j f).clientAt i = s.clientAt i := rfl
@[simp] theorem State.clientAt_loopMod (s : State) (i j : Nat) (f) : (s.loopMod j f).clientAt i = s.clientAt i := rfl
@[simp] theorem State.clientAt_coreMod (s : State) (i j : Nat) (f) : (s.coreMod j f).clientAt i = s.clientAt i := rfl
@[simp] theorem State.clientAt_biasMod (s : State) (i j : Nat) (f) : (s.biasMod j f).clientAt i = s.clientAt i := rfl
@[simp] theorem State.clientAt_madcMod (s : State) (i j : Nat) (f) : (s.madcMod j f).clientAt i = s.clientAt i := rfl
@[simp] theorem State.clientAt_monMod (s : State) (i j : Nat) (f) : (s.monMod j f).clientAt i = s.clientAt i := rfl
@[simp] theorem State.clientAt_qryMod (s : State) (i j : Nat) (f) : (s.qryMod j f).clientAt i = s.clientAt i := rfl
@[simp] theorem State.clientAt_chanMod (s : State) (i j : Nat) (f) : (s.chanMod j f).clientAt i = s.clientAt i := rfl
@[simp] theorem State.clientAt_timerMod (s : State) (i j : Nat) (f) : (s.timerMod j f).clientAt i = s.clientAt i := rfl
@[simp] theorem State.clientAt_cntMod (s : State) (i j : Nat) (f) : (s.cntMod j f).clientAt i = s.clientAt i := rfl
@[simp] theorem State.clientAt_winMod (s : State) (i j : Nat) (f) : (s.winMod j f).clientAt i = s.clientAt i := rfl
@[simp] theorem State.clientAt_turnMod (s : State) (i j : Nat) (f) : (s.turnMod j f).clientAt i = s.clientAt i := rfl
@[simp] theorem State.clientAt_ctxMod (s : State) (i j : Nat) (f) : (s.ctxMod j f).clientAt i = s.clientAt i := rfl
@[simp] theorem State.clientAt_raise (s : State) (i op : Nat) (p : Bytes) : (raise op p s).clientAt i = s.clientAt i := by
  unfold State.clientAt
  rw [raise_client]
@[simp] theorem State.clientAt_sramWrite (s : State) (i a : Nat) (b : Bytes) : (s.sramWrite a b).clientAt i = s.clientAt i := rfl
@[simp] theorem takesEvents_clientMod (s : State) (i : Nat) (f) : TakesEvents (s.clientMod i f) ↔ TakesEvents s := Iff.rfl
@[simp] theorem State.portAt_rxMod (s : State) (i j : Nat) (f) : (s.rxMod j f).portAt i = s.portAt i := rfl
@[simp] theorem State.portAt_txMod (s : State) (i j : Nat) (f) : (s.txMod j f).portAt i = s.portAt i := rfl
@[simp] theorem State.portAt_stretchMod (s : State) (i j : Nat) (f) : (s.stretchMod j f).portAt i = s.portAt i := rfl
@[simp] theorem State.portAt_framerMod (s : State) (i j : Nat) (f) : (s.framerMod j f).portAt i = s.portAt i := rfl
@[simp] theorem State.portAt_maskMod (s : State) (i j : Nat) (f) : (s.maskMod j f).portAt i = s.portAt i := rfl
@[simp] theorem State.portAt_faceMod (s : State) (i j : Nat) (f) : (s.faceMod j f).portAt i = s.portAt i := rfl
@[simp] theorem State.portAt_rxSlotMod (s : State) (i j : Nat) (f) : (s.rxSlotMod j f).portAt i = s.portAt i := rfl
@[simp] theorem State.portAt_txSlotMod (s : State) (i j : Nat) (f) : (s.txSlotMod j f).portAt i = s.portAt i := rfl
@[simp] theorem State.portAt_clientMod (s : State) (i j : Nat) (f) : (s.clientMod j f).portAt i = s.portAt i := rfl
@[simp] theorem State.portAt_hlaneMod (s : State) (i j : Nat) (f) : (s.hlaneMod j f).portAt i = s.portAt i := rfl
@[simp] theorem State.portAt_icingMod (s : State) (i j : Nat) (f) : (s.icingMod j f).portAt i = s.portAt i := rfl
@[simp] theorem State.portAt_loopMod (s : State) (i j : Nat) (f) : (s.loopMod j f).portAt i = s.portAt i := rfl
@[simp] theorem State.portAt_coreMod (s : State) (i j : Nat) (f) : (s.coreMod j f).portAt i = s.portAt i := rfl
@[simp] theorem State.portAt_biasMod (s : State) (i j : Nat) (f) : (s.biasMod j f).portAt i = s.portAt i := rfl
@[simp] theorem State.portAt_madcMod (s : State) (i j : Nat) (f) : (s.madcMod j f).portAt i = s.portAt i := rfl
@[simp] theorem State.portAt_monMod (s : State) (i j : Nat) (f) : (s.monMod j f).portAt i = s.portAt i := rfl
@[simp] theorem State.portAt_qryMod (s : State) (i j : Nat) (f) : (s.qryMod j f).portAt i = s.portAt i := rfl
@[simp] theorem State.portAt_chanMod (s : State) (i j : Nat) (f) : (s.chanMod j f).portAt i = s.portAt i := rfl
@[simp] theorem State.portAt_timerMod (s : State) (i j : Nat) (f) : (s.timerMod j f).portAt i = s.portAt i := rfl
@[simp] theorem State.portAt_cntMod (s : State) (i j : Nat) (f) : (s.cntMod j f).portAt i = s.portAt i := rfl
@[simp] theorem State.portAt_winMod (s : State) (i j : Nat) (f) : (s.winMod j f).portAt i = s.portAt i := rfl
@[simp] theorem State.portAt_turnMod (s : State) (i j : Nat) (f) : (s.turnMod j f).portAt i = s.portAt i := rfl
@[simp] theorem State.portAt_ctxMod (s : State) (i j : Nat) (f) : (s.ctxMod j f).portAt i = s.portAt i := rfl
@[simp] theorem State.portAt_raise (s : State) (i op : Nat) (p : Bytes) : (raise op p s).portAt i = s.portAt i := by
  unfold State.portAt
  rw [raise_port]
@[simp] theorem State.portAt_sramWrite (s : State) (i a : Nat) (b : Bytes) : (s.sramWrite a b).portAt i = s.portAt i := rfl
@[simp] theorem takesEvents_portMod (s : State) (i : Nat) (f) : TakesEvents (s.portMod i f) ↔ TakesEvents s := Iff.rfl
@[simp] theorem State.hlaneAt_rxMod (s : State) (i j : Nat) (f) : (s.rxMod j f).hlaneAt i = s.hlaneAt i := rfl
@[simp] theorem State.hlaneAt_txMod (s : State) (i j : Nat) (f) : (s.txMod j f).hlaneAt i = s.hlaneAt i := rfl
@[simp] theorem State.hlaneAt_stretchMod (s : State) (i j : Nat) (f) : (s.stretchMod j f).hlaneAt i = s.hlaneAt i := rfl
@[simp] theorem State.hlaneAt_framerMod (s : State) (i j : Nat) (f) : (s.framerMod j f).hlaneAt i = s.hlaneAt i := rfl
@[simp] theorem State.hlaneAt_maskMod (s : State) (i j : Nat) (f) : (s.maskMod j f).hlaneAt i = s.hlaneAt i := rfl
@[simp] theorem State.hlaneAt_faceMod (s : State) (i j : Nat) (f) : (s.faceMod j f).hlaneAt i = s.hlaneAt i := rfl
@[simp] theorem State.hlaneAt_rxSlotMod (s : State) (i j : Nat) (f) : (s.rxSlotMod j f).hlaneAt i = s.hlaneAt i := rfl
@[simp] theorem State.hlaneAt_txSlotMod (s : State) (i j : Nat) (f) : (s.txSlotMod j f).hlaneAt i = s.hlaneAt i := rfl
@[simp] theorem State.hlaneAt_clientMod (s : State) (i j : Nat) (f) : (s.clientMod j f).hlaneAt i = s.hlaneAt i := rfl
@[simp] theorem State.hlaneAt_portMod (s : State) (i j : Nat) (f) : (s.portMod j f).hlaneAt i = s.hlaneAt i := rfl
@[simp] theorem State.hlaneAt_icingMod (s : State) (i j : Nat) (f) : (s.icingMod j f).hlaneAt i = s.hlaneAt i := rfl
@[simp] theorem State.hlaneAt_loopMod (s : State) (i j : Nat) (f) : (s.loopMod j f).hlaneAt i = s.hlaneAt i := rfl
@[simp] theorem State.hlaneAt_coreMod (s : State) (i j : Nat) (f) : (s.coreMod j f).hlaneAt i = s.hlaneAt i := rfl
@[simp] theorem State.hlaneAt_biasMod (s : State) (i j : Nat) (f) : (s.biasMod j f).hlaneAt i = s.hlaneAt i := rfl
@[simp] theorem State.hlaneAt_madcMod (s : State) (i j : Nat) (f) : (s.madcMod j f).hlaneAt i = s.hlaneAt i := rfl
@[simp] theorem State.hlaneAt_monMod (s : State) (i j : Nat) (f) : (s.monMod j f).hlaneAt i = s.hlaneAt i := rfl
@[simp] theorem State.hlaneAt_qryMod (s : State) (i j : Nat) (f) : (s.qryMod j f).hlaneAt i = s.hlaneAt i := rfl
@[simp] theorem State.hlaneAt_chanMod (s : State) (i j : Nat) (f) : (s.chanMod j f).hlaneAt i = s.hlaneAt i := rfl
@[simp] theorem State.hlaneAt_timerMod (s : State) (i j : Nat) (f) : (s.timerMod j f).hlaneAt i = s.hlaneAt i := rfl
@[simp] theorem State.hlaneAt_cntMod (s : State) (i j : Nat) (f) : (s.cntMod j f).hlaneAt i = s.hlaneAt i := rfl
@[simp] theorem State.hlaneAt_winMod (s : State) (i j : Nat) (f) : (s.winMod j f).hlaneAt i = s.hlaneAt i := rfl
@[simp] theorem State.hlaneAt_turnMod (s : State) (i j : Nat) (f) : (s.turnMod j f).hlaneAt i = s.hlaneAt i := rfl
@[simp] theorem State.hlaneAt_ctxMod (s : State) (i j : Nat) (f) : (s.ctxMod j f).hlaneAt i = s.hlaneAt i := rfl
@[simp] theorem State.hlaneAt_raise (s : State) (i op : Nat) (p : Bytes) : (raise op p s).hlaneAt i = s.hlaneAt i := by
  unfold State.hlaneAt
  rw [raise_hlane]
@[simp] theorem State.hlaneAt_sramWrite (s : State) (i a : Nat) (b : Bytes) : (s.sramWrite a b).hlaneAt i = s.hlaneAt i := rfl
@[simp] theorem takesEvents_hlaneMod (s : State) (i : Nat) (f) : TakesEvents (s.hlaneMod i f) ↔ TakesEvents s := Iff.rfl
@[simp] theorem State.icingAt_rxMod (s : State) (i j : Nat) (f) : (s.rxMod j f).icingAt i = s.icingAt i := rfl
@[simp] theorem State.icingAt_txMod (s : State) (i j : Nat) (f) : (s.txMod j f).icingAt i = s.icingAt i := rfl
@[simp] theorem State.icingAt_stretchMod (s : State) (i j : Nat) (f) : (s.stretchMod j f).icingAt i = s.icingAt i := rfl
@[simp] theorem State.icingAt_framerMod (s : State) (i j : Nat) (f) : (s.framerMod j f).icingAt i = s.icingAt i := rfl
@[simp] theorem State.icingAt_maskMod (s : State) (i j : Nat) (f) : (s.maskMod j f).icingAt i = s.icingAt i := rfl
@[simp] theorem State.icingAt_faceMod (s : State) (i j : Nat) (f) : (s.faceMod j f).icingAt i = s.icingAt i := rfl
@[simp] theorem State.icingAt_rxSlotMod (s : State) (i j : Nat) (f) : (s.rxSlotMod j f).icingAt i = s.icingAt i := rfl
@[simp] theorem State.icingAt_txSlotMod (s : State) (i j : Nat) (f) : (s.txSlotMod j f).icingAt i = s.icingAt i := rfl
@[simp] theorem State.icingAt_clientMod (s : State) (i j : Nat) (f) : (s.clientMod j f).icingAt i = s.icingAt i := rfl
@[simp] theorem State.icingAt_portMod (s : State) (i j : Nat) (f) : (s.portMod j f).icingAt i = s.icingAt i := rfl
@[simp] theorem State.icingAt_hlaneMod (s : State) (i j : Nat) (f) : (s.hlaneMod j f).icingAt i = s.icingAt i := rfl
@[simp] theorem State.icingAt_loopMod (s : State) (i j : Nat) (f) : (s.loopMod j f).icingAt i = s.icingAt i := rfl
@[simp] theorem State.icingAt_coreMod (s : State) (i j : Nat) (f) : (s.coreMod j f).icingAt i = s.icingAt i := rfl
@[simp] theorem State.icingAt_biasMod (s : State) (i j : Nat) (f) : (s.biasMod j f).icingAt i = s.icingAt i := rfl
@[simp] theorem State.icingAt_madcMod (s : State) (i j : Nat) (f) : (s.madcMod j f).icingAt i = s.icingAt i := rfl
@[simp] theorem State.icingAt_monMod (s : State) (i j : Nat) (f) : (s.monMod j f).icingAt i = s.icingAt i := rfl
@[simp] theorem State.icingAt_qryMod (s : State) (i j : Nat) (f) : (s.qryMod j f).icingAt i = s.icingAt i := rfl
@[simp] theorem State.icingAt_chanMod (s : State) (i j : Nat) (f) : (s.chanMod j f).icingAt i = s.icingAt i := rfl
@[simp] theorem State.icingAt_timerMod (s : State) (i j : Nat) (f) : (s.timerMod j f).icingAt i = s.icingAt i := rfl
@[simp] theorem State.icingAt_cntMod (s : State) (i j : Nat) (f) : (s.cntMod j f).icingAt i = s.icingAt i := rfl
@[simp] theorem State.icingAt_winMod (s : State) (i j : Nat) (f) : (s.winMod j f).icingAt i = s.icingAt i := rfl
@[simp] theorem State.icingAt_turnMod (s : State) (i j : Nat) (f) : (s.turnMod j f).icingAt i = s.icingAt i := rfl
@[simp] theorem State.icingAt_ctxMod (s : State) (i j : Nat) (f) : (s.ctxMod j f).icingAt i = s.icingAt i := rfl
@[simp] theorem State.icingAt_raise (s : State) (i op : Nat) (p : Bytes) : (raise op p s).icingAt i = s.icingAt i := by
  unfold State.icingAt
  rw [raise_icing]
@[simp] theorem State.icingAt_sramWrite (s : State) (i a : Nat) (b : Bytes) : (s.sramWrite a b).icingAt i = s.icingAt i := rfl
@[simp] theorem takesEvents_icingMod (s : State) (i : Nat) (f) : TakesEvents (s.icingMod i f) ↔ TakesEvents s := Iff.rfl
@[simp] theorem State.loopAt_rxMod (s : State) (i j : Nat) (f) : (s.rxMod j f).loopAt i = s.loopAt i := rfl
@[simp] theorem State.loopAt_txMod (s : State) (i j : Nat) (f) : (s.txMod j f).loopAt i = s.loopAt i := rfl
@[simp] theorem State.loopAt_stretchMod (s : State) (i j : Nat) (f) : (s.stretchMod j f).loopAt i = s.loopAt i := rfl
@[simp] theorem State.loopAt_framerMod (s : State) (i j : Nat) (f) : (s.framerMod j f).loopAt i = s.loopAt i := rfl
@[simp] theorem State.loopAt_maskMod (s : State) (i j : Nat) (f) : (s.maskMod j f).loopAt i = s.loopAt i := rfl
@[simp] theorem State.loopAt_faceMod (s : State) (i j : Nat) (f) : (s.faceMod j f).loopAt i = s.loopAt i := rfl
@[simp] theorem State.loopAt_rxSlotMod (s : State) (i j : Nat) (f) : (s.rxSlotMod j f).loopAt i = s.loopAt i := rfl
@[simp] theorem State.loopAt_txSlotMod (s : State) (i j : Nat) (f) : (s.txSlotMod j f).loopAt i = s.loopAt i := rfl
@[simp] theorem State.loopAt_clientMod (s : State) (i j : Nat) (f) : (s.clientMod j f).loopAt i = s.loopAt i := rfl
@[simp] theorem State.loopAt_portMod (s : State) (i j : Nat) (f) : (s.portMod j f).loopAt i = s.loopAt i := rfl
@[simp] theorem State.loopAt_hlaneMod (s : State) (i j : Nat) (f) : (s.hlaneMod j f).loopAt i = s.loopAt i := rfl
@[simp] theorem State.loopAt_icingMod (s : State) (i j : Nat) (f) : (s.icingMod j f).loopAt i = s.loopAt i := rfl
@[simp] theorem State.loopAt_coreMod (s : State) (i j : Nat) (f) : (s.coreMod j f).loopAt i = s.loopAt i := rfl
@[simp] theorem State.loopAt_biasMod (s : State) (i j : Nat) (f) : (s.biasMod j f).loopAt i = s.loopAt i := rfl
@[simp] theorem State.loopAt_madcMod (s : State) (i j : Nat) (f) : (s.madcMod j f).loopAt i = s.loopAt i := rfl
@[simp] theorem State.loopAt_monMod (s : State) (i j : Nat) (f) : (s.monMod j f).loopAt i = s.loopAt i := rfl
@[simp] theorem State.loopAt_qryMod (s : State) (i j : Nat) (f) : (s.qryMod j f).loopAt i = s.loopAt i := rfl
@[simp] theorem State.loopAt_chanMod (s : State) (i j : Nat) (f) : (s.chanMod j f).loopAt i = s.loopAt i := rfl
@[simp] theorem State.loopAt_timerMod (s : State) (i j : Nat) (f) : (s.timerMod j f).loopAt i = s.loopAt i := rfl
@[simp] theorem State.loopAt_cntMod (s : State) (i j : Nat) (f) : (s.cntMod j f).loopAt i = s.loopAt i := rfl
@[simp] theorem State.loopAt_winMod (s : State) (i j : Nat) (f) : (s.winMod j f).loopAt i = s.loopAt i := rfl
@[simp] theorem State.loopAt_turnMod (s : State) (i j : Nat) (f) : (s.turnMod j f).loopAt i = s.loopAt i := rfl
@[simp] theorem State.loopAt_ctxMod (s : State) (i j : Nat) (f) : (s.ctxMod j f).loopAt i = s.loopAt i := rfl
@[simp] theorem State.loopAt_raise (s : State) (i op : Nat) (p : Bytes) : (raise op p s).loopAt i = s.loopAt i := by
  unfold State.loopAt
  rw [raise_loop]
@[simp] theorem State.loopAt_sramWrite (s : State) (i a : Nat) (b : Bytes) : (s.sramWrite a b).loopAt i = s.loopAt i := rfl
@[simp] theorem takesEvents_loopMod (s : State) (i : Nat) (f) : TakesEvents (s.loopMod i f) ↔ TakesEvents s := Iff.rfl
@[simp] theorem State.coreAt_rxMod (s : State) (i j : Nat) (f) : (s.rxMod j f).coreAt i = s.coreAt i := rfl
@[simp] theorem State.coreAt_txMod (s : State) (i j : Nat) (f) : (s.txMod j f).coreAt i = s.coreAt i := rfl
@[simp] theorem State.coreAt_stretchMod (s : State) (i j : Nat) (f) : (s.stretchMod j f).coreAt i = s.coreAt i := rfl
@[simp] theorem State.coreAt_framerMod (s : State) (i j : Nat) (f) : (s.framerMod j f).coreAt i = s.coreAt i := rfl
@[simp] theorem State.coreAt_maskMod (s : State) (i j : Nat) (f) : (s.maskMod j f).coreAt i = s.coreAt i := rfl
@[simp] theorem State.coreAt_faceMod (s : State) (i j : Nat) (f) : (s.faceMod j f).coreAt i = s.coreAt i := rfl
@[simp] theorem State.coreAt_rxSlotMod (s : State) (i j : Nat) (f) : (s.rxSlotMod j f).coreAt i = s.coreAt i := rfl
@[simp] theorem State.coreAt_txSlotMod (s : State) (i j : Nat) (f) : (s.txSlotMod j f).coreAt i = s.coreAt i := rfl
@[simp] theorem State.coreAt_clientMod (s : State) (i j : Nat) (f) : (s.clientMod j f).coreAt i = s.coreAt i := rfl
@[simp] theorem State.coreAt_portMod (s : State) (i j : Nat) (f) : (s.portMod j f).coreAt i = s.coreAt i := rfl
@[simp] theorem State.coreAt_hlaneMod (s : State) (i j : Nat) (f) : (s.hlaneMod j f).coreAt i = s.coreAt i := rfl
@[simp] theorem State.coreAt_icingMod (s : State) (i j : Nat) (f) : (s.icingMod j f).coreAt i = s.coreAt i := rfl
@[simp] theorem State.coreAt_loopMod (s : State) (i j : Nat) (f) : (s.loopMod j f).coreAt i = s.coreAt i := rfl
@[simp] theorem State.coreAt_biasMod (s : State) (i j : Nat) (f) : (s.biasMod j f).coreAt i = s.coreAt i := rfl
@[simp] theorem State.coreAt_madcMod (s : State) (i j : Nat) (f) : (s.madcMod j f).coreAt i = s.coreAt i := rfl
@[simp] theorem State.coreAt_monMod (s : State) (i j : Nat) (f) : (s.monMod j f).coreAt i = s.coreAt i := rfl
@[simp] theorem State.coreAt_qryMod (s : State) (i j : Nat) (f) : (s.qryMod j f).coreAt i = s.coreAt i := rfl
@[simp] theorem State.coreAt_chanMod (s : State) (i j : Nat) (f) : (s.chanMod j f).coreAt i = s.coreAt i := rfl
@[simp] theorem State.coreAt_timerMod (s : State) (i j : Nat) (f) : (s.timerMod j f).coreAt i = s.coreAt i := rfl
@[simp] theorem State.coreAt_cntMod (s : State) (i j : Nat) (f) : (s.cntMod j f).coreAt i = s.coreAt i := rfl
@[simp] theorem State.coreAt_winMod (s : State) (i j : Nat) (f) : (s.winMod j f).coreAt i = s.coreAt i := rfl
@[simp] theorem State.coreAt_turnMod (s : State) (i j : Nat) (f) : (s.turnMod j f).coreAt i = s.coreAt i := rfl
@[simp] theorem State.coreAt_ctxMod (s : State) (i j : Nat) (f) : (s.ctxMod j f).coreAt i = s.coreAt i := rfl
@[simp] theorem State.coreAt_raise (s : State) (i op : Nat) (p : Bytes) : (raise op p s).coreAt i = s.coreAt i := by
  unfold State.coreAt
  rw [raise_core]
@[simp] theorem State.coreAt_sramWrite (s : State) (i a : Nat) (b : Bytes) : (s.sramWrite a b).coreAt i = s.coreAt i := rfl
@[simp] theorem takesEvents_coreMod (s : State) (i : Nat) (f) : TakesEvents (s.coreMod i f) ↔ TakesEvents s := Iff.rfl
@[simp] theorem State.biasAt_rxMod (s : State) (i j : Nat) (f) : (s.rxMod j f).biasAt i = s.biasAt i := rfl
@[simp] theorem State.biasAt_txMod (s : State) (i j : Nat) (f) : (s.txMod j f).biasAt i = s.biasAt i := rfl
@[simp] theorem State.biasAt_stretchMod (s : State) (i j : Nat) (f) : (s.stretchMod j f).biasAt i = s.biasAt i := rfl
@[simp] theorem State.biasAt_framerMod (s : State) (i j : Nat) (f) : (s.framerMod j f).biasAt i = s.biasAt i := rfl
@[simp] theorem State.biasAt_maskMod (s : State) (i j : Nat) (f) : (s.maskMod j f).biasAt i = s.biasAt i := rfl
@[simp] theorem State.biasAt_faceMod (s : State) (i j : Nat) (f) : (s.faceMod j f).biasAt i = s.biasAt i := rfl
@[simp] theorem State.biasAt_rxSlotMod (s : State) (i j : Nat) (f) : (s.rxSlotMod j f).biasAt i = s.biasAt i := rfl
@[simp] theorem State.biasAt_txSlotMod (s : State) (i j : Nat) (f) : (s.txSlotMod j f).biasAt i = s.biasAt i := rfl
@[simp] theorem State.biasAt_clientMod (s : State) (i j : Nat) (f) : (s.clientMod j f).biasAt i = s.biasAt i := rfl
@[simp] theorem State.biasAt_portMod (s : State) (i j : Nat) (f) : (s.portMod j f).biasAt i = s.biasAt i := rfl
@[simp] theorem State.biasAt_hlaneMod (s : State) (i j : Nat) (f) : (s.hlaneMod j f).biasAt i = s.biasAt i := rfl
@[simp] theorem State.biasAt_icingMod (s : State) (i j : Nat) (f) : (s.icingMod j f).biasAt i = s.biasAt i := rfl
@[simp] theorem State.biasAt_loopMod (s : State) (i j : Nat) (f) : (s.loopMod j f).biasAt i = s.biasAt i := rfl
@[simp] theorem State.biasAt_coreMod (s : State) (i j : Nat) (f) : (s.coreMod j f).biasAt i = s.biasAt i := rfl
@[simp] theorem State.biasAt_madcMod (s : State) (i j : Nat) (f) : (s.madcMod j f).biasAt i = s.biasAt i := rfl
@[simp] theorem State.biasAt_monMod (s : State) (i j : Nat) (f) : (s.monMod j f).biasAt i = s.biasAt i := rfl
@[simp] theorem State.biasAt_qryMod (s : State) (i j : Nat) (f) : (s.qryMod j f).biasAt i = s.biasAt i := rfl
@[simp] theorem State.biasAt_chanMod (s : State) (i j : Nat) (f) : (s.chanMod j f).biasAt i = s.biasAt i := rfl
@[simp] theorem State.biasAt_timerMod (s : State) (i j : Nat) (f) : (s.timerMod j f).biasAt i = s.biasAt i := rfl
@[simp] theorem State.biasAt_cntMod (s : State) (i j : Nat) (f) : (s.cntMod j f).biasAt i = s.biasAt i := rfl
@[simp] theorem State.biasAt_winMod (s : State) (i j : Nat) (f) : (s.winMod j f).biasAt i = s.biasAt i := rfl
@[simp] theorem State.biasAt_turnMod (s : State) (i j : Nat) (f) : (s.turnMod j f).biasAt i = s.biasAt i := rfl
@[simp] theorem State.biasAt_ctxMod (s : State) (i j : Nat) (f) : (s.ctxMod j f).biasAt i = s.biasAt i := rfl
@[simp] theorem State.biasAt_raise (s : State) (i op : Nat) (p : Bytes) : (raise op p s).biasAt i = s.biasAt i := by
  unfold State.biasAt
  rw [raise_bias]
@[simp] theorem State.biasAt_sramWrite (s : State) (i a : Nat) (b : Bytes) : (s.sramWrite a b).biasAt i = s.biasAt i := rfl
@[simp] theorem takesEvents_biasMod (s : State) (i : Nat) (f) : TakesEvents (s.biasMod i f) ↔ TakesEvents s := Iff.rfl
@[simp] theorem State.madcAt_rxMod (s : State) (i j : Nat) (f) : (s.rxMod j f).madcAt i = s.madcAt i := rfl
@[simp] theorem State.madcAt_txMod (s : State) (i j : Nat) (f) : (s.txMod j f).madcAt i = s.madcAt i := rfl
@[simp] theorem State.madcAt_stretchMod (s : State) (i j : Nat) (f) : (s.stretchMod j f).madcAt i = s.madcAt i := rfl
@[simp] theorem State.madcAt_framerMod (s : State) (i j : Nat) (f) : (s.framerMod j f).madcAt i = s.madcAt i := rfl
@[simp] theorem State.madcAt_maskMod (s : State) (i j : Nat) (f) : (s.maskMod j f).madcAt i = s.madcAt i := rfl
@[simp] theorem State.madcAt_faceMod (s : State) (i j : Nat) (f) : (s.faceMod j f).madcAt i = s.madcAt i := rfl
@[simp] theorem State.madcAt_rxSlotMod (s : State) (i j : Nat) (f) : (s.rxSlotMod j f).madcAt i = s.madcAt i := rfl
@[simp] theorem State.madcAt_txSlotMod (s : State) (i j : Nat) (f) : (s.txSlotMod j f).madcAt i = s.madcAt i := rfl
@[simp] theorem State.madcAt_clientMod (s : State) (i j : Nat) (f) : (s.clientMod j f).madcAt i = s.madcAt i := rfl
@[simp] theorem State.madcAt_portMod (s : State) (i j : Nat) (f) : (s.portMod j f).madcAt i = s.madcAt i := rfl
@[simp] theorem State.madcAt_hlaneMod (s : State) (i j : Nat) (f) : (s.hlaneMod j f).madcAt i = s.madcAt i := rfl
@[simp] theorem State.madcAt_icingMod (s : State) (i j : Nat) (f) : (s.icingMod j f).madcAt i = s.madcAt i := rfl
@[simp] theorem State.madcAt_loopMod (s : State) (i j : Nat) (f) : (s.loopMod j f).madcAt i = s.madcAt i := rfl
@[simp] theorem State.madcAt_coreMod (s : State) (i j : Nat) (f) : (s.coreMod j f).madcAt i = s.madcAt i := rfl
@[simp] theorem State.madcAt_biasMod (s : State) (i j : Nat) (f) : (s.biasMod j f).madcAt i = s.madcAt i := rfl
@[simp] theorem State.madcAt_monMod (s : State) (i j : Nat) (f) : (s.monMod j f).madcAt i = s.madcAt i := rfl
@[simp] theorem State.madcAt_qryMod (s : State) (i j : Nat) (f) : (s.qryMod j f).madcAt i = s.madcAt i := rfl
@[simp] theorem State.madcAt_chanMod (s : State) (i j : Nat) (f) : (s.chanMod j f).madcAt i = s.madcAt i := rfl
@[simp] theorem State.madcAt_timerMod (s : State) (i j : Nat) (f) : (s.timerMod j f).madcAt i = s.madcAt i := rfl
@[simp] theorem State.madcAt_cntMod (s : State) (i j : Nat) (f) : (s.cntMod j f).madcAt i = s.madcAt i := rfl
@[simp] theorem State.madcAt_winMod (s : State) (i j : Nat) (f) : (s.winMod j f).madcAt i = s.madcAt i := rfl
@[simp] theorem State.madcAt_turnMod (s : State) (i j : Nat) (f) : (s.turnMod j f).madcAt i = s.madcAt i := rfl
@[simp] theorem State.madcAt_ctxMod (s : State) (i j : Nat) (f) : (s.ctxMod j f).madcAt i = s.madcAt i := rfl
@[simp] theorem State.madcAt_raise (s : State) (i op : Nat) (p : Bytes) : (raise op p s).madcAt i = s.madcAt i := by
  unfold State.madcAt
  rw [raise_madc]
@[simp] theorem State.madcAt_sramWrite (s : State) (i a : Nat) (b : Bytes) : (s.sramWrite a b).madcAt i = s.madcAt i := rfl
@[simp] theorem takesEvents_madcMod (s : State) (i : Nat) (f) : TakesEvents (s.madcMod i f) ↔ TakesEvents s := Iff.rfl
@[simp] theorem State.monAt_rxMod (s : State) (i j : Nat) (f) : (s.rxMod j f).monAt i = s.monAt i := rfl
@[simp] theorem State.monAt_txMod (s : State) (i j : Nat) (f) : (s.txMod j f).monAt i = s.monAt i := rfl
@[simp] theorem State.monAt_stretchMod (s : State) (i j : Nat) (f) : (s.stretchMod j f).monAt i = s.monAt i := rfl
@[simp] theorem State.monAt_framerMod (s : State) (i j : Nat) (f) : (s.framerMod j f).monAt i = s.monAt i := rfl
@[simp] theorem State.monAt_maskMod (s : State) (i j : Nat) (f) : (s.maskMod j f).monAt i = s.monAt i := rfl
@[simp] theorem State.monAt_faceMod (s : State) (i j : Nat) (f) : (s.faceMod j f).monAt i = s.monAt i := rfl
@[simp] theorem State.monAt_rxSlotMod (s : State) (i j : Nat) (f) : (s.rxSlotMod j f).monAt i = s.monAt i := rfl
@[simp] theorem State.monAt_txSlotMod (s : State) (i j : Nat) (f) : (s.txSlotMod j f).monAt i = s.monAt i := rfl
@[simp] theorem State.monAt_clientMod (s : State) (i j : Nat) (f) : (s.clientMod j f).monAt i = s.monAt i := rfl
@[simp] theorem State.monAt_portMod (s : State) (i j : Nat) (f) : (s.portMod j f).monAt i = s.monAt i := rfl
@[simp] theorem State.monAt_hlaneMod (s : State) (i j : Nat) (f) : (s.hlaneMod j f).monAt i = s.monAt i := rfl
@[simp] theorem State.monAt_icingMod (s : State) (i j : Nat) (f) : (s.icingMod j f).monAt i = s.monAt i := rfl
@[simp] theorem State.monAt_loopMod (s : State) (i j : Nat) (f) : (s.loopMod j f).monAt i = s.monAt i := rfl
@[simp] theorem State.monAt_coreMod (s : State) (i j : Nat) (f) : (s.coreMod j f).monAt i = s.monAt i := rfl
@[simp] theorem State.monAt_biasMod (s : State) (i j : Nat) (f) : (s.biasMod j f).monAt i = s.monAt i := rfl
@[simp] theorem State.monAt_madcMod (s : State) (i j : Nat) (f) : (s.madcMod j f).monAt i = s.monAt i := rfl
@[simp] theorem State.monAt_qryMod (s : State) (i j : Nat) (f) : (s.qryMod j f).monAt i = s.monAt i := rfl
@[simp] theorem State.monAt_chanMod (s : State) (i j : Nat) (f) : (s.chanMod j f).monAt i = s.monAt i := rfl
@[simp] theorem State.monAt_timerMod (s : State) (i j : Nat) (f) : (s.timerMod j f).monAt i = s.monAt i := rfl
@[simp] theorem State.monAt_cntMod (s : State) (i j : Nat) (f) : (s.cntMod j f).monAt i = s.monAt i := rfl
@[simp] theorem State.monAt_winMod (s : State) (i j : Nat) (f) : (s.winMod j f).monAt i = s.monAt i := rfl
@[simp] theorem State.monAt_turnMod (s : State) (i j : Nat) (f) : (s.turnMod j f).monAt i = s.monAt i := rfl
@[simp] theorem State.monAt_ctxMod (s : State) (i j : Nat) (f) : (s.ctxMod j f).monAt i = s.monAt i := rfl
@[simp] theorem State.monAt_raise (s : State) (i op : Nat) (p : Bytes) : (raise op p s).monAt i = s.monAt i := by
  unfold State.monAt
  rw [raise_mon]
@[simp] theorem State.monAt_sramWrite (s : State) (i a : Nat) (b : Bytes) : (s.sramWrite a b).monAt i = s.monAt i := rfl
@[simp] theorem takesEvents_monMod (s : State) (i : Nat) (f) : TakesEvents (s.monMod i f) ↔ TakesEvents s := Iff.rfl
@[simp] theorem State.qryAt_rxMod (s : State) (i j : Nat) (f) : (s.rxMod j f).qryAt i = s.qryAt i := rfl
@[simp] theorem State.qryAt_txMod (s : State) (i j : Nat) (f) : (s.txMod j f).qryAt i = s.qryAt i := rfl
@[simp] theorem State.qryAt_stretchMod (s : State) (i j : Nat) (f) : (s.stretchMod j f).qryAt i = s.qryAt i := rfl
@[simp] theorem State.qryAt_framerMod (s : State) (i j : Nat) (f) : (s.framerMod j f).qryAt i = s.qryAt i := rfl
@[simp] theorem State.qryAt_maskMod (s : State) (i j : Nat) (f) : (s.maskMod j f).qryAt i = s.qryAt i := rfl
@[simp] theorem State.qryAt_faceMod (s : State) (i j : Nat) (f) : (s.faceMod j f).qryAt i = s.qryAt i := rfl
@[simp] theorem State.qryAt_rxSlotMod (s : State) (i j : Nat) (f) : (s.rxSlotMod j f).qryAt i = s.qryAt i := rfl
@[simp] theorem State.qryAt_txSlotMod (s : State) (i j : Nat) (f) : (s.txSlotMod j f).qryAt i = s.qryAt i := rfl
@[simp] theorem State.qryAt_clientMod (s : State) (i j : Nat) (f) : (s.clientMod j f).qryAt i = s.qryAt i := rfl
@[simp] theorem State.qryAt_portMod (s : State) (i j : Nat) (f) : (s.portMod j f).qryAt i = s.qryAt i := rfl
@[simp] theorem State.qryAt_hlaneMod (s : State) (i j : Nat) (f) : (s.hlaneMod j f).qryAt i = s.qryAt i := rfl
@[simp] theorem State.qryAt_icingMod (s : State) (i j : Nat) (f) : (s.icingMod j f).qryAt i = s.qryAt i := rfl
@[simp] theorem State.qryAt_loopMod (s : State) (i j : Nat) (f) : (s.loopMod j f).qryAt i = s.qryAt i := rfl
@[simp] theorem State.qryAt_coreMod (s : State) (i j : Nat) (f) : (s.coreMod j f).qryAt i = s.qryAt i := rfl
@[simp] theorem State.qryAt_biasMod (s : State) (i j : Nat) (f) : (s.biasMod j f).qryAt i = s.qryAt i := rfl
@[simp] theorem State.qryAt_madcMod (s : State) (i j : Nat) (f) : (s.madcMod j f).qryAt i = s.qryAt i := rfl
@[simp] theorem State.qryAt_monMod (s : State) (i j : Nat) (f) : (s.monMod j f).qryAt i = s.qryAt i := rfl
@[simp] theorem State.qryAt_chanMod (s : State) (i j : Nat) (f) : (s.chanMod j f).qryAt i = s.qryAt i := rfl
@[simp] theorem State.qryAt_timerMod (s : State) (i j : Nat) (f) : (s.timerMod j f).qryAt i = s.qryAt i := rfl
@[simp] theorem State.qryAt_cntMod (s : State) (i j : Nat) (f) : (s.cntMod j f).qryAt i = s.qryAt i := rfl
@[simp] theorem State.qryAt_winMod (s : State) (i j : Nat) (f) : (s.winMod j f).qryAt i = s.qryAt i := rfl
@[simp] theorem State.qryAt_turnMod (s : State) (i j : Nat) (f) : (s.turnMod j f).qryAt i = s.qryAt i := rfl
@[simp] theorem State.qryAt_ctxMod (s : State) (i j : Nat) (f) : (s.ctxMod j f).qryAt i = s.qryAt i := rfl
@[simp] theorem State.qryAt_raise (s : State) (i op : Nat) (p : Bytes) : (raise op p s).qryAt i = s.qryAt i := by
  unfold State.qryAt
  rw [raise_qry]
@[simp] theorem State.qryAt_sramWrite (s : State) (i a : Nat) (b : Bytes) : (s.sramWrite a b).qryAt i = s.qryAt i := rfl
@[simp] theorem takesEvents_qryMod (s : State) (i : Nat) (f) : TakesEvents (s.qryMod i f) ↔ TakesEvents s := Iff.rfl
@[simp] theorem State.chanAt_rxMod (s : State) (i j : Nat) (f) : (s.rxMod j f).chanAt i = s.chanAt i := rfl
@[simp] theorem State.chanAt_txMod (s : State) (i j : Nat) (f) : (s.txMod j f).chanAt i = s.chanAt i := rfl
@[simp] theorem State.chanAt_stretchMod (s : State) (i j : Nat) (f) : (s.stretchMod j f).chanAt i = s.chanAt i := rfl
@[simp] theorem State.chanAt_framerMod (s : State) (i j : Nat) (f) : (s.framerMod j f).chanAt i = s.chanAt i := rfl
@[simp] theorem State.chanAt_maskMod (s : State) (i j : Nat) (f) : (s.maskMod j f).chanAt i = s.chanAt i := rfl
@[simp] theorem State.chanAt_faceMod (s : State) (i j : Nat) (f) : (s.faceMod j f).chanAt i = s.chanAt i := rfl
@[simp] theorem State.chanAt_rxSlotMod (s : State) (i j : Nat) (f) : (s.rxSlotMod j f).chanAt i = s.chanAt i := rfl
@[simp] theorem State.chanAt_txSlotMod (s : State) (i j : Nat) (f) : (s.txSlotMod j f).chanAt i = s.chanAt i := rfl
@[simp] theorem State.chanAt_clientMod (s : State) (i j : Nat) (f) : (s.clientMod j f).chanAt i = s.chanAt i := rfl
@[simp] theorem State.chanAt_portMod (s : State) (i j : Nat) (f) : (s.portMod j f).chanAt i = s.chanAt i := rfl
@[simp] theorem State.chanAt_hlaneMod (s : State) (i j : Nat) (f) : (s.hlaneMod j f).chanAt i = s.chanAt i := rfl
@[simp] theorem State.chanAt_icingMod (s : State) (i j : Nat) (f) : (s.icingMod j f).chanAt i = s.chanAt i := rfl
@[simp] theorem State.chanAt_loopMod (s : State) (i j : Nat) (f) : (s.loopMod j f).chanAt i = s.chanAt i := rfl
@[simp] theorem State.chanAt_coreMod (s : State) (i j : Nat) (f) : (s.coreMod j f).chanAt i = s.chanAt i := rfl
@[simp] theorem State.chanAt_biasMod (s : State) (i j : Nat) (f) : (s.biasMod j f).chanAt i = s.chanAt i := rfl
@[simp] theorem State.chanAt_madcMod (s : State) (i j : Nat) (f) : (s.madcMod j f).chanAt i = s.chanAt i := rfl
@[simp] theorem State.chanAt_monMod (s : State) (i j : Nat) (f) : (s.monMod j f).chanAt i = s.chanAt i := rfl
@[simp] theorem State.chanAt_qryMod (s : State) (i j : Nat) (f) : (s.qryMod j f).chanAt i = s.chanAt i := rfl
@[simp] theorem State.chanAt_timerMod (s : State) (i j : Nat) (f) : (s.timerMod j f).chanAt i = s.chanAt i := rfl
@[simp] theorem State.chanAt_cntMod (s : State) (i j : Nat) (f) : (s.cntMod j f).chanAt i = s.chanAt i := rfl
@[simp] theorem State.chanAt_winMod (s : State) (i j : Nat) (f) : (s.winMod j f).chanAt i = s.chanAt i := rfl
@[simp] theorem State.chanAt_turnMod (s : State) (i j : Nat) (f) : (s.turnMod j f).chanAt i = s.chanAt i := rfl
@[simp] theorem State.chanAt_ctxMod (s : State) (i j : Nat) (f) : (s.ctxMod j f).chanAt i = s.chanAt i := rfl
@[simp] theorem State.chanAt_raise (s : State) (i op : Nat) (p : Bytes) : (raise op p s).chanAt i = s.chanAt i := by
  unfold State.chanAt
  rw [raise_dma]
@[simp] theorem State.chanAt_sramWrite (s : State) (i a : Nat) (b : Bytes) : (s.sramWrite a b).chanAt i = s.chanAt i := rfl
@[simp] theorem takesEvents_chanMod (s : State) (i : Nat) (f) : TakesEvents (s.chanMod i f) ↔ TakesEvents s := Iff.rfl
@[simp] theorem State.timerAt_rxMod (s : State) (i j : Nat) (f) : (s.rxMod j f).timerAt i = s.timerAt i := rfl
@[simp] theorem State.timerAt_txMod (s : State) (i j : Nat) (f) : (s.txMod j f).timerAt i = s.timerAt i := rfl
@[simp] theorem State.timerAt_stretchMod (s : State) (i j : Nat) (f) : (s.stretchMod j f).timerAt i = s.timerAt i := rfl
@[simp] theorem State.timerAt_framerMod (s : State) (i j : Nat) (f) : (s.framerMod j f).timerAt i = s.timerAt i := rfl
@[simp] theorem State.timerAt_maskMod (s : State) (i j : Nat) (f) : (s.maskMod j f).timerAt i = s.timerAt i := rfl
@[simp] theorem State.timerAt_faceMod (s : State) (i j : Nat) (f) : (s.faceMod j f).timerAt i = s.timerAt i := rfl
@[simp] theorem State.timerAt_rxSlotMod (s : State) (i j : Nat) (f) : (s.rxSlotMod j f).timerAt i = s.timerAt i := rfl
@[simp] theorem State.timerAt_txSlotMod (s : State) (i j : Nat) (f) : (s.txSlotMod j f).timerAt i = s.timerAt i := rfl
@[simp] theorem State.timerAt_clientMod (s : State) (i j : Nat) (f) : (s.clientMod j f).timerAt i = s.timerAt i := rfl
@[simp] theorem State.timerAt_portMod (s : State) (i j : Nat) (f) : (s.portMod j f).timerAt i = s.timerAt i := rfl
@[simp] theorem State.timerAt_hlaneMod (s : State) (i j : Nat) (f) : (s.hlaneMod j f).timerAt i = s.timerAt i := rfl
@[simp] theorem State.timerAt_icingMod (s : State) (i j : Nat) (f) : (s.icingMod j f).timerAt i = s.timerAt i := rfl
@[simp] theorem State.timerAt_loopMod (s : State) (i j : Nat) (f) : (s.loopMod j f).timerAt i = s.timerAt i := rfl
@[simp] theorem State.timerAt_coreMod (s : State) (i j : Nat) (f) : (s.coreMod j f).timerAt i = s.timerAt i := rfl
@[simp] theorem State.timerAt_biasMod (s : State) (i j : Nat) (f) : (s.biasMod j f).timerAt i = s.timerAt i := rfl
@[simp] theorem State.timerAt_madcMod (s : State) (i j : Nat) (f) : (s.madcMod j f).timerAt i = s.timerAt i := rfl
@[simp] theorem State.timerAt_monMod (s : State) (i j : Nat) (f) : (s.monMod j f).timerAt i = s.timerAt i := rfl
@[simp] theorem State.timerAt_qryMod (s : State) (i j : Nat) (f) : (s.qryMod j f).timerAt i = s.timerAt i := rfl
@[simp] theorem State.timerAt_chanMod (s : State) (i j : Nat) (f) : (s.chanMod j f).timerAt i = s.timerAt i := rfl
@[simp] theorem State.timerAt_cntMod (s : State) (i j : Nat) (f) : (s.cntMod j f).timerAt i = s.timerAt i := rfl
@[simp] theorem State.timerAt_winMod (s : State) (i j : Nat) (f) : (s.winMod j f).timerAt i = s.timerAt i := rfl
@[simp] theorem State.timerAt_turnMod (s : State) (i j : Nat) (f) : (s.turnMod j f).timerAt i = s.timerAt i := rfl
@[simp] theorem State.timerAt_ctxMod (s : State) (i j : Nat) (f) : (s.ctxMod j f).timerAt i = s.timerAt i := rfl
@[simp] theorem State.timerAt_raise (s : State) (i op : Nat) (p : Bytes) : (raise op p s).timerAt i = s.timerAt i := by
  unfold State.timerAt
  rw [raise_dma]
@[simp] theorem State.timerAt_sramWrite (s : State) (i a : Nat) (b : Bytes) : (s.sramWrite a b).timerAt i = s.timerAt i := rfl
@[simp] theorem takesEvents_timerMod (s : State) (i : Nat) (f) : TakesEvents (s.timerMod i f) ↔ TakesEvents s := Iff.rfl
@[simp] theorem State.cntAt_rxMod (s : State) (i j : Nat) (f) : (s.rxMod j f).cntAt i = s.cntAt i := rfl
@[simp] theorem State.cntAt_txMod (s : State) (i j : Nat) (f) : (s.txMod j f).cntAt i = s.cntAt i := rfl
@[simp] theorem State.cntAt_stretchMod (s : State) (i j : Nat) (f) : (s.stretchMod j f).cntAt i = s.cntAt i := rfl
@[simp] theorem State.cntAt_framerMod (s : State) (i j : Nat) (f) : (s.framerMod j f).cntAt i = s.cntAt i := rfl
@[simp] theorem State.cntAt_maskMod (s : State) (i j : Nat) (f) : (s.maskMod j f).cntAt i = s.cntAt i := rfl
@[simp] theorem State.cntAt_faceMod (s : State) (i j : Nat) (f) : (s.faceMod j f).cntAt i = s.cntAt i := rfl
@[simp] theorem State.cntAt_rxSlotMod (s : State) (i j : Nat) (f) : (s.rxSlotMod j f).cntAt i = s.cntAt i := rfl
@[simp] theorem State.cntAt_txSlotMod (s : State) (i j : Nat) (f) : (s.txSlotMod j f).cntAt i = s.cntAt i := rfl
@[simp] theorem State.cntAt_clientMod (s : State) (i j : Nat) (f) : (s.clientMod j f).cntAt i = s.cntAt i := rfl
@[simp] theorem State.cntAt_portMod (s : State) (i j : Nat) (f) : (s.portMod j f).cntAt i = s.cntAt i := rfl
@[simp] theorem State.cntAt_hlaneMod (s : State) (i j : Nat) (f) : (s.hlaneMod j f).cntAt i = s.cntAt i := rfl
@[simp] theorem State.cntAt_icingMod (s : State) (i j : Nat) (f) : (s.icingMod j f).cntAt i = s.cntAt i := rfl
@[simp] theorem State.cntAt_loopMod (s : State) (i j : Nat) (f) : (s.loopMod j f).cntAt i = s.cntAt i := rfl
@[simp] theorem State.cntAt_coreMod (s : State) (i j : Nat) (f) : (s.coreMod j f).cntAt i = s.cntAt i := rfl
@[simp] theorem State.cntAt_biasMod (s : State) (i j : Nat) (f) : (s.biasMod j f).cntAt i = s.cntAt i := rfl
@[simp] theorem State.cntAt_madcMod (s : State) (i j : Nat) (f) : (s.madcMod j f).cntAt i = s.cntAt i := rfl
@[simp] theorem State.cntAt_monMod (s : State) (i j : Nat) (f) : (s.monMod j f).cntAt i = s.cntAt i := rfl
@[simp] theorem State.cntAt_qryMod (s : State) (i j : Nat) (f) : (s.qryMod j f).cntAt i = s.cntAt i := rfl
@[simp] theorem State.cntAt_chanMod (s : State) (i j : Nat) (f) : (s.chanMod j f).cntAt i = s.cntAt i := rfl
@[simp] theorem State.cntAt_timerMod (s : State) (i j : Nat) (f) : (s.timerMod j f).cntAt i = s.cntAt i := rfl
@[simp] theorem State.cntAt_winMod (s : State) (i j : Nat) (f) : (s.winMod j f).cntAt i = s.cntAt i := rfl
@[simp] theorem State.cntAt_turnMod (s : State) (i j : Nat) (f) : (s.turnMod j f).cntAt i = s.cntAt i := rfl
@[simp] theorem State.cntAt_ctxMod (s : State) (i j : Nat) (f) : (s.ctxMod j f).cntAt i = s.cntAt i := rfl
@[simp] theorem State.cntAt_raise (s : State) (i op : Nat) (p : Bytes) : (raise op p s).cntAt i = s.cntAt i := by
  unfold State.cntAt
  rw [raise_dma]
@[simp] theorem State.cntAt_sramWrite (s : State) (i a : Nat) (b : Bytes) : (s.sramWrite a b).cntAt i = s.cntAt i := rfl
@[simp] theorem takesEvents_cntMod (s : State) (i : Nat) (f) : TakesEvents (s.cntMod i f) ↔ TakesEvents s := Iff.rfl
@[simp] theorem State.winAt_rxMod (s : State) (i j : Nat) (f) : (s.rxMod j f).winAt i = s.winAt i := rfl
@[simp] theorem State.winAt_txMod (s : State) (i j : Nat) (f) : (s.txMod j f).winAt i = s.winAt i := rfl
@[simp] theorem State.winAt_stretchMod (s : State) (i j : Nat) (f) : (s.stretchMod j f).winAt i = s.winAt i := rfl
@[simp] theorem State.winAt_framerMod (s : State) (i j : Nat) (f) : (s.framerMod j f).winAt i = s.winAt i := rfl
@[simp] theorem State.winAt_maskMod (s : State) (i j : Nat) (f) : (s.maskMod j f).winAt i = s.winAt i := rfl
@[simp] theorem State.winAt_faceMod (s : State) (i j : Nat) (f) : (s.faceMod j f).winAt i = s.winAt i := rfl
@[simp] theorem State.winAt_rxSlotMod (s : State) (i j : Nat) (f) : (s.rxSlotMod j f).winAt i = s.winAt i := rfl
@[simp] theorem State.winAt_txSlotMod (s : State) (i j : Nat) (f) : (s.txSlotMod j f).winAt i = s.winAt i := rfl
@[simp] theorem State.winAt_clientMod (s : State) (i j : Nat) (f) : (s.clientMod j f).winAt i = s.winAt i := rfl
@[simp] theorem State.winAt_portMod (s : State) (i j : Nat) (f) : (s.portMod j f).winAt i = s.winAt i := rfl
@[simp] theorem State.winAt_hlaneMod (s : State) (i j : Nat) (f) : (s.hlaneMod j f).winAt i = s.winAt i := rfl
@[simp] theorem State.winAt_icingMod (s : State) (i j : Nat) (f) : (s.icingMod j f).winAt i = s.winAt i := rfl
@[simp] theorem State.winAt_loopMod (s : State) (i j : Nat) (f) : (s.loopMod j f).winAt i = s.winAt i := rfl
@[simp] theorem State.winAt_coreMod (s : State) (i j : Nat) (f) : (s.coreMod j f).winAt i = s.winAt i := rfl
@[simp] theorem State.winAt_biasMod (s : State) (i j : Nat) (f) : (s.biasMod j f).winAt i = s.winAt i := rfl
@[simp] theorem State.winAt_madcMod (s : State) (i j : Nat) (f) : (s.madcMod j f).winAt i = s.winAt i := rfl
@[simp] theorem State.winAt_monMod (s : State) (i j : Nat) (f) : (s.monMod j f).winAt i = s.winAt i := rfl
@[simp] theorem State.winAt_qryMod (s : State) (i j : Nat) (f) : (s.qryMod j f).winAt i = s.winAt i := rfl
@[simp] theorem State.winAt_chanMod (s : State) (i j : Nat) (f) : (s.chanMod j f).winAt i = s.winAt i := rfl
@[simp] theorem State.winAt_timerMod (s : State) (i j : Nat) (f) : (s.timerMod j f).winAt i = s.winAt i := rfl
@[simp] theorem State.winAt_cntMod (s : State) (i j : Nat) (f) : (s.cntMod j f).winAt i = s.winAt i := rfl
@[simp] theorem State.winAt_turnMod (s : State) (i j : Nat) (f) : (s.turnMod j f).winAt i = s.winAt i := rfl
@[simp] theorem State.winAt_ctxMod (s : State) (i j : Nat) (f) : (s.ctxMod j f).winAt i = s.winAt i := rfl
@[simp] theorem State.winAt_raise (s : State) (i op : Nat) (p : Bytes) : (raise op p s).winAt i = s.winAt i := by
  unfold State.winAt
  rw [raise_dma]
@[simp] theorem State.winAt_sramWrite (s : State) (i a : Nat) (b : Bytes) : (s.sramWrite a b).winAt i = s.winAt i := rfl
@[simp] theorem takesEvents_winMod (s : State) (i : Nat) (f) : TakesEvents (s.winMod i f) ↔ TakesEvents s := Iff.rfl
@[simp] theorem State.turnAt_rxMod (s : State) (i j : Nat) (f) : (s.rxMod j f).turnAt i = s.turnAt i := rfl
@[simp] theorem State.turnAt_txMod (s : State) (i j : Nat) (f) : (s.txMod j f).turnAt i = s.turnAt i := rfl
@[simp] theorem State.turnAt_stretchMod (s : State) (i j : Nat) (f) : (s.stretchMod j f).turnAt i = s.turnAt i := rfl
@[simp] theorem State.turnAt_framerMod (s : State) (i j : Nat) (f) : (s.framerMod j f).turnAt i = s.turnAt i := rfl
@[simp] theorem State.turnAt_maskMod (s : State) (i j : Nat) (f) : (s.maskMod j f).turnAt i = s.turnAt i := rfl
@[simp] theorem State.turnAt_faceMod (s : State) (i j : Nat) (f) : (s.faceMod j f).turnAt i = s.turnAt i := rfl
@[simp] theorem State.turnAt_rxSlotMod (s : State) (i j : Nat) (f) : (s.rxSlotMod j f).turnAt i = s.turnAt i := rfl
@[simp] theorem State.turnAt_txSlotMod (s : State) (i j : Nat) (f) : (s.txSlotMod j f).turnAt i = s.turnAt i := rfl
@[simp] theorem State.turnAt_clientMod (s : State) (i j : Nat) (f) : (s.clientMod j f).turnAt i = s.turnAt i := rfl
@[simp] theorem State.turnAt_portMod (s : State) (i j : Nat) (f) : (s.portMod j f).turnAt i = s.turnAt i := rfl
@[simp] theorem State.turnAt_hlaneMod (s : State) (i j : Nat) (f) : (s.hlaneMod j f).turnAt i = s.turnAt i := rfl
@[simp] theorem State.turnAt_icingMod (s : State) (i j : Nat) (f) : (s.icingMod j f).turnAt i = s.turnAt i := rfl
@[simp] theorem State.turnAt_loopMod (s : State) (i j : Nat) (f) : (s.loopMod j f).turnAt i = s.turnAt i := rfl
@[simp] theorem State.turnAt_coreMod (s : State) (i j : Nat) (f) : (s.coreMod j f).turnAt i = s.turnAt i := rfl
@[simp] theorem State.turnAt_biasMod (s : State) (i j : Nat) (f) : (s.biasMod j f).turnAt i = s.turnAt i := rfl
@[simp] theorem State.turnAt_madcMod (s : State) (i j : Nat) (f) : (s.madcMod j f).turnAt i = s.turnAt i := rfl
@[simp] theorem State.turnAt_monMod (s : State) (i j : Nat) (f) : (s.monMod j f).turnAt i = s.turnAt i := rfl
@[simp] theorem State.turnAt_qryMod (s : State) (i j : Nat) (f) : (s.qryMod j f).turnAt i = s.turnAt i := rfl
@[simp] theorem State.turnAt_chanMod (s : State) (i j : Nat) (f) : (s.chanMod j f).turnAt i = s.turnAt i := rfl
@[simp] theorem State.turnAt_timerMod (s : State) (i j : Nat) (f) : (s.timerMod j f).turnAt i = s.turnAt i := rfl
@[simp] theorem State.turnAt_cntMod (s : State) (i j : Nat) (f) : (s.cntMod j f).turnAt i = s.turnAt i := rfl
@[simp] theorem State.turnAt_winMod (s : State) (i j : Nat) (f) : (s.winMod j f).turnAt i = s.turnAt i := rfl
@[simp] theorem State.turnAt_ctxMod (s : State) (i j : Nat) (f) : (s.ctxMod j f).turnAt i = s.turnAt i := rfl
@[simp] theorem State.turnAt_raise (s : State) (i op : Nat) (p : Bytes) : (raise op p s).turnAt i = s.turnAt i := by
  unfold State.turnAt
  rw [raise_tierp]
@[simp] theorem State.turnAt_sramWrite (s : State) (i a : Nat) (b : Bytes) : (s.sramWrite a b).turnAt i = s.turnAt i := rfl
@[simp] theorem takesEvents_turnMod (s : State) (i : Nat) (f) : TakesEvents (s.turnMod i f) ↔ TakesEvents s := Iff.rfl
@[simp] theorem State.ctxAt_rxMod (s : State) (i j : Nat) (f) : (s.rxMod j f).ctxAt i = s.ctxAt i := rfl
@[simp] theorem State.ctxAt_txMod (s : State) (i j : Nat) (f) : (s.txMod j f).ctxAt i = s.ctxAt i := rfl
@[simp] theorem State.ctxAt_stretchMod (s : State) (i j : Nat) (f) : (s.stretchMod j f).ctxAt i = s.ctxAt i := rfl
@[simp] theorem State.ctxAt_framerMod (s : State) (i j : Nat) (f) : (s.framerMod j f).ctxAt i = s.ctxAt i := rfl
@[simp] theorem State.ctxAt_maskMod (s : State) (i j : Nat) (f) : (s.maskMod j f).ctxAt i = s.ctxAt i := rfl
@[simp] theorem State.ctxAt_faceMod (s : State) (i j : Nat) (f) : (s.faceMod j f).ctxAt i = s.ctxAt i := rfl
@[simp] theorem State.ctxAt_rxSlotMod (s : State) (i j : Nat) (f) : (s.rxSlotMod j f).ctxAt i = s.ctxAt i := rfl
@[simp] theorem State.ctxAt_txSlotMod (s : State) (i j : Nat) (f) : (s.txSlotMod j f).ctxAt i = s.ctxAt i := rfl
@[simp] theorem State.ctxAt_clientMod (s : State) (i j : Nat) (f) : (s.clientMod j f).ctxAt i = s.ctxAt i := rfl
@[simp] theorem State.ctxAt_portMod (s : State) (i j : Nat) (f) : (s.portMod j f).ctxAt i = s.ctxAt i := rfl
@[simp] theorem State.ctxAt_hlaneMod (s : State) (i j : Nat) (f) : (s.hlaneMod j f).ctxAt i = s.ctxAt i := rfl
@[simp] theorem State.ctxAt_icingMod (s : State) (i j : Nat) (f) : (s.icingMod j f).ctxAt i = s.ctxAt i := rfl
@[simp] theorem State.ctxAt_loopMod (s : State) (i j : Nat) (f) : (s.loopMod j f).ctxAt i = s.ctxAt i := rfl
@[simp] theorem State.ctxAt_coreMod (s : State) (i j : Nat) (f) : (s.coreMod j f).ctxAt i = s.ctxAt i := rfl
@[simp] theorem State.ctxAt_biasMod (s : State) (i j : Nat) (f) : (s.biasMod j f).ctxAt i = s.ctxAt i := rfl
@[simp] theorem State.ctxAt_madcMod (s : State) (i j : Nat) (f) : (s.madcMod j f).ctxAt i = s.ctxAt i := rfl
@[simp] theorem State.ctxAt_monMod (s : State) (i j : Nat) (f) : (s.monMod j f).ctxAt i = s.ctxAt i := rfl
@[simp] theorem State.ctxAt_qryMod (s : State) (i j : Nat) (f) : (s.qryMod j f).ctxAt i = s.ctxAt i := rfl
@[simp] theorem State.ctxAt_chanMod (s : State) (i j : Nat) (f) : (s.chanMod j f).ctxAt i = s.ctxAt i := rfl
@[simp] theorem State.ctxAt_timerMod (s : State) (i j : Nat) (f) : (s.timerMod j f).ctxAt i = s.ctxAt i := rfl
@[simp] theorem State.ctxAt_cntMod (s : State) (i j : Nat) (f) : (s.cntMod j f).ctxAt i = s.ctxAt i := rfl
@[simp] theorem State.ctxAt_winMod (s : State) (i j : Nat) (f) : (s.winMod j f).ctxAt i = s.ctxAt i := rfl
@[simp] theorem State.ctxAt_turnMod (s : State) (i j : Nat) (f) : (s.turnMod j f).ctxAt i = s.ctxAt i := rfl
@[simp] theorem State.ctxAt_raise (s : State) (i op : Nat) (p : Bytes) : (raise op p s).ctxAt i = s.ctxAt i := by
  unfold State.ctxAt
  rw [raise_streams]
@[simp] theorem State.ctxAt_sramWrite (s : State) (i a : Nat) (b : Bytes) : (s.sramWrite a b).ctxAt i = s.ctxAt i := rfl
@[simp] theorem takesEvents_ctxMod (s : State) (i : Nat) (f) : TakesEvents (s.ctxMod i f) ↔ TakesEvents s := Iff.rfl

@[simp] theorem takesEvents_sramWrite (s : State) (a : Nat) (b : Bytes) : TakesEvents (s.sramWrite a b) ↔ TakesEvents s := Iff.rfl
@[simp] theorem queued_raise {op : Nat} {p : Bytes} {s : State} (h : TakesEvents s) : Queued op p (raise op p s) :=
  raise_queued h

end Sys2Proof.Machine
end

