-- ==== Sys2Proof/Laws/Sram.lean ====
section
/-! SUPPORT. What a write of management SRAM and of a crumb can do, said once: what stays, what reads back, and what the
MCP reads where no word has an uncorrectable error. -/

namespace Sys2Proof.Machine

theorem getD_of_lt {α : Type} {l : List α} {j : Nat} {d : α} (h : j < l.length) : l.getD j d = l[j] := by
  simp [List.getD, h]

/-- Clearing whole words leaves every byte of another word. -/
theorem get_foldl_clear (l : List Nat) (m : Memory) {k : Nat} (h : k / 8 ∉ l) :
    Tab.get 0 (l.foldl (fun m w => Tab.write 0 m (8 * w) (List.replicate 8 0)) m) k = Tab.get 0 m k := by
  induction l generalizing m with
  | nil => rfl
  | cons w l ih =>
    simp only [List.mem_cons, not_or] at h
    rw [List.foldl_cons, ih _ h.2]
    refine Tab.get_write_outside 0 m (8 * w) _ ?_
    have hw := h.1
    simp only [List.length_replicate]
    omega

/-- A write of management SRAM leaves every other byte, but for the words with an uncorrectable error (R431). -/
theorem sramWrite_only (s : State) (a : Nat) (b : Bytes) : SramOnly a b.length s (s.sramWrite a b) := by
  intro k hk hb
  unfold State.sramWrite State.sramByte
  dsimp only
  rw [Tab.get_write_outside 0 _ a b hk]
  refine get_foldl_clear _ _ (fun hm => hb ?_)
  split at hm
  · simp at hm
  · exact (List.mem_filter.mp hm).1

/-- What was written reads back. -/
theorem sramRead_write (s : State) (a : Nat) (b : Bytes) : (s.sramWrite a b).sramRead a b.length = b := by
  unfold State.sramWrite State.sramRead
  dsimp only
  apply List.ext_getElem
  · exact Tab.read_length 0 _ a b.length
  · intro j h1 h2
    have e := Tab.read_getD (0 : Byte) 0 (Tab.write 0 ((if b.isEmpty = true then [] else s.sramBadIn a b.length).foldl
      (fun m w => Tab.write 0 m (8 * w) (List.replicate 8 0)) s.sram) a b) a b.length h2
    rw [getD_of_lt h1] at e
    rw [e, Tab.get_write_inside 0 _ a b (Nat.le_add_right a j) (by omega)]
    rw [Nat.add_sub_cancel_left, getD_of_lt h2]

/-- With no uncorrectable word, the MCP reads what is there. -/
theorem mcpRead_eq (s : State) (a n : Nat) (h : s.sramBad = []) : s.mcpRead a n = s.sramRead a n := by
  unfold State.mcpRead State.sramRead
  rw [h]
  apply List.ext_getElem
  · simp [Tab.read_length]
  · intro j h1 h2
    have hj : j < n := by simpa using h1
    have e := Tab.read_getD (0 : Byte) 0 s.sram a n hj
    rw [getD_of_lt h2] at e
    rw [e]
    simp [State.sramByte]

/-- With no word in error, a read changes nothing. -/
theorem sramSeen_eq (s : State) (a n : Nat) (h : s.sramBad = []) (g : s.sramSoft = []) : s.sramSeen a n = s := by
  simp [State.sramSeen, State.sramBadIn, State.sramSoftIn, State.eccFound, h, g]

/-- With no word in error, a read by the MCP changes nothing. -/
theorem afterRead_eq (s : State) (a n : Nat) (h : s.sramBad = []) (g : s.sramSoft = []) : s.afterRead a n = s := by
  simp [State.afterRead, State.sramBadIn, sramSeen_eq s a n h g, h]

/-- With no word in error, a write changes the bytes alone. -/
theorem sramWrite_eq (s : State) (a : Nat) (b : Bytes) (h : s.sramBad = []) (g : s.sramSoft = []) :
    s.sramWrite a b = { s with sram := Tab.write 0 s.sram a b } := by
  simp [State.sramWrite, State.sramBadIn, h, g]

/-- A crumb has 256 bytes. -/
@[simp] theorem CrumbMem.read_length (m : CrumbMem) (i : Nat) : (m.read i).length = 256 := Tab.read_length 0 _ _ _

/-- Consecutive values just written read back. -/
theorem read_write_self (m : Memory) (a : Nat) (b : Bytes) : Tab.read 0 (Tab.write 0 m a b) a b.length = b := by
  apply List.ext_getElem
  · exact Tab.read_length 0 _ a b.length
  · intro j h1 h2
    have e := Tab.read_getD (0 : Byte) 0 (Tab.write 0 m a b) a b.length h2
    rw [getD_of_lt h1] at e
    rw [e, Tab.get_write_inside 0 _ a b (Nat.le_add_right a j) (by omega)]
    rw [Nat.add_sub_cancel_left, getD_of_lt h2]

/-- Consecutive values outside a write stay. -/
theorem read_write_outside (m : Memory) (a : Nat) (b : Bytes) (i n : Nat) (h : i + n ≤ a ∨ a + b.length ≤ i) :
    Tab.read 0 (Tab.write 0 m a b) i n = Tab.read 0 m i n := by
  apply List.ext_getElem
  · simp [Tab.read_length]
  · intro j h1 h2
    have hj : j < n := by simpa [Tab.read_length] using h1
    have e := Tab.read_getD (0 : Byte) 0 (Tab.write 0 m a b) i n hj
    have f := Tab.read_getD (0 : Byte) 0 m i n hj
    rw [getD_of_lt h1] at e
    rw [getD_of_lt h2] at f
    rw [e, f]
    exact Tab.get_write_outside 0 m a b (by omega)

theorem slice_full (b : Bytes) {n : Nat} (h : b.length = n) : slice b 0 n = b := by
  subst h
  simp [slice]

/-- A crumb written whole reads back, and carries its check word (R21). -/
theorem CrumbMem.read_store (m : CrumbMem) (i : Nat) (b : Bytes) (h : b.length = 256) : (m.store i b).read i = b := by
  unfold CrumbMem.store CrumbMem.read
  dsimp only
  rw [slice_full b h]
  have e := read_write_self m.bytes (256 * i) b
  rw [h] at e
  exact e

theorem CrumbMem.check_store (m : CrumbMem) (i : Nat) (b : Bytes) (h : b.length = 256) : (m.store i b).check i = crc16 b := by
  unfold CrumbMem.store CrumbMem.check
  dsimp only
  rw [slice_full b h, Tab.get_set_self]

/-- Whether the crumb is rejected stays with a write by the device (R22, R52). -/
theorem CrumbMem.ok_store (m : CrumbMem) (i : Nat) (b : Bytes) (h : b.length = 256) :
    (m.store i b).ok i = !m.rejected.contains i := by
  unfold CrumbMem.ok
  rw [CrumbMem.read_store m i b h, CrumbMem.check_store m i b h]
  simp [CrumbMem.store]

theorem CrumbMem.read_write (m : CrumbMem) (i : Nat) (b : Bytes) (h : b.length = 256) : (m.write i b).read i = b :=
  CrumbMem.read_store m i b h

theorem CrumbMem.check_write (m : CrumbMem) (i : Nat) (b : Bytes) (h : b.length = 256) : (m.write i b).check i = crc16 b :=
  CrumbMem.check_store m i b h

/-- What the host has written is good. -/
theorem CrumbMem.ok_write (m : CrumbMem) (i : Nat) (b : Bytes) (h : b.length = 256) : (m.write i b).ok i = true := by
  unfold CrumbMem.ok
  rw [CrumbMem.read_write m i b h, CrumbMem.check_write m i b h]
  simp [CrumbMem.write]

/-- A write of one crumb leaves every other crumb. -/
theorem CrumbMem.read_store_ne (m : CrumbMem) {i j : Nat} (b : Bytes) (h : j ≠ i) :
    (m.store i b).read j = m.read j := by
  unfold CrumbMem.store CrumbMem.read
  dsimp only
  refine read_write_outside m.bytes (256 * i) _ (256 * j) 256 ?_
  have e : (slice b 0 256).length = 256 := by simp only [slice, List.length_append, List.length_replicate, List.length_take]; omega
  rw [e]
  omega

theorem CrumbMem.check_store_ne (m : CrumbMem) {i j : Nat} (b : Bytes) (h : j ≠ i) :
    (m.store i b).check j = m.check j := by
  unfold CrumbMem.store CrumbMem.check
  exact Tab.get_set_ne _ _ _ h

theorem CrumbMem.read_write_ne (m : CrumbMem) {i j : Nat} (b : Bytes) (h : j ≠ i) : (m.write i b).read j = m.read j :=
  CrumbMem.read_store_ne m b h

theorem CrumbMem.check_write_ne (m : CrumbMem) {i j : Nat} (b : Bytes) (h : j ≠ i) : (m.write i b).check j = m.check j :=
  CrumbMem.check_store_ne m b h

/-- The data of a capture fill 64 KiB (R63). -/
theorem captureData_length (s : State) (l : Nat) : (s.captureData l).length = 65536 := by
  unfold State.captureData
  rw [List.length_map, List.length_range]

end Sys2Proof.Machine
end

