-- ==== Sys2Proof/Machine/HostCodes.lean ====
section
/-! DEFINITION. The PCS and FEC of the host ports as functions of what they carry (R214, R217): 64b/66b coding, 256b/257b
transcoding, the scrambler, the alignment markers and the RS(544,514) codewords of a port type. The spec names them "as
IEEE 802.3 defines them" and restates none of it, so what is written here is taken from that standard (PRESUMED, log entry
113); the bits of the alignment markers are free constants. No row of the command table moves single blocks, so no command
calls these: they say what the frames and fault sequences of R217 become on the host lanes (log entry 22). -/

namespace Sys2Proof.Machine

/-! ### 64b/66b coding -/

/-- One of the eight octets of a transfer of the reconciliation sublayer: a data octet or a control character. -/
structure MiiOctet where
  control : Bool
  octet   : Byte
  deriving DecidableEq, Repr

def miiIdle : Byte := 0x07
def miiStart : Byte := 0xFB
def miiEnd : Byte := 0xFD
def miiError : Byte := 0xFE
def miiSequence : Byte := 0x9C

/-- A fault sequence ordered set (R217): 1 is the local fault, 2 the remote fault. -/
def faultSequence (kind : Byte) : List MiiOctet :=
  [⟨true, miiSequence⟩, ⟨false, 0⟩, ⟨false, 0⟩, ⟨false, kind⟩] ++ List.replicate 4 ⟨true, miiIdle⟩

/-- Bits of a value in the order of transmission, least significant first. -/
def lsbBits (n v : Nat) : Bits := (bitsOf n v).reverse
/-- The value of bits sent least significant first. -/
def natOfLsb (b : Bits) : Nat := natOf b.reverse
/-- The bits of octets in the order of transmission. -/
def lsbOctets (o : Bytes) : Bits := o.flatMap (fun x => lsbBits 8 x.toNat)

/-- The block type of an end of frame after `n` data octets. -/
def endType (n : Nat) : Byte := ([0x87, 0x99, 0xAA, 0xB4, 0xCC, 0xD2, 0xE1, 0xFF] : Bytes).getD n 0xFF

/-- The seven-bit code of a control character: idle, or an error. -/
def controlCode (o : Byte) : Nat := if o = miiIdle then 0 else 0x1E

/-- A control block: its sync header, type and 56 bits. -/
def controlBlock (type : Byte) (rest : Bits) : Bits :=
  [true, false] ++ lsbBits 8 type.toNat ++ (rest ++ List.replicate 56 false).take 56

/-- The block of eight control characters. -/
def controlsBlock (m : List MiiOctet) : Bits := controlBlock 0x1E (m.flatMap (fun c => lsbBits 7 (controlCode c.octet)))

/-- The block that stands for a transfer with no code of its own. -/
def errorBlock : Bits := controlsBlock (List.replicate 8 ⟨true, miiError⟩)

/-- A 66-bit block of a transfer of eight octets. -/
def encode66 (m : List MiiOctet) : Bits :=
  let data := m.takeWhile (fun c => !c.control)
  let rest := m.drop data.length
  let first := (m.headD ⟨true, miiError⟩).octet
  if m.length ≠ 8 then errorBlock
  else if rest.isEmpty then [false, true] ++ lsbOctets (data.map (·.octet))
  else if data.isEmpty && first == miiStart && (m.drop 1).all (fun c => !c.control) then
    controlBlock 0x78 (lsbOctets ((m.drop 1).map (·.octet)))
  else if data.isEmpty && first == miiSequence && ((m.drop 1).take 3).all (fun c => !c.control) then
    controlBlock 0x4B (lsbOctets (((m.drop 1).take 3).map (·.octet)))
  else if (rest.headD ⟨true, miiError⟩).octet == miiEnd && (rest.drop 1).all (·.control) then
    controlBlock (endType data.length) (lsbOctets (data.map (·.octet)) ++ List.replicate (7 - data.length) false
      ++ (rest.drop 1).flatMap (fun c => lsbBits 7 (controlCode c.octet)))
  else if m.all (·.control) then controlsBlock m
  else errorBlock

/-- The octets of `n` times eight bits. -/
def octetsLsb (b : Bits) : Bytes := (chunks 8 b).map (fun x => BitVec.ofNat 8 (natOfLsb x))

/-- A control character from its seven-bit code. -/
def controlOf (c : Nat) : MiiOctet := ⟨true, if c = 0 then miiIdle else miiError⟩

/-- The transfer of a 66-bit block; a block with an invalid header or type is eight errors. -/
def decode66 (b : Bits) : List MiiOctet :=
  let body := b.drop 2
  let type : Byte := BitVec.ofNat 8 (natOfLsb (body.take 8))
  let rest := body.drop 8
  let octets (n : Nat) : List MiiOctet := (octetsLsb (rest.take (8 * n))).map (fun o => ⟨false, o⟩)
  let ends := (List.range 8).find? (fun n => endType n == type)
  if b.take 2 = [false, true] then (octetsLsb body).map (fun o => ⟨false, o⟩)
  else if b.take 2 ≠ [true, false] then List.replicate 8 ⟨true, miiError⟩
  else if type = 0x78 then ⟨true, miiStart⟩ :: octets 7
  else if type = 0x4B then ⟨true, miiSequence⟩ :: octets 3 ++ List.replicate 4 ⟨true, miiIdle⟩
  else if type = 0x1E then (chunks 7 rest).map (fun c => controlOf (natOfLsb c))
  else match ends with
    | some n => octets n ++ ⟨true, miiEnd⟩ :: List.replicate (7 - n) ⟨true, miiIdle⟩
    | none => List.replicate 8 ⟨true, miiError⟩

/-! ### Transcoding and scrambling -/

/-- A block carries data. -/
def isData66 (b : Bits) : Bool := b.take 2 == [false, true]

/-- Four 66-bit blocks as one of 257 bits: a first bit of 1 says that all carry data; otherwise the second half of the
first control block's type makes room for the four kinds. -/
def transcode (bs : List Bits) : Bits :=
  if bs.all isData66 then true :: bs.flatMap (·.drop 2)
  else
    let c := (bs.takeWhile isData66).length
    [false] ++ bs.map isData66 ++ bs.zipIdx.flatMap (fun p =>
      if p.2 = c then (p.1.drop 2).take 4 ++ p.1.drop 10 else p.1.drop 2)

/-- The type whose first half, as sent, is these four bits. -/
def typeOfHalf (h : Bits) : Byte :=
  (([0x1E, 0x78, 0x4B, 0x87, 0x99, 0xAA, 0xB4, 0xCC, 0xD2, 0xE1, 0xFF] : Bytes).find?
    (fun t => (lsbBits 8 t.toNat).take 4 == h)).getD 0

/-- The four blocks of a block of 257 bits. -/
def untranscode (b : Bits) : List Bits :=
  if b.headD false then (chunks 64 (b.drop 1)).map (fun p => [false, true] ++ p)
  else
    let kinds := (b.drop 1).take 4
    let c := (kinds.takeWhile id).length
    let body := b.drop 5
    let at_ := 64 * c
    let full := body.take at_ ++ lsbBits 8 (typeOfHalf ((body.drop at_).take 4)).toNat ++ body.drop (at_ + 4)
    List.zipWith (fun k p => (if k then [false, true] else [true, false]) ++ p) kinds (chunks 64 full)

/-- The self-synchronising scrambler 1 + x^39 + x^58; the state holds the last 58 bits sent. -/
def scramble58 : Nat → Bits → Bits
  | _, [] => []
  | st, b :: r =>
    let o := b != (st.testBit 38 != st.testBit 57)
    o :: scramble58 ((2 * st + o.toNat) % 2 ^ 58) r

/-- The descrambler; the state holds the last 58 bits received. -/
def descramble58 : Nat → Bits → Bits
  | _, [] => []
  | st, b :: r => (b != (st.testBit 38 != st.testBit 57)) :: descramble58 ((2 * st + b.toNat) % 2 ^ 58) r

/-! ### Codewords and lanes -/

/-- PCS lanes of a port of `w` host lanes: 8 to 200GBASE-R, 16 to 400GBASE-R, 32 to 800GBASE-R, and 16 to 1.6TBASE-R. -/
def pcsLanes (w : Nat) : Nat := if w = 1 then 8 else if w = 4 then 32 else 16

/-- Codewords interleaved with each other: 2, and 4 from 800GBASE-R on. -/
def interleaved (w : Nat) : Nat := if w ≤ 2 then 2 else 4

/-- Symbols dealt to `n` messages in turn. -/
def dealt (n : Nat) (l : List Nat) : List (List Nat) :=
  (List.range n).map (fun i => (l.zipIdx.filter (fun p => p.2 % n == i)).map (·.1))

/-- The codewords of a group: its message symbols dealt to them in turn, each encoded by R128's RS(544,514). -/
def codewordGroup (w : Nat) (bits : Bits) : List (List Nat) := (dealt (interleaved w) (rsSymbols bits)).map rsEncode

/-- The symbol of a codeword group that PCS lane `lane` carries in row `row`: the codewords take turns, and change places
from row to row. -/
def laneSymbol (w : Nat) (cws : List (List Nat)) (lane row : Nat) : Nat :=
  let n := interleaved w
  let per := pcsLanes w / n
  (cws.getD ((lane + row) % n) []).getD (row * per + lane / n) 0

/-- The symbols of each PCS lane for a codeword group. -/
def pcsDistribute (w : Nat) (cws : List (List Nat)) : List (List Nat) :=
  let rows := 544 * interleaved w / pcsLanes w
  (List.range (pcsLanes w)).map (fun l => (List.range rows).map (laneSymbol w cws l))

/-- The codewords of PCS lanes in their order. -/
def pcsCollect (w : Nat) (lanes : List (List Nat)) : List (List Nat) :=
  let n := interleaved w
  let per := pcsLanes w / n
  (List.range n).map (fun c => (List.range 544).map (fun i =>
    let row := i / per
    let lane := n * (i % per) + (c + n - row % n) % n
    (lanes.getD lane []).getD row 0))

/-- PCS lanes that host lane `k` of a port carries, bit by bit in turn (R213). -/
def hostLaneGroup (w k : Nat) : List Nat :=
  let per := pcsLanes w / w
  (List.range per).map (k * per + ·)

/-- The bits of host lane `k`: those of its PCS lanes, each in the order of transmission, taking turns. -/
def hostLaneBits (w k : Nat) (lanes : List (List Nat)) : Bits :=
  let ls := (hostLaneGroup w k).map (fun l => rsBits (lanes.getD l []))
  (List.range (ls.headD []).length).flatMap (fun i => ls.map (fun b => b.getD i false))

/-- The bit streams of the PCS lanes on a host lane. -/
def hostLaneParts (w : Nat) (bits : Bits) : List Bits :=
  let per := pcsLanes w / w
  (List.range per).map (fun j => (bits.zipIdx.filter (fun p => p.2 % per == j)).map (·.1))

/-! ### Alignment markers -/

/-- The marker of a PCS lane: 120 bits. -/
def laneMarker (w l : Nat) : Bits := (List.range 120).map (Config.markerBit w l)

/-- Of every so many codeword groups the first begins with markers. -/
def markerGroups (w : Nat) : Nat := if w = 1 then 2048 else 4096

/-- The bits that markers take at the front of a group: those of the lanes and a pad, in whole blocks of 257 bits. -/
def markerLength (w : Nat) : Nat := 257 * (pcsLanes w / 2)

/-- The markers as the front of a group's message: dealt to codewords and then to lanes, each lane gets its own twelve
symbols first. They are not scrambled. -/
def markerFront (w : Nat) : Bits :=
  let n := interleaved w
  let per := pcsLanes w
  (List.range (12 * per)).flatMap (fun k =>
    let row := k / per
    let q := k % per
    ((laneMarker w (n * (q / n) + (q % n + n - row % n) % n)).drop (10 * row)).take 10)
  ++ (List.range (markerLength w - 120 * per)).map (Config.markerPad w)

/-- A group's message: what is sent in it, behind the markers in a group that begins with them. -/
def withMarkers (w : Nat) (marked : Bool) (bits : Bits) : Bits := if marked then markerFront w ++ bits else bits
/-- A group's message with the markers taken out. -/
def withoutMarkers (w : Nat) (marked : Bool) (bits : Bits) : Bits := if marked then bits.drop (markerLength w) else bits

/-- Bits stand for a lane's marker: at most three of its groups of four bits differ. -/
def isMarker (w l : Nat) (bits : Bits) : Bool :=
  decide (120 ≤ bits.length) && decide (((chunks 4 (laneMarker w l)).zip (chunks 4 (bits.take 120))).countP (fun p => p.1 != p.2) ≤ 3)

/-- The lane whose marker stands at the front of bits. -/
def markedLane (w : Nat) (bits : Bits) : Option Nat := (List.range (pcsLanes w)).find? (fun l => isMarker w l bits)

/-- Bits of a PCS lane from one marker to the next. -/
def markerPeriod (w : Nat) : Nat := 10 * (544 * interleaved w / pcsLanes w) * markerGroups w

/-- Marker lock of a received PCS lane: its number and where its marker stands, the same at that place and one period
later. -/
def markerLock (w : Nat) (bits : Bits) : Option (Nat × Nat) :=
  (List.range (markerPeriod w)).findSome? (fun o =>
    match markedLane w (bits.drop o) with
    | some l => if isMarker w l (bits.drop (o + markerPeriod w)) then some (l, o) else none
    | none => none)

/-- Received PCS lanes deskewed and put in their order: each begins at its marker; none unless every lane is found once. -/
def pcsAlign (w : Nat) (streams : List Bits) : Option (List (List Nat)) :=
  let found := streams.filterMap (fun b => (markerLock w b).map (fun p => (p.1, b.drop p.2)))
  let lanes := (List.range (pcsLanes w)).filterMap (fun l => found.find? (fun p => p.1 == l))
  if lanes.length = pcsLanes w ∧ found.length = pcsLanes w then some (lanes.map (fun p => rsSymbols p.2)) else none

/-! ### A port's path -/

/-- A transmit group of a port: transfers to the symbols of its PCS lanes (R214). -/
def pcsTransmit (w scr : Nat) (marked : Bool) (transfers : List (List MiiOctet)) : List (List Nat) :=
  let blocks := (chunks 4 (transfers.map encode66)).map transcode
  pcsDistribute w (codewordGroup w (withMarkers w marked (scramble58 scr (blocks.flatMap id))))

/-- A received group of a port: its transfers, all of them errors when a codeword was uncorrectable (error indication is
always on, and correction is never bypassed). -/
def pcsReceive (w scr : Nat) (marked : Bool) (lanes : List (List Nat)) : List (List MiiOctet) :=
  let cws := pcsCollect w lanes
  let msgs := cws.map rsMessage
  let bits := withoutMarkers w marked (rsBits ((List.range 514).flatMap (fun i => msgs.map (fun m => m.getD i 0))))
  let transfers := ((chunks 257 (descramble58 scr bits)).flatMap untranscode).map decode66
  if cws.all (fun c => (rsDecode c).isSome) then transfers
  else transfers.map (fun _ => List.replicate 8 ⟨true, miiError⟩)

/-- The first group that a port receives on PCS lanes in any order and with any skew: it begins with markers (R214). -/
def pcsReceiveFirst (w scr : Nat) (streams : List Bits) : Option (List (List MiiOctet)) :=
  (pcsAlign w streams).map (fun lanes => pcsReceive w scr true (lanes.map (·.take (544 * interleaved w / pcsLanes w))))

end Sys2Proof.Machine
end

