-- ==== Sys2Proof/WellFormed.lean ====
section
/-! DEFINITION. Well-formed commands: what the spec lets a sender of the command give at all. A Parax command with
a value out of range is well formed: the device answers it (R404). What is checked here is what could not arrive:
an SPI transfer of more words than LEN gives, an Icing payload longer than a frame, an octet string of the wrong
fixed size, a count that its type in the layout cannot carry. -/

namespace Sys2Proof

/-- The fixed sizes of the octet strings that a command carries by its layout (chapter 15 and the row's rule). -/
def Instr.sizeOk : Instr → Bool
  | .laneAdapt _ _ _ a t => a.length == 3 && t.length == 3
  | .txFirSet _ taps => taps.length == 9
  | .txPdWrite _ t => t.length == 64
  | .frameTraceSet _ t => t.length == 16
  | .clientSet _ e => e.length == 16
  | .streamAdd _ c => c.length == 56
  | .streamWrite _ _ c => c.length == 56
  | .streamFind k => k.length == 10
  | .hostLaneEq _ _ taps _ _ _ => taps.length == 5
  | .biasConfig _ _ r _ => r.length == 16
  | .monFilterSet _ r => r.length == 16
  | .calRun _ _ _ set _ => set.length == 24
  | .calStore _ _ _ label => label.length == 32
  | .pwrWatchConfig _ _ _ _ c => c.length == 112
  | .frameGccSend _ n d => d.length == n.toNat
  | .icingMsgSend _ _ _ n d => d.length == n.toNat
  | _ => true

/-- The transfers and messages that an arriving command can carry (R368, R236, R133, R126). -/
def Instr.arrivalOk : Instr → Bool
  | .spiRead _ _ n begun => decide (begun ≤ n.toNat + 1)
  | .mfLock _ h => h.first.length == 4 && h.second.length == 96
  | .overheadHeaderReceive _ h _ => h.length == 96
  | .receiveSlotRoute _ e _ => e.length == 10
  | .receiveMapBlock _ o _ => o.length == 32
  | .probeMeasureDone _ p => p.sums.length == 255
  | .icingFrameEnd _ info _ _ => decide (info.length ≤ 257)
  | .discoveryReceive _ _ p _ _ => p.length == 11
  | .levelReportReceive _ _ p => p.length == 14
  | .pdFbReqReceive _ _ p => p.length == 2
  | .pdFbReceive _ _ p => p.length == 139
  | .modeReqReceive _ _ p => p.length == 4
  | .modeAckReceive _ _ p => p.length == 3
  | .modeCancelReceive _ _ p => p.length == 2
  | .tierReqReceive _ _ p => p.length == 4
  | .tierAckReceive _ _ p => p.length == 3
  | .genMsgReceive _ _ p _ _ _ _ => decide (2 ≤ p.length) && decide (p.length ≤ 249)
  | .bitTableReceive _ _ r => r.length == 140 || r.length == 139
  | .adaptUpdate _ f c _ => (f.length == 56 && c.length == 32) || (f.length == 32 && c.length == 510)
  | .fifoWander r w => decide (r.toNat < 25) && decide (w.toNat ≤ 4)
  | _ => true

/-- A command that can reach the device. -/
def Instr.wf (i : Instr) : Bool := i.sizeOk && i.arrivalOk

end Sys2Proof
end

