-- ==== Sys2Proof/Tests/Slice0.lean ====
section
/-! SUPPORT. Tests of the model: examples that the spec works out, terms that WellFormed refuses, and for every
obligation with hypotheses the states and operands that meet them, clause by clause. -/

namespace Sys2Proof.Tests

set_option Elab.async false
set_option linter.unusedVariables false

open Sys2Proof.Machine

/-! ### Examples worked out in the spec -/

/-- The ASCII bytes "123456789". -/
def ascii9 : Bytes := [0x31, 0x32, 0x33, 0x34, 0x35, 0x36, 0x37, 0x38, 0x39]

/-- R20: the check of the CRC-16 is 0x29B1. -/
theorem test_crc16 : crc16 ascii9 = 0x29B1 := by decide +kernel

/-- R172: the check of HCRC is 0xA1. -/
theorem test_crc8 : crc8 ascii9 = 0xA1 := by decide +kernel

/-- Chapter 00, Identifiers: slot W.200 is 712, slot 8 of lane W3 (lane 11). -/
theorem test_slot_w200 : laneOfSlot 712 = 11 ∧ 712 % 64 = 8 := by decide

/-- The loop of chapter 10's worked example: limits 13,107 and 52,428, KI = −60, VMAX = 40. -/
def quadrature : Loop :=
  { words := [0, 0, 0, 0, 0x464CCC00, 0x474CCC00, 0x464CCC00, 0x474CCC00, 0, 0xC2700000, 0, 0, 0, 0, 0, 0,
      0, 0x42200000, 0, 0, 0, 0, 0, 0, 0x42100000, 0, 0, 0x46CCCC00, 0, 0x42100000, 0x46CCCC00, 0x400] }

/-- Chapter 10, worked example, frame 269: R = max(36 − 40, 0) = 0, e = −36, and I = U = 26,214 + 2,160 = 28,374. -/
theorem test_quadrature :
    (quadrature.lawFrame { y := 0x42100000, tSet := 0, tOut := 0 }).map
      (fun p => (p.1.w 24, p.2, p.1.w 27, p.1.w 30)) = some (0, 0xC2100000, 0x46DDAC00, 0x46DDAC00) := by
  decide +kernel

/-- Chapter 10, worked example, frame 0: from R = 0 with VMAX = 200 toward 26,214 the slew path computes R = 200. -/
theorem test_slew :
    (({ words := ((List.replicate 32 0).set 16 0x46CCCC00).set 17 0x43480000 } : Loop).openFrame
      { y := 0, tSet := 0, tOut := 0 }).map (fun l => l.w 24) = some 0x43480000 := by
  decide +kernel

/-- Chapter 17, bus census: the broadcast of 0x5CE6_0001 to GCTL_SCRATCH, DCRC over its four bytes. -/
theorem test_broadcast :
    (match exec (.spiBroadcastWrite 0x1C 0 (le32 0x5CE60001 ++ [crc8 (le32 0x5CE60001)]))
        { sys := { tier0 := true } } with
      | .next t => t.sys.scratch == 0x5CE60001 && !t.spi.prevFail
      | _ => false) = true := by
  decide +kernel

/-- The queue's front is run, and the queue keeps its rest. -/
theorem test_front :
    (match step { pending := [.resetNFall, .rsynLock] } with
      | .next t => t.sys.inReset && t.pending == [.rsynLock]
      | _ => false) = true := by
  decide +kernel

/-- VDD_AON_RESTART outside the order of R372: from there a command stops (R339), and a fall of RESET_N does not (R442). -/
theorem test_supply_order :
    (match exec (.vddAonRestart 0 0 false) { sys := { inReset := true, aonDown := true } } with
      | .next t => (match exec .rsynLock t with | .fault .supplyOrder => true | _ => false)
          && (match exec .resetNFall t with | .next u => u.pwr.supplyOk && u.sys.resetLow | _ => false)
      | _ => false) = true := by
  decide +kernel

/-- R368: a header's bits are OP, DEV and the address, most significant byte first. -/
theorem test_spi_header :
    let h : Bytes := [0b01000101, 0x02, 0x00, 0x08, 0]
    spiCommand (h ++ [crc8 h] ++ [1, 2, 3, 4, 5]) 0 = some (.spiWrite 5 0x020008 0 [1, 2, 3, 4, 5])
      ∧ spiCommand [0b11000101, 0, 0, 0, 0, crc8 [0b11000101, 0, 0, 0, 0]] 0 = some (.spiReservedOp 5)
      ∧ spiCommand [0b00000101, 0, 0, 0, 0] 0 = none := by
  decide +kernel

/-! ### What WellFormed refuses -/

/-- For each check of sizeOk, a term that it refuses. -/
theorem test_sizes_refused :
    [Instr.laneAdapt 0 0 1 [] [6, 6, 6], .laneAdapt 0 0 1 [6, 6, 6] [], .txFirSet 0 [], .txPdWrite 0 [],
      .frameTraceSet 0 [], .clientSet 0 [], .streamAdd 0 [], .streamWrite 0 0 [], .streamFind [],
      .hostLaneEq 0 0 [] 0 0 0, .biasConfig 0 0 [] 0, .monFilterSet 0 [], .calRun 0 0 0 [] 0, .calStore 0 0 0 [],
      .pwrWatchConfig 0 0 0 0 [], .frameGccSend 0 1 [], .icingMsgSend 0 0 0 1 []].any Instr.wf = false := by decide

/-- For each check of arrivalOk, a term that it refuses. -/
theorem test_arrivals_refused :
    [Instr.spiRead 0 0 0 2, .mfLock 0 {}, .overheadHeaderReceive 0 [] true, .receiveSlotRoute 0 [] true,
      .receiveMapBlock 0 [] false, .probeMeasureDone 0 {}, .icingFrameEnd 0 (List.replicate 258 0) 0 0,
      .discoveryReceive 0 0 [] 0 0, .levelReportReceive 0 0 [], .pdFbReqReceive 0 0 [], .pdFbReceive 0 0 [],
      .modeReqReceive 0 0 [], .modeAckReceive 0 0 [], .modeCancelReceive 0 0 [], .tierReqReceive 0 0 [],
      .tierAckReceive 0 0 [], .genMsgReceive 0 0 [0] 0 0 0 false, .genMsgReceive 0 0 (List.replicate 250 0) 0 0 0 false,
      .bitTableReceive 0 0 [], .adaptUpdate 0 [] [] 0, .fifoWander 25 0, .fifoWander 0 5].any Instr.wf = false := by
  decide +kernel

/-- Terms that it takes. -/
theorem test_well_formed :
    [Instr.resetNFall, .txFirSet 0 [0, 0, 64, 0, 0, 0, 0, 0, 0], .spiRead 0 0 0 1, .fifoWander 24 4,
      .modeReqReceive 0 0 [0, 0, 0, 0]].all Instr.wf = true := by decide

/-! ### The line codes -/

/-- Chapter 03, worked example: taps −4, 52, −6, 2 at −18 dB give A = 12 codes; chapter 04: A = 5 with the defaults. -/
theorem test_icing_amplitude :
    icingAmpData [0, -4, 52, -6, 2, 0, 0, 0, 0] (-18) = 12 ∧ icingAmpStretch 28 (-18) = 5 := by decide +kernel

/-- Chapter 03, FIR: with the default taps the level +3 maps to code 108. -/
theorem test_dac_code :
    dacCode (firOut [0, 0, 64, 0, 0, 0, 0, 0, 0] [3] 0) 0 0 = (108, false) := by decide +kernel

/-- Chapter 09, airtime table: 146 bytes are 99 codewords and 396 symbols at grade 6; 17 bytes, 13 and 35 at grade 9. -/
theorem test_icing_symbols :
    codewordsOf 146 = 99 ∧ bodyLength 6 99 = 396 ∧ codewordsOf 17 = 13 ∧ bodyLength 9 13 = 35 := by decide +kernel

/-- R97: the 8-level Gray code. -/
theorem test_gray8 :
    [gray8 false false false, gray8 false true true, gray8 true true false, gray8 true false false]
      = [-7, -3, 1, 7] := by decide +kernel

/-- R306: an island of 0.75 V reads code 8,192. -/
theorem test_island_scale : monSource 209 = .island 1 ∧ monQuantity 209 (8192 * 256) = (6291456, 8388608) := by
  decide +kernel

/-! ### Witnesses: one theorem for each obligation, one conjunct for each of its clauses -/

set_option maxRecDepth 100000

/-- A device in ACTIVE with every domain powered, firmware running, Tier 1 and the mailbox synchronised. -/
def device : State :=
  { sys := { rsynLock := true, fwRun := true, fwEver := true, tier0 := true, tier := 1 }
    mbx := { mode := .fw, sync := true }
    pwr := { domains := BitVec.allOnes 88, holdResume := false }
    streams := { ready := true }
    nodeAddr := 0x0101 }

/-- The next state of an outcome. -/
def nextOf (o : Host.Outcome State Fault Refusal) : State := match o with | .next t => t | _ => device

/-- The outcome is a next state. -/
def isNext (o : Host.Outcome State Fault Refusal) : Bool := match o with | .next _ => true | _ => false

theorem next_of {c : Instr} {s : State} (h : isNext (exec c s) = true) : Completes c s (nextOf (exec c s)) := by
  unfold Completes
  cases e : exec c s <;> simp_all [isNext, nextOf]

theorem answers_of {c : Instr} {op : Nat} {st : Status} {p : Bytes} {s : State} (h : isNext (exec c s) = true)
    (hr : (nextOf (exec c s)).resp = { opcode := BitVec.ofNat 16 op, status := st.code, payload := p }) :
    Answers c op st p s (nextOf (exec c s)) := by
  unfold Answers
  rw [← hr]
  exact next_of h

/-- A multiframe header with this FMT. -/
def header (fmt : Byte) : Bytes :=
  let body : Bytes := [0, fmt, 0, 0, 0, 0x11] ++ List.replicate 84 0
  [0xE4, 0xA7, 0x2D, 0x1B] ++ body ++ be16 (crc16 body)

/-- A message of one octet on the general communication channel. -/
def gcc : Bytes := [1, 0, 0] ++ be16 (crc16 [1, 0, 0])

/-- A frame of 72 octets with this type and this host tag. -/
def tagged (t tag : Nat) : Bytes :=
  let body := List.replicate 12 0 ++ beN 2 t ++ beN 6 tag ++ List.replicate 48 0
  body ++ fcsOf body

/-- The two segments of a table with six bits on every tone and 4 slots. -/
def seg0 : Bytes :=
  [9, 15, 0, 4] ++ beN 2 1530 ++ beN 2 0 ++ beN 2 1 ++ be16 (crc16 (List.replicate 255 0xC0)) ++ List.replicate 128 0xC0

def seg1 : Bytes :=
  [9, 15, 1, 4] ++ beN 2 1530 ++ beN 2 0 ++ beN 2 129 ++ be16 (crc16 (List.replicate 255 0xC0)) ++ List.replicate 127 0xC0

def fin0 : FrameIn := { y := 0, tSet := 0, tOut := 0 }

theorem slice_mid (a b c : Bytes) {i n : Nat} (hi : a.length = i) (hn : b.length = n) : slice (a ++ (b ++ c)) i n = b := by
  subst hi hn
  simp [slice]

theorem ofLe_leN (n v : Nat) : ofLe (leN n v) = v % 256 ^ n := by
  induction n generalizing v with
  | zero => simp [leN, ofLe, Nat.mod_one]
  | succ n ih => rw [leN, ofLe, ih, Nat.pow_succ', Nat.mod_mul]; simp

theorem leN_length (n v : Nat) : (leN n v).length = n := by
  induction n generalizing v with
  | zero => rfl
  | succ n ih => simp [leN, ih]

/-- Zero bytes. -/
@[irreducible] def zeros (n : Nat) : Bytes := List.replicate n 0

theorem zeros_length (n : Nat) : (zeros n).length = n := by unfold zeros; simp

/-- MAGIC and VERSION of a trim image. -/
def imageHead : Bytes := [0x52, 0x53, 0x43, 0x41]

def imageVersion : Bytes := [1, 0, 0, 0]

/-- A trim image of this device, but for its check. -/
@[irreducible] def imageBody : Bytes := imageHead ++ (imageVersion ++ (leN 8 Config.dieId.toNat ++ zeros 8174))

theorem imageBody_eq : imageBody = imageHead ++ (imageVersion ++ (leN 8 Config.dieId.toNat ++ zeros 8174)) := by
  unfold imageBody; rfl

/-- A trim image that passes the checks of R325. -/
@[irreducible] def goodImage : Bytes := imageBody ++ (leN 2 (crc16 imageBody).toNat ++ [])

theorem goodImage_eq : goodImage = imageBody ++ (leN 2 (crc16 imageBody).toNat ++ []) := by unfold goodImage; rfl

theorem imageBody_length : imageBody.length = 8190 := by
  rw [imageBody_eq]; simp only [List.length_append, leN_length, zeros_length]; decide

theorem goodImage_length : goodImage.length = 0x2000 := by
  rw [goodImage_eq]; simp only [List.length_append, leN_length, imageBody_length]; decide

theorem good_split : goodImage = (imageHead ++ imageVersion) ++ (leN 8 Config.dieId.toNat ++ (zeros 8174 ++ leN 2 (crc16 imageBody).toNat)) := by
  rw [goodImage_eq, imageBody_eq]; simp only [List.append_assoc, List.append_nil]

theorem good_magic : w32At goodImage 0 = 0x41435352 := by
  have h : goodImage = [] ++ (imageHead ++ (imageVersion ++ (leN 8 Config.dieId.toNat ++ (zeros 8174 ++ leN 2 (crc16 imageBody).toNat)))) := by
    rw [good_split, List.append_assoc, List.nil_append]
  rw [w32At, leAt, h, slice_mid [] imageHead _ (i := 0) (n := 4) rfl rfl]; decide

theorem good_die : w64At goodImage 8 = Config.dieId := by
  rw [w64At, leAt, good_split, slice_mid _ _ _ (i := 8) (by decide) (leN_length 8 _), ofLe_leN,
    Nat.mod_eq_of_lt (by have := Config.dieId.isLt; omega)]
  rw [BitVec.ofNat_toNat, BitVec.setWidth_eq]

theorem good_body : imgBody goodImage = imageBody := by
  have e : goodImage = [] ++ (imageBody ++ (leN 2 (crc16 imageBody).toNat ++ [])) := by rw [goodImage_eq, List.nil_append]
  rw [imgBody, e]
  exact slice_mid [] imageBody _ (i := 0) rfl imageBody_length

theorem good_crc : imgCrc goodImage = crc16 imageBody := by
  rw [imgCrc, w16At, leAt, goodImage_eq, slice_mid _ _ _ imageBody_length (leN_length 2 _), ofLe_leN,
    Nat.mod_eq_of_lt (by have := (crc16 imageBody).isLt; omega)]
  rw [BitVec.ofNat_toNat, BitVec.setWidth_eq]

theorem good_image : imageCheck goodImage = none := by
  rw [imageCheck, good_magic, good_die, good_body, good_crc]
  simp

theorem good_image_at (a : Nat) : imageCheck (Tab.read 0 (Tab.write 0 [] a goodImage) a 0x2000) = none := by
  rw [← goodImage_length, read_write_self]
  exact good_image

theorem stored_image {s : State} (h : s.cal.nvm = Tab.write 0 [] 0 goodImage) : imageCheck s.nvmImage = none := by
  rw [State.nvmImage, h]
  exact good_image_at 0

theorem host_image {s : State} {a n : Nat} (h : s.sram = Tab.write 0 [] a goodImage) (hn : n = 0x2000) :
    imageCheck (s.sramRead a n) = none := by
  rw [State.sramRead, h, hn]
  exact good_image_at a

theorem host_version {s : State} {a : Nat} (h : s.sram = Tab.write 0 [] a goodImage) : s.sramByte (a + 4) = 1 := by
  rw [State.sramByte, h, Tab.get_write_inside _ _ _ _ (by omega) (by rw [goodImage_length]; omega)]
  have e : a + 4 - a = 4 := by omega
  have g : goodImage = imageHead ++ (imageVersion ++ ((leN 8 Config.dieId.toNat ++ zeros 8174) ++ leN 2 (crc16 imageBody).toNat)) := by
    rw [goodImage_eq, imageBody_eq]; simp only [List.append_assoc, List.append_nil]
  rw [e, g]
  rfl

theorem store_ok {s : State} {f : Bool} (h1 : s.writeCount = 0) (h2 : (s.cal.exported || f) = true)
    (h3 : (s.pwr.holdLow || s.cal.store.isSome) = false) : s.storeCheck 0 (Config.dieId.setWidth 32) f = none := by
  simp [State.storeCheck, h1, h2, h3]

theorem four_ones {k a : Nat} (h1 : a ≤ k) (h2 : k < a + 4) : Tab.get 0 [(a, 1), (a + 1, 1), (a + 2, 1), (a + 3, 1)] k = (1 : Byte) := by
  have : k = a ∨ k = a + 1 ∨ k = a + 2 ∨ k = a + 3 := by omega
  rcases this with rfl | rfl | rfl | rfl <;> simp [Tab.get]

/-- Twelve tones of 27 dB. -/
def snr0 : List Int := List.replicate 12 7000

theorem loads : ∃ t b, loadTable 768 4 snr0 = some t ∧ b ∈ t.bits := by
  have h : ((loadTable 768 4 snr0).map (fun t => t.bits.isEmpty)) = some false := by decide +kernel
  cases e : loadTable 768 4 snr0 with
  | none => rw [e] at h; cases h
  | some t =>
    cases e2 : t.bits with
    | nil => rw [e] at h; simp [e2] at h
    | cons b r => exact ⟨t, b, rfl, by simp [e2]⟩

/-- Calendars whose copy B of face West has slot 510 THROUGH and slot 511 an ADD of client 0. -/
def commitMem : CrumbMem := ({} : CrumbMem).write 31 (List.replicate 251 0 ++ [0x60, 0, 0, 0, 0x40])

/-- A device whose copy B of face West can be committed. -/
def commitable : State := { device with calMem := commitMem, client := [(0, { entry := 1 :: List.replicate 15 0 })] }

theorem crumbs_clean : ((List.range 8).map (calCrumb 1 1)).filter (fun i => !commitMem.ok i) = [] := by decide +kernel

theorem commit_clean : commitCheck 1 commitable = none := by
  have h : commitable.badCalCrumbs 1 1 = [] := crumbs_clean
  unfold commitCheck
  simp only [show (otherCopy (commitable.faceAt 1).active).toNat = 1 from rfl, h]
  decide +kernel

theorem commit_inactive : commitCheck 1 { device with calMem := commitMem } = some .clientInactive := by
  have h : State.badCalCrumbs { device with calMem := commitMem } 1 1 = [] := crumbs_clean
  unfold commitCheck
  simp only [show (otherCopy (State.faceAt { device with calMem := commitMem } 1).active).toNat = 1 from rfl, h]
  decide +kernel

theorem commits : (nextOf (exec (.calCommit 1 0 0) commitable)).resp.status = Status.ok.code := by
  have h : exec (.calCommit 1 0 0) commitable =
      .next (Reply.record 0x0504 ((cmdCalCommit 1 0 0 commitable).reply 0x0504 commitable)) := rfl
  rw [h]
  simp only [nextOf, Cmd.reply, cmdCalCommit, show BitVec.toNat (1 : Byte) = 1 from rfl, commit_clean]
  decide +kernel

theorem witness_NeighbourLimits :
    (∃ (s : State), Live s ∧ s.sys.rsynLock = true ∧ s.coreOn 0 = true) ∧
    (∃ (s : State) (r : Byte) (w : BitVec 3), Live s ∧ s.sys.rsynLock = true ∧ s.crossing (BitVec.toNat r) = true ∧
      w.toNat ≤ 2) ∧
    (∃ (s : State) (r : Byte), Live s ∧ s.sys.rsynLock = true ∧ s.crossing (BitVec.toNat r) = true ∧ BitVec.toNat r <
      16) :=
  ⟨⟨device, rfl, by decide +kernel⟩,
  ⟨device, 0, 2, rfl, by decide +kernel⟩,
  ⟨device, 15, rfl, by decide +kernel⟩⟩

theorem witness_LaneConfigFields :
    (∃ (s : State) (lane : Byte) (m : W16) (cls : Byte) (pre : Byte) (sd : Byte) (agc : Byte) (ech : Byte) (soft :
      Byte) (eqf : W16) (kp : Byte) (ki : Byte) (upd : Byte) (irej : Byte), BitVec.toNat lane < 16 ∧ Takes 257 s ∧
      BitVec.toNat m < 2048 ∧ BitVec.toNat cls ≤ 3 ∧ BitVec.toNat pre ≤ 2 ∧ 1 ≤ BitVec.toNat sd ∧ BitVec.toNat sd ≤ 8
      ∧ 16 ≤ BitVec.toNat agc ∧ BitVec.toNat agc ≤ 64 ∧ (ech = 0 ∨ -45 ≤ BitVec.toInt ech ∧ BitVec.toInt ech ≤ -30) ∧
      BitVec.toNat soft ≤ 15 ∧ 4 ≤ BitVec.toNat kp ∧ BitVec.toNat kp ≤ 12 ∧ 10 ≤ BitVec.toNat ki ∧ BitVec.toNat ki ≤
      20 ∧ BitVec.toNat upd ≤ 8 ∧ BitVec.toNat irej ≤ 1) ∧
    (∃ (s : State) (lane : Byte), BitVec.toNat lane < 16 ∧ Takes 260 s) ∧
    (∃ (s : State) (lane : Byte), BitVec.toNat lane < 16 ∧ Takes 261 s) :=
  ⟨⟨device, 15, 2047, 3, 2, 8, 64, 0, 15, 0, 12, 20, 8, 1, by decide, ⟨by decide, by decide⟩, by decide, by decide, by
    decide, by decide, by decide, by decide, by decide +kernel⟩,
  ⟨device, 15, by decide, ⟨by decide, by decide⟩⟩,
  ⟨device, 15, by decide, ⟨by decide, by decide⟩⟩⟩

theorem witness_LaneAdaptSearchCapture :
    (∃ (s : State) (lane : Byte) (fr : Byte) (a : Bytes) (k : Bytes), BitVec.toNat lane < 16 ∧ Takes 262 s ∧
      BitVec.toNat fr < 8 ∧ List.length a = 3 ∧ List.length k = 3 ∧ (∀ (x : Byte), x ∈ a → 6 ≤ BitVec.toNat x ∧
      BitVec.toNat x ≤ 20) ∧ (∀ (x : Byte), x ∈ k → 6 ≤ BitVec.toNat x ∧ BitVec.toNat x ≤ 20)) ∧
    (∃ (s : State) (lane : Byte), BitVec.toNat lane < 16 ∧ Takes 266 s ∧ s.rxOn (BitVec.toNat lane) = true ∧ (s.rxAt
      (BitVec.toNat lane)).st = RxSt.locked) ∧
    (∃ (s : State) (lane : Byte) (src : Byte) (mode : Byte) (stride : W32) (trg : Byte) (pre : Byte), BitVec.toNat
      lane < 16 ∧ Takes 267 s ∧ s.rxOn (BitVec.toNat lane) = true ∧ BitVec.toNat src ≤ 4 ∧ BitVec.toNat mode ≤ 1 ∧ 1 ≤
      BitVec.toNat stride ∧ BitVec.toNat stride ≤ 65536 ∧ BitVec.toNat trg ≤ 5 ∧ BitVec.toNat pre ≤ 7) :=
  ⟨⟨device, 15, 7, [6, 13, 20], [6, 13, 20], by decide, ⟨by decide, by decide⟩, by decide +kernel⟩,
  ⟨{ device with rx := [(15, { st := RxSt.locked })] }, 15, by decide, ⟨by decide, by decide⟩, by decide +kernel⟩,
  ⟨device, 15, 4, 1, 65536, 5, 7, by decide, ⟨by decide, by decide⟩, by decide +kernel⟩⟩

theorem witness_LaneStartStop :
    (∃ (s : State) (l : BitVec 4) (lane : Byte) (r : Rx), BitVec.toNat lane = l.toNat ∧ s.rxAt l.toNat = r ∧ Takes 258
      s ∧ s.rxOn l.toNat = true ∧ r.st = RxSt.off ∧ r.sigDetect = false) ∧
    (∃ (s : State) (l : BitVec 4) (lane : Byte) (r : Rx), BitVec.toNat lane = l.toNat ∧ s.rxAt l.toNat = r ∧ Takes 258
      s ∧ s.rxOn l.toNat = true ∧ r.st ≠ RxSt.off) ∧
    (∃ (s : State) (l : BitVec 4) (lane : Byte) (r : Rx), BitVec.toNat lane = l.toNat ∧ s.rxAt l.toNat = r ∧ Takes 259
      s ∧ s.rxOn l.toNat = true ∧ r.snapBusy = false) ∧
    (∃ (s : State) (l : BitVec 4) (lane : Byte) (r : Rx), BitVec.toNat lane = l.toNat ∧ s.rxAt l.toNat = r ∧ Live s ∧
      s.rxOn l.toNat = true ∧ r.sigDetect = false ∧ r.st = RxSt.waitSignal ∧ r.backoff = false ∧ (s.txAt
      l.toNat).check.on = false ∧ s.bank.ok (bankCrumb l.toNat 0) = true ∧ hdrValid (s.bankRead l.toNat 0) = false) ∧
    (∃ (s : State) (l : BitVec 4) (lane : Byte) (r : Rx), BitVec.toNat lane = l.toNat ∧ s.rxAt l.toNat = r ∧ Live s ∧
      s.rxOn l.toNat = true ∧ r.sigDetect = true ∧ r.st = RxSt.align ∧ (s.txAt l.toNat).check.locked = false) ∧
    (∃ (s : State) (l : BitVec 4) (lane : Byte) (r : Rx), BitVec.toNat lane = l.toNat ∧ s.rxAt l.toNat = r ∧ Live s ∧
      r.st = RxSt.waitSignal ∧ r.backoff = true ∧ r.sigDetect = false) :=
  ⟨⟨{ device with rx := [(15, { st := RxSt.off, sigDetect := false })] }, 15, 15, _, by decide, rfl, ⟨by decide, by
    decide⟩, by decide +kernel⟩,
  ⟨{ device with rx := [(15, { st := RxSt.parked })] }, 15, 15, _, by decide, rfl, ⟨by decide, by decide⟩,
    by decide +kernel⟩,
  ⟨{ device with rx := [(15, { snapBusy := false })] }, 15, 15, _, by decide, rfl, ⟨by decide, by decide⟩,
    by decide +kernel⟩,
  ⟨{ device with rx := [(15, { sigDetect := false, st := RxSt.waitSignal, backoff := false })] }, 15, 15, _, by
    decide, rfl, rfl, by decide +kernel⟩,
  ⟨{ device with rx := [(15, { sigDetect := true, st := RxSt.align })], tx := [(15, { check := { locked := false } })] },
    15, 15, _, by decide, rfl, rfl, by decide +kernel⟩,
  ⟨{ device with rx := [(15, { st := RxSt.waitSignal, backoff := true, sigDetect := false })] }, 15, 15, _, by decide,
    rfl, rfl, by decide +kernel⟩⟩

theorem witness_AcquisitionStates :
    (∃ (s : State) (l : BitVec 4) (r : Rx) (ms : Ratio), Live s ∧ s.rxAt l.toNat = r ∧ r.st = RxSt.agc ∧ 0 <
      r.coef.pga ∧ r.coef.pga < 60 ∧ rmsOff 10 (BitVec.toNat r.use.agcTarget) ms = false ∧ r.agcRun = 3) ∧
    (∃ (s : State) (l : BitVec 4) (r : Rx) (ms : Ratio), Live s ∧ s.rxAt l.toNat = r ∧ r.st = RxSt.agc ∧ 12 <
      r.coef.pga ∧ r.coef.pga < 60 ∧ rmsAbove 60 (BitVec.toNat r.use.agcTarget) ms = true ∧ r.agcRun < 3) ∧
    (∃ (s : State) (l : BitVec 4) (r : Rx) (ms : Ratio), Live s ∧ s.rxAt l.toNat = r ∧ r.st = RxSt.agc ∧ 0 <
      r.coef.pga ∧ r.coef.pga < 60 ∧ rmsOff 60 (BitVec.toNat r.use.agcTarget) ms = false ∧ rmsAbove 10 (BitVec.toNat
      r.use.agcTarget) ms = true) ∧
    (∃ (s : State) (l : BitVec 4) (r : Rx) (ms : Ratio), Live s ∧ s.rxAt l.toNat = r ∧ r.st = RxSt.agc ∧ (r.coef.pga =
      0 ∨ r.coef.pga = 60) ∧ rmsOff 60 (BitVec.toNat r.use.agcTarget) ms = false) ∧
    (∃ (s : State) (l : BitVec 4) (r : Rx) (f : W16), Live s ∧ s.rxAt l.toNat = r ∧ r.st = RxSt.timing ∧ -12800 ≤
      BitVec.toInt f ∧ BitVec.toInt f ≤ 12800) ∧
    (∃ (s : State) (l : BitVec 4) (r : Rx), Live s ∧ s.rxAt l.toNat = r ∧ r.st = RxSt.ffeAdapt ∧ r.stretch = false ∧
      r.use.echoLimit.isSome = true) ∧
    (∃ (s : State) (l : BitVec 4) (r : Rx), Live s ∧ s.rxAt l.toNat = r ∧ r.st = RxSt.ffeAdapt ∧ r.stretch = false ∧
      r.use.cls = 3) ∧
    (∃ (s : State) (l : BitVec 4) (r : Rx) (es : List (Nat × Int)), Live s ∧ s.rxAt l.toNat = r ∧ r.st =
      RxSt.echoSearch ∧ r.echo.pass < 63) ∧
    (∃ (s : State) (l : BitVec 4) (r : Rx) (es : List (Nat × Int)), Live s ∧ s.rxAt l.toNat = r ∧ r.st =
      RxSt.echoSearch ∧ r.echo.pass = 63 ∧ r.use.echoLimit.isSome = true) ∧
    (∃ (s : State) (l : BitVec 4) (r : Rx), Live s ∧ s.rxAt l.toNat = r ∧ r.st = RxSt.echoSearch ∧ r.echo.placed =
      true) ∧
    (∃ (s : State) (l : BitVec 4) (r : Rx), Live s ∧ s.rxAt l.toNat = r ∧ r.st = RxSt.mlsdTrain ∧ r.stretch = false ∧
      (s.txAt l.toNat).check.on = false) ∧
    (∃ (s : State) (l : BitVec 4) (r : Rx), Live s ∧ s.rxAt l.toNat = r ∧ r.st = RxSt.mlsdTrain ∧ r.stretch = false ∧
      (s.txAt l.toNat).check.on = true) ∧
    (∃ (s : State) (l : BitVec 4) (r : Rx), Live s ∧ s.rxAt l.toNat = r ∧ r.st = RxSt.align ∧ r.stretch = false ∧
      r.use.precode = 2 ∧ r.otherTried = false) ∧
    (∃ (s : State) (l : BitVec 4) (r : Rx) (near : Nat) (es : List Nat), Live s ∧ s.rxAt l.toNat = r ∧ r.st =
      RxSt.align ∧ 192 ≤ near ∧ near ≤ 256 ∧ es.length = 4 ∧ (∀ (e : Nat), e ∈ es → e ≤ 8)) ∧
    (∃ (s : State) (l : BitVec 4) (r : Rx), Live s ∧ s.rxAt l.toNat = r ∧ r.st = RxSt.seededAdapt) :=
  ⟨⟨{ device with rx := [(15, { st := RxSt.agc, coef := { pga := 1 }, agcRun := 3 })] }, 15, _, { num := 1024 }, rfl,
    rfl, by decide +kernel⟩,
  ⟨{ device with rx := [(15, { st := RxSt.agc, coef := { pga := 13 }, agcRun := 2 })] }, 15, _, { num := 5120 }, rfl,
    rfl, by decide +kernel⟩,
  ⟨{ device with rx := [(15, { st := RxSt.agc, coef := { pga := 1 } })] }, 15, _, { num := 2048 }, rfl, rfl,
    by decide +kernel⟩,
  ⟨{ device with rx := [(15, { st := RxSt.agc, coef := { pga := 0 } })] }, 15, _, { num := 1024 }, rfl, rfl,
    by decide +kernel⟩,
  ⟨{ device with rx := [(15, { st := RxSt.timing })] }, 15, _, 0, rfl, rfl, by decide +kernel⟩,
  ⟨{ device with rx := [(15, { st := RxSt.ffeAdapt, stretch := false })] }, 15, _, rfl, rfl, by decide +kernel⟩,
  ⟨{ device with rx := [(15, { st := RxSt.ffeAdapt, stretch := false, use := { cls := 3 } })] }, 15, _, rfl, rfl,
    by decide +kernel⟩,
  ⟨{ device with rx := [(15, { st := RxSt.echoSearch, echo := { pass := 62 } })] }, 15, _, [], rfl, rfl,
    by decide +kernel⟩,
  ⟨{ device with rx := [(15, { st := RxSt.echoSearch, echo := { pass := 63 } })] }, 15, _, [], rfl, rfl,
    by decide +kernel⟩,
  ⟨{ device with rx := [(15, { st := RxSt.echoSearch, echo := { placed := true } })] }, 15, _, rfl, rfl,
    by decide +kernel⟩,
  ⟨{ device with rx := [(15, { st := RxSt.mlsdTrain, stretch := false })] }, 15, _, rfl, rfl, by decide +kernel⟩,
  ⟨{ device with tx := [(15, { check := { on := true } })], rx := [(15, { st := RxSt.mlsdTrain, stretch := false })] },
    15, _, rfl, rfl, by decide +kernel⟩,
  ⟨{ device with rx := [(15, { st := RxSt.align, stretch := false, use := { precode := 2 }, otherTried := false })] },
    15, _, rfl, rfl, by decide +kernel⟩,
  ⟨{ device with rx := [(15, { st := RxSt.align })] }, 15, _, 256, (List.replicate 4 8), rfl, rfl, by decide +kernel⟩,
  ⟨{ device with rx := [(15, { st := RxSt.seededAdapt })] }, 15, _, rfl, rfl, by decide⟩⟩

theorem witness_WarmRelockAndLock :
    (∃ (s : State) (l : BitVec 4) (r : Rx), Live s ∧ s.rxAt l.toNat = r ∧ r.st = RxSt.warmVerify ∧ r.verifying = false
      ∧ r.stretch = false ∧ s.badBank l.toNat [0, 1, 2] = []) ∧
    (∃ (s : State) (l : BitVec 4) (r : Rx), Live s ∧ s.rxAt l.toNat = r ∧ r.st = RxSt.warmVerify ∧ r.verifying = false
      ∧ r.stretch = false ∧ s.badBank l.toNat [0, 1, 2] ≠ []) ∧
    (∃ (s : State) (l : BitVec 4) (r : Rx) (mse : W32) (ids : List Byte), Live s ∧ s.rxAt l.toNat = r ∧ r.st =
      RxSt.warmVerify ∧ r.verifying = true ∧ r.stretch = false ∧ mseOver 3 mse (hdrMse (s.bankRead l.toNat 0)) =
      false) ∧
    (∃ (s : State) (l : BitVec 4) (r : Rx) (mse : W32) (ids : List Byte), Live s ∧ s.rxAt l.toNat = r ∧ r.st =
      RxSt.warmVerify ∧ r.verifying = true ∧ r.stretch = false ∧ mseOver 3 mse (hdrMse (s.bankRead l.toNat 0)) = true) ∧
    (∃ (s : State) (l : BitVec 4) (r : Rx) (x : StartSeen), Live s ∧ s.rxAt l.toNat = r ∧ r.st = RxSt.mfSearch ∧
      syncErrors x.first ≤ 2 ∧ x.apart = 16 * s.rxS l.toNat ∧ headerValid x.second x.ok = true ∧ byteAt x.second 5 =
      s.ownFmt l.toNat ∧ (r.stretch = true → x.fromSync = 0)) :=
  ⟨⟨{ device with rx := [(15, { st := RxSt.warmVerify, verifying := false, stretch := false })] }, 15, _, rfl, rfl,
    by decide +kernel⟩,
  ⟨{ device with bank := { rejected := [482] }, rx := [(15, { st := RxSt.warmVerify, verifying := false, stretch := false })] },
    15, _, rfl, rfl, by decide +kernel⟩,
  ⟨{ device with rx := [(15, { st := RxSt.warmVerify, verifying := true, stretch := false })] }, 15, _, 0, [], rfl,
    rfl, by decide +kernel⟩,
  ⟨{ device with bank := (({} : CrumbMem).write 480 (0x5A :: List.replicate 9 0 ++ [0x80, 0x3F] ++ List.replicate 244 0)), rx := [(15, { st := RxSt.warmVerify, verifying := true, stretch := false })] },
    15, _, 0x41000000, [], rfl, rfl, by decide +kernel⟩,
  ⟨{ device with rx := [(15, { stretch := false, st := RxSt.mfSearch })] }, 15, _,
    { first := (header 0x5F).take 4, second := header 0x5F, apart := 512, ok := true }, rfl, rfl, by decide, by
    decide, by decide, by decide +kernel, by decide, fun e => (nomatch e)⟩⟩

theorem witness_RetriesAndLosses :
    (∃ (s : State) (l : BitVec 4) (r : Rx), Live s ∧ s.rxAt l.toNat = r ∧ r.st = RxSt.timing ∧ r.path = RxPath.cold ∧
      s.checking l.toNat = false ∧ r.retries < 7) ∧
    (∃ (s : State) (l : BitVec 4) (r : Rx), Live s ∧ s.rxAt l.toNat = r ∧ r.st = RxSt.timing ∧ r.path = RxPath.cold ∧
      s.checking l.toNat = false ∧ r.retries = 7) ∧
    (∃ (s : State) (l : BitVec 4) (r : Rx), Live s ∧ s.rxAt l.toNat = r ∧ r.st = RxSt.timing ∧ r.path = RxPath.warm ∧
      s.checking l.toNat = false) ∧
    (∃ (s : State) (l : BitVec 4) (r : Rx) (c : BitVec 2) (f : W16) (run : Nat), Live s ∧ s.rxAt l.toNat = r ∧ r.st =
      RxSt.locked ∧ r.snapBusy = false ∧ r.sigDetect = false ∧ (c = 0 ∨ c = 1 ∧ (12800 ≤ (BitVec.toInt f).natAbs ∨ 8 ≤
      run) ∨ c = 2 ∧ 64 ≤ run) ∧ (s.turnAt l.toNat).await = false) ∧
    (∃ (s : State) (l : BitVec 4) (r : Rx) (c : BitVec 2), Live s ∧ s.rxAt l.toNat = r ∧ r.loss = some c) ∧
    (∃ (s : State) (l : BitVec 4) (r : Rx), Live s ∧ s.rxAt l.toNat = r ∧ r.snapBusy = true ∧ r.defStop = false ∧
      r.defLoss = none ∧ r.defMode = none) ∧
    (∃ (s : State) (l : BitVec 4) (r : Rx), Live s ∧ s.rxAt l.toNat = r ∧ r.snapBusy = true ∧ r.defStop = true) :=
  ⟨⟨{ device with rx := [(15, { st := RxSt.timing, path := RxPath.cold, retries := 6 })] }, 15, _, rfl, rfl,
    by decide +kernel⟩,
  ⟨{ device with rx := [(15, { st := RxSt.timing, path := RxPath.cold, retries := 7 })] }, 15, _, rfl, rfl,
    by decide +kernel⟩,
  ⟨{ device with rx := [(15, { st := RxSt.timing, path := RxPath.warm })] }, 15, _, rfl, rfl, by decide +kernel⟩,
  ⟨{ device with rx := [(15, { st := RxSt.locked, snapBusy := false, sigDetect := false })], tierp := { device.tierp with lanes := [(15, { await := false })] } },
    15, _, 0, 0, 0, rfl, rfl, by decide +kernel⟩,
  ⟨{ device with rx := [(15, { loss := some 0 })] }, 15, _, 0, rfl, rfl, by decide⟩,
  ⟨{ device with rx := [(15, { snapBusy := true, defStop := false, defLoss := none, defMode := none })] }, 15, _, rfl,
    rfl, by decide +kernel⟩,
  ⟨{ device with rx := [(15, { snapBusy := true, defStop := true })] }, 15, _, rfl, rfl, by decide +kernel⟩⟩

theorem witness_InLocked :
    (∃ (s : State) (l : BitVec 4) (r : Rx) (f : List Int) (c : List Int) (a : Int), Live s ∧ s.rxAt l.toNat = r ∧
      s.rxOn l.toNat = true ∧ r.st = RxSt.locked ∧ r.stretch = false ∧ r.guard.frozen = true) ∧
    (∃ (s : State) (l : BitVec 4) (r : Rx) (f : List Int) (c : List Int) (a : Int), Live s ∧ s.rxAt l.toNat = r ∧
      s.rxOn l.toNat = true ∧ r.st = RxSt.locked ∧ r.stretch = false ∧ r.freeze = 0 ∧ r.lossFrozen = false ∧
      r.guard.frozen = false ∧ s.cal.frozen = false ∧ s.checking l.toNat = false ∧ r.coef.ffe.length = 56) ∧
    (∃ (s : State) (l : BitVec 4) (r : Rx) (g : BitVec 2) (d : Nat), Live s ∧ s.rxAt l.toNat = r ∧ List.find? (fun p
      => p.fst == g.toNat && p.snd.fst == 0) r.echo.ramps = some (g.toNat, 0, d) ∧ g.toNat < r.coef.groups.length) ∧
    (∃ (s : State) (l : BitVec 4) (r : Rx) (mse : W32) (id : Byte) (fec : FecCounts), Live s ∧ s.rxAt l.toNat = r ∧
      r.st = RxSt.locked ∧ r.stretch = false ∧ r.guard.mseRun < 3 ∧ r.guard.satHit = false ∧ longestRun (s.framerAt
      l.toNat).uncorrRun fec < 64) ∧
    (∃ (s : State) (l : BitVec 4) (r : Rx) (mse : W32) (id : Byte) (fec : FecCounts), Live s ∧ s.rxAt l.toNat = r ∧
      r.st = RxSt.locked ∧ r.stretch = false ∧ r.guard.frozen = false ∧ r.guard.mseRun = 3 ∧ s.hasSnap l.toNat = true
      ∧ s.badBank l.toNat [1, 2] = [] ∧ r.guard.trips = [] ∧ mseOver 6 mse (hdrMse (s.bankRead l.toNat 0)) = true ∧
      longestRun (s.framerAt l.toNat).uncorrRun fec < 64) ∧
    (∃ (s : State) (l : BitVec 4) (r : Rx) (q : QualityMeas), Live s ∧ s.rxAt l.toNat = r ∧ r.st = RxSt.locked ∧
      r.stretch = false ∧ r.guard.mfs = 64) ∧
    (∃ (s : State) (l : BitVec 4) (r : Rx) (c : Capture), Live s ∧ s.rxAt l.toNat = r ∧ s.rxOn l.toNat = true ∧
      r.cap.armed = some c ∧ r.cap.running = none ∧ c.trigger ≠ 5) ∧
    (∃ (s : State) (l : BitVec 4) (r : Rx) (c : Capture), Live s ∧ s.rxAt l.toNat = r ∧ r.cap.running = some c) :=
  ⟨⟨{ device with rx := [(15, { st := RxSt.locked, stretch := false, guard := { frozen := true } })] }, 15, _, [], [],
    0, rfl, rfl, by decide +kernel⟩,
  ⟨{ device with rx := [(15, { st := RxSt.locked, stretch := false, freeze := 0, lossFrozen := false, guard := { frozen := false } })] },
    15, _, [], [], 0, rfl, rfl, by decide +kernel⟩,
  ⟨{ device with rx := [(15, { echo := { ramps := [(3, 0, 1023)] } })] }, 15, _, 3, 1023, rfl, rfl, by decide +kernel⟩,
  ⟨{ device with rx := [(15, { st := RxSt.locked, stretch := false, guard := { mseRun := 2, satHit := false } })] },
    15, _, 0, 0, {}, rfl, rfl, by decide +kernel⟩,
  ⟨{ device with bank := (({} : CrumbMem).write 480 (0x5A :: List.replicate 9 0 ++ [0x80, 0x3F] ++ List.replicate 244 0)), rx := [(15, { st := RxSt.locked, stretch := false, guard := { frozen := false, mseRun := 3, trips := [] } })] },
    15, _, 0x41000000, 0, {}, rfl, rfl, by decide +kernel⟩,
  ⟨{ device with rx := [(15, { st := RxSt.locked, stretch := false, guard := { mfs := 64 } })] }, 15, _, {}, rfl, rfl,
    by decide +kernel⟩,
  ⟨{ device with rx := [(15, { cap := { armed := (some {}), running := none } })] }, 15, _, _, rfl, rfl, by decide,
    rfl, by decide +kernel⟩,
  ⟨{ device with rx := [(15, { cap := { running := (some {}) } })] }, 15, _, _, rfl, rfl, rfl⟩⟩

theorem witness_LaneBankCommands :
    (∃ (s : State) (lane : Byte) (first : Byte) (count : Byte) (buf : W32), BitVec.toNat lane < 16 ∧ s.rxOn
      (BitVec.toNat lane) = true ∧ Takes 263 s ∧ 1 ≤ BitVec.toNat count ∧ BitVec.toNat first + BitVec.toNat count ≤ 32
      ∧ bufOk buf (258 * BitVec.toNat count) = true ∧ buf ≠ 0) ∧
    (∃ (s : State) (lane : Byte) (first : Byte) (count : Byte) (buf : W32), BitVec.toNat lane < 16 ∧ s.rxOn
      (BitVec.toNat lane) = true ∧ Takes 263 s ∧ 1 ≤ BitVec.toNat count ∧ BitVec.toNat first + BitVec.toNat count ≤ 32
      ∧ buf = 0) ∧
    (∃ (s : State) (lane : Byte) (first : Byte) (count : Byte) (buf : W32), BitVec.toNat lane < 16 ∧ s.rxOn
      (BitVec.toNat lane) = true ∧ Takes 264 s ∧ s.sramBad = [] ∧ s.sramSoft = [] ∧ 1 ≤ BitVec.toNat count ∧
      BitVec.toNat first + BitVec.toNat count ≤ 32 ∧ bufOk buf (256 * BitVec.toNat count) = true ∧ buf ≠ 0 ∧ ((s.rxAt
      (BitVec.toNat lane)).st = RxSt.off ∨ (s.rxAt (BitVec.toNat lane)).freeze = 7) ∧ (first = 0 ∨ s.bank.ok
      (bankCrumb (BitVec.toNat lane) 0) = true)) ∧
    (∃ (s : State) (lane : Byte) (first : Byte) (count : Byte) (buf : W32), BitVec.toNat lane < 16 ∧ s.rxOn
      (BitVec.toNat lane) = true ∧ Takes 264 s ∧ 1 ≤ BitVec.toNat count ∧ BitVec.toNat first + BitVec.toNat count ≤ 32
      ∧ bufOk buf (256 * BitVec.toNat count) = true ∧ buf ≠ 0 ∧ (s.rxAt (BitVec.toNat lane)).st = RxSt.off ∧ first ≠ 0
      ∧ s.bank.ok (bankCrumb (BitVec.toNat lane) 0) = false) ∧
    (∃ (s : State) (lane : Byte) (dst : Byte), BitVec.toNat lane < 16 ∧ s.rxOn (BitVec.toNat lane) = true ∧
      BitVec.toNat dst < 16 ∧ s.rxOn (BitVec.toNat dst) = true ∧ Takes 265 s ∧ (s.rxAt (BitVec.toNat dst)).st =
      RxSt.off ∧ s.badBank (BitVec.toNat lane) [0, 1, 2, 3] = []) ∧
    (∃ (s : State) (lane : Byte) (dst : Byte), BitVec.toNat lane < 16 ∧ s.rxOn (BitVec.toNat lane) = true ∧
      BitVec.toNat dst < 16 ∧ s.rxOn (BitVec.toNat dst) = true ∧ Takes 265 s ∧ (s.rxAt (BitVec.toNat dst)).st ≠
      RxSt.off) :=
  ⟨⟨device, 15, 0, 1, 1081344, by decide, by decide, ⟨by decide, by decide⟩, by decide +kernel⟩,
  ⟨device, 15, 0, 1, 0, by decide, by decide, ⟨by decide, by decide⟩, by decide +kernel⟩,
  ⟨{ device with bank := { rejected := [480] }, sramSoft := [], rx := [(15, { st := RxSt.off })] }, 15, 0, 1, 1081344,
    by decide, by decide, ⟨by decide, by decide⟩, by decide +kernel⟩,
  ⟨{ device with bank := { rejected := [480] }, rx := [(15, { st := RxSt.off })] }, 15, 1, 1, 1081344, by decide, by
    decide, ⟨by decide, by decide⟩, by decide +kernel⟩,
  ⟨{ device with rx := [(14, { st := RxSt.off })] }, 15, 14, by decide, by decide, by decide, by decide, ⟨by decide,
    by decide⟩, by decide +kernel⟩,
  ⟨{ device with rx := [(15, { st := RxSt.locked })] }, 15, 15, by decide, by decide, by decide, by decide, ⟨by
    decide, by decide⟩, by decide⟩⟩

theorem witness_FirTaps :
    (∃ (s : State) (lane : Byte) (taps : Bytes), BitVec.toNat lane < 16 ∧ List.length taps = 9 ∧ Takes 516 s ∧
      (List.map (fun b => (BitVec.toInt b).natAbs) taps).sum ≤ 64 ∧ 16 ≤ BitVec.toInt (byteAt taps 2) ∧ s.txOn
      (BitVec.toNat lane) = true) ∧
    (∃ (s : State) (lane : Byte) (taps : Bytes), BitVec.toNat lane < 16 ∧ List.length taps = 9 ∧ Takes 516 s ∧
      (List.map (fun b => (BitVec.toInt b).natAbs) taps).sum ≤ 64 ∧ 16 ≤ BitVec.toInt (byteAt taps 2) ∧ s.txOn
      (BitVec.toNat lane) = false) ∧
    (∃ (s : State) (lane : Byte) (taps : Bytes), BitVec.toNat lane < 16 ∧ List.length taps = 9 ∧ Takes 516 s ∧ (64 <
      (List.map (fun b => (BitVec.toInt b).natAbs) taps).sum ∨ BitVec.toInt (byteAt taps 2) < 16)) :=
  ⟨⟨device, 15, [0, 0, 64, 0, 0, 0, 0, 0, 0], by decide, by decide, ⟨by decide, by decide⟩, by decide +kernel⟩,
  ⟨{ device with pwr := { device.pwr with domains := 0xFFFFFF3FFFFFFFFFFFFFFF } }, 15, [-8, -8, 16, -8, -8, -8, -8, 0,
    0], by decide, by decide, ⟨by decide, by decide⟩, by decide +kernel⟩,
  ⟨device, 15, [-1, 0, 64, 0, 0, 0, 0, 0, 0], by decide, by decide, ⟨by decide, by decide⟩, by decide⟩⟩

theorem witness_TxSettings :
    (∃ (s : State) (lane : Byte) (x : Tx) (m : Byte) (p : Byte) (lev : Byte), BitVec.toNat lane < 16 ∧ s.txAt
      (BitVec.toNat lane) = x ∧ Takes 513 s ∧ s.txOn (BitVec.toNat lane) = true ∧ BitVec.toNat m < 4 ∧ (bitOf m 0 =
      true → BitVec.toNat p ≤ 1) ∧ (bitOf m 1 = true → -24 ≤ BitVec.toInt lev ∧ BitVec.toInt lev ≤ -12)) ∧
    (∃ (s : State) (lane : Byte) (x : Tx) (tab : Bytes), BitVec.toNat lane < 16 ∧ s.txAt (BitVec.toNat lane) = x ∧
      Takes 517 s ∧ s.txOn (BitVec.toNat lane) = true ∧ List.length tab = 64 ∧ (∀ (b : Byte), b ∈ tab → -32 ≤
      BitVec.toInt b ∧ BitVec.toInt b ≤ 31)) ∧
    (∃ (s : State) (lane : Byte) (x : Tx), BitVec.toNat lane < 16 ∧ s.txAt (BitVec.toNat lane) = x ∧ Takes 518 s) ∧
    (∃ (s : State) (lane : Byte) (x : Tx) (w : Byte), BitVec.toNat lane < 16 ∧ s.txAt (BitVec.toNat lane) = x ∧ Takes
      520 s ∧ BitVec.toNat w ≤ 31) ∧
    (∃ (s : State) (lane : Byte) (x : Tx) (m : Byte) (c : Byte) (f : Byte), BitVec.toNat lane < 16 ∧ s.txAt
      (BitVec.toNat lane) = x ∧ Takes 521 s ∧ BitVec.toNat m < 4 ∧ (bitOf m 1 = true → BitVec.toNat f ≤ 63) ∧ (bitOf m
      0 = true → BitVec.toNat c ≠ x.set.coarse → x.st = TxSt.hiz ∨ x.st = TxSt.quiet ∨ x.st = TxSt.fault)) ∧
    (∃ (s : State) (lane : Byte) (x : Tx) (m : Byte) (c : Byte) (f : Byte), BitVec.toNat lane < 16 ∧ s.txAt
      (BitVec.toNat lane) = x ∧ Takes 521 s ∧ BitVec.toNat m < 4 ∧ bitOf m 0 = true ∧ (bitOf m 1 = true → BitVec.toNat
      f ≤ 63) ∧ (x.st = TxSt.data ∨ x.st = TxSt.pattern ∨ x.st = TxSt.icingOnly) ∧ BitVec.toNat c ≠ x.set.coarse) ∧
    (∃ (s : State) (lane : Byte) (x : Tx), BitVec.toNat lane < 16 ∧ s.txAt (BitVec.toNat lane) = x ∧ Takes 522 s ∧
      x.st ≠ TxSt.data ∧ x.st ≠ TxSt.pattern) ∧
    (∃ (s : State) (lane : Byte) (x : Tx), BitVec.toNat lane < 16 ∧ s.txAt (BitVec.toNat lane) = x ∧ Takes 522 s ∧
      (x.st = TxSt.data ∨ x.st = TxSt.pattern) ∧ x.clipNow ≤ codesPerPeriod x.half) :=
  ⟨⟨device, 15, _, 3, 0, (-12), by decide, rfl, ⟨by decide, by decide⟩, by decide +kernel⟩,
  ⟨device, 15, _, (List.replicate 63 (-32) ++ [31]), by decide, rfl, ⟨by decide, by decide⟩, by decide +kernel⟩,
  ⟨device, 15, _, by decide, rfl, ⟨by decide, by decide⟩⟩,
  ⟨device, 15, _, 31, by decide, rfl, ⟨by decide, by decide⟩, by decide⟩,
  ⟨device, 15, _, 3, 0, 0, by decide, rfl, ⟨by decide, by decide⟩, by decide +kernel⟩,
  ⟨{ device with tx := [(15, { st := TxSt.data })] }, 15, _, 3, 1, 0, by decide, rfl, ⟨by decide, by decide⟩,
    by decide +kernel⟩,
  ⟨device, 15, _, by decide, rfl, ⟨by decide, by decide⟩, by decide +kernel⟩,
  ⟨{ device with tx := [(15, { st := TxSt.data })] }, 15, _, by decide, rfl, ⟨by decide, by decide⟩,
    by decide +kernel⟩⟩

theorem witness_TxTransitions :
    (∃ (s : State) (lane : Byte) (x : Tx), BitVec.toNat lane < 16 ∧ s.txAt (BitVec.toNat lane) = x ∧ Takes 514 s ∧
      s.txTakes (BitVec.toNat lane) = true ∧ s.stopped 4 = false ∧ (x.st = TxSt.quiet ∨ x.st = TxSt.icingOnly) ∧
      s.icLane (faceOf (BitVec.toNat lane)) = BitVec.toNat lane) ∧
    (∃ (s : State) (lane : Byte) (x : Tx), BitVec.toNat lane < 16 ∧ s.txAt (BitVec.toNat lane) = x ∧ Takes 514 s ∧
      s.txTakes (BitVec.toNat lane) = true ∧ s.stopped 4 = false ∧ (x.st = TxSt.quiet ∨ x.st = TxSt.icingOnly) ∧
      s.icLane (faceOf (BitVec.toNat lane)) ≠ BitVec.toNat lane) ∧
    (∃ (s : State) (lane : Byte) (x : Tx) (m : Byte), BitVec.toNat lane < 16 ∧ s.txAt (BitVec.toNat lane) = x ∧ Takes
      514 s ∧ s.txTakes (BitVec.toNat lane) = true ∧ s.stopped 4 = false ∧ BitVec.toNat m ≤ 1 ∧ x.st = TxSt.data) ∧
    (∃ (s : State) (lane : Byte) (x : Tx), BitVec.toNat lane < 16 ∧ s.txAt (BitVec.toNat lane) = x ∧ Takes 515 s ∧
      s.txTakes (BitVec.toNat lane) = true ∧ x.st = TxSt.icingOnly) ∧
    (∃ (s : State) (lane : Byte) (x : Tx), BitVec.toNat lane < 16 ∧ s.txAt (BitVec.toNat lane) = x ∧ Takes 515 s ∧
      s.txTakes (BitVec.toNat lane) = true ∧ x.st = TxSt.fault ∧ (s.faceAt (faceOf (BitVec.toNat lane))).faultIn =
      true) ∧
    (∃ (s : State) (lane : Byte) (x : Tx), BitVec.toNat lane < 16 ∧ s.txAt (BitVec.toNat lane) = x ∧ Takes 515 s ∧
      s.txTakes (BitVec.toNat lane) = true ∧ x.st = TxSt.fault ∧ (s.faceAt (faceOf (BitVec.toNat lane))).faultIn =
      false) ∧
    (∃ (s : State) (lane : Byte) (x : Tx) (pat : Byte) (ovr : Byte), BitVec.toNat lane < 16 ∧ s.txAt (BitVec.toNat
      lane) = x ∧ Takes 523 s ∧ s.txTakes (BitVec.toNat lane) = true ∧ BitVec.toNat pat ≤ 3 ∧ BitVec.toNat ovr ≤ 2 ∧
      (x.st = TxSt.data ∨ x.st = TxSt.quiet ∨ x.st = TxSt.icingOnly)) ∧
    (∃ (s : State) (lane : Byte) (x : Tx) (pt : Byte), BitVec.toNat lane < 16 ∧ s.txAt (BitVec.toNat lane) = x ∧ Takes
      526 s ∧ BitVec.toNat pt ≤ 2 ∧ (s.rxAt (BitVec.toNat lane)).st = RxSt.off ∧ x.st = TxSt.quiet) ∧
    (∃ (s : State) (lane : Byte) (x : Tx) (pt : Byte), BitVec.toNat lane < 16 ∧ s.txAt (BitVec.toNat lane) = x ∧ Takes
      526 s ∧ BitVec.toNat pt ≤ 3 ∧ x.st = TxSt.data) :=
  ⟨⟨{ device with icing := [(1, { lane := 7 })], tx := [(15, { st := TxSt.quiet })] }, 15, _, by decide, rfl, ⟨by
    decide, by decide⟩, by decide +kernel⟩,
  ⟨{ device with tx := [(15, { st := TxSt.quiet })] }, 15, _, by decide, rfl, ⟨by decide, by decide⟩,
    by decide +kernel⟩,
  ⟨{ device with tx := [(15, { st := TxSt.data })] }, 15, _, 1, by decide, rfl, ⟨by decide, by decide⟩,
    by decide +kernel⟩,
  ⟨{ device with tx := [(15, { st := TxSt.icingOnly })] }, 15, _, by decide, rfl, ⟨by decide, by decide⟩,
    by decide +kernel⟩,
  ⟨{ device with tx := [(15, { st := TxSt.fault })], face := [(1, { faultIn := true })] }, 15, _, by decide, rfl, ⟨by
    decide, by decide⟩, by decide +kernel⟩,
  ⟨{ device with tx := [(15, { st := TxSt.fault })], face := [(1, { faultIn := false })] }, 15, _, by decide, rfl, ⟨by
    decide, by decide⟩, by decide +kernel⟩,
  ⟨{ device with tx := [(15, { st := TxSt.data })] }, 15, _, 3, 2, by decide, rfl, ⟨by decide, by decide⟩,
    by decide +kernel⟩,
  ⟨{ device with rx := [(15, { st := RxSt.off })], tx := [(15, { st := TxSt.quiet })] }, 15, _, 2, by decide, rfl, ⟨by
    decide, by decide⟩, by decide +kernel⟩,
  ⟨{ device with tx := [(15, { st := TxSt.data })] }, 15, _, 3, by decide, rfl, ⟨by decide, by decide⟩,
    by decide +kernel⟩⟩

theorem witness_TxEvents :
    (∃ (s : State) (l : BitVec 4) (x : Tx), Live s ∧ s.txAt l.toNat = x ∧ s.txOn l.toNat = true ∧ s.stopped 4 = false
      ∧ x.st = TxSt.hiz ∧ x.starting = true ∧ x.latched = false ∧ (s.faceAt (faceOf l.toNat)).faultIn = false) ∧
    (∃ (s : State) (l : BitVec 4) (x : Tx), Live s ∧ s.txAt l.toNat = x ∧ s.txOn l.toNat = true ∧ s.stopped 4 = false
      ∧ x.st = TxSt.hiz ∧ x.starting = true ∧ x.latched = true) ∧
    (∃ (s : State) (l : BitVec 4) (x : Tx) (stays : Bool) (sent : BitVec 2), Live s ∧ s.txAt l.toNat = x ∧ (∀ (k :
      Nat), (s.txAt k).st ≠ TxSt.data) ∧ (s.faceAt (faceOf l.toNat)).faultIn = false) ∧
    (∃ (s : State) (l : BitVec 4) (x : Tx) (lane : Byte) (fill : Nat), Live s ∧ s.txAt l.toNat = x ∧ BitVec.toNat lane
      = l.toNat ∧ x.looped = true ∧ (fill ≤ 256 ∨ 3840 ≤ fill)) ∧
    (∃ (s : State) (l : BitVec 4) (x : Tx) (n : W32), Live s ∧ s.txAt l.toNat = x ∧ s.sys.rsynLock = true ∧ x.clipNow
      ≤ BitVec.toNat n ∧ (s.faceAt (faceOf l.toNat)).mf % 64 = 0 ∧ (s.faceAt (faceOf l.toNat)).mf ≠ x.periodAt ∧
      x.clipArmed = true ∧ x.half = false ∧ 1893 < BitVec.toNat n) :=
  ⟨⟨{ device with tx := [(15, { st := TxSt.hiz, starting := true, latched := false })], face := [(1, { faultIn := false })] },
    15, _, rfl, rfl, by decide +kernel⟩,
  ⟨{ device with tx := [(15, { st := TxSt.hiz, starting := true, latched := true })] }, 15, _, rfl, rfl,
    by decide +kernel⟩,
  ⟨{ device with face := [(1, { faultIn := false })] }, 15, _, false, 0, rfl, rfl, fun _ h => (nomatch h), by decide⟩,
  ⟨{ device with tx := [(15, { looped := true })] }, 15, _, 15, 0, rfl, rfl, by decide +kernel⟩,
  ⟨{ device with face := [(1, { mf := 64 })], tx := [(15, { clipNow := 1894, clipArmed := true, half := false })] },
    15, _, 1894, rfl, rfl, by decide +kernel⟩⟩

theorem witness_TxBoundaryAndTraining :
    (∃ (s : State) (l : BitVec 4) (x : Tx), Live s ∧ s.txAt l.toNat = x ∧ s.sys.rsynLock = true ∧ (s.stretchAt
      l.toNat).countTx = none ∧ (s.faceAt (faceOf l.toNat)).pending = none) ∧
    (∃ (s : State) (l : BitVec 4) (x : Tx) (lane : Byte) (iter : Byte) (step : Byte), s.txAt l.toNat = x ∧
      BitVec.toNat lane = l.toNat ∧ Takes 519 s ∧ s.txOn l.toNat = true ∧ 1 ≤ BitVec.toNat iter ∧ BitVec.toNat iter ≤
      64 ∧ BitVec.toNat step ≤ 4 ∧ x.st = TxSt.data ∧ s.far1608 (faceOf l.toNat) = false ∧ s.farFound (faceOf l.toNat)
      = true ∧ s.icFull (faceOf l.toNat) = false) ∧
    (∃ (s : State) (l : BitVec 4) (x : Tx) (lane : Byte) (iter : Byte) (step : Byte), s.txAt l.toNat = x ∧
      BitVec.toNat lane = l.toNat ∧ Takes 519 s ∧ s.txOn l.toNat = true ∧ 1 ≤ BitVec.toNat iter ∧ BitVec.toNat iter ≤
      64 ∧ BitVec.toNat step ≤ 4 ∧ x.st ≠ TxSt.data) ∧
    (∃ (s : State) (l : BitVec 4) (x : Tx) (tr : Train), s.txAt l.toNat = x ∧ Live s ∧ x.train = some tr ∧ ((s.icingAt
      (faceOf l.toNat)).fbWait.any fun w => w.lane == l.toNat) = true) ∧
    (∃ (s : State) (l : BitVec 4) (x : Tx) (src : W16) (p : Bytes), s.txAt l.toNat = x ∧ Live s ∧ s.icingOn (faceOf
      l.toNat) = true ∧ inToffee s = false ∧ BitVec.toNat (byteAt p 0) = l.toNat ∧ (s.icingAt (faceOf l.toNat)).far =
      src ∧ (s.rxAt l.toNat).st = RxSt.locked) ∧
    (∃ (s : State) (l : BitVec 4) (x : Tx) (tr : Train) (p : Bytes), s.txAt l.toNat = x ∧ Live s ∧ s.icingOn (faceOf
      l.toNat) = true ∧ x.train = some tr ∧ s.txOn l.toNat = true ∧ BitVec.toNat (byteAt p 0) = l.toNat ∧ byteAt p 2 =
      0 ∧ tr.done + 1 < tr.iter ∧ ¬(fbMean p 0).natAbs < 16 ∧ ((s.icingAt (faceOf l.toNat)).fbWait.any fun w => w.lane
      == l.toNat && w.fbSeq == byteAt p 1) = true) :=
  ⟨⟨{ device with stretch := [(15, { countTx := none })], face := [(1, { pending := none })] }, 15, _, rfl, rfl,
    by decide +kernel⟩,
  ⟨{ device with icing := [(1, { far := 0x0202 })], tx := [(15, { st := TxSt.data })] }, 15, _, 15, 64, 4, rfl, by
    decide, ⟨by decide, by decide⟩, by decide +kernel⟩,
  ⟨device, 15, _, 15, 64, 4, rfl, by decide, ⟨by decide, by decide⟩, by decide +kernel⟩,
  ⟨{ device with icing := [(1, { fbWait := [{ lane := 15, fbSeq := 7 }] })], tx := [(15, { train := (some {}) })] },
    15, _, _, rfl, rfl, rfl, by decide⟩,
  ⟨{ device with icing := [(1, { far := 0 })], rx := [(15, { st := RxSt.locked })] }, 15, _, 0, [15, 1], rfl, rfl,
    by decide +kernel⟩,
  ⟨{ device with icing := [(1, { fbWait := [{ lane := 15, fbSeq := 7 }] })], tx := [(15, { train := (some {}) })] },
    15, _, _, [15, 7, 0, 0, 0, 0, 0, 0, 0, 0, 0, 0, 16], rfl, rfl, by decide, rfl, by decide +kernel⟩⟩

theorem witness_PatternCheckers :
    (∃ (s : State) (lane : Byte) (x : Tx) (pat : Byte), BitVec.toNat lane < 16 ∧ s.txAt (BitVec.toNat lane) = x ∧
      Takes 524 s ∧ s.rxOn (BitVec.toNat lane) = true ∧ BitVec.toNat pat ≤ 2 ∧ (s.rxAt (BitVec.toNat lane)).st =
      RxSt.off ∧ (s.rxAt (BitVec.toNat lane)).sigDetect = false) ∧
    (∃ (s : State) (lane : Byte) (x : Tx) (pat : Byte), BitVec.toNat lane < 16 ∧ s.txAt (BitVec.toNat lane) = x ∧
      Takes 524 s ∧ s.rxOn (BitVec.toNat lane) = true ∧ BitVec.toNat pat ≤ 2 ∧ (s.rxAt (BitVec.toNat lane)).st ≠
      RxSt.off) ∧
    (∃ (s : State) (lane : Byte) (x : Tx), BitVec.toNat lane < 16 ∧ s.txAt (BitVec.toNat lane) = x ∧ Takes 525 s) ∧
    (∃ (s : State) (lane : Byte) (x : Tx), BitVec.toNat lane < 16 ∧ s.txAt (BitVec.toNat lane) = x ∧ x.check.on = true
      ∧ x.check.locked = true ∧ (s.rxAt (BitVec.toNat lane)).st = RxSt.mlsdTrain ∧ Takes 524 s ∧ s.rxOn (BitVec.toNat
      lane) = true) ∧
    (∃ (s : State) (lane : Byte) (x : Tx) (run : Nat) (bad : Nat) (b : Nat) (e : Nat) (y : Nat), BitVec.toNat lane <
      16 ∧ s.txAt (BitVec.toNat lane) = x ∧ Live s ∧ x.check.on = true ∧ x.check.locked = false ∧ (s.rxAt
      (BitVec.toNat lane)).st = RxSt.mlsdTrain ∧ 1024 ≤ run) ∧
    (∃ (s : State) (lane : Byte) (x : Tx) (run : Nat) (bad : Nat) (b : Nat) (e : Nat) (y : Nat), BitVec.toNat lane <
      16 ∧ s.txAt (BitVec.toNat lane) = x ∧ Live s ∧ x.check.on = true ∧ x.check.locked = true ∧ (s.rxAt (BitVec.toNat
      lane)).st = RxSt.mlsdTrain ∧ 65536 < 8 * bad) :=
  ⟨⟨{ device with rx := [(15, { st := RxSt.off, sigDetect := false })] }, 15, _, 2, by decide, rfl, ⟨by decide, by
    decide⟩, by decide +kernel⟩,
  ⟨{ device with rx := [(15, { st := RxSt.locked })] }, 15, _, 2, by decide, rfl, ⟨by decide, by decide⟩,
    by decide +kernel⟩,
  ⟨device, 15, _, by decide, rfl, ⟨by decide, by decide⟩⟩,
  ⟨{ device with tx := [(15, { check := { on := true, locked := true } })], rx := [(15, { st := RxSt.mlsdTrain })] },
    15, _, by decide, rfl, by decide, by decide, by decide, ⟨by decide, by decide⟩, by decide⟩,
  ⟨{ device with tx := [(15, { check := { on := true, locked := false } })], rx := [(15, { st := RxSt.mlsdTrain })] },
    15, _, 1024, 0, 0, 0, 0, by decide, rfl, rfl, by decide +kernel⟩,
  ⟨{ device with tx := [(15, { check := { on := true, locked := true } })], rx := [(15, { st := RxSt.mlsdTrain })] },
    15, _, 0, 8193, 0, 0, 0, by decide, rfl, rfl, by decide +kernel⟩⟩

theorem witness_LoadedTablesFit :
    ∃ (margin : Int) (cap : Nat) (snr : List Int) (t : BitTable) (b : Nat), loadTable margin cap snr = some t ∧ b ∈
      t.bits :=
  ⟨768, 4, _, loads⟩

theorem witness_StretchSettings :
    (∃ (s : State) (lane : Byte) (x : Stretch) (k : Byte) (m : Byte) (mm : Byte) (pc : Byte) (r : Byte) (h : Byte) (fl
      : Byte), BitVec.toNat lane < 16 ∧ s.stretchAt (BitVec.toNat lane) = x ∧ Takes 769 s ∧ BitVec.toNat k < 64 ∧
      (bitOf k 0 = true → BitVec.toNat m ≤ 36) ∧ (bitOf k 1 = true → BitVec.toNat mm ≤ 24) ∧ (bitOf k 2 = true →
      BitVec.toNat pc ≤ 3) ∧ (bitOf k 3 = true → 16 ≤ BitVec.toNat r ∧ BitVec.toNat r ≤ 40) ∧ (bitOf k 4 = true →
      BitVec.toNat h ≤ 15) ∧ (bitOf k 5 = true → BitVec.toNat fl < 4)) ∧
    (∃ (s : State) (lane : Byte) (x : Stretch), BitVec.toNat lane < 16 ∧ s.stretchAt (BitVec.toNat lane) = x ∧ Takes
      772 s ∧ s.rxOn (BitVec.toNat lane) = true ∧ s.far1608 (faceOf (BitVec.toNat lane)) = false ∧ (s.rxAt
      (BitVec.toNat lane)).stretch = true ∧ (s.rxAt (BitVec.toNat lane)).st = RxSt.locked) ∧
    (∃ (s : State) (lane : Byte) (x : Stretch), BitVec.toNat lane < 16 ∧ s.stretchAt (BitVec.toNat lane) = x ∧ Takes
      772 s ∧ s.rxOn (BitVec.toNat lane) = false) ∧
    (∃ (s : State) (lane : Byte) (x : Stretch), BitVec.toNat lane < 16 ∧ s.stretchAt (BitVec.toNat lane) = x ∧ Takes
      772 s ∧ s.rxOn (BitVec.toNat lane) = true ∧ s.far1608 (faceOf (BitVec.toNat lane)) = false ∧ (s.rxAt
      (BitVec.toNat lane)).stretch = false) ∧
    (∃ (s : State) (lane : Byte) (x : Stretch), BitVec.toNat lane < 16 ∧ s.stretchAt (BitVec.toNat lane) = x ∧ Takes
      772 s ∧ s.rxOn (BitVec.toNat lane) = true ∧ s.far1608 (faceOf (BitVec.toNat lane)) = true) ∧
    (∃ (s : State) (lane : Byte) (x : Stretch), BitVec.toNat lane < 16 ∧ s.stretchAt (BitVec.toNat lane) = x ∧ Takes
      773 s) ∧
    (∃ (s : State) (lane : Byte) (x : Stretch) (buf : W32), BitVec.toNat lane < 16 ∧ s.stretchAt (BitVec.toNat lane) =
      x ∧ Takes 774 s ∧ buf ≠ 0 ∧ bufOk buf 512 = true) ∧
    (∃ (s : State) (lane : Byte) (x : Stretch) (buf : W32), BitVec.toNat lane < 16 ∧ s.stretchAt (BitVec.toNat lane) =
      x ∧ Takes 776 s ∧ buf ≠ 0 ∧ bufOk buf 1020 = true ∧ (s.rxAt (BitVec.toNat lane)).stretch = true) :=
  ⟨⟨device, 15, _, 63, 36, 24, 3, 40, 15, 3, by decide, rfl, ⟨by decide, by decide⟩, by decide +kernel⟩,
  ⟨{ device with rx := [(15, { stretch := true, st := RxSt.locked })] }, 15, _, by decide, rfl, ⟨by decide, by
    decide⟩, by decide +kernel⟩,
  ⟨{ device with pwr := { device.pwr with domains := 0 } }, 15, _, by decide, rfl, ⟨by decide, by decide⟩, by decide⟩,
  ⟨{ device with rx := [(15, { stretch := false })] }, 15, _, by decide, rfl, ⟨by decide, by decide⟩,
    by decide +kernel⟩,
  ⟨{ device with icing := [(1, { far := 0x0202, nbrs := [{ addr := 0x0202, found := true, disc := [0x21], at_ := 0, rssi := 0, snr := 0 }] })] },
    15, _, by decide, rfl, ⟨by decide, by decide⟩, by decide +kernel⟩,
  ⟨device, 15, _, by decide, rfl, ⟨by decide, by decide⟩⟩,
  ⟨device, 15, _, 1081344, by decide, rfl, ⟨by decide, by decide⟩, by decide +kernel⟩,
  ⟨{ device with rx := [(15, { stretch := true })] }, 15, _, 1081344, by decide, rfl, ⟨by decide, by decide⟩,
    by decide +kernel⟩⟩

theorem witness_StretchReceiverExchange :
    (∃ (s : State) (l : BitVec 4) (x : Stretch) (f : Nat) (lane : Byte) (slots : Byte) (buf : W32), s.stretchAt
      l.toNat = x ∧ faceOf l.toNat = f ∧ BitVec.toNat lane = l.toNat ∧ Takes 775 s ∧ s.sramBad = [] ∧ s.sramSoft = []
      ∧ buf ≠ 0 ∧ bufOk buf 255 = true ∧ hostTableOk (BitVec.toNat slots) (s.sramRead (winToSram (BitVec.toNat buf))
      255) = true ∧ s.tableState l.toNat = true ∧ x.rxNext = none ∧ s.rxOn l.toNat = true ∧ ((s.rxAt l.toNat).st =
      RxSt.mlsdTrain ∨ 120 ≤ x.sinceChange) ∧ s.far1608 f = false ∧ s.icLacks f 2 = false) ∧
    (∃ (s : State) (l : BitVec 4) (x : Stretch) (f : Nat) (lane : Byte) (slots : Byte) (buf : W32), s.stretchAt
      l.toNat = x ∧ faceOf l.toNat = f ∧ BitVec.toNat lane = l.toNat ∧ Takes 775 s ∧ buf ≠ 0 ∧ bufOk buf 255 = true ∧
      s.sramBad = [] ∧ hostTableOk (BitVec.toNat slots) (s.sramRead (winToSram (BitVec.toNat buf)) 255) = true ∧
      s.rxOn l.toNat = true ∧ s.far1608 f = false ∧ (s.rxAt l.toNat).st = RxSt.locked ∧ x.sinceChange < 120 ∧
      x.uncorrRun < 2) ∧
    (∃ (s : State) (l : BitVec 4) (x : Stretch) (f : Nat) (sums : List ProbeSums) (snr : List W16) (b : BitTable),
      s.stretchAt l.toNat = x ∧ faceOf l.toNat = f ∧ Live s ∧ (s.rxAt l.toNat).stretch = true ∧ (s.rxAt l.toNat).st =
      RxSt.mlsdTrain ∧ x.rxNext = none ∧ snr = List.map (probeSnr x.probeCount) sums ∧ loadTable (64 * ↑(BitVec.toNat
      x.margin)) 64 (List.map (fun v => ↑(BitVec.toNat v)) snr) = some b) ∧
    (∃ (s : State) (l : BitVec 4) (x : Stretch) (f : Nat) (b : BitTable) (c : Byte), s.stretchAt l.toNat = x ∧ faceOf
      l.toNat = f ∧ Live s ∧ x.rxNext = some b ∧ (s.rxAt l.toNat).st = RxSt.locked) ∧
    (∃ (s : State) (l : BitVec 4) (x : Stretch) (f : Nat) (b : BitTable), s.stretchAt l.toNat = x ∧ faceOf l.toNat = f
      ∧ Live s ∧ x.rxNext = some b ∧ x.acked = false ∧ x.count = 0 ∧ x.sends < 4) ∧
    (∃ (s : State) (l : BitVec 4) (x : Stretch) (f : Nat) (b : BitTable), s.stretchAt l.toNat = x ∧ faceOf l.toNat = f
      ∧ Live s ∧ x.rxNext = some b ∧ x.acked = true ∧ x.count = 0 ∧ (s.rxAt l.toNat).st = RxSt.locked) ∧
    (∃ (s : State) (l : BitVec 4) (x : Stretch) (f : Nat) (b : BitTable) (v : BitVec 2), s.stretchAt l.toNat = x ∧
      faceOf l.toNat = f ∧ Live s ∧ s.tableState l.toNat = true ∧ v ≠ 0 ∧ x.rxNext = some b ∧ x.count = 0) ∧
    (∃ (s : State) (l : BitVec 4) (x : Stretch) (f : Nat) (v : BitVec 2), s.stretchAt l.toNat = x ∧ faceOf l.toNat = f
      ∧ Live s ∧ s.tableState l.toNat = true ∧ v ≠ 0 ∧ x.rxNext = none ∧ x.count = 0) :=
  ⟨⟨{ device with sram := (Tab.ofList 0 (winToSram 0x108000) (List.replicate 255 0xC0)), rx := [(15, { stretch := true, st := .mlsdTrain })], sramSoft := [], stretch := [(15, { rxNext := none })] },
    15, _, 1, 15, 64, 1081344, rfl, by decide, by decide, ⟨by decide, by decide⟩, by decide, by decide,
    by decide +kernel⟩,
  ⟨{ device with sram := (Tab.ofList 0 (winToSram 0x108000) (List.replicate 255 0xC0)), rx := [(15, { stretch := true, st := .locked })], stretch := [(15, { sinceChange := 119, uncorrRun := 1 })] },
    15, _, 1, 15, 64, 1081344, rfl, by decide, by decide, ⟨by decide, by decide⟩, by decide +kernel⟩,
  ⟨{ device with rx := [(15, { stretch := true, st := RxSt.mlsdTrain })], stretch := [(15, { rxNext := none })] }, 15,
    _, 1, (List.replicate 12 { re := 16384, im := 0, sq := 16400 }), (List.replicate 12 (probeSnr 16384
    { re := 16384, im := 0, sq := 16400 })), ((loadTable 768 64 ((List.replicate 12 (probeSnr 16384
    { re := 16384, im := 0, sq := 16400 })).map (fun v => (v.toNat : Int)))).getD {}), rfl, by decide +kernel, rfl,
    by decide +kernel⟩,
  ⟨{ device with stretch := [(15, { rxNext := (some {}) })], rx := [(15, { st := RxSt.locked })] }, 15, _, 1, _, 0,
    rfl, by decide, rfl, rfl, by decide⟩,
  ⟨{ device with stretch := [(15, { rxNext := (some {}), acked := false, count := 0, sends := 3 })] }, 15, _, 1, _,
    rfl, by decide, rfl, rfl, by decide +kernel⟩,
  ⟨{ device with stretch := [(15, { rxNext := (some {}), acked := true, count := 0 })], rx := [(15, { st := RxSt.locked })] },
    15, _, 1, _, rfl, by decide, rfl, rfl, by decide +kernel⟩,
  ⟨{ device with rx := [(15, { stretch := true, st := RxSt.locked })], stretch := [(15, { rxNext := (some {}), count := 0 })] },
    15, _, 1, _, 1, rfl, by decide, rfl, by decide, by decide, rfl, by decide⟩,
  ⟨{ device with rx := [(15, { stretch := true, st := RxSt.locked })], stretch := [(15, { rxNext := none, count := 0 })] },
    15, _, 1, 1, rfl, by decide, rfl, by decide +kernel⟩⟩

theorem witness_StretchTransmitterExchange :
    (∃ (s : State) (l : BitVec 4) (x : Stretch) (f : BitVec 1) (src : W16) (rec : Bytes), Live s ∧ s.stretchAt l.toNat
      = x ∧ s.icingOn f.toNat = true ∧ inToffee s = false ∧ BitVec.toNat (byteAt rec 1) = l.toNat ∧ BitVec.toNat
      (byteAt rec 2) = 0 ∧ x.segs = []) ∧
    (∃ (s : State) (l : BitVec 4) (x : Stretch) (f : BitVec 1) (src : W16) (a : Bytes) (b : Bytes), Live s ∧
      s.stretchAt l.toNat = x ∧ s.icingOn f.toNat = true ∧ inToffee s = false ∧ BitVec.toNat (byteAt b 1) = l.toNat ∧
      BitVec.toNat (byteAt b 2) = 1 ∧ x.segs = [(0, a)] ∧ (s.txAt l.toNat).stretch = true ∧ tableCheck a b true = 0 ∧
      x.countTx = none ∧ Option.map (fun x => x.id) x.txTab ≠ some (byteAt a 0)) ∧
    (∃ (s : State) (l : BitVec 4) (x : Stretch), Live s ∧ s.stretchAt l.toNat = x ∧ x.segs ≠ []) ∧
    (∃ (s : State) (l : BitVec 4) (x : Stretch), Live s ∧ s.stretchAt l.toNat = x ∧ (s.txAt l.toNat).stretch = true ∧
      x.txNext.isSome = true ∧ x.countTx = none) ∧
    (∃ (s : State) (l : BitVec 4) (x : Stretch) (b : BitTable), Live s ∧ s.stretchAt l.toNat = x ∧ (s.txAt
      l.toNat).stretch = true ∧ x.txNext = some b ∧ x.countTx = some 0 ∧ b.slots < x.oldS) ∧
    (∃ (s : State) (l : BitVec 4) (x : Stretch) (b : BitTable), Live s ∧ s.stretchAt l.toNat = x ∧ s.tableState
      l.toNat = true ∧ x.rxNext = some b ∧ x.count ≠ 0 ∧ (s.rxAt l.toNat).st = RxSt.mlsdTrain ∧ (s.txAt
      l.toNat).check.on = false) :=
  ⟨⟨{ device with stretch := [(15, { segs := [] })] }, 15, _, 1, 0, [7, 15, 0], rfl, rfl, by decide +kernel⟩,
  ⟨{ device with stretch := [(15, { segs := [(0, seg0)], countTx := none })], tx := [(15, { stretch := true })] }, 15,
    _, 1, 0, seg0, seg1, rfl, rfl, by decide +kernel⟩,
  ⟨{ device with stretch := [(15, { segs := [(0, [])] })] }, 15, _, rfl, rfl, by decide⟩,
  ⟨{ device with stretch := [(15, { txNext := some {}, countTx := none })], tx := [(15, { stretch := true })] }, 15,
    _, rfl, rfl, by decide +kernel⟩,
  ⟨{ device with tx := [(15, { stretch := true })], stretch := [(15, { txNext := (some {}), countTx := some 0 })] },
    15, _, _, rfl, rfl, by decide, rfl, by decide +kernel⟩,
  ⟨{ device with rx := [(15, { stretch := true, st := RxSt.mlsdTrain })], stretch := [(15, { rxNext := (some {}), count := 1 })] },
    15, _, _, rfl, rfl, by decide, rfl, by decide +kernel⟩⟩

theorem witness_RsCountersAgree :
    (∃ (s : State) (t : State) (l : BitVec 4) (mse : W32) (bad : Bool) (id : Byte) (fec : FecCounts) (k : Nat), (∀ (k
      : Nat), RsCountsAgree k s) ∧ Completes (Instr.rxMultiframeBoundary l mse bad id fec.toInnerCounts fec.toRsCounts
      fec.toUncorrRuns) s t) ∧
    (∃ (s : State) (t : State) (lane : Byte) (flags : Byte) (k : Nat), (∀ (k : Nat), RsCountsAgree k s) ∧ Completes
      (Instr.fecCountersRead lane flags) s t) ∧
    (∃ (c : Instr) (s : State) (t : State) (k : Nat), (∀ (k : Nat), RsCountsAgree k s) ∧ Completes c s t) :=
  ⟨⟨device, _, 15, 0, false, 0, {}, 0, fun _ => rfl, rfl⟩,
  ⟨device, _, 0, 0, 0, fun _ => rfl, rfl⟩,
  ⟨(Instr.fecConfig 15 15 1), device, (nextOf (exec (Instr.fecConfig 15 15 1) device)), 0, fun _ => rfl, rfl⟩⟩

theorem witness_FramerRows :
    (∃ (s : State) (lane : Byte) (f : Framer) (y : Byte) (c : W16), BitVec.toNat lane < 16 ∧ s.framerAt (BitVec.toNat
      lane) = f ∧ Takes 1025 s ∧ 1 ≤ BitVec.toNat y ∧ BitVec.toNat y ≤ 15 ∧ c ≠ 0) ∧
    (∃ (s : State) (lane : Byte) (f : Framer), BitVec.toNat lane < 16 ∧ s.framerAt (BitVec.toNat lane) = f ∧ Takes
      1026 s) ∧
    (∃ (s : State) (lane : Byte) (f : Framer), BitVec.toNat lane < 16 ∧ s.framerAt (BitVec.toNat lane) = f ∧ Takes
      1027 s) ∧
    (∃ (s : State) (lane : Byte) (f : Framer) (mode : Byte) (n : W16) (l : Byte), BitVec.toNat lane < 16 ∧ s.framerAt
      (BitVec.toNat lane) = f ∧ Takes 1028 s ∧ BitVec.toNat mode ≤ 2 ∧ BitVec.toNat l < 16 ∧ mode ≠ 0) ∧
    (∃ (s : State) (lane : Byte) (f : Framer) (n : W16) (l : Byte), BitVec.toNat lane < 16 ∧ s.framerAt (BitVec.toNat
      lane) = f ∧ Takes 1028 s ∧ BitVec.toNat l < 16 ∧ f.mismatch = true) ∧
    (∃ (s : State) (lane : Byte) (f : Framer) (fc : Byte) (tr : Bytes), BitVec.toNat lane < 16 ∧ s.framerAt
      (BitVec.toNat lane) = f ∧ BitVec.toNat fc < 2 ∧ Takes 1029 s ∧ List.length tr = 16) ∧
    (∃ (s : State) (lane : Byte) (f : Framer) (n : Byte) (d : Bytes), BitVec.toNat lane < 16 ∧ s.framerAt
      (BitVec.toNat lane) = f ∧ Takes 1030 s ∧ s.txOn (BitVec.toNat lane) = true ∧ (s.txAt (BitVec.toNat lane)).st =
      TxSt.data ∧ List.length d = BitVec.toNat n ∧ BitVec.toNat n + 4 ≤ gccLen (s.txS (BitVec.toNat lane)) ∧
      f.gccTx.length < 16) ∧
    (∃ (s : State) (lane : Byte) (f : Framer) (n : Byte) (d : Bytes), BitVec.toNat lane < 16 ∧ s.framerAt
      (BitVec.toNat lane) = f ∧ Takes 1030 s ∧ s.txOn (BitVec.toNat lane) = true ∧ (s.txAt (BitVec.toNat lane)).st =
      TxSt.data ∧ List.length d = BitVec.toNat n ∧ BitVec.toNat n + 4 ≤ gccLen (s.txS (BitVec.toNat lane)) ∧ 16 ≤
      f.gccTx.length) ∧
    (∃ (s : State) (lane : Byte) (f : Framer) (max : Byte) (buf : W32), BitVec.toNat lane < 16 ∧ s.framerAt
      (BitVec.toNat lane) = f ∧ Takes 1031 s ∧ buf ≠ 0 ∧ bufOk buf (List.flatMap gccBytes (List.take (min 16
      (BitVec.toNat max)) f.gccRx)).length = true) ∧
    (∃ (s : State) (l : BitVec 4) (f : Framer) (h : Bytes), Live s ∧ s.framerAt l.toNat = f ∧ f.lock = true ∧
      headerValid h true = true ∧ f.idMode = 0 ∧ byteAt h 5 = s.ownFmt l.toNat ∧ f.header = none ∧ (s.icingAt (faceOf
      l.toNat)).far = 0) ∧
    (∃ (s : State) (l : BitVec 4) (f : Framer) (x : Bytes), Live s ∧ s.framerAt l.toNat = f ∧ f.lock = true ∧ gccValid
      x true = true ∧ byteAt x 0 ≠ 0 ∧ BitVec.toNat (byteAt x 0) + 4 ≤ List.length x ∧ f.gccRx = []) ∧
    (∃ (s : State) (l : BitVec 4) (f : Framer) (x : Bytes), Live s ∧ s.framerAt l.toNat = f ∧ f.lock = true ∧ gccValid
      x true = true ∧ byteAt x 0 ≠ 0 ∧ 4 < List.length x ∧ 64 ≤ f.gccRx.length) :=
  ⟨⟨device, 15, _, 15, 1, by decide, rfl, ⟨by decide, by decide⟩, by decide +kernel⟩,
  ⟨device, 15, _, by decide, rfl, ⟨by decide, by decide⟩⟩,
  ⟨device, 15, _, by decide, rfl, ⟨by decide, by decide⟩⟩,
  ⟨device, 15, _, 2, 0, 15, by decide, rfl, ⟨by decide, by decide⟩, by decide +kernel⟩,
  ⟨{ device with framer := [(15, { mismatch := true })] }, 15, _, 0, 15, by decide, rfl, ⟨by decide, by decide⟩,
    by decide +kernel⟩,
  ⟨device, 15, _, 1, (List.replicate 16 0), by decide, rfl, by decide, ⟨by decide, by decide⟩, by decide⟩,
  ⟨{ device with framer := [(15, { gccTx := (List.replicate 15 {}) })], tx := [(15, { st := TxSt.data })] }, 15, _,
    60, (List.replicate 60 0), by decide, rfl, ⟨by decide, by decide⟩, by decide +kernel⟩,
  ⟨{ device with framer := [(15, { gccTx := (List.replicate 16 {}) })], tx := [(15, { st := TxSt.data })] }, 15, _, 1,
    [0], by decide, rfl, ⟨by decide, by decide⟩, by decide +kernel⟩,
  ⟨device, 15, _, 0, 1081344, by decide, rfl, ⟨by decide, by decide⟩, by decide +kernel⟩,
  ⟨{ device with framer := [(15, { lock := true, idMode := 0, header := none })], icing := [(1, { far := 0 })] }, 15,
    _, (header 0x5F), rfl, rfl, by decide +kernel⟩,
  ⟨{ device with framer := [(15, { lock := true, gccRx := [] })] }, 15, _, gcc, rfl, rfl, by decide +kernel⟩,
  ⟨{ device with framer := [(15, { gccRx := (List.replicate 64 {}), lock := true })] }, 15, _, gcc, rfl, rfl,
    by decide +kernel⟩⟩

theorem witness_CalendarCopies :
    (∃ (s : State) (face : Byte) (f : Nat) (n : Nat) (e : Bytes), BitVec.toNat face = f ∧ f < 2 ∧ s.calOn f = true ∧
      Takes 1281 s ∧ n < 512 ∧ List.length e = 4 ∧ (s.faceAt f).pending = none) ∧
    (∃ (s : State) (face : Byte) (f : Nat), BitVec.toNat face = f ∧ f < 2 ∧ s.calOn f = true ∧ Takes 1283 s ∧
      (s.faceAt f).pending = none) ∧
    (∃ (s : State) (face : Byte) (f : Nat), BitVec.toNat face = f ∧ f < 2 ∧ s.calOn f = true ∧ Takes 1283 s ∧
      (s.faceAt f).pending ≠ none) ∧
    (∃ (s : State) (face : Byte) (f : Nat) (copy : Byte) (first : W16) (count : W16), BitVec.toNat face = f ∧ f < 2 ∧
      s.calOn f = true ∧ Takes 1282 s ∧ BitVec.toNat copy < 2 ∧ BitVec.toNat count ≤ 60 ∧ BitVec.toNat first +
      BitVec.toNat count ≤ 512) ∧
    (∃ (s : State) (face : Byte) (f : Nat) (b : Nat), BitVec.toNat face = f ∧ f < 2 ∧ s.calOn f = true ∧ Takes 1285 s
      ∧ (s.faceAt f).pending = some b ∧ (s.faceAt f).mf + 2 < b) ∧
    (∃ (s : State) (face : Byte) (f : Nat) (b : Nat), BitVec.toNat face = f ∧ f < 2 ∧ s.calOn f = true ∧ Takes 1285 s
      ∧ (s.faceAt f).pending = some b ∧ b ≤ (s.faceAt f).mf + 2) ∧
    (∃ (s : State) (face : Byte) (f : Nat), BitVec.toNat face = f ∧ f < 2 ∧ s.calOn f = true ∧ Takes 1286 s ∧
      s.mismatches f = [] ∧ s.maskedEntries f = []) ∧
    (∃ (s : State) (face : Byte) (f : Nat) (first : W16) (count : W16), BitVec.toNat face = f ∧ f < 2 ∧ s.calOn f =
      true ∧ Takes 1287 s ∧ BitVec.toNat count ≤ 20 ∧ BitVec.toNat first + BitVec.toNat count ≤ 512) :=
  ⟨⟨{ device with face := [(0, { pending := none })] }, 0, 0, 511, [0, 0, 0, 0], by decide, by decide, by decide, ⟨by
    decide, by decide⟩, by decide +kernel⟩,
  ⟨{ device with face := [(0, { pending := none })] }, 0, 0, by decide, by decide, by decide, ⟨by decide, by decide⟩,
    by decide⟩,
  ⟨{ device with face := [(1, { pending := some 3 })] }, 1, 1, by decide, by decide, by decide, ⟨by decide, by
    decide⟩, by decide⟩,
  ⟨device, 0, 0, 1, 0, 60, by decide, by decide, by decide, ⟨by decide, by decide⟩, by decide +kernel⟩,
  ⟨{ device with face := [(1, { pending := some 3 })] }, 1, 1, 3, by decide, by decide, by decide, ⟨by decide, by
    decide⟩, by decide +kernel⟩,
  ⟨{ device with face := [(1, { pending := some 2 })] }, 1, 1, 2, by decide, by decide, by decide, ⟨by decide, by
    decide⟩, by decide +kernel⟩,
  ⟨device, 0, 0, by decide, by decide, by decide, ⟨by decide, by decide⟩, by decide +kernel⟩,
  ⟨device, 0, 0, 0, 20, by decide, by decide, by decide, ⟨by decide, by decide⟩, by decide +kernel⟩⟩

theorem witness_CommitChecks :
    (∃ (s : State) (t : State) (face : Byte) (flags : Byte) (mfc : Byte) (k : Nat), BitVec.toNat face < 2 ∧ s.mcpRuns
      = true ∧ Completes (Instr.calCommit face flags mfc) s t ∧ t.resp.status = Status.ok.code ∧ k < 8) ∧
    (∃ (s : State) (t : State) (face : Byte) (flags : Byte) (mfc : Byte) (n : Nat) (m : Nat), BitVec.toNat face < 2 ∧
      s.mcpRuns = true ∧ Completes (Instr.calCommit face flags mfc) s t ∧ t.resp.status = Status.ok.code ∧ n < 512 ∧ m
      < 512 ∧ entKind (s.calEntry (otherCopy (s.faceAt (BitVec.toNat face)).active).toNat (BitVec.toNat face) n) = 3 ∧
      entKind (s.calEntry (otherCopy (s.faceAt (BitVec.toNat face)).active).toNat (BitVec.toNat face) m) = 3 ∧
      entSource (s.calEntry (otherCopy (s.faceAt (BitVec.toNat face)).active).toNat (BitVec.toNat face) n) =
      entSource (s.calEntry (otherCopy (s.faceAt (BitVec.toNat face)).active).toNat (BitVec.toNat face) m)) ∧
    (∃ (s : State) (t : State) (face : Byte) (flags : Byte) (mfc : Byte) (n : Nat), BitVec.toNat face < 2 ∧ s.mcpRuns
      = true ∧ Completes (Instr.calCommit face flags mfc) s t ∧ t.resp.status = Status.ok.code ∧ n < 512 ∧ entKind
      (s.calEntry (otherCopy (s.faceAt (BitVec.toNat face)).active).toNat (BitVec.toNat face) n) = 2) :=
  ⟨⟨commitable, (nextOf (exec (.calCommit 1 0 0) commitable)), 1, 0, 0, 7, by decide, by decide, next_of rfl, commits,
    by decide⟩,
  ⟨commitable, (nextOf (exec (.calCommit 1 0 0) commitable)), 1, 0, 0, 510, 510, by decide, by decide, next_of rfl,
    commits, by decide +kernel⟩,
  ⟨commitable, (nextOf (exec (.calCommit 1 0 0) commitable)), 1, 0, 0, 511, by decide, by decide, next_of rfl,
    commits, by decide +kernel⟩⟩

theorem witness_CommitAndSwitch :
    (∃ (m : Nat) (x : Nat) (b : Nat), x < 256 ∧ m + 3 ≤ b ∧ b % 256 = x) ∧
    (∃ (s : State) (fb : BitVec 1) (face : Byte) (f : Nat) (mfc : Byte), fb.toNat = f ∧ BitVec.toNat face = f ∧
      s.calOn f = true ∧ Takes 1284 s ∧ (s.faceAt f).pending = none ∧ commitCheck f s = none) ∧
    (∃ (s : State) (fb : BitVec 1) (face : Byte) (f : Nat) (mfc : Byte) (st : Status), fb.toNat = f ∧ BitVec.toNat
      face = f ∧ s.calOn f = true ∧ Takes 1284 s ∧ (s.faceAt f).pending = none ∧ commitCheck f s = some st ∧ st ≠
      Status.crumb) ∧
    (∃ (s : State) (fb : BitVec 1) (face : Byte) (f : Nat) (b : Nat), fb.toNat = f ∧ BitVec.toNat face = f ∧ s.calOn f
      = true ∧ Live s ∧ (s.faceAt f).pending = some b ∧ b ≤ (s.faceAt f).mf) ∧
    (∃ (s : State) (fb : BitVec 1) (face : Byte) (f : Nat) (client : BitVec 10), fb.toNat = f ∧ BitVec.toNat face = f
      ∧ s.calOn f = true ∧ Live s ∧ s.joined f client.toNat ≠ []) :=
  ⟨⟨255, 2, 258, by decide +kernel⟩,
  ⟨commitable, 1, 1, 1, 0, by decide, by decide, by decide, ⟨by decide, by decide⟩, by decide, commit_clean⟩,
  ⟨{ device with calMem := commitMem }, 1, 1, 1, 0, Status.clientInactive, by decide, by decide, by decide, ⟨by
    decide, by decide⟩, by decide, commit_inactive, by decide⟩,
  ⟨{ device with face := [(1, { pending := some 0, mf := 0 })] }, 1, 1, 1, 0, by decide, by decide, by decide, rfl,
    by decide +kernel⟩,
  ⟨{ device with calMem := ({ bytes := [(2051, 0x40)] } : CrumbMem), txSlot := [(512, { joinEnd := some 0 })] }, 1, 1,
    1, 0, by decide, by decide, by decide, rfl, by decide +kernel⟩⟩

theorem witness_ReceiveRouting :
    ∃ (s : State) (slot : BitVec 10) (e : Bytes), Live s ∧ s.rxOn (slot.toNat / 64) = true ∧ (s.framerAt (slot.toNat /
      64)).lock = true ∧ entryValid (slot.toNat % 64) e true = true :=
  ⟨{ device with framer := [(15, { lock := true })] }, 1023, (List.replicate 8 0 ++ be16 (crc16 (63 :: List.replicate
    7 0))), rfl, by decide +kernel⟩

theorem witness_Clients :
    (∃ (s : State) (client : W16) (c : Nat) (e : Bytes), BitVec.toNat client = c ∧ c < 1024 ∧ s.clientsOn = true ∧
      Takes 1537 s ∧ List.length e = 16 ∧ cliEntryOk e = true ∧ cliActive e = true ∧ (s.portAt (cliPort e)).vlan =
      false ∧ (s.cliMem.ok (c / 16) = true ∨ c / 16 ∈ s.cliMem.rejected ∧ ∀ (k : Nat), List.length (s.clientAt
      k).entry = 16)) ∧
    (∃ (s : State) (client : W16) (c : Nat) (e : Bytes), BitVec.toNat client = c ∧ c < 1024 ∧ s.clientsOn = true ∧
      Takes 1537 s ∧ List.length e = 16 ∧ cliEntryOk e = true ∧ cliActive e = true ∧ (s.portAt (cliPort e)).vlan =
      false ∧ s.cliMem.ok (c / 16) = false ∧ ¬c / 16 ∈ s.cliMem.rejected) ∧
    (∃ (s : State) (client : W16) (c : Nat) (e : Bytes), BitVec.toNat client = c ∧ c < 1024 ∧ s.clientsOn = true ∧
      Takes 1537 s ∧ List.length e = 16 ∧ cliEntryOk e = true ∧ cliActive e = false ∧ s.clientHasSlots c = true) ∧
    (∃ (s : State) (client : W16) (c : Nat), BitVec.toNat client = c ∧ c < 1024 ∧ s.clientsOn = true ∧ Takes 1538 s) ∧
    (∃ (s : State) (client : W16) (c : Nat), BitVec.toNat client = c ∧ c < 1024 ∧ s.clientsOn = true ∧ Takes 1539 s ∧
      s.facePart 0 c = [] ∧ s.facePart 1 c = []) ∧
    (∃ (s : State) (client : W16) (c : Nat), BitVec.toNat client = c ∧ c < 1024 ∧ s.clientsOn = true ∧ Takes 1540 s) ∧
    (∃ (s : State) (client : W16) (c : Nat) (slot : W16), BitVec.toNat client = c ∧ c < 1024 ∧ s.clientsOn = true ∧
      Takes 1541 s ∧ BitVec.toNat slot < 1024) ∧
    (∃ (s : State) (c : BitVec 10) (fr : Frame), Live s ∧ s.clientsOn = true ∧ (List.length fr.octets < 64 ∨ 10240 <
      List.length fr.octets)) ∧
    (∃ (s : State) (c : BitVec 10) (fr : Frame), Live s ∧ s.clientsOn = true ∧ 64 ≤ List.length fr.octets ∧
      List.length fr.octets ≤ 10240 ∧ s.usableSlots 0 c.toNat = [] ∧ s.usableSlots 1 c.toNat = []) ∧
    (∃ (s : State) (c : BitVec 10) (f : BitVec 1) (st : Option (BitVec 18)) (fr : Frame) (k : Nat), Live s ∧
      s.clientsOn = true ∧ 64 ≤ List.length fr.octets ∧ List.length fr.octets ≤ 10240 ∧ s.placeOf c.toNat f.toNat
      (Option.map BitVec.toNat st) fr.octets = some k ∧ (s.txSlotAt k).backlog + List.length fr.octets + 3 ≤ cliQdepth
      (s.clientAt c.toNat).entry * 1024) ∧
    (∃ (s : State) (slot : BitVec 10) (fr : Frame) (c : Nat), Live s ∧ s.dropClient slot.toNat = some c ∧ (s.rxSlotAt
      slot.toNat).mismatch = false ∧ (s.rxSlotAt slot.toNat).sync = true ∧ fr.errored = true) ∧
    (∃ (s : State) (slot : BitVec 10) (fr : Frame) (c : Nat), Live s ∧ s.dropClient slot.toNat = some c ∧ (s.rxSlotAt
      slot.toNat).mismatch = false ∧ (s.rxSlotAt slot.toNat).sync = true ∧ dropGood fr = true ∧ s.streams.ready = true
      ∧ s.streams.queueDrop.length < 512) ∧
    (∃ (s : State) (slot : BitVec 10) (os : Bytes), Live s ∧ s.rxOn (slot.toNat / 64) = true ∧ s.dest slot.toNat =
      Dest.discard ∧ s.blockErrored slot.toNat false = false) ∧
    (∃ (s : State) (slot : BitVec 10) (os : Bytes), Live s ∧ s.rxOn (slot.toNat / 64) = true ∧ s.mapRuns slot.toNat =
      false ∧ s.blockErrored slot.toNat false = false) ∧
    (∃ (s : State) (slot : BitVec 10) (os : Bytes) (c : Nat), Live s ∧ s.rxOn (slot.toNat / 64) = true ∧ s.dest
      slot.toNat = Dest.client c ∧ s.mapRuns slot.toNat = true ∧ s.blockErrored slot.toNat false = false ∧ (s.rxSlotAt
      slot.toNat).sync = true ∧ List.length os = 32 ∧ 32 ≤ (s.rxSlotAt slot.toNat).left) :=
  ⟨⟨device, 0, 0, (1 :: List.replicate 15 0), by decide, by decide, by decide, ⟨by decide, by decide⟩, by decide, by
    decide, by decide, by decide, Or.inl (by decide)⟩,
  ⟨{ device with cliMem := { bytes := [(0, 1)] } }, 0, 0, (1 :: List.replicate 15 0), by decide, by decide, by decide,
    ⟨by decide, by decide⟩, by decide +kernel⟩,
  ⟨{ device with calMem := { bytes := [(3, 0x40)] } }, 0, 0, (List.replicate 16 0), by decide, by decide, by decide,
    ⟨by decide, by decide⟩, by decide +kernel⟩,
  ⟨device, 0, 0, by decide, by decide, by decide, ⟨by decide, by decide⟩⟩,
  ⟨device, 0, 0, by decide, by decide, by decide, ⟨by decide, by decide⟩, by decide +kernel⟩,
  ⟨device, 0, 0, by decide, by decide, by decide, ⟨by decide, by decide⟩⟩,
  ⟨device, 0, 0, 1023, by decide, by decide, by decide, ⟨by decide, by decide⟩, by decide⟩,
  ⟨device, 0, { octets := List.replicate 63 0 }, rfl, by decide +kernel⟩,
  ⟨device, 0, { octets := List.replicate 64 0 }, rfl, by decide +kernel⟩,
  ⟨{ device with calMem := { bytes := [(3, 0x40)] } }, 0, 0, none, { octets := List.replicate 64 0 }, 0, rfl,
    by decide +kernel⟩,
  ⟨{ device with rx := [(0, { st := RxSt.locked })], rxSlot := [(0, { route := 0x4000, routed := true, mismatch := false, sync := true })], client := [(0, { liveE := 3 })] },
    0, { octets := [], errored := true }, 0, rfl, by decide +kernel⟩,
  ⟨{ device with rx := [(0, { st := RxSt.locked })], rxSlot := [(0, { route := 0x4000, routed := true, mismatch := false, sync := true })], client := [(0, { liveE := 3 })] },
    0, { octets := List.replicate 60 0 ++ fcsOf (List.replicate 60 0) }, 0, rfl, by decide +kernel⟩,
  ⟨{ device with rx := [(0, { st := RxSt.locked })] }, 0, [], rfl, by decide +kernel⟩,
  ⟨{ device with rx := [(0, { st := RxSt.locked })] }, 0, [], rfl, by decide +kernel⟩,
  ⟨{ device with rx := [(0, { st := RxSt.locked })], rxSlot := [(0, { route := 0x4000, routed := true, sync := true, left := 32 })], client := [(0, { liveE := 3 })] },
    0, (List.replicate 32 0), 0, rfl, by decide +kernel⟩⟩

theorem witness_SlotBlocks :
    (∃ (s : State) (slot : BitVec 10), Live s ∧ s.framesData (slot.toNat / 64) = true ∧ slot.toNat % 64 < s.txS
      (slot.toNat / 64) ∧ entKind (s.slotEntry slot.toNat) = 2 ∧ (s.txSlotAt slot.toNat).blocks.length < 320) ∧
    (∃ (s : State) (slot : BitVec 10) (kind : Nat), Live s ∧ s.framesData (slot.toNat / 64) = false ∧ (kind = 2 ∨ kind
      = 3)) ∧
    (∃ (s : State) (slot : BitVec 10), Live s ∧ s.framesData (slot.toNat / 64) = true ∧ slot.toNat % 64 < s.txS
      (slot.toNat / 64) ∧ entKind (s.slotEntry slot.toNat) = 3 ∧ (s.txSlotAt slot.toNat).blocks.length < 320) ∧
    (∃ (s : State) (slot : BitVec 10), Live s ∧ entKind (s.slotEntry slot.toNat) = 3 ∧ (s.txSlotAt
      slot.toNat).mustSlip = true) :=
  ⟨⟨{ device with calMem := { bytes := [(3, 0x40)] }, tx := [(0, { st := TxSt.data })] }, 0, rfl, by decide +kernel⟩,
  ⟨device, 0, 3, rfl, by decide +kernel⟩,
  ⟨{ device with calMem := { bytes := [(3, 0x60)] }, tx := [(0, { st := TxSt.data })] }, 0, rfl, by decide +kernel⟩,
  ⟨{ device with calMem := { bytes := [(3, 0x60)] }, tx := [(0, { st := TxSt.data })], txSlot := [(0, { store := (List.replicate 56 (0, false)), started := true })] },
    0, rfl, by decide +kernel⟩⟩

theorem witness_Recovery :
    (∃ (p : Profile) (e : Byte) (q : W16) (x : Ctx) (f : BitVec 4), 2 ≤ BitVec.toNat p.histLen ∧ BitVec.toNat
      p.histLen ≤ 64 ∧ (Ctx.recover p e q x).snd = some f) ∧
    (∃ (p : Profile) (e : Byte) (q : W16) (x : Ctx), 2 ≤ BitVec.toNat p.histLen ∧ BitVec.toNat p.histLen ≤ 64 ∧
      (Ctx.recover p e q x).snd = none) ∧
    (∃ (p : Profile) (e : Byte) (q : W16) (x : Ctx), 2 ≤ BitVec.toNat p.histLen ∧ BitVec.toNat p.histLen ≤ 64 ∧
      (x.takeAny = true ∨ x.epoch ≠ e)) ∧
    (∃ (p : Profile) (e : Byte) (q : W16) (x : Ctx), 2 ≤ BitVec.toNat p.histLen ∧ BitVec.toNat p.histLen ≤ 64 ∧
      x.takeAny = false ∧ x.epoch = e ∧ x.cfg.alg = false ∧ q = x.recovSeq + 1) ∧
    (∃ (p : Profile) (e : Byte) (q : W16) (x : Ctx) (k : Nat), 2 ≤ BitVec.toNat p.histLen ∧ BitVec.toNat p.histLen ≤
      64 ∧ BitVec.toNat p.histLen ≤ k ∧ k ≤ 32767 ∧ x.takeAny = false ∧ x.epoch = e ∧ x.cfg.alg = false ∧ q =
      x.recovSeq + BitVec.ofNat 16 k) ∧
    (∃ (p : Profile) (e : Byte) (q : W16) (x : Ctx) (k : Nat), 2 ≤ BitVec.toNat p.histLen ∧ BitVec.toNat p.histLen ≤
      64 ∧ BitVec.toNat p.histLen ≤ k ∧ k ≤ 32768 ∧ x.takeAny = false ∧ x.epoch = e ∧ x.cfg.alg = false ∧ q =
      x.recovSeq - BitVec.ofNat 16 k) ∧
    (∃ (p : Profile) (e : Byte) (q : W16) (x : Ctx) (k : Nat), 2 ≤ BitVec.toNat p.histLen ∧ BitVec.toNat p.histLen ≤
      64 ∧ k < BitVec.toNat p.histLen ∧ x.takeAny = false ∧ x.epoch = e ∧ x.cfg.alg = false ∧ q = x.recovSeq -
      BitVec.ofNat 16 k ∧ bitOf x.history k = true) ∧
    (∃ (p : Profile) (e : Byte) (q : W16) (x : Ctx) (k : Nat), 2 ≤ BitVec.toNat p.histLen ∧ BitVec.toNat p.histLen ≤
      64 ∧ k < BitVec.toNat p.histLen ∧ x.takeAny = false ∧ x.epoch = e ∧ x.cfg.alg = false ∧ q = x.recovSeq -
      BitVec.ofNat 16 k ∧ bitOf x.history k = false) :=
  ⟨⟨{ histLen := 64 }, 0, 0, { takeAny := true }, ((Ctx.recover { histLen := 64 } 0 0 { takeAny := true }).2.getD 0),
    by decide +kernel⟩,
  ⟨{ histLen := 2 }, 0, 0, { recovSeq := 0, history := 1 }, by decide +kernel⟩,
  ⟨{ histLen := 2 }, 0, 0, { takeAny := true }, by decide +kernel⟩,
  ⟨{ histLen := 64 }, 0, 0, { recovSeq := 0xFFFF }, by decide +kernel⟩,
  ⟨{ histLen := 64 }, 0, 0x7FFE, { recovSeq := 0xFFFF }, 32767, by decide +kernel⟩,
  ⟨{ histLen := 64 }, 0, 0x7FFF, { recovSeq := 0xFFFF }, 32768, by decide +kernel⟩,
  ⟨{ histLen := 64 }, 0, 0, { recovSeq := 63, history := 1#64 <<< 63 }, 63, by decide +kernel⟩,
  ⟨{ histLen := 64 }, 0, 0, { recovSeq := 63, history := 1 }, 63, by decide +kernel⟩⟩

theorem witness_StreamInsertion :
    (∃ (s : State) (index : W32) (image : Bytes) (x : Nat), BitVec.toNat index = x ∧ x < 262144 ∧ s.strReady = true ∧
      Takes 1796 s ∧ List.length image = 56 ∧ imageOk image = true ∧ (s.ctxAt x).valid = true) ∧
    (∃ (s : State) (index : W32) (image : Bytes) (x : Nat) (t : State) (p : Bytes) (k : Nat), BitVec.toNat index = x ∧
      x < 262144 ∧ s.strReady = true ∧ Takes 1796 s ∧ List.length image = 56 ∧ imageOk image = true ∧ s.streams.upset
      = [] ∧ (∀ (q : Nat × Option KeyEnt), q ∈ s.streams.keys → ¬posBucket q.fst ∈ s.streams.failed) ∧ (s.ctxAt
      x).valid = false ∧ Answers (Instr.streamAdd index image) 1796 Status.tableFull p s t ∧ k ≠ x) ∧
    (∃ (s : State) (index : W32) (image : Bytes) (x : Nat), BitVec.toNat index = x ∧ x < 262144 ∧ s.strReady = true ∧
      Takes 1796 s ∧ List.length image = 56 ∧ imageOk image = true ∧ s.streams.upset = [] ∧ (s.ctxAt x).valid = false
      ∧ (cfgOf image).keys = [false] ∧ s.lookup ((cfgOf image).key false) = none ∧ freePlace (List.filter (fun w =>
      !(List.map (ctxWord x) (List.range 7)).contains w) s.streams.failed) s.streams.keys     ((cfgOf image).key
      false) ≠   none) :=
  ⟨⟨{ device with streams := { device.streams with ctxs := [(0, { valid := true })] } }, 0, (List.replicate 56 0), 0,
    by decide, by decide, by decide, ⟨by decide, by decide⟩, by decide +kernel⟩,
  ⟨{ device with streams := { device.streams with failed := candBuckets (keyWord 0 (List.replicate 6 0) 0) } }, 0,
    (List.replicate 56 0), 0, (nextOf (exec (.streamAdd 0 (List.replicate 56 0))
    { device with streams := { device.streams with failed := candBuckets (keyWord 0 (List.replicate 6 0) 0) } })), [],
    1, by decide, by decide, by decide, ⟨by decide, by decide⟩, by decide, by decide, by decide, by decide, by decide,
    answers_of (by decide +kernel) (by decide +kernel), by decide⟩,
  ⟨{ device with streams := { device.streams with upset := [], ctxs := [(0, { valid := false })] } }, 0,
    (List.replicate 56 0), 0, by decide, by decide, by decide, ⟨by decide, by decide⟩, by decide +kernel⟩⟩

theorem witness_StreamCommands :
    (∃ (s : State) (index : W32) (x : Nat) (m : Byte) (k : Byte) (n : W16), BitVec.toNat index = x ∧ x < 262144 ∧
      s.strReady = true ∧ s.streams.failed = [] ∧ s.streams.upset = [] ∧ Takes 1793 s ∧ BitVec.toNat m < 4 ∧ (bitOf m
      0 = true → BitVec.toNat k ≤ 1) ∧ (bitOf m 1 = true → 1 ≤ BitVec.toNat n ∧ BitVec.toNat n ≤ 10000)) ∧
    (∃ (s : State) (index : W32) (x : Nat) (pr : Byte) (h : Byte) (r : W16) (d : W16), BitVec.toNat index = x ∧ x <
      262144 ∧ s.strReady = true ∧ s.streams.failed = [] ∧ s.streams.upset = [] ∧ Takes 1794 s ∧ BitVec.toNat pr < 16
      ∧ 2 ≤ BitVec.toNat h ∧ BitVec.toNat h ≤ 64 ∧ r ≠ 0 ∧ d ≠ 0) ∧
    (∃ (s : State) (index : W32) (x : Nat) (pr : Byte), BitVec.toNat index = x ∧ x < 262144 ∧ s.strReady = true ∧
      s.streams.failed = [] ∧ s.streams.upset = [] ∧ Takes 1795 s ∧ BitVec.toNat pr < 16) ∧
    (∃ (s : State) (index : W32) (x : Nat), BitVec.toNat index = x ∧ x < 262144 ∧ s.strReady = true ∧ s.streams.failed
      = [] ∧ s.streams.upset = [] ∧ Takes 1797 s) ∧
    (∃ (s : State) (index : W32) (x : Nat), BitVec.toNat index = x ∧ x < 262144 ∧ s.strReady = true ∧ s.streams.failed
      = [] ∧ s.streams.upset = [] ∧ Takes 1799 s) ∧
    (∃ (s : State) (index : W32) (x : Nat) (m : W16) (b : Bytes), BitVec.toNat index = x ∧ x < 262144 ∧ s.strReady =
      true ∧ s.streams.failed = [] ∧ s.streams.upset = [] ∧ Takes 1800 s ∧ List.length b = 56 ∧ (s.ctxAt x).valid =
      true ∧ BitVec.toNat m < 512 ∧ (bitOf m 5 = true → BitVec.toNat (byteAt b 1) < 16) ∧ (bitOf m 7 = true → leAt b
      16 2 / 1024 % 16 = 0) ∧ (bitOf m 8 = true → leAt b 18 2 / 1024 % 16 = 0)) ∧
    (∃ (s : State) (index : W32) (x : Nat) (b : Bytes), BitVec.toNat index = x ∧ x < 262144 ∧ s.strReady = true ∧
      s.streams.failed = [] ∧ s.streams.upset = [] ∧ Takes 1800 s ∧ List.length b = 56 ∧ imageOk b = true ∧ (s.ctxAt
      x).valid = true ∧ List.map (cfgOf b).key (cfgOf b).keys = List.map (s.ctxAt x).cfg.key (s.ctxAt x).cfg.keys) ∧
    (∃ (s : State) (index : W32) (x : Nat) (b : Bytes), BitVec.toNat index = x ∧ x < 262144 ∧ s.strReady = true ∧
      s.streams.failed = [] ∧ s.streams.upset = [] ∧ Takes 1800 s ∧ List.length b = 56 ∧ imageOk b = true ∧ (s.ctxAt
      x).valid = true ∧ List.map (cfgOf b).key (cfgOf b).keys ≠ List.map (s.ctxAt x).cfg.key (s.ctxAt x).cfg.keys) ∧
    (∃ (s : State) (index : W32) (x : Nat) (key : Bytes) (i : Nat), BitVec.toNat index = x ∧ x < 262144 ∧ s.strReady =
      true ∧ s.streams.failed = [] ∧ s.streams.upset = [] ∧ Takes 1801 s ∧ List.length key = 10 ∧ s.lookup key = some
      i) ∧
    (∃ (s : State) (index : W32) (x : Nat), BitVec.toNat index = x ∧ x < 262144 ∧ s.strReady = true ∧ s.streams.failed
      = [] ∧ s.streams.upset = [] ∧ Takes 1802 s ∧ (s.ctxAt x).valid = true) ∧
    (∃ (s : State) (index : W32) (x : Nat), BitVec.toNat index = x ∧ x < 262144 ∧ s.strReady = true ∧ s.streams.failed
      = [] ∧ s.streams.upset = [] ∧ Takes 1802 s ∧ s.streams.sweepDue = false) ∧
    (∃ (s : State) (index : W32) (x : Nat), BitVec.toNat index = x ∧ x < 262144 ∧ s.strReady = true ∧ s.streams.failed
      = [] ∧ s.streams.upset = [] ∧ Takes 1802 s ∧ s.streams.sweepDue = true) ∧
    (∃ (s : State) (index : W32) (x : Nat) (bank : Byte) (bucket : W16), BitVec.toNat index = x ∧ x < 262144 ∧
      s.strReady = true ∧ s.streams.failed = [] ∧ s.streams.upset = [] ∧ Takes 1803 s ∧ s.stopped 3 = false ∧
      BitVec.toNat bank < 4 ∧ (∀ (q : Nat × Option KeyEnt), q ∈ s.streams.keys → posBucket q.fst ≠ (BitVec.toNat bank,
      BitVec.toNat bucket)) ∧ (∀ (y : Nat), y ∈ s.validCtxs → ∀ (a : Bool), a ∈ (s.ctxAt y).cfg.keys → (s.lookup
      ((s.ctxAt y).cfg.key a)).isSome = true)) ∧
    (∃ (s : State) (index : W32) (x : Nat), BitVec.toNat index = x ∧ x < 262144 ∧ s.strReady = true ∧ s.streams.failed
      = [] ∧ s.streams.upset = [] ∧ Takes 1804 s) ∧
    (∃ (s : State) (index : W32) (x : Nat) (first : W32), BitVec.toNat index = x ∧ x < 262144 ∧ s.strReady = true ∧
      s.streams.failed = [] ∧ s.streams.upset = [] ∧ Takes 1805 s ∧ 4 + 4 * (List.filter (fun y => (s.ctxAt y).ledSig
      && decide (BitVec.toNat first ≤ y)) s.validCtxs).length ≤ 240) ∧
    (∃ (s : State) (index : W32) (x : Nat), BitVec.toNat index = x ∧ x < 262144 ∧ s.strReady = true ∧ s.streams.failed
      = [] ∧ s.streams.upset = [] ∧ Takes 1806 s) :=
  ⟨⟨{ device with streams := { device.streams with upset := [] } }, 0, 0, 3, 0, 10000, by decide, by decide, by
    decide, by decide, by decide, ⟨by decide, by decide⟩, by decide +kernel⟩,
  ⟨{ device with streams := { device.streams with upset := [] } }, 0, 0, 15, 64, 1, 1, by decide, by decide, by
    decide, by decide, by decide, ⟨by decide, by decide⟩, by decide +kernel⟩,
  ⟨{ device with streams := { device.streams with upset := [] } }, 0, 0, 15, by decide, by decide, by decide, by
    decide, by decide, ⟨by decide, by decide⟩, by decide⟩,
  ⟨{ device with streams := { device.streams with upset := [] } }, 0, 0, by decide, by decide, by decide, by decide,
    by decide, ⟨by decide, by decide⟩⟩,
  ⟨{ device with streams := { device.streams with upset := [] } }, 0, 0, by decide, by decide, by decide, by decide,
    by decide, ⟨by decide, by decide⟩⟩,
  ⟨{ device with streams := { device.streams with upset := [], ctxs := [(0, { valid := true })] } }, 0, 0, 511,
    (List.replicate 56 0), by decide, by decide, by decide, by decide, by decide, ⟨by decide, by decide⟩,
    by decide +kernel⟩,
  ⟨{ device with streams := { device.streams with upset := [], ctxs := [(0, { valid := true })] } }, 0, 0,
    (List.replicate 56 0), by decide, by decide, by decide, by decide, by decide, ⟨by decide, by decide⟩,
    by decide +kernel⟩,
  ⟨{ device with streams := { device.streams with upset := [], ctxs := [(0, { valid := true })] } }, 0, 0,
    (List.replicate 44 0 ++ [1] ++ List.replicate 11 0), by decide, by decide, by decide, by decide, by decide, ⟨by
    decide, by decide⟩, by decide +kernel⟩,
  ⟨{ device with streams := { device.streams with ctxs := [(262143, { valid := true })], keys := [((candidates (keyWord 0 (List.replicate 6 0) 0)).headD 0, some { fp := fingerprint (keyWord 0 (List.replicate 6 0) 0), index := 262143 })], upset := [] } },
    0, 0, (keyWord 0 (List.replicate 6 0) 0), 262143, by decide, by decide, by decide, by decide, by decide, ⟨by
    decide, by decide⟩, by decide +kernel⟩,
  ⟨{ device with streams := { device.streams with upset := [], ctxs := [(0, { valid := true })] } }, 0, 0, by decide,
    by decide, by decide, by decide, by decide, ⟨by decide, by decide⟩, by decide⟩,
  ⟨{ device with streams := { device.streams with upset := [], sweepDue := false } }, 0, 0, by decide, by decide, by
    decide, by decide, by decide, ⟨by decide, by decide⟩, by decide⟩,
  ⟨{ device with streams := { device.streams with upset := [], sweepDue := true } }, 0, 0, by decide, by decide, by
    decide, by decide, by decide, ⟨by decide, by decide⟩, by decide⟩,
  ⟨{ device with streams := { device.streams with upset := [] } }, 0, 0, 3, 0, by decide, by decide, by decide, by
    decide, by decide, ⟨by decide, by decide⟩, by decide +kernel⟩,
  ⟨{ device with streams := { device.streams with upset := [] } }, 0, 0, by decide, by decide, by decide, by decide,
    by decide, ⟨by decide, by decide⟩⟩,
  ⟨{ device with streams := { device.streams with upset := [] } }, 0, 0, 0, by decide, by decide, by decide, by
    decide, by decide, ⟨by decide, by decide⟩, by decide⟩,
  ⟨{ device with streams := { device.streams with upset := [] } }, 0, 0, by decide, by decide, by decide, by decide,
    by decide, ⟨by decide, by decide⟩⟩⟩

theorem witness_StreamFrames :
    (∃ (s : State) (c : BitVec 10) (x : BitVec 18) (fr : Frame), Live s ∧ s.clientsOn = true ∧ s.stopped 3 = false ∧
      s.streams.failed = [] ∧ s.streams.upset = [] ∧ s.streams.ready = true ∧ s.mustWait x.toNat = false ∧ ((s.ctxAt
      x.toNat).valid = false ∨ (s.ctxAt x.toNat).cfg.dir = true ∨ (s.ctxAt x.toNat).cfg.client ≠ c)) ∧
    (∃ (s : State) (c : BitVec 10) (x : BitVec 18) (fr : Frame), Live s ∧ s.clientsOn = true ∧ s.stopped 3 = false ∧
      s.streams.failed = [] ∧ s.streams.upset = [] ∧ s.streams.ready = true ∧ s.mustWait x.toNat = false ∧ (s.ctxAt
      x.toNat).valid = true ∧ (s.ctxAt x.toNat).cfg.dir = false ∧ (s.ctxAt x.toNat).cfg.client = c) ∧
    (∃ (s : State) (c : BitVec 10) (f : BitVec 1) (fr : Frame), Live s ∧ s.clientsOn = true ∧ s.stopped 3 = false ∧
      s.streams.failed = [] ∧ s.streams.upset = [] ∧ s.streams.ready = true ∧ s.streams.wakeSweep = false ∧
      s.streams.dropKey = true ∧ hasRtag fr.octets = false ∧ (s.streams.queueDrop = [] ∨ s.streams.queueDrop.head? =
      some { client := c.toNat, face := f.toNat, frame := fr.octets }) ∧ (s.portAt (cliPort (s.clientAt
      c.toNat).entry)).st = PortSt.up ∧ (s.portAt (cliPort (s.clientAt c.toNat).entry)).fill + List.length fr.octets ≤
      131072) :=
  ⟨⟨{ device with streams := { device.streams with upset := [], ctxs := [(0, { valid := false })] } }, 0, 0,
    { octets := List.replicate 64 0 }, rfl, by decide +kernel⟩,
  ⟨{ device with streams := { device.streams with upset := [], ctxs := [(0, { valid := true, cfg := { dir := false, client := 0 } })] } },
    0, 0, { octets := List.replicate 64 0 }, rfl, by decide +kernel⟩,
  ⟨{ device with port := [(0, { st := .up })], streams := { device.streams with upset := [], wakeSweep := false, dropKey := true, queueDrop := [] } },
    0, 1, { octets := List.replicate 64 0 }, rfl, by decide, by decide, by decide +kernel⟩⟩

theorem witness_StreamTables :
    (∃ (s : State) (x : BitVec 18), Live s ∧ s.streamsOn = true ∧ Tab.wf { } s.streams.ctxs = true ∧ s.streams.failed
      = [] ∧ s.streams.upset = [] ∧ s.streams.ready = true ∧ (s.ctxAt x.toNat).valid = true ∧ (s.ctxAt x.toNat).timer
      = 1) ∧
    (∃ (s : State), Live s ∧ s.streamsOn = true ∧ Tab.wf { } s.streams.ctxs = true ∧ s.streams.failed = [] ∧
      s.streams.upset = [] ∧ s.streams.ready = true ∧ s.streams.wakeSweep = true) ∧
    (∃ (s : State) (b : BitVec 2) (w : BitVec 19), Live s ∧ s.streamsOn = true ∧ Tab.wf { } s.streams.ctxs = true ∧
      s.streams.failed = [] ∧ s.streams.upset = [] ∧ s.streams.ready = true) ∧
    (∃ (s : State), Live s ∧ s.streamsOn = true ∧ Tab.wf { } s.streams.ctxs = true ∧ s.streams.failed = [] ∧
      s.streams.upset = [] ∧ s.streams.ready = false) ∧
    (∃ (s : State) (dma : Byte) (a : W32) (n : W32), Live s ∧ s.streamsOn = true ∧ Tab.wf { } s.streams.ctxs = true ∧
      s.streams.failed = [] ∧ s.streams.upset = [] ∧ Takes 1798 s ∧ s.stopped 3 = false ∧ s.streams.ready = true ∧
      BitVec.toNat dma < 16 ∧ bufOk a (64 * BitVec.toNat n) = true ∧ (s.chanAt (BitVec.toNat dma)).free = true ∧
      s.streams.bulk = none) ∧
    (∃ (s : State) (b : Bulk), Live s ∧ s.streamsOn = true ∧ Tab.wf { } s.streams.ctxs = true ∧ s.streams.failed = []
      ∧ s.streams.upset = [] ∧ s.streams.ready = true ∧ s.streams.bulk = some b ∧ b.count = 0) ∧
    (∃ (s : State) (b : Bulk), Live s ∧ s.streamsOn = true ∧ Tab.wf { } s.streams.ctxs = true ∧ s.streams.failed = []
      ∧ s.streams.upset = [] ∧ s.streams.ready = true ∧ s.streams.bulk = some b ∧ b.count = 1 ∧ s.sramBad = [] ∧
      s.sramSoft = []) :=
  ⟨⟨{ device with streams := { device.streams with upset := [], ctxs := [(0, { valid := true, timer := 1 })] } }, 0,
    rfl, by decide +kernel⟩,
  ⟨{ device with streams := { device.streams with upset := [], wakeSweep := true } }, rfl, by decide +kernel⟩,
  ⟨{ device with streams := { device.streams with upset := [] } }, 0, 0, rfl, by decide +kernel⟩,
  ⟨{ device with streams := { device.streams with upset := [], ready := false } }, rfl, by decide +kernel⟩,
  ⟨{ device with streams := { device.streams with upset := [], bulk := none } }, 15, 1081344, 0, rfl, by decide, by
    decide, by decide, by decide, ⟨by decide, by decide⟩, by decide +kernel⟩,
  ⟨{ device with streams := { device.streams with upset := [], bulk := (some { count := 0, dma := 15, addr := 0x108000 }) } },
    _, rfl, by decide, by decide, by decide, by decide, by decide, rfl, by decide⟩,
  ⟨{ device with streams := { device.streams with upset := [], bulk := (some { count := 1, dma := 15, addr := 0x108000 }) }, sramSoft := [] },
    _, rfl, by decide, by decide, by decide, by decide, by decide, rfl, by decide +kernel⟩⟩

theorem witness_HostCommands :
    (∃ (s : State) (port : Byte) (p : Nat) (e : W16), BitVec.toNat port = p ∧ p < 16 ∧ Takes 2049 s ∧ etypeOk e =
      true) ∧
    (∃ (s : State) (port : Byte) (p : Nat) (e : W16), BitVec.toNat port = p ∧ p < 16 ∧ Takes 2049 s ∧ etypeOk e =
      false) ∧
    (∃ (s : State) (port : Byte) (p : Nat) (w : Byte) (tag : Byte) (tx : Byte) (rx : Byte), BitVec.toNat port = p ∧ p
      < 16 ∧ Takes 2050 s ∧ (s.portAt p).st = PortSt.disabled ∧ widthOk p (BitVec.toNat w) = true ∧ s.portClash p
      (BitVec.toNat w) = false ∧ BitVec.toNat tag ≤ 1 ∧ BitVec.toNat tx < 2 ^ BitVec.toNat w ∧ BitVec.toNat rx < 2 ^
      BitVec.toNat w ∧ (tag = 1 → s.vlanClash p = false)) ∧
    (∃ (s : State) (port : Byte) (p : Nat) (w : Byte), BitVec.toNat port = p ∧ p < 16 ∧ Takes 2050 s ∧ (s.portAt p).st
      ≠ PortSt.disabled ∧ widthOk p (BitVec.toNat w) = true ∧ s.portClash p (BitVec.toNat w) = false) ∧
    (∃ (s : State) (port : Byte) (p : Nat) (h : Byte) (m : Byte) (taps : Bytes) (sw : Byte) (ct : Byte) (fz : Byte),
      BitVec.toNat port = p ∧ p < 16 ∧ Takes 2051 s ∧ BitVec.toNat h < 32 ∧ BitVec.toNat m < 16 ∧ List.length taps = 5
      ∧ (bitOf m 0 = true → hostTapsOk taps = true) ∧ (bitOf m 1 = true → BitVec.toNat sw ≤ 15) ∧ (bitOf m 2 = true →
      BitVec.toNat ct ≤ 36 ∨ ct = 255) ∧ (bitOf m 3 = true → BitVec.toNat fz ≤ 1)) ∧
    (∃ (s : State) (port : Byte) (p : Nat) (h : Byte) (taps : Bytes), BitVec.toNat port = p ∧ p < 16 ∧ Takes 2051 s ∧
      BitVec.toNat h < 32 ∧ List.length taps = 5 ∧ hostTapsOk taps = false) ∧
    (∃ (s : State) (port : Byte) (p : Nat), BitVec.toNat port = p ∧ p < 16 ∧ Takes 2052 s) ∧
    (∃ (s : State) (port : Byte) (p : Nat) (h : Byte) (k : Byte), BitVec.toNat port = p ∧ p < 16 ∧ Takes 2053 s ∧
      BitVec.toNat h < 32 ∧ BitVec.toNat k ≤ 2 ∧ s.hostLaneUsed (BitVec.toNat h) = false ∧ (s.hlaneAt (BitVec.toNat
      h)).gen.on = false ∧ (s.hlaneAt (BitVec.toNat h)).check.on = false) ∧
    (∃ (s : State) (port : Byte) (p : Nat) (h : Byte) (k : Byte), BitVec.toNat port = p ∧ p < 16 ∧ Takes 2053 s ∧
      BitVec.toNat h < 32 ∧ BitVec.toNat k ≤ 2 ∧ s.hostLaneUsed (BitVec.toNat h) = true) ∧
    (∃ (s : State) (port : Byte) (p : Nat), BitVec.toNat port = p ∧ p < 16 ∧ Takes 2054 s ∧ BitVec.toNat (s.portAt
      p).width ≤ 4) ∧
    (∃ (s : State) (port : Byte) (p : Nat) (buf : W32), BitVec.toNat port = p ∧ p < 16 ∧ Takes 2054 s ∧ buf ≠ 0 ∧
      bufOk buf (96 + 32 * BitVec.toNat (s.portAt p).width) = true) :=
  ⟨⟨device, 0, 0, 0x600, by decide, by decide, ⟨by decide, by decide⟩, by decide⟩,
  ⟨device, 0, 0, 0, by decide, by decide, ⟨by decide, by decide⟩, by decide⟩,
  ⟨{ device with port := [(0, { st := PortSt.disabled })] }, 0, 0, 2, 1, 0, 0, by decide, by decide, ⟨by decide, by
    decide⟩, by decide +kernel⟩,
  ⟨{ device with port := [(15, { st := PortSt.up })] }, 15, 15, 2, by decide, by decide, ⟨by decide, by decide⟩,
    by decide +kernel⟩,
  ⟨device, 0, 0, 31, 15, [0, 0, 0, 64, 0], 0, 0, 0, by decide, by decide, ⟨by decide, by decide⟩, by decide +kernel⟩,
  ⟨device, 0, 0, 31, [0, 0, 0, 23, 0], by decide, by decide, ⟨by decide, by decide⟩, by decide +kernel⟩,
  ⟨device, 0, 0, by decide, by decide, ⟨by decide, by decide⟩⟩,
  ⟨device, 0, 0, 31, 2, by decide, by decide, ⟨by decide, by decide⟩, by decide +kernel⟩,
  ⟨{ device with port := [(15, { st := PortSt.up, width := 2 })] }, 0, 0, 31, 2, by decide, by decide, ⟨by decide, by
    decide⟩, by decide +kernel⟩,
  ⟨{ device with port := [(0, { width := 4 })] }, 0, 0, by decide, by decide, ⟨by decide, by decide⟩, by decide⟩,
  ⟨device, 0, 0, 1081344, by decide, by decide, ⟨by decide, by decide⟩, by decide +kernel⟩⟩

theorem witness_HostPorts :
    (∃ (s : State) (p : BitVec 4), Live s ∧ s.portLive p.toNat = true ∧ (s.portAt p.toNat).st = PortSt.acquire) ∧
    (∃ (s : State) (p : BitVec 4) (lost : Byte) (lf : Bool), Live s ∧ s.portLive p.toNat = true ∧ (s.portAt
      p.toNat).st = PortSt.up) ∧
    (∃ (s : State) (p : BitVec 4), Live s ∧ s.portLive p.toNat = true ∧ (s.portAt p.toNat).st = PortSt.remoteFault ∧
      (s.portAt p.toNat).aligned = true) ∧
    (∃ (s : State) (p : BitVec 4) (h : BitVec 5) (q : HostMeas) (a : Nat) (b : Nat) (c : Nat) (d : Nat), Live s ∧
      s.portLive p.toNat = true ∧ s.quadOn (h.toNat / 4) = true) ∧
    (∃ (s : State) (p : BitVec 4) (x : Port) (f : Bytes), Live s ∧ s.portLive p.toNat = true ∧ s.portAt p.toNat = x ∧
      s.skew.errQuads = 0 ∧ x.st.receives = true ∧ fcsGood f = false) ∧
    (∃ (s : State) (p : BitVec 4) (x : Port) (f : Bytes), Live s ∧ s.portLive p.toNat = true ∧ s.portAt p.toNat = x ∧
      s.skew.errQuads = 0 ∧ x.st.receives = true ∧ x.vlan = false ∧ fcsGood f = true ∧ 72 ≤ List.length f ∧
      List.length f ≤ 10248 ∧ slice f 12 2 ≠ beN 2 (BitVec.toNat s.etype)) ∧
    (∃ (s : State) (p : BitVec 4) (x : Port) (f : Bytes), Live s ∧ s.portLive p.toNat = true ∧ s.portAt p.toNat = x ∧
      s.skew.errQuads = 0 ∧ x.st.receives = true ∧ x.vlan = false ∧ fcsGood f = true ∧ 72 ≤ List.length f ∧
      List.length f ≤ 10248 ∧ slice f 12 2 = beN 2 (BitVec.toNat s.etype) ∧ htagOk (ofBe (slice f 14 6)) = true ∧
      cliActive (s.clientAt (ofBe (slice f 14 6) / 2 ^ 30 % 1024)).entry = true ∧ s.streams.ready = true ∧
      s.streams.queueAdd = [] ∧ ofBe (slice f 14 6) / 2 ^ 46 ≠ 1) ∧
    (∃ (s : State) (p : BitVec 4) (x : Port) (f : Bytes), Live s ∧ s.portLive p.toNat = true ∧ s.portAt p.toNat = x ∧
      s.skew.errQuads = 0 ∧ x.st.receives = true ∧ x.vlan = false ∧ fcsGood f = true ∧ 72 ≤ List.length f ∧
      List.length f ≤ 10248 ∧ slice f 12 2 = beN 2 (BitVec.toNat s.etype) ∧ htagOk (ofBe (slice f 14 6)) = true ∧
      cliActive (s.clientAt (ofBe (slice f 14 6) / 2 ^ 30 % 1024)).entry = true ∧ s.streams.ready = true ∧ ofBe (slice
      f 14 6) / 2 ^ 46 = 1 ∧ s.mustWait (ofBe (slice f 14 6) % 2 ^ 18) = true) ∧
    (∃ (s : State) (p : BitVec 4) (x : Port) (e : Egress) (r : List Egress), Live s ∧ s.portLive p.toNat = true ∧
      s.portAt p.toNat = x ∧ s.skew.errQuads = 0 ∧ x.st = PortSt.up ∧ x.egress = e :: r) :=
  ⟨⟨{ device with port := [(0, { st := PortSt.acquire })] }, 0, rfl, by decide +kernel⟩,
  ⟨{ device with port := [(0, { st := PortSt.up })] }, 0, 0, false, rfl, by decide +kernel⟩,
  ⟨{ device with port := [(0, { st := PortSt.remoteFault, aligned := true })] }, 0, rfl, by decide +kernel⟩,
  ⟨device, 0, 0, {}, 0, 0, 0, 0, rfl, by decide +kernel⟩,
  ⟨{ device with port := [(15, { st := PortSt.up })], skew := { device.skew with errQuads := 0 } }, 15, _,
    (List.replicate 72 0), rfl, by decide, rfl, by decide +kernel⟩,
  ⟨{ device with port := [(15, { st := PortSt.up, vlan := false })], skew := { device.skew with errQuads := 0 } }, 15,
    _, (tagged 0x0800 0), rfl, by decide, rfl, by decide +kernel⟩,
  ⟨{ device with port := [(15, { st := PortSt.up, vlan := false })], client := [(0, { entry := 1 :: List.replicate 15 0 })], skew := { device.skew with errQuads := 0 }, streams := { device.streams with queueAdd := [] } },
    15, _, (tagged 0x88B5 0), rfl, by decide, rfl, by decide, by decide, by decide, by decide +kernel⟩,
  ⟨{ device with port := [(15, { st := PortSt.up, vlan := false })], streams := { device.streams with queueAdd := [{ client := 0, idType := 1, ident := 0, frame := [] }] }, client := [(0, { entry := 1 :: List.replicate 15 0 })], skew := { device.skew with errQuads := 0 } },
    15, _, (tagged 0x88B5 (2 ^ 46)), rfl, by decide +kernel, rfl, by decide +kernel, by decide +kernel,
    by decide +kernel, by decide +kernel⟩,
  ⟨{ device with port := [(0, { egress := [{ octets := [], client := 0, face := 0, stream := none, flags := 0 }], st := PortSt.up })], skew := { device.skew with errQuads := 0 } },
    0, _, { octets := [], client := 0, face := 0, stream := none, flags := 0 }, [], rfl, by decide, rfl,
    by decide +kernel⟩⟩

theorem witness_IcingCommands :
    (∃ (s : State) (face : Byte) (f : Nat) (m : W32) (a : W16) (n : Byte), BitVec.toNat face = f ∧ f < 2 ∧ s.icingOn f
      = true ∧ Takes 2305 s ∧ s.icingOn (1 - f) = true ∧ BitVec.toNat m < 4 ∧ (bitOf m 0 = true → a ≠ 65535)) ∧
    (∃ (s : State) (face : Byte) (f : Nat) (m : W32) (a : W16) (n : Byte) (en : Byte) (gr : Byte) (gt : Byte) (gm :
      Byte) (dg : Byte) (dp : Byte) (rp : W16) (la : Byte) (ac : Byte) (ra : Byte) (dt : Byte) (ct : Byte) (tc : W16)
      (wg : Byte) (acc : Byte), BitVec.toNat face = f ∧ f < 2 ∧ s.icingOn f = true ∧ Takes 2305 s ∧ BitVec.toNat m < 2
      ^ 17 ∧ (s.sys.tier ≠ 0 ∨ ∀ (k : Nat), k < 17 → bitOf m k = true → k ∈ [0, 1, 2, 3, 12, 13, 14]) ∧ (bitOf m 0 =
      true → a ≠ 65535) ∧ (bitOf m 2 = true → BitVec.toNat en ≤ 1) ∧ (bitOf m 3 = true → gr ≠ 0 ∧ BitVec.toNat gr <
      64) ∧ (bitOf m 4 = true → gt = 0 ∨ 6 ≤ BitVec.toNat gt ∧ BitVec.toNat gt ≤ 11) ∧ (bitOf m 5 = true →
      BitVec.toNat gm ≤ 15) ∧ (bitOf m 6 = true → 6 ≤ BitVec.toNat dg ∧ BitVec.toNat dg ≤ 11) ∧ (bitOf m 7 = true → 1
      ≤ BitVec.toNat dp ∧ BitVec.toNat dp ≤ 100) ∧ (bitOf m 8 = true → BitVec.toNat rp ≤ 600) ∧ (bitOf m 9 = true →
      BitVec.toNat la / 8 = f) ∧ (bitOf m 10 = true → BitVec.toNat ac ≤ 1) ∧ (bitOf m 11 = true → 1 ≤ BitVec.toNat ra
      ∧ BitVec.toNat ra ≤ 32) ∧ (bitOf m 12 = true → 6 ≤ BitVec.toNat dt ∧ BitVec.toNat dt ≤ 15) ∧ (bitOf m 13 = true
      → 3 ≤ BitVec.toNat ct ∧ BitVec.toNat ct ≤ 15) ∧ (bitOf m 14 = true → -1024 ≤ BitVec.toInt tc ∧ BitVec.toInt tc ≤
      1023) ∧ (bitOf m 15 = true → 6 ≤ BitVec.toNat wg ∧ BitVec.toNat wg ≤ 11) ∧ (bitOf m 16 = true → BitVec.toNat acc
      < 4)) ∧
    (∃ (s : State) (face : Byte) (f : Nat), BitVec.toNat face = f ∧ f < 2 ∧ s.icingOn f = true ∧ Takes 2306 s) ∧
    (∃ (s : State) (face : Byte) (f : Nat), BitVec.toNat face = f ∧ f < 2 ∧ s.icingOn f = true ∧ Takes 2307 s) ∧
    (∃ (s : State) (face : Byte) (f : Nat) (a : W16), BitVec.toNat face = f ∧ f < 2 ∧ s.icingOn f = true ∧ Takes 2308
      s ∧ a ≠ 65535) ∧
    (∃ (s : State) (face : Byte) (f : Nat) (a : Byte) (b : Byte), BitVec.toNat face = f ∧ f < 2 ∧ s.icingOn f = true ∧
      Takes 2309 s ∧ BitVec.toNat a / 8 = f ∧ BitVec.toNat b < 16) ∧
    (∃ (s : State) (face : Byte) (f : Nat) (d : W16), BitVec.toNat face = f ∧ f < 2 ∧ s.icingOn f = true ∧ Takes 2310
      s ∧ s.icTxAvail f = true ∧ nodeOk d = true ∧ s.icFull f = false ∧ (s.icingAt f).burst = none) ∧
    (∃ (s : State) (face : Byte) (f : Nat) (d : W16) (x : Bytes), BitVec.toNat face = f ∧ f < 2 ∧ s.icingOn f = true ∧
      Takes 2311 s ∧ d ≠ 0 ∧ d ≠ 65535 ∧ List.length x ≤ 247 ∧ s.icFull f = false ∧ (s.icingAt f).burst = none) ∧
    (∃ (s : State) (face : Byte) (f : Nat) (d : W16) (x : Bytes), BitVec.toNat face = f ∧ f < 2 ∧ s.icingOn f = true ∧
      Takes 2311 s ∧ d ≠ 0 ∧ List.length x ≤ 247 ∧ s.icFull f = true) ∧
    (∃ (s : State) (face : Byte) (f : Nat) (n : Byte), BitVec.toNat face = f ∧ f < 2 ∧ s.icingOn f = true ∧ Takes 2312
      s ∧ 1 + (List.flatMap genRxBytes (List.take (BitVec.toNat n) (s.icingAt f).genRx)).length ≤ 240) ∧
    (∃ (s : State) (face : Byte) (f : Nat) (d : W16) (w : W16) (g : Byte) (r : Byte), BitVec.toNat face = f ∧ f < 2 ∧
      s.icingOn f = true ∧ Takes 2313 s ∧ s.icTxAvail f = true ∧ d ≠ 0 ∧ 6 ≤ BitVec.toNat g ∧ BitVec.toNat g ≤ 11 ∧ 1
      ≤ BitVec.toNat w ∧ BitVec.toNat w ≤ 10050 ∧ s.dst1608 f d = false ∧ s.icFull f = false ∧ (s.icingAt f).burst =
      none) ∧
    (∃ (s : State) (face : Byte) (f : Nat), BitVec.toNat face = f ∧ f < 2 ∧ s.icingOn f = true ∧ Takes 2314 s) :=
  ⟨⟨device, 0, 0, 3, 0xFFFE, 255, by decide, by decide, by decide, ⟨by decide, by decide⟩, by decide +kernel⟩,
  ⟨device, 0, 0, 0x1FFFF, 0xFFFE, 255, 1, 63, 11, 15, 11, 100, 600, 7, 1, 32, 15, 15, 1023, 11, 3, by decide, by
    decide, by decide, ⟨by decide, by decide⟩, by decide, Or.inl (by decide), by decide, by decide, by decide, by
    decide, by decide, by decide, by decide, by decide +kernel⟩,
  ⟨device, 0, 0, by decide, by decide, by decide, ⟨by decide, by decide⟩⟩,
  ⟨device, 0, 0, by decide, by decide, by decide, ⟨by decide, by decide⟩⟩,
  ⟨device, 0, 0, 0, by decide, by decide, by decide, ⟨by decide, by decide⟩, by decide⟩,
  ⟨device, 0, 0, 0, 15, by decide, by decide, by decide, ⟨by decide, by decide⟩, by decide +kernel⟩,
  ⟨{ device with tx := [(0, { st := TxSt.data })], icing := [(0, { burst := none })] }, 0, 0, 1, by decide, by decide,
    by decide, ⟨by decide, by decide⟩, by decide +kernel⟩,
  ⟨{ device with icing := [(0, { burst := none })] }, 0, 0, 1, [], by decide, by decide, by decide, ⟨by decide, by
    decide⟩, by decide +kernel⟩,
  ⟨{ device with icing := [(1, { queue := (List.replicate 16 { mtype := 0x30, dst := 2, payload := [], cls := 3, pick := .given 9 }) })] },
    1, 1, 1, [], by decide, by decide, by decide, ⟨by decide, by decide⟩, by decide +kernel⟩,
  ⟨device, 0, 0, 0, by decide, by decide, by decide, ⟨by decide, by decide⟩, by decide⟩,
  ⟨{ device with tx := [(0, { st := TxSt.data })], icing := [(0, { burst := none })] }, 0, 0, 1, 10050, 11, 0, by
    decide, by decide, by decide, ⟨by decide, by decide⟩, by decide +kernel⟩,
  ⟨device, 0, 0, by decide, by decide, by decide, ⟨by decide, by decide⟩⟩⟩

theorem witness_IcingReceiver :
    (∃ (s : State) (fb : BitVec 1) (r : IcRx) (off : Int), Live s ∧ inToffee s = false ∧ s.icingOn fb.toNat = true ∧
      (s.icingAt fb.toNat).cfg.rxEnable = true ∧ s.blanked fb.toNat = false ∧ (s.icingAt fb.toNat).rx = r ∧ 24 < off ∧
      r.st = IcSt.search) ∧
    (∃ (s : State) (fb : BitVec 1) (r : IcRx) (off : Int), Live s ∧ inToffee s = false ∧ s.icingOn fb.toNat = true ∧
      (s.icingAt fb.toNat).cfg.rxEnable = true ∧ s.blanked fb.toNat = false ∧ (s.icingAt fb.toNat).rx = r ∧ off < -24
      ∧ r.st = IcSt.search) ∧
    (∃ (s : State) (fb : BitVec 1) (r : IcRx) (g : BitVec 4) (ws : List IcWin), Live s ∧ inToffee s = false ∧
      s.icingOn fb.toNat = true ∧ (s.icingAt fb.toNat).cfg.rxEnable = true ∧ s.blanked fb.toNat = false ∧ (s.icingAt
      fb.toNat).rx = r ∧ r.st = IcSt.search ∧ s.isRun fb.toNat g.toNat ((s.icingAt fb.toNat).carried g.toNat (ws.headD
      { }).bin) ws = true) ∧
    (∃ (s : State) (fb : BitVec 1) (r : IcRx) (w : IcWin), Live s ∧ inToffee s = false ∧ s.icingOn fb.toNat = true ∧
      (s.icingAt fb.toNat).cfg.rxEnable = true ∧ s.blanked fb.toNat = false ∧ (s.icingAt fb.toNat).rx = r ∧ r.st =
      IcSt.detect ∧ r.step = 0 ∧ winPasses r.grade (s.detDb fb.toNat) w = true ∧ nearBin r.grade w.bin r.bin = false ∧
      nearBin r.grade w.bin (wordBin r.grade r.bin (BitVec.toNat r.net / 16)) = true) ∧
    (∃ (s : State) (fb : BitVec 1) (r : IcRx) (w : IcWin), Live s ∧ inToffee s = false ∧ s.icingOn fb.toNat = true ∧
      (s.icingAt fb.toNat).cfg.rxEnable = true ∧ s.blanked fb.toNat = false ∧ (s.icingAt fb.toNat).rx = r ∧ r.st =
      IcSt.detect ∧ winPasses r.grade (s.detDb fb.toNat) w = false) ∧
    (∃ (s : State) (fb : BitVec 1) (r : IcRx) (w : IcWin), Live s ∧ inToffee s = false ∧ s.icingOn fb.toNat = true ∧
      (s.icingAt fb.toNat).cfg.rxEnable = true ∧ s.blanked fb.toNat = false ∧ (s.icingAt fb.toNat).rx = r ∧ r.st =
      IcSt.detect ∧ r.step = 3 ∧ winPasses r.grade (s.detDb fb.toNat) w = true) ∧
    (∃ (s : State) (fb : BitVec 1) (r : IcRx) (g : BitVec 4) (ws : List IcWin) (w : IcWin) (chips : Int), Live s ∧
      inToffee s = false ∧ s.icingOn fb.toNat = true ∧ (s.icingAt fb.toNat).cfg.rxEnable = true ∧ s.blanked fb.toNat =
      false ∧ (s.icingAt fb.toNat).rx = r ∧ r.st = IcSt.body ∧ s.isRun fb.toNat g.toNat 0 (ws ++ [w]) = true ∧
      r.sameRun g.toNat (ws.headD w).bin chips = false ∧ 16 * ↑(BitVec.toNat (s.icingAt fb.toNat).cfg.capThresh) ≤
      (s.icingAt fb.toNat).levelOf w - r.level) ∧
    (∃ (s : State) (fb : BitVec 1) (r : IcRx) (g : BitVec 4) (ws : List IcWin) (w : IcWin) (chips : Int), Live s ∧
      inToffee s = false ∧ s.icingOn fb.toNat = true ∧ (s.icingAt fb.toNat).cfg.rxEnable = true ∧ s.blanked fb.toNat =
      false ∧ (s.icingAt fb.toNat).rx = r ∧ r.st = IcSt.body ∧ s.isRun fb.toNat g.toNat 0 (ws ++ [w]) = true ∧
      r.sameRun g.toNat (ws.headD w).bin chips = false ∧ (s.icingAt fb.toNat).levelOf w - r.level < 16 *
      ↑(BitVec.toNat (s.icingAt fb.toNat).cfg.capThresh)) ∧
    (∃ (s : State) (fb : BitVec 1) (r : IcRx) (len : Byte) (m : BitVec 4), Live s ∧ inToffee s = false ∧ s.icingOn
      fb.toNat = true ∧ (s.icingAt fb.toNat).cfg.rxEnable = true ∧ s.blanked fb.toNat = false ∧ (s.icingAt
      fb.toNat).rx = r ∧ r.st = IcSt.header ∧ 6 ≤ BitVec.toNat len) ∧
    (∃ (s : State) (fb : BitVec 1) (r : IcRx) (ok : Bool) (len : Byte) (m : BitVec 4), Live s ∧ inToffee s = false ∧
      s.icingOn fb.toNat = true ∧ (s.icingAt fb.toNat).cfg.rxEnable = true ∧ s.blanked fb.toNat = false ∧ (s.icingAt
      fb.toNat).rx = r ∧ r.st = IcSt.header ∧ (ok = false ∨ BitVec.toNat len < 6)) ∧
    (∃ (s : State) (fb : BitVec 1) (r : IcRx) (info : Bytes) (p : Nat) (q : Nat), Live s ∧ inToffee s = false ∧
      s.icingOn fb.toNat = true ∧ (s.icingAt fb.toNat).cfg.rxEnable = true ∧ s.blanked fb.toNat = false ∧ (s.icingAt
      fb.toNat).rx = r ∧ r.st = IcSt.body ∧ List.length info = BitVec.toNat r.len + 2 ∧ BitVec.toNat (crc16 (List.take
      (BitVec.toNat r.len) info)) ≠ ofBe (List.drop (BitVec.toNat r.len) info)) ∧
    (∃ (s : State) (fb : BitVec 1) (r : IcRx) (info : Bytes) (p : Nat) (q : Nat) (src : W16), Live s ∧ inToffee s =
      false ∧ s.icingOn fb.toNat = true ∧ (s.icingAt fb.toNat).cfg.rxEnable = true ∧ s.blanked fb.toNat = false ∧
      (s.icingAt fb.toNat).rx = r ∧ r.st = IcSt.body ∧ List.length info = BitVec.toNat r.len + 2 ∧ BitVec.toNat (crc16
      (List.take (BitVec.toNat r.len) info)) = ofBe (List.drop (BitVec.toNat r.len) info) ∧ src = BitVec.ofNat 16
      (ofBe (slice info 4 2)) ∧ src ≠ r.addr ∧ ofBe (slice info 2 2) = BitVec.toNat r.addr ∧ icTypeOk (BitVec.toNat
      (byteAt info 1)) (BitVec.toNat (byteAt info 0) - 6) = true) ∧
    (∃ (s : State) (fb : BitVec 1) (r : IcRx) (lv : Int), Live s ∧ inToffee s = false ∧ s.icingOn fb.toNat = true ∧
      (s.icingAt fb.toNat).cfg.rxEnable = true ∧ s.blanked fb.toNat = false ∧ (s.icingAt fb.toNat).rx = r) :=
  ⟨⟨{ device with icing := [(1, { cfg := { rxEnable := true }, rx := { st := IcSt.search } })] }, 1, _, 25, rfl, by
    decide, by decide, by decide, by decide, rfl, by decide +kernel⟩,
  ⟨{ device with icing := [(1, { cfg := { rxEnable := true }, rx := { st := IcSt.search } })] }, 1, _, (-25), rfl, by
    decide, by decide, by decide, by decide, rfl, by decide +kernel⟩,
  ⟨{ device with icing := [(1, { cfg := { rxEnable := true }, rx := { st := IcSt.search } })] }, 1, _, 9,
    (List.replicate 4 { bin := 100, peak := 1000000, rest := 1 }), rfl, by decide +kernel, by decide +kernel,
    by decide +kernel, by decide +kernel, rfl, by decide +kernel⟩,
  ⟨{ device with icing := [(1, { rx := { bin := 100, grade := 9, st := IcSt.detect, step := 0 }, cfg := { rxEnable := true } })] },
    1, _, { bin := 116, peak := 1000000, rest := 1 }, rfl, by decide +kernel, by decide +kernel, by decide +kernel,
    by decide +kernel, rfl, by decide +kernel⟩,
  ⟨{ device with icing := [(1, { cfg := { rxEnable := true }, rx := { st := IcSt.detect } })] }, 1, _, {}, rfl, by
    decide, by decide, by decide, by decide, rfl, by decide +kernel⟩,
  ⟨{ device with icing := [(1, { cfg := { rxEnable := true }, rx := { st := IcSt.detect, step := 3 } })] }, 1, _,
    { bin := 0, peak := 1000000, rest := 1 }, rfl, by decide +kernel, by decide +kernel, by decide +kernel,
    by decide +kernel, rfl, by decide +kernel⟩,
  ⟨{ device with icing := [(1, { cfg := { rxEnable := true }, rx := { st := IcSt.body } })] }, 1, _, 9,
    (List.replicate 3 { bin := 100, peak := 1000000, rest := 1 }),
    ({ bin := 100, peak := 1000000, rest := 1, power := 2400 }), 2, rfl, by decide +kernel, by decide +kernel,
    by decide +kernel, by decide +kernel, rfl, by decide +kernel⟩,
  ⟨{ device with icing := [(1, { cfg := { rxEnable := true }, rx := { st := IcSt.body } })] }, 1, _, 9,
    (List.replicate 3 { bin := 100, peak := 1000000, rest := 1 }),
    ({ bin := 100, peak := 1000000, rest := 1, power := -9000 }), 2, rfl, by decide +kernel, by decide +kernel,
    by decide +kernel, by decide +kernel, rfl, by decide +kernel⟩,
  ⟨{ device with icing := [(1, { cfg := { rxEnable := true }, rx := { st := IcSt.header } })] }, 1, _, 6, 0, rfl, by
    decide, by decide, by decide, by decide, rfl, by decide +kernel⟩,
  ⟨{ device with icing := [(1, { cfg := { rxEnable := true }, rx := { st := IcSt.header } })] }, 1, _, false, 0, 0,
    rfl, by decide, by decide, by decide, by decide, rfl, by decide +kernel⟩,
  ⟨{ device with icing := [(1, { cfg := { rxEnable := true }, rx := { st := IcSt.body } })] }, 1, _, [1, 0], 0, 0,
    rfl, by decide +kernel, by decide +kernel, by decide +kernel, by decide +kernel, rfl, by decide +kernel⟩,
  ⟨{ device with icing := [(1, { rx := { len := 17, addr := 0x0101, st := IcSt.body }, cfg := { rxEnable := true } })] },
    1, _, ((beN 1 17 ++ [1] ++ beN 2 0x0101 ++ beN 2 0x0202 ++ List.replicate 11 0) ++ be16 (crc16 (beN 1 17 ++ [1] ++
    beN 2 0x0101 ++ beN 2 0x0202 ++ List.replicate 11 0))), 0, 0, 0x0202, rfl, by decide +kernel, by decide +kernel,
    by decide +kernel, by decide +kernel, rfl, by decide +kernel⟩,
  ⟨{ device with icing := [(1, { cfg := { rxEnable := true } })] }, 1, _, 0, rfl, by decide, by decide, by decide, by
    decide, rfl⟩⟩

theorem witness_IcingMessages :
    (∃ (s : State) (fb : BitVec 1) (i : Icing) (src : W16) (p : Bytes) (a : W16) (b : W16), Live s ∧ inToffee s =
      false ∧ s.icingOn fb.toNat = true ∧ s.icingAt fb.toNat = i ∧ i.burst = none ∧ i.queue.length < 16 ∧ i.nbrs = []
      ∧ i.pin = 0 ∧ i.far = 0 ∧ src ≠ 0) ∧
    (∃ (s : State) (fb : BitVec 1) (i : Icing) (src : W16) (p : Bytes) (a : W16) (b : W16), Live s ∧ inToffee s =
      false ∧ s.icingOn fb.toNat = true ∧ s.icingAt fb.toNat = i ∧ i.burst = none ∧ i.queue.length < 16 ∧ i.nbr src =
      none ∧ 8 ≤ i.nbrs.length ∧ (∀ (n : Nbr), n ∈ i.nbrs → n.found = true)) ∧
    (∃ (s : State) (fb : BitVec 1) (i : Icing) (n : Nbr), Live s ∧ inToffee s = false ∧ s.icingOn fb.toNat = true ∧
      s.icingAt fb.toNat = i ∧ i.burst = none ∧ i.queue.length < 16 ∧ i.nbrs = [n] ∧ n.found = true ∧ i.far = n.addr ∧
      n.addr ≠ 0) ∧
    (∃ (s : State) (fb : BitVec 1) (i : Icing), Live s ∧ inToffee s = false ∧ s.icingOn fb.toNat = true ∧ s.icingAt
      fb.toNat = i ∧ i.burst = none ∧ i.queue.length < 16 ∧ s.icTxAvail fb.toNat = true) ∧
    (∃ (s : State) (fb : BitVec 1) (i : Icing), Live s ∧ inToffee s = false ∧ s.icingOn fb.toNat = true ∧ s.icingAt
      fb.toNat = i ∧ i.burst = none ∧ i.queue.length < 16 ∧ i.cfg.reportPeriod ≠ 0) ∧
    (∃ (s : State) (fb : BitVec 1) (i : Icing) (src : W16) (q : Byte), Live s ∧ inToffee s = false ∧ s.icingOn
      fb.toNat = true ∧ s.icingAt fb.toNat = i ∧ i.burst = none ∧ i.queue.length < 16) ∧
    (∃ (s : State) (fb : BitVec 1) (i : Icing) (src : W16) (g : Byte) (fl : Byte) (d : Bytes) (gr : Byte) (a : W16) (b
      : W16), Live s ∧ inToffee s = false ∧ s.icingOn fb.toNat = true ∧ s.icingAt fb.toNat = i ∧ i.burst = none ∧
      i.queue.length < 16 ∧ i.lastGenOf src ≠ some g ∧ i.genRx = []) ∧
    (∃ (s : State) (fb : BitVec 1) (i : Icing) (src : W16) (g : Byte) (d : Bytes) (gr : Byte) (a : W16) (b : W16),
      Live s ∧ inToffee s = false ∧ s.icingOn fb.toNat = true ∧ s.icingAt fb.toNat = i ∧ i.burst = none ∧
      i.queue.length < 16 ∧ i.lastGenOf src = some g) ∧
    (∃ (s : State) (fb : BitVec 1) (i : Icing) (w : GenWait), Live s ∧ inToffee s = false ∧ s.icingOn fb.toNat = true
      ∧ s.icingAt fb.toNat = i ∧ i.burst = none ∧ i.queue.length < 16 ∧ i.genWait = [w] ∧ w.resends < 3) ∧
    (∃ (s : State) (fb : BitVec 1) (i : Icing) (w : GenWait), Live s ∧ inToffee s = false ∧ s.icingOn fb.toNat = true
      ∧ s.icingAt fb.toNat = i ∧ i.burst = none ∧ i.queue.length < 16 ∧ i.genWait = [w] ∧ 3 ≤ w.resends) :=
  ⟨⟨{ device with icing := [(1, { burst := none, nbrs := [], pin := 0, far := 0 })] }, 1, _, 1, [], 0, 0, rfl, by
    decide, by decide, rfl, by decide +kernel⟩,
  ⟨{ device with icing := [(1, { nbrs := (List.replicate 8 { addr := 2, found := true, disc := [], at_ := 0, rssi := 0, snr := 0 }), burst := none })] },
    1, _, 1, [], 0, 0, rfl, by decide, by decide, rfl, by decide +kernel⟩,
  ⟨{ device with icing := [(1, { far := 1, burst := none, nbrs := [{ found := true, addr := 1, disc := [], at_ := 0, rssi := 0, snr := 0 }] })] },
    1, _, _, rfl, by decide, by decide, rfl, by decide, by decide, rfl, by decide +kernel⟩,
  ⟨{ device with tx := [(8, { st := TxSt.data })], icing := [(1, { burst := none })] }, 1, _, rfl, by decide, by
    decide, rfl, by decide +kernel⟩,
  ⟨{ device with icing := [(1, { burst := none, cfg := { reportPeriod := 1 } })] }, 1, _, rfl, by decide, by decide,
    rfl, by decide +kernel⟩,
  ⟨{ device with icing := [(1, { burst := none })] }, 1, _, 0, 0, rfl, by decide, by decide, rfl, by decide +kernel⟩,
  ⟨{ device with icing := [(1, { burst := none, genRx := [] })] }, 1, _, 0, 0, 0, [], 0, 0, 0, rfl, by decide, by
    decide, rfl, by decide +kernel⟩,
  ⟨{ device with icing := [(1, { lastGen := [(0, 0)], burst := none })] }, 1, _, 0, 0, [], 0, 0, 0, rfl, by decide, by
    decide, rfl, by decide +kernel⟩,
  ⟨{ device with icing := [(1, { burst := none, genWait := [{ resends := 2, gseq := 1, dst := 0x0202, payload := [], grade := 9 }] })] },
    1, _, _, rfl, by decide, by decide, rfl, by decide, by decide, rfl, by decide⟩,
  ⟨{ device with icing := [(1, { burst := none, genWait := [{ resends := 3, gseq := 1, dst := 0x0202, payload := [], grade := 9 }] })] },
    1, _, _, rfl, by decide, by decide, rfl, by decide, by decide, rfl, by decide⟩⟩

theorem witness_IcingBursts :
    (∃ (s : State) (fb : BitVec 1) (i : Icing), Live s ∧ s.icingAt fb.toNat = i ∧ s.icTxAvail fb.toNat = true ∧
      i.burst = none ∧ i.waiting = false ∧ i.queue ≠ [] ∧ (∀ (fr : IcFrame), fr ∈ i.queue → fr.cls ≤ 3) ∧ i.cfg.duplex
      = false ∧ i.rx.st ≠ IcSt.search ∧ i.defers < 15) ∧
    (∃ (s : State) (fb : BitVec 1) (i : Icing) (fr : IcFrame) (c : Instr), Live s ∧ s.icingAt fb.toNat = i ∧
      s.icTxAvail fb.toNat = true ∧ i.queue = [fr] ∧ fr.cls ≤ 3 ∧ fr.mtype = 1 ∧ (i.cfg.duplex = true ∨ i.rx.st =
      IcSt.search) ∧ (c = Instr.icingBurstStart fb ∧ i.burst = none ∧ i.waiting = false ∨ c = Instr.icingBackoffEnd fb
      ∧ i.waiting = true)) ∧
    (∃ (s : State) (fb : BitVec 1) (i : Icing) (fr : IcFrame), Live s ∧ s.icingAt fb.toNat = i ∧ s.icTxAvail fb.toNat
      = true ∧ i.queue = [fr] ∧ fr.cls ≤ 3 ∧ i.waiting = true ∧ i.defers = 15 ∧ i.cfg.duplex = false ∧ i.rx.st ≠
      IcSt.search) ∧
    (∃ (s : State) (fb : BitVec 1) (i : Icing) (b : Burst), Live s ∧ s.icingAt fb.toNat = i ∧ i.burst = some b ∧
      b.stopped = true) ∧
    (∃ (s : State) (fb : BitVec 1) (i : Icing) (b : Burst), Live s ∧ s.icingAt fb.toNat = i ∧ i.burst = some b ∧
      b.stopped = false) ∧
    (∃ (s : State) (fb : BitVec 1) (i : Icing) (b : Burst) (n : BitVec 2), Live s ∧ s.icingAt fb.toNat = i ∧ i.burst =
      some b ∧ (b.stopped = true ∨   (s.txAt (8 * fb.toNat + b.lane)).st ≠ TxSt.data ∧ (s.txAt (8 * fb.toNat +
      b.lane)).st ≠ TxSt.icingOnly) ∧ n.toNat < b.frames.length) ∧
    (∃ (s : State) (fb : BitVec 1) (i : Icing) (fr : IcFrame) (q : List IcFrame), Live s ∧ s.icingAt fb.toNat = i ∧
      s.icingOn fb.toNat = true ∧ s.nodeAddr = 0 ∧ i.queue = fr :: q) :=
  ⟨⟨{ device with icing := [(1, { queue := [{ mtype := 0x30, dst := 2, payload := [], cls := 3, pick := .given 9 }], rx := { st := IcSt.detect }, burst := none, waiting := false, cfg := { duplex := false }, defers := 14 })], tx := [(8, { st := TxSt.data })] },
    1, _, rfl, rfl, by decide +kernel⟩,
  ⟨{ device with tx := [(8, { st := TxSt.data })], icing := [(1, { queue := [{ cls := 3, mtype := 1, dst := 0x0202, payload := [], pick := .given 9 }], cfg := { duplex := true } })] },
    1, _, _, (Instr.icingBurstStart 1), rfl, rfl, by decide, rfl, by decide +kernel⟩,
  ⟨{ device with tx := [(8, { st := TxSt.data })], icing := [(1, { queue := [{ cls := 3, mtype := 0x30, dst := 0x0202, payload := [], pick := .given 9 }], waiting := true, defers := 15, cfg := { duplex := false } })] },
    1, _, _, rfl, rfl, by decide, rfl, by decide +kernel⟩,
  ⟨{ device with icing := [(1, { burst := some { stopped := true } })] }, 1, _, { stopped := true }, rfl, rfl, rfl, by
    decide⟩,
  ⟨{ device with icing := [(1, { burst := (some {}) })] }, 1, _, _, rfl, rfl, rfl, by decide⟩,
  ⟨{ device with icing := [(1, { burst := some { frames := (List.replicate 4 { mtype := 0x30, dst := 2, payload := [], cls := 3, pick := .given 9 }) } })], tx := [(8, { st := TxSt.quiet })] },
    1, _, { frames := (List.replicate 4 { mtype := 0x30, dst := 2, payload := [], cls := 3, pick := .given 9 }) }, 3,
    rfl, rfl, rfl, by decide +kernel⟩,
  ⟨{ device with icing := [(1, { queue := [{ mtype := 0x30, dst := 2, payload := [], cls := 3, pick := .given 9 }] })], nodeAddr := 0 },
    1, _, { mtype := 0x30, dst := 2, payload := [], cls := 3, pick := .given 9 }, [], rfl, rfl, by decide +kernel⟩⟩

theorem witness_HandOvers :
    (∃ (s : State) (l : BitVec 4) (lane : Byte) (f : Nat) (src : W16) (m : Byte) (fb : BitVec 1), BitVec.toNat lane =
      l.toNat ∧ f = l.toNat / 8 ∧ (s.icingAt f).burst = none ∧ (s.icingAt f).queue.length < 16 ∧ Live s ∧ fb.toNat = f
      ∧ s.icingOn f = true ∧ inToffee s = false ∧ (s.icingAt f).reqIn = [] ∧ s.laneBusy l.toNat = false ∧ s.dst1608 f
      src = false ∧ s.inMode l.toNat true = false ∧ (s.stretchAt l.toNat).accept = true) ∧
    (∃ (s : State) (l : BitVec 4) (lane : Byte) (f : Nat) (src : W16) (m : Byte) (fb : BitVec 1) (r : ReqIn) (a :
      Bytes), BitVec.toNat lane = l.toNat ∧ f = l.toNat / 8 ∧ (s.icingAt f).burst = none ∧ (s.icingAt f).queue.length
      < 16 ∧ Live s ∧ fb.toNat = f ∧ s.icingOn f = true ∧ inToffee s = false ∧ (s.icingAt f).reqInOf false src m =
      some r ∧ r.answer = some a ∧ s.dst1608 f src = false) ∧
    (∃ (s : State) (l : BitVec 4) (lane : Byte) (f : Nat) (r : ReqOut) (fb : BitVec 1), BitVec.toNat lane = l.toNat ∧
      f = l.toNat / 8 ∧ (s.icingAt f).burst = none ∧ (s.icingAt f).queue.length < 16 ∧ Live s ∧ fb.toNat = f ∧
      (s.icingAt f).reqOut = [r] ∧ r.tier = false ∧ r.cancel = false ∧ r.lane = l.toNat) ∧
    (∃ (s : State) (l : BitVec 4) (lane : Byte) (f : Nat) (r : ReqOut) (fb : BitVec 1), BitVec.toNat lane = l.toNat ∧
      f = l.toNat / 8 ∧ (s.icingAt f).burst = none ∧ (s.icingAt f).queue.length < 16 ∧ Live s ∧ fb.toNat = f ∧
      (s.icingAt f).reqOut = [r] ∧ r.resends = 0 ∧ s.dst1608 f r.dst = false) ∧
    (∃ (s : State) (l : BitVec 4) (lane : Byte) (f : Nat) (h : HandOver), BitVec.toNat lane = l.toNat ∧ f = l.toNat /
      8 ∧ (s.icingAt f).burst = none ∧ (s.icingAt f).queue.length < 16 ∧ Live s ∧ (s.stretchAt l.toNat).handOver =
      some h ∧ h.initiator = true ∧ h.agreed = false ∧ (s.icingAt f).reqOut = []) ∧
    (∃ (s : State) (l : BitVec 4) (lane : Byte) (f : Nat) (fb : BitVec 1) (r : ReqIn) (h : HandOver), BitVec.toNat
      lane = l.toNat ∧ f = l.toNat / 8 ∧ (s.icingAt f).burst = none ∧ (s.icingAt f).queue.length < 16 ∧ Live s ∧
      fb.toNat = f ∧ (s.icingAt f).reqIn = [r] ∧ r.tier = false ∧ r.answer = some [r.mseq, lane, resAccept] ∧ byteAt
      r.payload 1 = lane ∧ (s.stretchAt l.toNat).handOver = some h ∧ h.mseq = r.mseq ∧ h.initiator = false) ∧
    (∃ (s : State) (l : BitVec 4) (lane : Byte) (f : Nat) (r : ReqIn), BitVec.toNat lane = l.toNat ∧ f = l.toNat / 8 ∧
      (s.icingAt f).burst = none ∧ (s.icingAt f).queue.length < 16 ∧ Takes 777 s ∧ s.askedMode f l.toNat r.mseq = some
      r ∧ s.dst1608 f r.src = false) ∧
    (∃ (s : State) (l : BitVec 4) (lane : Byte) (f : Nat) (r : ReqIn), BitVec.toNat lane = l.toNat ∧ f = l.toNat / 8 ∧
      (s.icingAt f).burst = none ∧ (s.icingAt f).queue.length < 16 ∧ Takes 777 s ∧ s.askedMode f l.toNat r.mseq = some
      r ∧ s.laneBusy l.toNat = false ∧ byteAt r.payload 0 = r.mseq ∧ byteAt r.payload 2 = 1) ∧
    (∃ (s : State) (l : BitVec 4) (lane : Byte) (f : Nat) (r : ReqIn) (fb : BitVec 1), BitVec.toNat lane = l.toNat ∧ f
      = l.toNat / 8 ∧ (s.icingAt f).burst = none ∧ (s.icingAt f).queue.length < 16 ∧ Live s ∧ fb.toNat = f ∧
      (s.icingAt f).reqIn = [r] ∧ r.answer = none ∧ r.tier = false ∧ s.dst1608 f r.src = false) ∧
    (∃ (s : State) (l : BitVec 4) (lane : Byte) (f : Nat) (h : HandOver), BitVec.toNat lane = l.toNat ∧ f = l.toNat /
      8 ∧ (s.icingAt f).burst = none ∧ (s.icingAt f).queue.length < 16 ∧ Live s ∧ (s.stretchAt l.toNat).handOver =
      some h ∧ h.agreed = true ∧ s.inMode l.toNat h.stretch = false ∧ ((s.rxAt l.toNat).st ≠ RxSt.locked ∨ (s.rxAt
      l.toNat).snapBusy = false)) :=
  ⟨⟨{ device with icing := [(1, { burst := none, reqIn := [] })], stretch := [(15, { accept := true })] }, 15, 15, 1,
    0, 0, 1, by decide, by decide, by decide, by decide, rfl, by decide +kernel⟩,
  ⟨{ device with icing := [(1, { reqIn := [{ mseq := 7, tier := false, src := 0x0202, payload := [7, 15, 0, 0], answer := some [7] }], burst := none })] },
    15, 15, 1, 0x0202, 7, 1,
    { mseq := 7, tier := false, src := 0x0202, payload := [7, 15, 0, 0], answer := some [7] }, [7], by decide, by
    decide, by decide, by decide, rfl, by decide +kernel⟩,
  ⟨{ device with icing := [(1, { burst := none, reqOut := [{ tier := false, cancel := false, lane := 15, mseq := 7, dst := 0x0202, payload := [], resends := 0 }] })] },
    15, 15, 1, _, 1, by decide, by decide, by decide, by decide, rfl, by decide, rfl, by decide +kernel⟩,
  ⟨{ device with icing := [(1, { burst := none, reqOut := [{ resends := 0, mseq := 7, tier := false, lane := 15, dst := 0x0202, payload := [] }] })] },
    15, 15, 1, _, 1, by decide, by decide, by decide, by decide, rfl, by decide, rfl, by decide +kernel⟩,
  ⟨{ device with icing := [(1, { burst := none, reqOut := [] })], stretch := [(15, { handOver := (some { initiator := true, agreed := false }) })] },
    15, 15, 1, _, by decide, by decide, by decide, by decide, rfl, rfl, by decide +kernel⟩,
  ⟨{ device with icing := [(1, { reqIn := [{ mseq := 7, tier := false, src := 0x0202, payload := [7, 15, 0, 0], answer := some [7, 15, resAccept] }], burst := none })], stretch := [(15, { handOver := (some { mseq := 7, initiator := false }) })] },
    15, 15, 1, 1,
    { mseq := 7, tier := false, src := 0x0202, payload := [7, 15, 0, 0], answer := some [7, 15, resAccept] }, _, by
    decide, by decide, by decide, by decide, rfl, by decide, rfl, by decide, by decide, by decide, rfl,
    by decide +kernel⟩,
  ⟨{ device with icing := [(1, { reqIn := [{ mseq := 7, tier := false, src := 0x0202, payload := [7, 15, 1, 0], answer := none }], burst := none })] },
    15, 15, 1, { mseq := 7, tier := false, src := 0x0202, payload := [7, 15, 1, 0], answer := none }, by decide, by
    decide, by decide, by decide, ⟨by decide, by decide⟩, by decide +kernel⟩,
  ⟨{ device with icing := [(1, { reqIn := [{ mseq := 7, tier := false, src := 0x0202, payload := [7, 15, 1, 0], answer := none }], burst := none })] },
    15, 15, 1, { mseq := 7, tier := false, src := 0x0202, payload := [7, 15, 1, 0], answer := none }, by decide, by
    decide, by decide, by decide, ⟨by decide, by decide⟩, by decide +kernel⟩,
  ⟨{ device with icing := [(1, { reqIn := [{ mseq := 7, tier := false, src := 0x0202, payload := [7, 15, 0, 0], answer := none }], burst := none })] },
    15, 15, 1, { mseq := 7, tier := false, src := 0x0202, payload := [7, 15, 0, 0], answer := none }, 1, by decide, by
    decide, by decide, by decide, rfl, by decide, rfl, by decide +kernel⟩,
  ⟨{ device with rx := [(15, { st := RxSt.off })], stretch := [(15, { handOver := some { agreed := true, stretch := true } })], icing := [(1, { burst := none })] },
    15, 15, 1, _, by decide, by decide, by decide, by decide, rfl, rfl, by decide +kernel⟩⟩

theorem witness_LoopCommands :
    (∃ (s : State) (loop : Byte) (n : Nat) (x : Loop) (first : Byte) (count : Byte) (d : Bytes), BitVec.toNat loop = n
      ∧ n < 192 ∧ s.coreOn (n / 48) = true ∧ s.loopAt n = x ∧ x.words.length = 32 ∧ Takes 2562 s ∧ 1 ≤ BitVec.toNat
      count ∧ BitVec.toNat first + BitVec.toNat count ≤ 32 ∧ List.length d = 4 * BitVec.toNat count ∧ s.writeOk
      (writeWords n false (BitVec.toNat first) (BitVec.toNat count) d) = true ∧ (BitVec.toNat first + BitVec.toNat
      count ≤ 24 ∨ x.on = false) ∧ s.loopRej.contains (n / 2) = false) ∧
    (∃ (s : State) (loop : Byte) (n : Nat) (x : Loop) (buf : W32), BitVec.toNat loop = n ∧ n < 192 ∧ s.coreOn (n / 48)
      = true ∧ s.loopAt n = x ∧ x.words.length = 32 ∧ Takes 2562 s ∧ buf ≠ 0 ∧ bufOk buf 256 = true ∧ s.sramBad = [] ∧
      s.sramSoft = [] ∧ s.writeOk (writeWords n true 0 0 (s.sramRead (winToSram (BitVec.toNat buf)) 256)) = true ∧
      (s.loopAt (n / 2 * 2)).on = false ∧ (s.loopAt (n / 2 * 2 + 1)).on = false) ∧
    (∃ (s : State) (loop : Byte) (n : Nat) (x : Loop) (w : W32), BitVec.toNat loop = n ∧ n < 192 ∧ s.coreOn (n / 48) =
      true ∧ s.loopAt n = x ∧ x.words.length = 32 ∧ Takes 2562 s ∧ f32Finite w = false) ∧
    (∃ (s : State) (loop : Byte) (n : Nat) (x : Loop) (w : W32), BitVec.toNat loop = n ∧ n < 192 ∧ s.coreOn (n / 48) =
      true ∧ s.loopAt n = x ∧ x.words.length = 32 ∧ Takes 2562 s ∧ f32Finite w = true ∧ x.on = true) ∧
    (∃ (s : State) (loop : Byte) (n : Nat) (x : Loop) (vm : W32) (am : W32) (jm : W32) (fl : Byte) (v : W32),
      BitVec.toNat loop = n ∧ n < 192 ∧ s.coreOn (n / 48) = true ∧ s.loopAt n = x ∧ x.words.length = 32 ∧ Takes 2564 s
      ∧ BitVec.toNat fl ≤ 1 ∧ f32Finite v = true ∧ (fl = 1 → ∀ (u : W32), u ∈ [vm, am, jm] → f32Finite u = true ∧
      f32Pos u = true)) ∧
    (∃ (s : State) (loop : Byte) (n : Nat) (x : Loop), BitVec.toNat loop = n ∧ n < 192 ∧ s.coreOn (n / 48) = true ∧
      s.loopAt n = x ∧ x.words.length = 32 ∧ Takes 2563 s) ∧
    (∃ (s : State) (loop : Byte) (n : Nat) (x : Loop) (v : W32), BitVec.toNat loop = n ∧ n < 192 ∧ s.coreOn (n / 48) =
      true ∧ s.loopAt n = x ∧ x.words.length = 32 ∧ Takes 2564 s ∧ f32Finite v = true ∧ (x.st = 0 ∨ x.st = 5) ∧
      s.loopCrumbOk (n / 2) = true) ∧
    (∃ (s : State) (loop : Byte) (n : Nat) (x : Loop) (v : W32), BitVec.toNat loop = n ∧ n < 192 ∧ s.coreOn (n / 48) =
      true ∧ s.loopAt n = x ∧ x.words.length = 32 ∧ Takes 2564 s ∧ f32Finite v = true ∧ (x.st = 0 ∨ x.st = 5) ∧
      s.loopRej.contains (n / 2) = true) ∧
    (∃ (s : State) (loop : Byte) (n : Nat) (x : Loop) (v : W32), BitVec.toNat loop = n ∧ n < 192 ∧ s.coreOn (n / 48) =
      true ∧ s.loopAt n = x ∧ x.words.length = 32 ∧ Takes 2564 s ∧ f32Finite v = true ∧ (x.st = 0 ∨ x.st = 5) ∧
      s.loopRej.contains (n / 2) = false ∧ s.loopCrumbOk (n / 2) = false) ∧
    (∃ (s : State) (loop : Byte) (n : Nat) (x : Loop) (v : W32), BitVec.toNat loop = n ∧ n < 192 ∧ s.coreOn (n / 48) =
      true ∧ s.loopAt n = x ∧ x.words.length = 32 ∧ Takes 2564 s ∧ f32Finite v = true ∧ x.st = 1) ∧
    (∃ (s : State) (loop : Byte) (n : Nat) (x : Loop) (v : W32), BitVec.toNat loop = n ∧ n < 192 ∧ s.coreOn (n / 48) =
      true ∧ s.loopAt n = x ∧ x.words.length = 32 ∧ Takes 2564 s ∧ f32Finite v = true ∧ x.st = 5) ∧
    (∃ (s : State) (loop : Byte) (n : Nat) (x : Loop) (v : W32), BitVec.toNat loop = n ∧ n < 192 ∧ s.coreOn (n / 48) =
      true ∧ s.loopAt n = x ∧ x.words.length = 32 ∧ Takes 2565 s ∧ f32Finite v = true ∧ (x.st = 2 ∨ x.st = 4)) ∧
    (∃ (s : State) (loop : Byte) (n : Nat) (x : Loop), BitVec.toNat loop = n ∧ n < 192 ∧ s.coreOn (n / 48) = true ∧
      s.loopAt n = x ∧ x.words.length = 32 ∧ Takes 2566 s) ∧
    (∃ (s : State) (loop : Byte) (n : Nat) (x : Loop) (a : W32) (i : W32) (p : W16) (c : W16), BitVec.toNat loop = n ∧
      n < 192 ∧ s.coreOn (n / 48) = true ∧ s.loopAt n = x ∧ x.words.length = 32 ∧ Takes 2567 s ∧ f32Finite a = true ∧
      BitVec.toNat p ≤ 256 ∧ 1 ≤ BitVec.toNat c ∧ BitVec.toNat p + BitVec.toNat c ≤ 1024 ∧ (x.st = 2 ∨ x.st = 4) ∧
      (s.coreAt (n / 48)).test = none) ∧
    (∃ (s : State) (loop : Byte) (n : Nat) (x : Loop) (core : Byte) (dma : Byte) (a : W32), BitVec.toNat loop = n ∧ n
      < 192 ∧ s.coreOn (n / 48) = true ∧ s.loopAt n = x ∧ x.words.length = 32 ∧ Takes 2568 s ∧ BitVec.toNat core < 4 ∧
      BitVec.toNat dma < 16 ∧ bufOk a (16 * (s.coreAt (BitVec.toNat core)).records.length) = true ∧ (s.chanAt
      (BitVec.toNat dma)).free = true ∧ s.pd (80 + BitVec.toNat core) = true) ∧
    (∃ (s : State) (loop : Byte) (n : Nat) (x : Loop) (core : Byte) (dma : Byte) (a : W32), BitVec.toNat loop = n ∧ n
      < 192 ∧ s.coreOn (n / 48) = true ∧ s.loopAt n = x ∧ x.words.length = 32 ∧ Takes 2568 s ∧ BitVec.toNat core < 4 ∧
      BitVec.toNat dma < 16 ∧ bufOk a (16 * (s.coreAt (BitVec.toNat core)).records.length) = true ∧ (s.chanAt
      (BitVec.toNat dma)).free = true ∧ s.pd (80 + BitVec.toNat core) = false) ∧
    (∃ (s : State) (loop : Byte) (n : Nat) (x : Loop), BitVec.toNat loop = n ∧ n < 192 ∧ s.coreOn (n / 48) = true ∧
      s.loopAt n = x ∧ x.words.length = 32 ∧ Takes 2569 s) ∧
    (∃ (s : State) (loop : Byte) (n : Nat) (x : Loop), BitVec.toNat loop = n ∧ n < 192 ∧ s.coreOn (n / 48) = true ∧
      s.loopAt n = x ∧ x.words.length = 32 ∧ Takes 2561 s ∧ x.st = 0 ∧ s.loopRej.contains (n / 2) = false) :=
  ⟨⟨device, 0, 0, _, 16, 1, (List.replicate 4 0), by decide, by decide, by decide, rfl, by decide, ⟨by decide, by
    decide⟩, by decide, by decide, by decide, by decide, Or.inl (by decide), by decide⟩,
  ⟨{ device with sram := (Tab.ofList 0 (winToSram 0x108000) ((List.replicate 68 0 ++ [0, 0, 0x80, 0x3F, 0, 0, 0x80, 0x3F, 0, 0, 0x80, 0x3F] ++ List.replicate 48 0) ++ (List.replicate 68 0 ++ [0, 0, 0x80, 0x3F, 0, 0, 0x80, 0x3F, 0, 0, 0x80, 0x3F] ++ List.replicate 48 0))), sramSoft := [], loop := [(0, { words := (List.replicate 32 0).set 31 0 }), (1, { words := (List.replicate 32 0).set 31 0 })] },
    0, 0, _, 1081344, by decide +kernel, by decide +kernel, by decide +kernel, rfl, by decide +kernel, ⟨by decide, by
    decide⟩, by decide +kernel⟩,
  ⟨device, 0, 0, _, 0x7F800000, by decide, by decide, by decide, rfl, by decide, ⟨by decide, by decide⟩, by decide⟩,
  ⟨{ device with loop := [(0, { words := (List.replicate 32 0).set 31 256 })] }, 0, 0, _, 0, by decide, by decide, by
    decide, rfl, by decide, ⟨by decide, by decide⟩, by decide +kernel⟩,
  ⟨device, 0, 0, _, 0x3F800000, 0x3F800000, 0x3F800000, 1, 0, by decide, by decide, by decide, rfl, by decide, ⟨by
    decide, by decide⟩, by decide, by decide, fun _ u h => (List.mem_singleton.mp (by simpa using h) : u = 0x3F800000)
    ▸ by decide⟩,
  ⟨device, 0, 0, _, by decide, by decide, by decide, rfl, by decide, ⟨by decide, by decide⟩⟩,
  ⟨{ device with loop := [(0, { words := (List.replicate 32 0).set 31 0 })] }, 0, 0, _, 0, by decide, by decide, by
    decide, rfl, by decide, ⟨by decide, by decide⟩, by decide +kernel⟩,
  ⟨{ device with loopRej := [95], loop := [(191, { words := (List.replicate 32 0).set 31 0 })] }, 191, 191, _, 0, by
    decide, by decide, by decide, rfl, by decide, ⟨by decide, by decide⟩, by decide +kernel⟩,
  ⟨{ device with loopSyn := [(0, 1)], loop := [(0, { words := (List.replicate 32 0).set 31 0 })] }, 0, 0, _, 0, by
    decide, by decide, by decide, rfl, by decide, ⟨by decide, by decide⟩, by decide +kernel⟩,
  ⟨{ device with loop := [(0, { words := (List.replicate 32 0).set 31 256 })] }, 0, 0, _, 0, by decide, by decide, by
    decide, rfl, by decide, ⟨by decide, by decide⟩, by decide +kernel⟩,
  ⟨{ device with loop := [(0, { words := (List.replicate 32 0).set 31 1280 })] }, 0, 0, _, 0, by decide, by decide, by
    decide, rfl, by decide, ⟨by decide, by decide⟩, by decide +kernel⟩,
  ⟨{ device with loop := [(0, { words := (List.replicate 32 0).set 31 512 })] }, 0, 0, _, 0, by decide, by decide, by
    decide, rfl, by decide, ⟨by decide, by decide⟩, by decide +kernel⟩,
  ⟨device, 0, 0, _, by decide, by decide, by decide, rfl, by decide, ⟨by decide, by decide⟩⟩,
  ⟨{ device with loop := [(0, { words := (List.replicate 32 0).set 31 512 })], core := [(0, { test := none })] }, 0,
    0, _, 0, 0, 256, 1, by decide, by decide, by decide, rfl, by decide, ⟨by decide, by decide⟩, by decide +kernel⟩,
  ⟨device, 0, 0, _, 3, 15, 1081344, by decide, by decide, by decide, rfl, by decide, ⟨by decide, by decide⟩,
    by decide +kernel⟩,
  ⟨{ device with pwr := { device.pwr with domains := 0xF7FFFFFFFFFFFFFFFFFFFF } }, 0, 0, _, 3, 15, 1081344, by decide,
    by decide, by decide, rfl, by decide, ⟨by decide, by decide⟩, by decide +kernel⟩,
  ⟨device, 0, 0, _, by decide, by decide, by decide, rfl, by decide, ⟨by decide, by decide⟩⟩,
  ⟨{ device with loop := [(0, { words := (List.replicate 32 0).set 31 0 })] }, 0, 0, _, by decide, by decide, by
    decide, rfl, by decide, ⟨by decide, by decide⟩, by decide +kernel⟩⟩

theorem witness_LoopClamps :
    ∃ (l : Loop) (l' : Loop) (fi : FrameIn) (e : W32) (i : Nat), l.words.length = 32 ∧ f32Le (l.w 4) (l.w 5) = true ∧
      f32Le (l.w 6) (l.w 7) = true ∧ Loop.lawFrame fi l = some (l', e) ∧ i < 16 :=
  ⟨{}, (((Loop.lawFrame fin0 {}).map (·.1)).getD {}), fin0, (((Loop.lawFrame fin0 {}).map (·.2)).getD 0), 15,
    by decide +kernel⟩

theorem witness_CoreFrames :
    (∃ (s : State) (q : Nat), q < 4 ∧ (s.coreAt q).writes = [] ∧ (s.coreAt q).test = none ∧ (s.coreAt q).missed = none
      ∧ (∀ (n : Nat),   n ∈ coreLoops q →     (s.loopAt n).words.length = 32 ∧       (s.loopAt n).swapDue = false ∧
      (s.loopAt n).st ≠ 3 ∧ (s.loopAt n).lockin = false ∧ (s.loopAt n).resume = false)) ∧
    (∃ (s : State) (q : BitVec 2), Live s ∧ s.coreOn q.toNat = true ∧ s.madcOn q.toNat = false ∧ (s.coreAt
      q.toNat).writes = [] ∧ (s.coreAt q.toNat).missed = none ∧ (∀ (n : Nat), n ∈ coreLoops q.toNat → (s.loopAt n).st
      = 0)) ∧
    (∃ (s : State) (q : BitVec 2) (n : Nat) (y : W32) (x' : Loop), Live s ∧ s.coreOn q.toNat = true ∧ n < 192 ∧ n / 48
      = q.toNat ∧ s.madcOn q.toNat = false ∧ (s.coreAt q.toNat).writes = [] ∧ (s.coreAt q.toNat).missed = none ∧
      (s.coreAt q.toNat).test = none ∧ (∀ (k : Nat), k ∈ coreLoops q.toNat → k ≠ n → (s.loopAt k).st = 0) ∧ (s.loopAt
      n).words.length = 32 ∧ (s.loopAt n).st = 2 ∧ (s.loopAt n).swapDue = false ∧ (s.loopAt n).lockin = false ∧
      s.monValid (s.loopAt n).meas = true ∧ (s.loopAt n).measure (foutCodes (s.monAt (s.loopAt n).meas).fout) = some y
      ∧ Loop.openFrame { y := y } (s.loopAt n) = some x') :=
  ⟨⟨{ device with core := [(3, { writes := [], test := none, missed := none })] }, 3, by decide +kernel⟩,
  ⟨{ device with pwr := { device.pwr with domains := 0xDFFFFFFFFFFFFFFFFFFFFF }, core := [(3, { writes := [], missed := none })] },
    3, rfl, by decide +kernel⟩,
  ⟨{ device with pwr := { device.pwr with domains := 0xDFFFFFFFFFFFFFFFFFFFFF }, mon := [(0, { valid := true })], core := [(3, { writes := [], missed := none, test := none })], loop := [(191, { words := ((List.replicate 32 0).set 0 0).set 31 512, swapDue := false })] },
    3, 191, 0, ((Loop.openFrame { y := 0 } (({ words := ((List.replicate 32 0).set 0 0).set 31 512 } : Loop))).getD
    {}), rfl, by decide +kernel, by decide +kernel, by decide +kernel, by decide +kernel, by decide +kernel,
    by decide +kernel, by decide +kernel⟩⟩

theorem witness_LoopEvents :
    (∃ (s : State) (loop : Byte) (n : Nat) (x : Loop), BitVec.toNat loop = n ∧ n < 192 ∧ Live s ∧ s.coreOn (n / 48) =
      true ∧ s.loopAt n = x ∧ x.words.length = 32 ∧ (s.coreAt (n / 48)).test = none ∧ x.st = 3 ∧ 64 ≤ x.hoCount) ∧
    (∃ (s : State) (loop : Byte) (n : Nat) (x : Loop), BitVec.toNat loop = n ∧ n < 192 ∧ Live s ∧ s.coreOn (n / 48) =
      true ∧ s.loopAt n = x ∧ x.words.length = 32 ∧ (s.coreAt (n / 48)).test = none ∧ x.st = 4 ∧ bitOf (x.w 0) 5 =
      true ∧ x.setB = false ∧ bitOf (x.w 31) 5 = false ∧ 4 ≤ x.swapRun ∧ x.autoSwap = false) ∧
    (∃ (s : State) (loop : Byte) (n : Nat) (x : Loop), BitVec.toNat loop = n ∧ n < 192 ∧ Live s ∧ s.coreOn (n / 48) =
      true ∧ s.loopAt n = x ∧ x.words.length = 32 ∧ (s.coreAt (n / 48)).test = none ∧ x.st = 4 ∧ f32Eq (x.w 23) 0 =
      false ∧ 2 ^ (getField (x.w 0) 16 4).toNat ≤ x.errRun ∧ bitOf (x.w 0) 20 = false) ∧
    (∃ (s : State) (loop : Byte) (n : Nat) (x : Loop), BitVec.toNat loop = n ∧ n < 192 ∧ Live s ∧ s.coreOn (n / 48) =
      true ∧ s.loopAt n = x ∧ x.words.length = 32 ∧ (s.coreAt (n / 48)).test = none ∧ x.st = 4 ∧ 1024 ≤ x.staleRun) ∧
    (∃ (s : State) (loop : Byte) (n : Nat) (x : Loop), BitVec.toNat loop = n ∧ n < 192 ∧ Live s ∧ s.coreOn (n / 48) =
      true ∧ s.loopAt n = x ∧ x.words.length = 32 ∧ (s.coreAt (n / 48)).test = none ∧ x.st = 2 ∧ 64 ≤ x.missRun) ∧
    (∃ (s : State) (loop : Byte) (n : Nat) (x : Loop), BitVec.toNat loop = n ∧ n < 192 ∧ Live s ∧ s.coreOn (n / 48) =
      true ∧ s.loopAt n = x ∧ x.words.length = 32 ∧ (s.coreAt (n / 48)).test = none ∧ x.st = 4 ∧ x.lockin = true ∧
      x.liRestart = false ∧ 2 ^ x.liLen ≤ x.liFrames ∧ x.liSamples.length < 2 ^ x.liLen) ∧
    (∃ (s : State) (loop : Byte) (n : Nat) (x : Loop), BitVec.toNat loop = n ∧ n < 192 ∧ Live s ∧ s.coreOn (n / 48) =
      true ∧ s.loopAt n = x ∧ x.words.length = 32 ∧ (s.coreAt (n / 48)).test = none ∧ x.st = 4 ∧ x.lockin = true ∧
      x.liRestart = false ∧ 2 ^ x.liLen ≤ x.liFrames ∧ 2 ^ x.liLen ≤ x.liSamples.length) :=
  ⟨⟨{ device with core := [(0, { test := none })], loop := [(0, { words := (List.replicate 32 0).set 31 2097920 })] },
    0, 0, _, by decide, by decide, rfl, by decide, rfl, by decide +kernel⟩,
  ⟨{ device with core := [(0, { test := none })], loop := [(0, { words := ((List.replicate 32 0).set 0 32).set 31 67109888, autoSwap := false })] },
    0, 0, _, by decide, by decide, rfl, by decide, rfl, by decide +kernel⟩,
  ⟨{ device with loop := [(191, { errRun := 1, words := ((List.replicate 32 0).set 23 0x3F800000).set 31 0x400 })], core := [(3, { test := none })] },
    191, 191, _, by decide, by decide, rfl, by decide, rfl, by decide +kernel⟩,
  ⟨{ device with core := [(0, { test := none })], loop := [(0, { words := (List.replicate 32 0).set 31 1024, staleRun := 1024 })] },
    0, 0, _, by decide, by decide, rfl, by decide, rfl, by decide +kernel⟩,
  ⟨{ device with core := [(0, { test := none })], loop := [(0, { words := (List.replicate 32 0).set 31 512, missRun := 64 })] },
    0, 0, _, by decide, by decide, rfl, by decide, rfl, by decide +kernel⟩,
  ⟨{ device with loop := [(191, { liFrames := 1, words := ((List.replicate 32 0).set 0 64).set 31 1024, liRestart := false })], core := [(3, { test := none })] },
    191, 191, _, by decide, by decide, rfl, by decide, rfl, by decide +kernel⟩,
  ⟨{ device with loop := [(191, { liFrames := 1, liSamples := [(0, 0)], words := ((List.replicate 32 0).set 0 64).set 31 1024, liRestart := false })], core := [(3, { test := none })] },
    191, 191, _, by decide, by decide, rfl, by decide, rfl, by decide +kernel⟩⟩

theorem witness_BiasCommands :
    (∃ (s : State) (out : Byte) (n : Nat) (b : Bias) (y : Loop) (k : Byte) (r : Bytes) (v : W16), BitVec.toNat out = n
      ∧ n < 192 ∧ s.coreOn (n / 48) = true ∧ s.biasAt n = b ∧ s.loopAt n = y ∧ Takes 2817 s ∧ List.length r = 16 ∧
      BitVec.toNat k < 64 ∧ (bitOf k 0 = true → BitVec.toNat (byteAt r 0) < 16 ∧ BitVec.toNat (byteAt r 0) % 4 ≠ 3) ∧
      (bitOf k 2 = true → w16At r 2 ≠ 0) ∧ (bitOf k 4 = true → BitVec.toNat (w16At r 6) ≤ 16383) ∧ slice r 12 4 =
      List.replicate 4 0 ∧ (bitOf k 0 = true → BitVec.toNat (byteAt r 0) % 4 = b.rangeNow.toNat ∨ b.st = BiasSt.hiz) ∧
      (bitOf k 0 = true → b.st ≠ BiasSt.range)) ∧
    (∃ (s : State) (out : Byte) (n : Nat) (b : Bias) (y : Loop) (m : Byte) (v : W16), BitVec.toNat out = n ∧ n < 192 ∧
      s.coreOn (n / 48) = true ∧ s.biasAt n = b ∧ s.loopAt n = y ∧ Takes 2817 s ∧ b.st = BiasSt.drive ∧ y.on = false ∧
      BitVec.toNat m < 16 ∧ BitVec.toNat m % 4 ≠ 3 ∧ BitVec.toNat m % 4 ≠ b.rangeNow.toNat) ∧
    (∃ (s : State) (out : Byte) (n : Nat) (b : Bias) (y : Loop) (m : Byte) (v : W16), BitVec.toNat out = n ∧ n < 192 ∧
      s.coreOn (n / 48) = true ∧ s.biasAt n = b ∧ s.loopAt n = y ∧ Takes 2817 s ∧ b.st ≠ BiasSt.hiz ∧ (b.st ≠
      BiasSt.drive ∨ y.on = true) ∧ BitVec.toNat m < 16 ∧ BitVec.toNat m % 4 ≠ 3 ∧ BitVec.toNat m % 4 ≠
      b.rangeNow.toNat) ∧
    (∃ (s : State) (out : Byte) (n : Nat) (b : Bias) (y : Loop) (code : W16), BitVec.toNat out = n ∧ n < 192 ∧
      s.coreOn (n / 48) = true ∧ s.biasAt n = b ∧ s.loopAt n = y ∧ Takes 2818 s ∧ b.st = BiasSt.hiz ∧ s.biasLow =
      false ∧ y.st = 0) ∧
    (∃ (s : State) (out : Byte) (n : Nat) (b : Bias) (y : Loop) (code : W16), BitVec.toNat out = n ∧ n < 192 ∧
      s.coreOn (n / 48) = true ∧ s.biasAt n = b ∧ s.loopAt n = y ∧ Takes 2818 s ∧ b.st = BiasSt.fault ∧ b.faulted =
      false ∧ s.biasLow = false ∧ y.st = 1) ∧
    (∃ (s : State) (out : Byte) (n : Nat) (b : Bias) (y : Loop) (code : W16), BitVec.toNat out = n ∧ n < 192 ∧
      s.coreOn (n / 48) = true ∧ s.biasAt n = b ∧ s.loopAt n = y ∧ Takes 2818 s ∧ b.st = BiasSt.hiz ∧ s.biasLow =
      false ∧ 2 ≤ y.st) ∧
    (∃ (s : State) (out : Byte) (n : Nat) (b : Bias) (y : Loop) (code : W16), BitVec.toNat out = n ∧ n < 192 ∧
      s.coreOn (n / 48) = true ∧ s.biasAt n = b ∧ s.loopAt n = y ∧ Takes 2818 s ∧ b.st = BiasSt.hiz ∧ s.biasLow = true
      ∧ y.st = 0) ∧
    (∃ (s : State) (out : Byte) (n : Nat) (b : Bias) (y : Loop), BitVec.toNat out = n ∧ n < 192 ∧ s.coreOn (n / 48) =
      true ∧ s.biasAt n = b ∧ s.loopAt n = y ∧ Takes 2819 s ∧ b.faulted = true) ∧
    (∃ (s : State) (out : Byte) (n : Nat) (b : Bias) (y : Loop), BitVec.toNat out = n ∧ n < 192 ∧ s.coreOn (n / 48) =
      true ∧ s.biasAt n = b ∧ s.loopAt n = y ∧ Takes 2819 s ∧ b.faulted = false) ∧
    (∃ (s : State) (out : Byte) (n : Nat) (b : Bias) (y : Loop) (code : W16), BitVec.toNat out = n ∧ n < 192 ∧
      s.coreOn (n / 48) = true ∧ s.biasAt n = b ∧ s.loopAt n = y ∧ Takes 2820 s ∧ y.on = false ∧ b.st ≠ BiasSt.range) ∧
    (∃ (s : State) (out : Byte) (n : Nat) (b : Bias) (y : Loop) (code : W16), BitVec.toNat out = n ∧ n < 192 ∧
      s.coreOn (n / 48) = true ∧ s.biasAt n = b ∧ s.loopAt n = y ∧ Takes 2820 s ∧ (y.on = true ∨ b.st = BiasSt.range)) ∧
    (∃ (s : State) (out : Byte) (n : Nat) (b : Bias) (y : Loop) (sc : Byte) (ix : Byte), BitVec.toNat out = n ∧ n <
      192 ∧ s.coreOn (n / 48) = true ∧ s.biasAt n = b ∧ s.loopAt n = y ∧ Takes 2821 s ∧ scopeOk sc ix = true ∧
      s.scopeOn sc ix = true ∧ (sc = 0 → (s.biasAt (BitVec.toNat ix)).st = BiasSt.drive ∨ (s.biasAt (BitVec.toNat
      ix)).st = BiasSt.range)) ∧
    (∃ (s : State) (out : Byte) (n : Nat) (b : Bias) (y : Loop), BitVec.toNat out = n ∧ n < 192 ∧ s.coreOn (n / 48) =
      true ∧ s.biasAt n = b ∧ s.loopAt n = y ∧ Takes 2821 s ∧ b.st ≠ BiasSt.drive ∧ b.st ≠ BiasSt.range) ∧
    (∃ (s : State) (out : Byte) (n : Nat) (b : Bias) (y : Loop) (sc : Byte) (ix : Byte), BitVec.toNat out = n ∧ n <
      192 ∧ s.coreOn (n / 48) = true ∧ s.biasAt n = b ∧ s.loopAt n = y ∧ Takes 2822 s ∧ scopeOk sc ix = true ∧
      s.scopeOn sc ix = true ∧ (sc = 0 → (s.biasAt (BitVec.toNat ix)).st = BiasSt.safe)) ∧
    (∃ (s : State) (out : Byte) (n : Nat) (b : Bias) (y : Loop), BitVec.toNat out = n ∧ n < 192 ∧ s.coreOn (n / 48) =
      true ∧ s.biasAt n = b ∧ s.loopAt n = y ∧ Takes 2822 s ∧ b.st ≠ BiasSt.safe) ∧
    (∃ (s : State) (out : Byte) (n : Nat) (b : Bias) (y : Loop) (fl : Byte), BitVec.toNat out = n ∧ n < 192 ∧ s.coreOn
      (n / 48) = true ∧ s.biasAt n = b ∧ s.loopAt n = y ∧ Takes 2823 s ∧ BitVec.toNat fl ≤ 1) :=
  ⟨⟨device, 0, 0, _, _, 63, ([4, 0, 1, 0] ++ List.replicate 12 0), 0, by decide, by decide, by decide, rfl, rfl, ⟨by
    decide, by decide⟩, by decide +kernel⟩,
  ⟨{ device with loop := [(0, { words := (List.replicate 32 0).set 31 0 }), (191, { words := (List.replicate 32 0) })], bias := [(0, { st := BiasSt.drive })] },
    0, 0, _, _, 14, 0, by decide, by decide, by decide, rfl, rfl, ⟨by decide, by decide⟩, by decide +kernel⟩,
  ⟨{ device with bias := [(0, { st := BiasSt.safe }), (191, { st := BiasSt.safe })] }, 0, 0, _, _, 14, 0, by decide,
    by decide, by decide, rfl, rfl, ⟨by decide, by decide⟩, by decide, Or.inl (by decide), by decide +kernel⟩,
  ⟨{ device with bias := [(0, { st := BiasSt.hiz })], biasLow := false, loop := [(0, { words := (List.replicate 32 0).set 31 0 })] },
    0, 0, _, _, 0, by decide, by decide, by decide, rfl, rfl, ⟨by decide, by decide⟩, by decide +kernel⟩,
  ⟨{ device with bias := [(0, { st := BiasSt.fault, faulted := false })], biasLow := false, loop := [(0, { words := (List.replicate 32 0).set 31 256 })] },
    0, 0, _, _, 0, by decide, by decide, by decide, rfl, rfl, ⟨by decide, by decide⟩, by decide +kernel⟩,
  ⟨{ device with bias := [(0, { st := BiasSt.hiz })], biasLow := false, loop := [(0, { words := (List.replicate 32 0).set 31 512 })] },
    0, 0, _, _, 0, by decide, by decide, by decide, rfl, rfl, ⟨by decide, by decide⟩, by decide +kernel⟩,
  ⟨{ device with bias := [(0, { st := BiasSt.hiz })], biasLow := true, loop := [(0, { words := (List.replicate 32 0).set 31 0 })] },
    0, 0, _, _, 0, by decide, by decide, by decide, rfl, rfl, ⟨by decide, by decide⟩, by decide +kernel⟩,
  ⟨{ device with bias := [(0, { faulted := true })] }, 0, 0, _, _, by decide, by decide, by decide, rfl, rfl, ⟨by
    decide, by decide⟩, by decide⟩,
  ⟨{ device with bias := [(0, { faulted := false })] }, 0, 0, _, _, by decide, by decide, by decide, rfl, rfl, ⟨by
    decide, by decide⟩, by decide⟩,
  ⟨{ device with loop := [(0, { words := (List.replicate 32 0).set 31 0 })] }, 0, 0, _, _, 0, by decide, by decide, by
    decide, rfl, rfl, ⟨by decide, by decide⟩, by decide +kernel⟩,
  ⟨{ device with loop := [(0, { words := (List.replicate 32 0).set 31 256 })] }, 0, 0, _, _, 0, by decide, by decide,
    by decide, rfl, rfl, ⟨by decide, by decide⟩, by decide⟩,
  ⟨{ device with bias := [(0, { st := BiasSt.range })] }, 0, 0, _, _, 0, 0, by decide, by decide, by decide, rfl, rfl,
    ⟨by decide, by decide⟩, by decide +kernel⟩,
  ⟨device, 0, 0, _, _, by decide, by decide, by decide, rfl, rfl, ⟨by decide, by decide⟩, by decide +kernel⟩,
  ⟨{ device with bias := [(0, { st := BiasSt.safe })] }, 0, 0, _, _, 0, 0, by decide, by decide, by decide, rfl, rfl,
    ⟨by decide, by decide⟩, by decide +kernel⟩,
  ⟨device, 0, 0, _, _, by decide, by decide, by decide, rfl, rfl, ⟨by decide, by decide⟩, by decide⟩,
  ⟨device, 0, 0, _, _, 1, by decide, by decide, by decide, rfl, rfl, ⟨by decide, by decide⟩, by decide⟩⟩

theorem witness_BiasTicks :
    (∃ (s : State) (lane : BitVec 4) (tick : BitVec 2), Live s ∧ s.sys.rsynLock = true ∧ s.pd (80 + lane.toNat / 4) =
      true) ∧
    (∃ (s : State) (out : Byte) (n : Nat), Live s ∧ BitVec.toNat out = n ∧ n < 192 ∧ (s.biasAt n).st = BiasSt.range ∧
      (s.biasAt n).rangeStep = RangeStep.hiz ∧ 8 ≤ (s.biasAt n).hizTicks) ∧
    (∃ (s : State) (out : Byte) (c : Byte) (n : Nat), Live s ∧ BitVec.toNat out = n ∧ n < 192 ∧ s.coreOn (n / 48) =
      true ∧ ((s.biasAt n).monitored = true ∨ (s.biasAt n).left = true) ∧ (c = 1 ∧ (s.biasAt n).rangeNow = 0 ∨ c = 2 ∧
      (s.biasAt n).rangeNow ≠ 0)) :=
  ⟨⟨device, 15, 0, rfl, by decide +kernel⟩,
  ⟨{ device with bias := [(0, { st := BiasSt.range, rangeStep := RangeStep.hiz, hizTicks := 8 })] }, 0, 0, rfl,
    by decide +kernel⟩,
  ⟨{ device with bias := [(0, { st := BiasSt.drive }), (191, { st := BiasSt.drive })] }, 0, 1, 0, rfl,
    by decide +kernel⟩⟩

theorem witness_Monitors :
    (∃ (s : State) (m : Byte) (k : W64) (w : Byte) (compat : Bool), Takes 3073 s ∧ BitVec.toNat m < 4 ∧ (w = 1 ∨ w = 2
      ∨ w = 4 ∨ w = 8) ∧ maskSize k * BitVec.toNat w ≤ 128 ∧ (∀ (i : Nat), i / 64 = BitVec.toNat m → FiltRec.rateOk
      (BitVec.toNat w) (s.monAt i).record = true)) ∧
    (∃ (s : State) (m : Byte) (w : Byte) (k : W64), Takes 3073 s ∧ 128 < maskSize k * BitVec.toNat w) ∧
    (∃ (s : State) (m : Byte) (e : Byte), Takes 3074 s ∧ BitVec.toNat m < 4 ∧ BitVec.toNat e ≤ 1) ∧
    (∃ (s : State) (i : Byte) (r : Bytes), Takes 3075 s ∧ List.length r = 16 ∧ filtOk (s.madcAt (BitVec.toNat i /
      64)).windowsAhead r = true) ∧
    (∃ (s : State) (i : Byte), Takes 3076 s) ∧
    (∃ (s : State) (i : Byte), Takes 3077 s ∧ (s.monAt (BitVec.toNat i)).new = none) ∧
    (∃ (s : State) (i : Byte), Takes 3077 s ∧ (s.monAt (BitVec.toNat i)).new.isSome = true ∧ (s.monAt (BitVec.toNat
      i)).pending.isSome = true) ∧
    (∃ (s : State) (f : Byte) (c : Byte), Takes 3078 s ∧ 1 ≤ BitVec.toNat c ∧ BitVec.toNat c ≤ 60 ∧ BitVec.toNat f +
      BitVec.toNat c ≤ 256) ∧
    (∃ (s : State) (f : Byte) (c : Byte) (buf : W32), Takes 3078 s ∧ 1 ≤ BitVec.toNat c ∧ BitVec.toNat c ≤ 64 ∧
      BitVec.toNat f + BitVec.toNat c ≤ 256 ∧ buf ≠ 0 ∧ bufOk buf (4 * BitVec.toNat c) = true) ∧
    (∃ (s : State) (i : Byte), Takes 3079 s) ∧
    (∃ (s : State) (i : Byte) (c : BitVec 14), Live s ∧ s.pwr.cur = 1 ∧ s.madcOn (BitVec.toNat i / 64) = true ∧
      (s.madcAt (BitVec.toNat i / 64)).next = some (BitVec.toNat i % 64) ∧ (s.madcAt (BitVec.toNat i / 64)).compat =
      false) ∧
    (∃ (s : State) (i : Byte) (c : BitVec 14), Live s ∧ (s.madcAt (BitVec.toNat i / 64)).next ≠ some (BitVec.toNat i %
      64)) ∧
    (∃ (s : State) (i : Byte) (c : BitVec 14), Live s ∧ s.pwr.cur = 1 ∧ s.madcOn (BitVec.toNat i / 64) = true ∧
      (s.madcAt (BitVec.toNat i / 64)).next = some (BitVec.toNat i % 64) ∧ (s.madcAt (BitVec.toNat i / 64)).compat =
      true ∧ (s.madcAt (BitVec.toNat i / 64)).refbuf = false ∧ (s.madcAt (BitVec.toNat i / 64)).earlyRaised = false ∧
      TakesEvents s) ∧
    (∃ (s : State) (i : Byte) (v : Int), Live s ∧ (s.monAt (BitVec.toNat i)).new = none ∧ (s.monAt (BitVec.toNat
      i)).cur.due = some v ∧ (s.monAt (BitVec.toNat i)).cur.record.entry = 0 ∧ (s.monAt (BitVec.toNat i)).valid = true
      ∧ (s.monAt (BitVec.toNat i)).loadDue = false ∧ (s.monAt (BitVec.toNat i)).weighs = false) ∧
    (∃ (s : State) (i : Byte), Live s ∧ s.madcOn (BitVec.toNat i / 64) = true ∧ bitOf (s.madcAt (BitVec.toNat i /
      64)).mask (BitVec.toNat i % 64) = true ∧ (s.monAt (BitVec.toNat i)).syncDue = false ∧ (s.monAt (BitVec.toNat
      i)).loadDue = false ∧ (s.monAt (BitVec.toNat i)).valid = false ∧ (s.monAt (BitVec.toNat i)).weighs = false ∧
      (s.monAt (BitVec.toNat i)).cur.need ≤ (s.monAt (BitVec.toNat i)).cur.outs ∧ (s.monAt (BitVec.toNat i)).waiting =
      1 ∧ TakesEvents s) ∧
    (∃ (s : State) (i : Byte) (c : Chain), Live s ∧ s.madcOn (BitVec.toNat i / 64) = true ∧ bitOf (s.madcAt
      (BitVec.toNat i / 64)).mask (BitVec.toNat i % 64) = true ∧ (s.monAt (BitVec.toNat i)).syncDue = false ∧ (s.monAt
      (BitVec.toNat i)).valid = true ∧ (s.monAt (BitVec.toNat i)).weighs = false ∧ (s.monAt (BitVec.toNat i)).new =
      some c ∧ c.need ≤ c.outs) ∧
    (∃ (s : State) (i : Byte) (c : Chain), Live s ∧ (s.monAt (BitVec.toNat i)).new = some c ∧ (s.monAt (BitVec.toNat
      i)).weighs = true ∧ BitVec.toNat c.record.fade ≤ (s.monAt (BitVec.toNat i)).fadeJ ∧ (s.monAt (BitVec.toNat
      i)).waiting = 0 ∧ TakesEvents s) :=
  ⟨⟨device, 3, 0xFFFF, 8, false, ⟨by decide, by decide⟩, by decide, by decide, by decide, fun _ _ => rfl⟩,
  ⟨device, 0, 8, 0x1FFFF, ⟨by decide, by decide⟩, by decide⟩,
  ⟨device, 3, 1, ⟨by decide, by decide⟩, by decide +kernel⟩,
  ⟨device, 0, ([0, 1, 1, 0, 1, 0, 0, 0, 64, 0] ++ List.replicate 6 0), ⟨by decide, by decide⟩, by decide +kernel⟩,
  ⟨device, 0, ⟨by decide, by decide⟩⟩,
  ⟨{ device with mon := [(0, { new := none })] }, 0, ⟨by decide, by decide⟩, by decide⟩,
  ⟨{ device with mon := [(255, { new := some {}, pending := some .sync })] }, 255, ⟨by decide, by decide⟩,
    by decide +kernel⟩,
  ⟨device, 0, 60, ⟨by decide, by decide⟩, by decide +kernel⟩,
  ⟨device, 0, 64, 1081344, ⟨by decide, by decide⟩, by decide +kernel⟩,
  ⟨device, 0, ⟨by decide, by decide⟩⟩,
  ⟨{ device with madc := [(3, { conv := 127, compat := false })] }, 255, 0, rfl, by decide +kernel⟩,
  ⟨device, 1, 0, rfl, by decide⟩,
  ⟨{ device with madc := [(1, { compat := true, refbuf := false, earlyRaised := false })] }, 64, 0, rfl,
    by decide +kernel, by decide +kernel, by decide +kernel, by decide +kernel, by decide +kernel, by decide +kernel,
    ⟨by decide, by decide⟩⟩,
  ⟨{ device with mon := [(255, { cur := { record := {}, due := some 0 }, new := none, valid := true, loadDue := false, weighs := false })] },
    255, 0, rfl, by decide +kernel⟩,
  ⟨{ device with mon := [(255, { cur := { outs := 1 }, syncDue := false, loadDue := false, valid := false, weighs := false, waiting := 1 })] },
    255, rfl, by decide, by decide, by decide, by decide, by decide, by decide, by decide, by decide, ⟨by decide, by
    decide⟩⟩,
  ⟨{ device with mon := [(0, { valid := true, new := some { outs := 1 }, syncDue := false, weighs := false })] }, 0,
    { outs := 1 }, rfl, by decide, by decide, by decide, by decide, by decide, rfl, by decide⟩,
  ⟨{ device with mon := [(255, { fadeJ := 64, new := (some {}), weighs := true, waiting := 0 })] }, 255, _, rfl, rfl,
    by decide, by decide, by decide, ⟨by decide, by decide⟩⟩⟩

theorem witness_Calibration :
    (∃ (s : State) (k : Byte) (m : Byte) (rg : Byte) (set : Bytes), Takes 3329 s ∧ s.stopped 1 = false ∧ List.length
      set = 24 ∧ BitVec.toNat k ≤ 2 ∧ BitVec.toNat m ≤ 1 ∧ (m = 1 → k = 0) ∧ (k ≠ 2 → ofLe set < 65536) ∧ (k = 2 →
      BitVec.toNat rg ≤ 7) ∧ s.calRun (BitVec.toNat k) = none) ∧
    (∃ (s : State) (lanes : Byte), Takes 3329 s ∧ s.stopped 1 = false ∧ s.calRun 0 = none ∧ lanes = 1 ∧ s.partOk 0
      true 0 = false ∧ TakesEvents s) ∧
    (∃ (s : State), Takes 3329 s ∧ s.stopped 1 = false ∧ s.calRun 2 ≠ none ∧ TakesEvents s) ∧
    (∃ (s : State) (k : Byte) (f : Byte), Takes 3330 s ∧ s.stopped 1 = false ∧ 1 ≤ BitVec.toNat k ∧ BitVec.toNat k ≤ 7
      ∧ BitVec.toNat f ≤ 1 ∧ s.cal.strobe = none ∧ s.anyWarm = false ∧ s.sys.rsynLock = true) ∧
    (∃ (s : State) (k : Byte) (f : Byte), Takes 3330 s ∧ s.stopped 1 = false ∧ 1 ≤ BitVec.toNat k ∧ BitVec.toNat k ≤ 7
      ∧ BitVec.toNat f ≤ 1 ∧ s.cal.strobe = none ∧ s.anyWarm = true ∧ s.sys.rsynLock = true) ∧
    (∃ (s : State) (k : Byte) (f : Byte), Takes 3330 s ∧ s.stopped 1 = false ∧ 1 ≤ BitVec.toNat k ∧ BitVec.toNat k ≤ 7
      ∧ BitVec.toNat f ≤ 1 ∧ (s.cal.strobe.isSome = true ∨ s.sys.rsynLock = false)) ∧
    (∃ (s : State), Takes 3330 s ∧ s.stopped 1 = true ∧ tierAdmits 3333 s = true) ∧
    (∃ (s : State) (k : Byte), Takes 3331 s ∧ 1 ≤ BitVec.toNat k ∧ BitVec.toNat k ≤ 7 ∧ s.cal.strobe = none) ∧
    (∃ (s : State) (y : Strobe), Takes 3331 s ∧ s.cal.strobe = some y ∧ y.committed = true ∧ y.made = false ∧ bitOf
      y.kinds 0 = true) ∧
    (∃ (s : State) (a : W32), Takes 3332 s ∧ bufOk a 512 = true) ∧
    (∃ (s : State), Takes 3333 s ∧ s.stopped 1 = false ∧ imageCheck s.nvmImage ≠ none) ∧
    (∃ (s : State), Takes 3333 s ∧ s.stopped 1 = false ∧ imageCheck s.nvmImage = none) ∧
    (∃ (s : State) (c : W16) (i : W32) (f : Byte) (l : Bytes) (st : Status), Takes 3334 s ∧ s.stopped 1 = false ∧
      List.length l = 32 ∧ BitVec.toNat f ≤ 1 ∧ s.storeCheck c i (bitOf f 0) = some st) ∧
    (∃ (s : State) (c : W16) (i : W32) (f : Byte) (l : Bytes), Takes 3334 s ∧ s.stopped 1 = false ∧ List.length l = 32
      ∧ BitVec.toNat f ≤ 1 ∧ s.storeCheck c i (bitOf f 0) = none) ∧
    (∃ (s : State) (c : W16) (i : W32) (a : W32), Takes 3335 s ∧ s.stopped 1 = false ∧ bufOk a 8192 = true ∧ s.sramBad
      = [] ∧ s.sramSoft = [] ∧ s.storeCheck c i false = none ∧ imageCheck (s.sramRead (winToSram (BitVec.toNat a))
      8192) ≠ none) ∧
    (∃ (s : State) (c : W16) (i : W32) (a : W32), Takes 3335 s ∧ s.stopped 1 = false ∧ bufOk a 8192 = true ∧ s.sramBad
      = [] ∧ s.sramSoft = [] ∧ s.storeCheck c i false = none ∧ imageCheck (s.sramRead (winToSram (BitVec.toNat a))
      8192) = none ∧ s.sramByte (winToSram (BitVec.toNat a) + 4) = 1) ∧
    (∃ (s : State) (d : Byte) (a : W32), Takes 3336 s ∧ BitVec.toNat d < 16 ∧ bufOk a 8192 = true ∧ (s.chanAt
      (BitVec.toNat d)).free = true) ∧
    (∃ (s : State) (c : BitVec 4) (a : Nat) (e : Exec), Live s ∧ s.dmaAwake = true ∧ (s.chanAt c.toNat).st = DmaSt.cmd
      ∧ (s.chanAt c.toNat).xfer = some { src := XferSrc.image, addr := a, n := 8192 } ∧ s.mbx.exec = some e ∧ e.ch =
      c.toNat) ∧
    (∃ (s : State) (r : CalRun) (p : Nat) (x : CalPart), Live s ∧ s.calRun 0 = some r ∧ r.parts = [p] ∧ p < 16 ∧
      r.background = true ∧ s.partOk 0 true p = true ∧ TakesEvents s) ∧
    (∃ (s : State) (y : Strobe), Live s ∧ s.cal.strobe = some y ∧ y.committed = false ∧ y.at_ ≤ (s.faceAt 0).mf + 1) ∧
    (∃ (s : State) (y : Strobe), Live s ∧ s.cal.strobe = some y ∧ y.committed = true ∧ y.made = false ∧ y.at_ ≤
      (s.faceAt 0).mf) ∧
    (∃ (s : State) (y : Strobe), Live s ∧ s.cal.strobe = some y ∧ y.made = true ∧ y.at_ + 4 ≤ (s.faceAt 0).mf ∧ (∀ (l
      : Nat), l < 16 → (s.rxAt l).st = RxSt.off) ∧ TakesEvents s) ∧
    (∃ (s : State) (img : Bytes), Live s ∧ s.cal.store = some (img, false) ∧ TakesEvents s) :=
  ⟨⟨device, 2, 0, 7, (List.replicate 24 0xFF), ⟨by decide, by decide⟩, by decide +kernel⟩,
  ⟨device, 1, ⟨by decide, by decide⟩, by decide, by decide, by decide, by decide, ⟨by decide, by decide⟩⟩,
  ⟨{ device with cal := { device.cal with runs := [(2, some {})] } }, ⟨by decide, by decide⟩, by decide, by decide,
    ⟨by decide, by decide⟩⟩,
  ⟨{ device with cal := { device.cal with strobe := none } }, 7, 1, ⟨by decide, by decide⟩, by decide +kernel⟩,
  ⟨{ device with rx := [(15, { st := RxSt.warmVerify, path := RxPath.warm })], cal := { device.cal with strobe := none } },
    7, 1, ⟨by decide, by decide⟩, by decide +kernel⟩,
  ⟨{ device with sys := { device.sys with rsynLock := false } }, 7, 1, ⟨by decide, by decide⟩, by decide, by decide,
    by decide, by decide, Or.inr rfl⟩,
  ⟨{ device with pwr := { device.pwr with step := 2, cur := 2, target := 4 } }, ⟨by decide, by decide⟩,
    by decide +kernel⟩,
  ⟨{ device with cal := { device.cal with strobe := none } }, 7, ⟨by decide, by decide⟩, by decide +kernel⟩,
  ⟨{ device with cal := { device.cal with strobe := (some { committed := true, made := false, at_ := 3, since := 0, kinds := 7, force := false }) } },
    _, ⟨by decide, by decide⟩, rfl, by decide +kernel⟩,
  ⟨device, 1081344, ⟨by decide, by decide⟩, by decide⟩,
  ⟨device, ⟨by decide, by decide⟩, by decide +kernel⟩,
  ⟨{ device with cal := { device.cal with nvm := (Tab.write 0 [] 0 goodImage) } }, ⟨by decide, by decide⟩, by decide,
    stored_image rfl⟩,
  ⟨device, 1, 0, 1, (List.replicate 32 0), Status.confirm, ⟨by decide, by decide⟩, by decide +kernel⟩,
  ⟨device, 0, (Config.dieId.setWidth 32), 1, (List.replicate 32 0), ⟨by decide, by decide⟩, by decide, by decide, by
    decide, store_ok rfl (by decide) (by decide)⟩,
  ⟨{ device with cal := { device.cal with exported := true }, sramSoft := [] }, 0, (Config.dieId.setWidth 32),
    1081344, ⟨by decide, by decide⟩, by decide, by decide, by decide, by decide, store_ok rfl (by decide) (by decide),
    by decide +kernel⟩,
  ⟨{ device with cal := { device.cal with exported := true }, sram := (Tab.write 0 [] (winToSram 0x108000) goodImage), sramSoft := [] },
    0, (Config.dieId.setWidth 32), 1081344, ⟨by decide, by decide⟩, by decide, by decide, by decide, by decide,
    store_ok rfl (by decide) (by decide), host_image rfl rfl, host_version rfl⟩,
  ⟨device, 15, 1081344, ⟨by decide, by decide⟩, by decide +kernel⟩,
  ⟨{ device with dma := { device.dma with chans := [(15, { st := .cmd, xfer := some { src := .image, addr := 0x108000, n := 8192 } })] }, mbx := { device.mbx with exec := some { op := 0x0D08, ch := 15, payload := [] } } },
    15, 0x108000, { op := 0x0D08, ch := 15, payload := [] }, rfl, by decide, by decide, by decide, rfl, by decide⟩,
  ⟨{ device with cal := { device.cal with runs := [(0, some { background := true, parts := [15] })] }, rx := [(15, { st := RxSt.locked })] },
    { background := true, parts := [15] }, 15, {}, rfl, by decide, by decide, by decide, by decide, by decide, ⟨by
    decide, by decide⟩⟩,
  ⟨{ device with face := [(0, { mf := 2 })], cal := { device.cal with strobe := (some { committed := false, at_ := 3, since := 0, kinds := 7, force := false }) } },
    _, rfl, rfl, by decide +kernel⟩,
  ⟨{ device with face := [(0, { mf := 3 })], cal := { device.cal with strobe := (some { committed := true, made := false, at_ := 3, since := 0, kinds := 7, force := false }) } },
    _, rfl, rfl, by decide +kernel⟩,
  ⟨{ device with face := [(0, { mf := 7 })], cal := { device.cal with strobe := (some { made := true, at_ := 3, since := 0, kinds := 7, force := false }) } },
    _, rfl, rfl, by decide, by decide, by decide, ⟨by decide, by decide⟩⟩,
  ⟨{ device with cal := { device.cal with store := some ([], false) } }, [], rfl, by decide, ⟨by decide, by decide⟩⟩⟩

theorem witness_PlannedSleeps :
    (∃ (s : State) (g : Byte), Takes 3585 s ∧ (g = 0 ∨ g = 4) ∧ s.pwr.cur = 1 ∧ s.parkRuns = false) ∧
    (∃ (s : State), Takes 3585 s ∧ (s.pwr.cur = 2 ∨ s.parkRuns = true)) ∧
    (∃ (s : State), Live s ∧ s.asked = true ∧ s.anyRefuses s.pwr.step.toNat = false ∧ s.pwr.step = 2) ∧
    (∃ (s : State), Live s ∧ s.asked = true ∧ s.anyRefuses 8 = false ∧ s.pwr.step = 8) ∧
    (∃ (s : State) (b : Byte), Live s ∧ s.asked = true ∧ s.refuses s.pwr.step.toNat b = true) ∧
    (∃ (s : State), Live s ∧ s.pwr.cur = 2 ∧ s.pwr.target ≠ 3 ∧ s.pwr.restarting = true ∧ s.pwr.step.toNat ≤ 4 ∧
      TakesEvents s) ∧
    (∃ (s : State), Live s ∧ s.pwr.cur = 2 ∧ s.pwr.target = 4 ∧ s.pwr.step = 0 ∧ s.pwr.restarting = false ∧ (∀ (l :
      Nat), l < 16 → (s.txAt l).st.steps = false)) ∧
    (∃ (s : State), Live s ∧ s.pwr.cur = 2 ∧ s.pwr.target = 0 ∧ s.pwr.step = 0 ∧ s.pwr.restarting = false ∧ (∀ (l :
      Nat), l < 16 → (s.txAt l).st.steps = false)) ∧
    (∃ (s : State) (lane : Byte) (fl : Byte), Takes 3587 s ∧ BitVec.toNat lane < 16 ∧ BitVec.toNat fl ≤ 1 ∧ s.pwr.cur
      = 1 ∧ s.parkRuns = false ∧ (s.rxAt (BitVec.toNat lane)).st ≠ RxSt.parked ∧ (s.icLane (faceOf (BitVec.toNat
      lane)) ≠ BitVec.toNat lane ∨ fl = 1 ∧ s.onAir (faceOf (BitVec.toNat lane)) = false) ∧ s.laneBusy (BitVec.toNat
      lane) = false) ∧
    (∃ (s : State) (lane : Byte), Takes 3587 s ∧ BitVec.toNat lane < 16 ∧ s.pwr.cur = 1 ∧ s.parkRuns = false ∧ (s.rxAt
      (BitVec.toNat lane)).st ≠ RxSt.parked ∧ s.icLane (faceOf (BitVec.toNat lane)) = BitVec.toNat lane) ∧
    (∃ (s : State) (lane : Byte), Takes 3587 s ∧ BitVec.toNat lane < 16 ∧ s.pwr.cur = 1 ∧ s.parkRuns = false ∧ (s.rxAt
      (BitVec.toNat lane)).st = RxSt.parked) ∧
    (∃ (s : State) (lane : Byte), Takes 3587 s ∧ BitVec.toNat lane < 16 ∧ (s.pwr.cur ≠ 1 ∨ s.parkRuns = true)) ∧
    (∃ (s : State), Takes 3588 s) ∧
    (∃ (s : State), Takes 3589 s) ∧
    (∃ (s : State) (n : W16), Takes 3586 s ∧ 1 ≤ BitVec.toNat n ∧ BitVec.toNat n ≤ 10000) ∧
    (∃ (s : State) (n : W16), Takes 3586 s ∧ 10000 < BitVec.toNat n) :=
  ⟨⟨device, 0, ⟨by decide, by decide⟩, by decide +kernel⟩,
  ⟨{ device with pwr := { device.pwr with cur := 2 } }, ⟨by decide, by decide⟩, by decide⟩,
  ⟨{ device with pwr := { device.pwr with cur := 2, target := 4, step := 2 } }, rfl, by decide +kernel⟩,
  ⟨{ device with pwr := { device.pwr with cur := 2, target := 4, step := 8 } }, rfl, by decide +kernel⟩,
  ⟨{ device with icing := [(1, { burst := some {} })], pwr := { device.pwr with cur := 2, target := 4, step := 2 } },
    1, rfl, by decide +kernel⟩,
  ⟨{ device with pwr := { device.pwr with step := 4, restarting := true, target := 4, cur := 2 } }, rfl, by decide, by
    decide, by decide, by decide, ⟨by decide, by decide⟩⟩,
  ⟨{ device with pwr := { device.pwr with cur := 2, target := 4, step := 0, restarting := false } }, rfl,
    by decide +kernel⟩,
  ⟨{ device with pwr := { device.pwr with cur := 2, target := 0, step := 0, restarting := false } }, rfl,
    by decide +kernel⟩,
  ⟨device, 15, 1, ⟨by decide, by decide⟩, by decide +kernel⟩,
  ⟨{ device with icing := [(1, { lane := 7 })] }, 15, ⟨by decide, by decide⟩, by decide +kernel⟩,
  ⟨{ device with rx := [(8, { st := RxSt.parked })] }, 8, ⟨by decide, by decide⟩, by decide +kernel⟩,
  ⟨{ device with tx := [(15, { parking := true })] }, 15, ⟨by decide, by decide⟩, by decide, Or.inr (by decide)⟩,
  ⟨device, ⟨by decide, by decide⟩⟩,
  ⟨device, ⟨by decide, by decide⟩⟩,
  ⟨device, 10000, ⟨by decide, by decide⟩, by decide +kernel⟩,
  ⟨device, 10001, ⟨by decide, by decide⟩, by decide⟩⟩

theorem witness_HoldAndWake :
    (∃ (s : State), Live s ∧ s.pwr.cur = 1 ∧ s.pwr.holdEn = true ∧ s.pwr.holdLow = false) ∧
    (∃ (s : State), Live s ∧ s.pwr.cur = 1 ∧ s.pwr.holdEn = false ∧ s.pwr.holdLow = true) ∧
    (∃ (s : State), Live s ∧ s.pwr.cur = 2 ∧ s.pwr.target = 3 ∧ s.pwr.roseInShed = false) ∧
    (∃ (s : State), Live s ∧ s.pwr.cur = 2 ∧ s.pwr.target = 3 ∧ s.pwr.holdLow = true ∧ s.pwr.bringUpWaits = false) ∧
    (∃ (s : State), Live s ∧ s.pwr.cur = 3 ∧ s.pwr.holdLow = true ∧ s.pwr.bringUpWaits = false ∧ s.sys.fwEver = true) ∧
    (∃ (s : State) (fast : Bool), Live s ∧ s.pwr.cur = 5 ∧ s.sys.rsynLock = false) ∧
    (∃ (s : State), Live s ∧ s.pwr.cur = 5 ∧ s.sys.rsynLock = true ∧ s.sys.fwRun = true ∧ s.pwr.retLost = false) ∧
    (∃ (s : State), Live s ∧ (s.pwr.cur = 3 ∨ s.pwr.cur = 4) ∧ s.pwr.tick = false) ∧
    (∃ (s : State), Live s ∧ s.pwr.cur = 4 ∧ s.pwr.holdLow = false ∧ s.pwr.retLost = false ∧ s.pwr.tick = false ∧
      s.pwr.watch.enabled = [] ∧ s.pwr.watch.faces = [] ∧ s.pwr.timerDue = false ∧ s.pwr.watch.wakeAfter = 0) ∧
    (∃ (s : State) (c : BitVec 4), Live s ∧ s.ticking = true ∧ s.pwr.tripped = some c.toNat ∧ s.sys.fwEver = true) ∧
    (∃ (s : State), Live s ∧ s.ticking = true ∧ s.pwr.tripped = none ∧ s.pwr.timerDue = true ∧ s.sys.fwEver = true) ∧
    (∃ (s : State) (f : BitVec 1) (r : Byte), Live s ∧ s.ticking = true ∧ s.pwr.watch.face f.toNat = true ∧
      s.sys.fwEver = true) ∧
    (∃ (s : State), Live s ∧ s.pwr.cur = 4 ∧ s.pwr.holdLow = false ∧ s.sys.fwEver = true) ∧
    (∃ (s : State), Live s ∧ s.pwr.cur ≠ 4) ∧
    (∃ (s : State), Live s ∧ s.pwr.cur ≠ 0) :=
  ⟨⟨{ device with pwr := { device.pwr with holdEn := true, holdLow := false } }, rfl, by decide +kernel⟩,
  ⟨{ device with pwr := { device.pwr with holdEn := false, holdLow := true } }, rfl, by decide +kernel⟩,
  ⟨{ device with pwr := { device.pwr with cur := 2, target := 3, roseInShed := false } }, rfl, by decide +kernel⟩,
  ⟨{ device with pwr := { device.pwr with cur := 2, target := 3, holdLow := true, bringUpWaits := false } }, rfl,
    by decide +kernel⟩,
  ⟨{ device with pwr := { device.pwr with cur := 3, holdLow := true, bringUpWaits := false } }, rfl,
    by decide +kernel⟩,
  ⟨{ device with pwr := { device.pwr with cur := 5 }, sys := { device.sys with rsynLock := false } }, false, rfl,
    by decide +kernel⟩,
  ⟨{ device with pwr := { device.pwr with cur := 5, retLost := false } }, rfl, by decide +kernel⟩,
  ⟨{ device with pwr := { device.pwr with cur := 3, tick := false } }, rfl, by decide +kernel⟩,
  ⟨{ device with pwr := { device.pwr with watch := { icingE := false, icingW := false }, cur := 4, holdLow := false, retLost := false, tick := false } },
    rfl, by decide +kernel⟩,
  ⟨{ device with pwr := { device.pwr with watch := { compares := [(15, { en := true, persist := 1 })] }, runs := [(15, 1)], cur := 4, tick := true } },
    15, rfl, by decide +kernel⟩,
  ⟨{ device with pwr := { device.pwr with watch := { wakeAfter := 9 }, ticks := 9, cur := 4, tick := true } }, rfl,
    by decide +kernel⟩,
  ⟨{ device with pwr := { device.pwr with cur := 4, tick := true } }, 1, 0, rfl, by decide +kernel⟩,
  ⟨{ device with pwr := { device.pwr with cur := 4, holdLow := false } }, rfl, by decide +kernel⟩,
  ⟨device, rfl, by decide⟩,
  ⟨{ device with pwr := { device.pwr with cur := 1 } }, rfl, by decide⟩⟩

theorem witness_BringUp :
    (∃ (s : State) (a : BitVec 6) (b : BitVec 2), s.sys.resetLow = true ∧ s.sys.aonDown = false ∧ s.pwr.holdLow =
      false) ∧
    (∃ (s : State) (a : BitVec 6) (b : BitVec 2) (met : Bool), s.sys.inReset = true ∧ s.sys.aonDown = true ∧
      s.sys.resetLow = true) ∧
    (∃ (s : State) (a : BitVec 6) (b : BitVec 2) (met : Bool), s.sys.inReset = true ∧ s.sys.aonDown = true ∧
      s.sys.resetLow = false ∧ s.pwr.supplyOk = true ∧ s.pwr.holdLow = false) ∧
    (∃ (s : State) (a : BitVec 6) (b : BitVec 2), s.sys.resetLow = true ∧ s.sys.aonDown = false ∧ s.pwr.holdLow =
      true) ∧
    (∃ (s : State), Live s ∧ s.pwr.cur = 1 ∧ s.sys.rsynLock = false ∧ s.sys.tier0 = false) ∧
    (∃ (s : State), Live s ∧ s.pwr.cur = 1 ∧ s.sys.rsynLock = true ∧ s.sys.tier0 = false ∧ s.sys.fwRun = false) ∧
    (∃ (s : State) (img : Bytes), Live s ∧ s.pwr.cur = 1 ∧ s.flashBusy = true ∧ s.sys.restartDue = false ∧ TakesEvents
      s) ∧
    (∃ (s : State), Live s ∧ s.pwr.cur = 1 ∧ s.sys.fwRun = true ∧ s.sys.rsynLock = true ∧ s.sys.tier = 0 ∧
      s.sys.heldAtT0 = false) ∧
    (∃ (s : State), Live s ∧ s.mcpUp = true ∧ s.sys.fwRun = true) ∧
    (∃ (s : State), Takes 1 s) ∧
    (∃ (s : State), Takes 2 s) ∧
    (∃ (s : State) (n : W32), Takes 16 s ∧ s.loadAllowed = true ∧ s.flashBusy = false) ∧
    (∃ (s : State) (n : W32), Takes 16 s ∧ s.loadAllowed = false) ∧
    (∃ (s : State) (f : FwLoad) (o : W32), Takes 17 s ∧ s.loadAllowed = true ∧ s.flashBusy = false ∧ s.sys.fwLoad =
      some f ∧ s.sramBad = [] ∧ s.sramSoft = [] ∧ segOk o 256 = true ∧ List.length f.got ≤ BitVec.toNat f.length) ∧
    (∃ (s : State) (f : FwLoad) (o : W32), Takes 17 s ∧ s.loadAllowed = true ∧ s.flashBusy = false ∧ s.sys.fwLoad =
      some f ∧ s.sramBad = [] ∧ s.sramSoft = [] ∧ segOk o 256 = true ∧ BitVec.toNat f.length < List.length f.got) ∧
    (∃ (s : State) (f : FwLoad), Takes 18 s ∧ s.loadAllowed = true ∧ s.flashBusy = false ∧ s.sys.fwLoad = some f) :=
  ⟨⟨{ device with sys := { device.sys with resetLow := true, aonDown := false }, pwr := { device.pwr with holdLow := false } },
    0, 0, by decide +kernel⟩,
  ⟨{ device with sys := { device.sys with inReset := true, aonDown := true, resetLow := true } }, 0, 0, false,
    by decide +kernel⟩,
  ⟨{ device with sys := { device.sys with inReset := true, aonDown := true, resetLow := false }, pwr := { device.pwr with supplyOk := true, holdLow := false } },
    0, 0, false, by decide +kernel⟩,
  ⟨{ device with sys := { device.sys with resetLow := true, aonDown := false }, pwr := { device.pwr with holdLow := true } },
    0, 0, by decide +kernel⟩,
  ⟨{ device with sys := { device.sys with rsynLock := false, tier0 := false } }, rfl, by decide +kernel⟩,
  ⟨{ device with sys := { device.sys with tier0 := false, fwRun := false } }, rfl, by decide +kernel⟩,
  ⟨{ device with sys := { device.sys with fwRun := false, restartDue := false } }, [], rfl, by decide, by decide, by
    decide, ⟨by decide, by decide⟩⟩,
  ⟨{ device with sys := { device.sys with tier := 0, heldAtT0 := false } }, rfl, by decide +kernel⟩,
  ⟨device, rfl, by decide +kernel⟩,
  ⟨device, ⟨by decide, by decide⟩⟩,
  ⟨device, ⟨by decide, by decide⟩⟩,
  ⟨{ device with sys := { device.sys with boot := 1, fwRun := false } }, 0, ⟨by decide, by decide⟩, by decide +kernel⟩,
  ⟨device, 0, ⟨by decide, by decide⟩, by decide⟩,
  ⟨{ device with sys := { device.sys with boot := 1, fwRun := false, fwLoad := (some { length := 256, got := [] }) }, sramSoft := [] },
    _, 0x13FF00, ⟨by decide, by decide⟩, by decide, by decide, rfl, by decide +kernel⟩,
  ⟨{ device with sys := { device.sys with fwLoad := (some { length := 0, got := [0] }), boot := 1, fwRun := false }, sramSoft := [] },
    _, 0x13FF00, ⟨by decide, by decide⟩, by decide, by decide, rfl, by decide +kernel⟩,
  ⟨{ device with sys := { device.sys with boot := 1, fwRun := false, fwLoad := (some { length := 256, got := [] }) } },
    _, ⟨by decide, by decide⟩, by decide, by decide, rfl⟩⟩

theorem witness_TierProcedure :
    (∃ (s : State) (l : BitVec 4) (f : Nat) (m : W16), f = l.toNat / 8 ∧ (s.icingAt f).burst = none ∧ (s.icingAt
      f).queue.length < 16 ∧ Takes 4 s ∧ s.sys.fwRun = true ∧ s.sys.tier = 1) ∧
    (∃ (s : State) (l : BitVec 4) (f : Nat) (m : W16), f = l.toNat / 8 ∧ (s.icingAt f).burst = none ∧ (s.icingAt
      f).queue.length < 16 ∧ Takes 4 s ∧ s.sys.tier = 0) ∧
    (∃ (s : State) (l : BitVec 4) (f : Nat) (m : Byte) (g : Byte), f = l.toNat / 8 ∧ (s.icingAt f).burst = none ∧
      (s.icingAt f).queue.length < 16 ∧ Takes 5 s ∧ BitVec.toNat g < 2 ∧ (s.icingAt (BitVec.toNat g)).reqIn = []) ∧
    (∃ (s : State) (l : BitVec 4) (f : Nat) (r : ReqIn) (g : Byte) (m : Byte), f = l.toNat / 8 ∧ (s.icingAt f).burst =
      none ∧ (s.icingAt f).queue.length < 16 ∧ Takes 5 s ∧ BitVec.toNat g = f ∧ (s.icingAt f).reqIn = [r] ∧ r.tier =
      true ∧ r.answer = none ∧ s.lanesBusy f (byteAt r.payload 1) = false) ∧
    (∃ (s : State) (l : BitVec 4) (f : Nat), f = l.toNat / 8 ∧ (s.icingAt f).burst = none ∧ (s.icingAt f).queue.length
      < 16 ∧ Live s ∧ s.turning = false ∧ s.waits l.toNat = true ∧ s.eligible l.toNat = true ∧ s.far1608 0 = false ∧
      s.far1608 1 = false ∧ (∀ (k : Nat), k < l.toNat → s.waits k = false)) ∧
    (∃ (s : State) (l : BitVec 4) (f : Nat) (fb : BitVec 1) (src : W16) (m : Byte) (lanes : Byte), f = l.toNat / 8 ∧
      (s.icingAt f).burst = none ∧ (s.icingAt f).queue.length < 16 ∧ Live s ∧ fb.toNat = f ∧ s.icingOn f = true ∧
      inToffee s = false ∧ (s.icingAt f).reqIn = [] ∧ s.dst1608 f src = false ∧ s.tierBusy f lanes = false ∧
      (s.icingAt f).cfg.tierAccept = true) ∧
    (∃ (s : State) (l : BitVec 4) (f : Nat) (fb : BitVec 1) (src : W16) (m : Byte) (lanes : Byte), f = l.toNat / 8 ∧
      (s.icingAt f).burst = none ∧ (s.icingAt f).queue.length < 16 ∧ Live s ∧ fb.toNat = f ∧ s.icingOn f = true ∧
      inToffee s = false ∧ (s.icingAt f).reqIn = [] ∧ s.dst1608 f src = false ∧ s.tierBusy f lanes = false ∧
      (s.icingAt f).cfg.tierAccept = false ∧ TakesEvents s) ∧
    (∃ (s : State) (l : BitVec 4) (f : Nat) (r : ReqOut) (fb : BitVec 1), f = l.toNat / 8 ∧ (s.icingAt f).burst = none
      ∧ (s.icingAt f).queue.length < 16 ∧ Live s ∧ fb.toNat = f ∧ (s.icingAt f).reqOut = [r] ∧ r.tier = true ∧
      r.cancel = false ∧ r.lane = l.toNat ∧ (s.rxAt l.toNat).st = RxSt.locked) ∧
    (∃ (s : State) (l : BitVec 4) (f : Nat), f = l.toNat / 8 ∧ (s.icingAt f).burst = none ∧ (s.icingAt f).queue.length
      < 16 ∧ Live s ∧ (s.turnAt l.toNat).st = TurnSt.requested ∧ (s.icingAt f).reqOut = [] ∧ (s.turnAt l.toNat).half =
      s.tierHalf ∧ TakesEvents s) ∧
    (∃ (s : State) (l : BitVec 4) (f : Nat), f = l.toNat / 8 ∧ (s.icingAt f).burst = none ∧ (s.icingAt f).queue.length
      < 16 ∧ Live s ∧ (s.turnAt l.toNat).due = true ∧ (s.turnAt l.toNat).left = 0 ∧ bitOf (s.turnAt l.toNat).prec 7 =
      false ∧ (s.turnAt l.toNat).st = TurnSt.switching) ∧
    (∃ (s : State) (l : BitVec 4) (f : Nat), f = l.toNat / 8 ∧ (s.icingAt f).burst = none ∧ (s.icingAt f).queue.length
      < 16 ∧ Live s ∧ (s.turnAt l.toNat).due = false ∧ (s.turnAt l.toNat).await = true ∧ (s.turnAt l.toNat).st =
      TurnSt.none) ∧
    (∃ (s : State) (l : BitVec 4) (f : Nat), f = l.toNat / 8 ∧ (s.icingAt f).burst = none ∧ (s.icingAt f).queue.length
      < 16 ∧ Live s ∧ (s.turnAt l.toNat).st = TurnSt.settling ∧ (s.rxAt l.toNat).st = RxSt.locked ∧ (s.rxAt
      l.toNat).half = (s.turnAt l.toNat).half ∧ (s.turnAt l.toNat).half = s.tierHalf ∧ bitOf (s.framerAt l.toNat).feRx
      3 = true ∧ s.tierp.doneRaised = true ∧ TakesEvents s) :=
  ⟨⟨{ device with icing := [(1, { burst := none })] }, 15, 1, 0, by decide, by decide, by decide, ⟨by decide, by
    decide⟩, by decide +kernel⟩,
  ⟨{ device with icing := [(1, { burst := none })], sys := { device.sys with tier := 0 } }, 15, 1, 0, by decide, by
    decide, by decide, ⟨by decide, by decide⟩, by decide⟩,
  ⟨{ device with icing := [(1, { burst := none, reqIn := [] })] }, 15, 1, 0, 1, by decide, by decide, by decide, ⟨by
    decide, by decide⟩, by decide +kernel⟩,
  ⟨{ device with icing := [(1, { burst := none, reqIn := [{ tier := true, answer := none, mseq := 7, src := 0x0202, payload := [7, 15, 0, 0] }] })] },
    15, 1, _, 1, 0, by decide, by decide, by decide, ⟨by decide, by decide⟩, by decide, rfl, by decide +kernel⟩,
  ⟨{ device with tierp := { device.tierp with lanes := [(15, { st := .waiting })] }, rx := [(15, { st := RxSt.locked })], tx := [(15, { st := TxSt.data })], icing := [(1, { far := 2, burst := none })] },
    15, 1, by decide, by decide, by decide, rfl, by decide +kernel⟩,
  ⟨{ device with icing := [(1, { burst := none, reqIn := [], cfg := { tierAccept := true } })] }, 15, 1, 1, 0, 0, 0,
    by decide, by decide, by decide, rfl, by decide +kernel⟩,
  ⟨{ device with icing := [(1, { burst := none, reqIn := [], cfg := { tierAccept := false } })] }, 15, 1, 1, 0, 0, 0,
    by decide, by decide, by decide, rfl, by decide, by decide, by decide, by decide, by decide, by decide, by decide,
    ⟨by decide, by decide⟩⟩,
  ⟨{ device with icing := [(1, { burst := none, reqOut := [{ tier := true, cancel := false, lane := 15, mseq := 7, dst := 0x0202, payload := [], resends := 0 }] })], rx := [(15, { st := RxSt.locked })] },
    15, 1, _, 1, by decide, by decide, by decide, rfl, by decide, rfl, by decide +kernel⟩,
  ⟨{ device with tierp := { device.tierp with lanes := [(15, { st := .requested, half := true })] }, icing := [(1, { burst := none, reqOut := [] })] },
    15, 1, by decide, by decide, by decide, rfl, by decide, by decide, by decide, ⟨by decide, by decide⟩⟩,
  ⟨{ device with icing := [(1, { burst := none })], tierp := { device.tierp with lanes := [(15, { due := true, left := 0, st := TurnSt.switching })] } },
    15, 1, by decide, by decide, by decide, rfl, by decide +kernel⟩,
  ⟨{ device with icing := [(1, { burst := none })], tierp := { device.tierp with lanes := [(15, { due := false, await := true, st := TurnSt.none })] } },
    15, 1, by decide, by decide, by decide, rfl, by decide +kernel⟩,
  ⟨{ device with framer := [(15, { feRx := 8 })], tierp := { device.tierp with lanes := [(15, { st := .settling, half := true })], doneRaised := true }, rx := [(15, { half := true, st := RxSt.locked })], icing := [(1, { burst := none })] },
    15, 1, by decide, by decide, by decide, rfl, by decide, by decide, by decide, by decide, by decide, by decide, ⟨by
    decide, by decide⟩⟩⟩

theorem witness_SpiAndRegisters :
    (∃ (s : State) (h0 : Byte) (h1 : Byte) (h2 : Byte) (h3 : Byte) (h4 : Byte) (h5 : Byte) (r : Bytes) (k : Nat), Live
      s ∧ h5 ≠ crc8 [h0, h1, h2, h3, h4]) ∧
    (∃ (s : State) (h0 : Byte) (h1 : Byte) (h2 : Byte) (h3 : Byte) (h4 : Byte) (h5 : Byte) (r : Bytes) (k : Nat), Live
      s ∧ h5 = crc8 [h0, h1, h2, h3, h4]) ∧
    (∃ (s : State) (d : BitVec 6) (a : W24) (n : Byte) (k : Nat) (b : Bytes), Live s ∧ d ≠ s.sys.addr) ∧
    (∃ (s : State) (a : W24) (b : Bytes), Live s ∧ List.length b ≠ 5) ∧
    (∃ (s : State) (a : W24) (b0 : Byte) (b1 : Byte) (b2 : Byte) (b3 : Byte) (c : Byte), Live s ∧ c ≠ crc8 [b0, b1,
      b2, b3]) ∧
    (∃ (s : State) (a : W24) (b0 : Byte) (b1 : Byte) (b2 : Byte) (b3 : Byte), Live s ∧ inBlock 4096 8192 (wordAddr a
      0) = true) ∧
    (∃ (s : State) (a : W24) (b0 : Byte) (b1 : Byte) (b2 : Byte) (b3 : Byte), Live s ∧ inBlock 4096 8192 (wordAddr a
      0) = false ∧ inBlock 262144 327680 (wordAddr a 0) = false) ∧
    (∃ (s : State), Live s ∧ s.answers 16 = true) ∧
    (∃ (s : State), Live s ∧ s.answers 20 = true) ∧
    (∃ (s : State), Live s ∧ s.answers 40 = true) ∧
    (∃ (s : State) (a : W24) (v : W32), Live s ∧ inWindow a = true ∧ inBlock 1064960 1081344 (wordAddr a 0) = true) ∧
    (∃ (s : State) (a : W24) (v : W32), Live s ∧ inWindow a = true ∧ inBlock 1064960 1081344 (wordAddr a 0) = false ∧
      s.answers (wordAddr a 0) = true ∧ s.sramBad = [] ∧ s.sramSoft = []) ∧
    (∃ (s : State) (n : BitVec 4) (v : W32), Live s ∧ s.answers 262144 = true) ∧
    (∃ (s : State) (n : BitVec 4), Live s ∧ s.dmaAwake = true ∧ (s.qryAt n.toNat).makes = true) ∧
    (∃ (s : State) (n : BitVec 4), Live s ∧ s.answers (262148 + 8 * n.toNat) = true ∧ (s.qryAt n.toNat).ready = true) :=
  ⟨⟨device, 0, 0, 0, 0, 0, 0, [], 0, rfl, by decide +kernel⟩,
  ⟨device, 0, 0, 0, 0, 0, (crc8 [0, 0, 0, 0, 0]), [], 0, rfl, rfl⟩,
  ⟨device, 1, 0, 0, 0, [], rfl, by decide⟩,
  ⟨device, 0, [], rfl, by decide⟩,
  ⟨device, 0, 0, 0, 0, 0, 0, rfl, by decide +kernel⟩,
  ⟨device, 0x1FFC, 0, 0, 0, 0, rfl, by decide⟩,
  ⟨device, 0, 0, 0, 0, 0, rfl, by decide +kernel⟩,
  ⟨device, rfl, by decide⟩,
  ⟨device, rfl, by decide⟩,
  ⟨device, rfl, by decide⟩,
  ⟨device, 0x104000, 0, rfl, by decide +kernel⟩,
  ⟨{ device with sramSoft := [] }, 0x108000, 0, rfl, by decide +kernel⟩,
  ⟨device, 15, 0, rfl, by decide⟩,
  ⟨{ device with qry := [(15, { armed := true })] }, 15, rfl, by decide +kernel⟩,
  ⟨{ device with qry := [(0, { ready := true })] }, 0, rfl, by decide +kernel⟩⟩

theorem witness_Mailbox :
    (∃ (s : State) (k : BitVec 6), Live s ∧ s.answers 4096 = true) ∧
    (∃ (s : State) (k : BitVec 6), Live s ∧ s.answers 4108 = true ∧ (k - s.mbx.d2hHead).toNat ≤ (s.mbx.d2hTail -
      s.mbx.d2hHead).toNat) ∧
    (∃ (s : State) (k : BitVec 6), Live s ∧ s.answers 4108 = true ∧ (s.mbx.d2hTail - s.mbx.d2hHead).toNat < (k -
      s.mbx.d2hHead).toNat) ∧
    (∃ (s : State), Live s ∧ s.mcpRuns = true ∧ s.mbx.h2dAny = true ∧ 1 ≤ s.mbx.d2hFree ∧ s.mbx.readyDue = false ∧
      s.sramBad = [] ∧ s.sramSoft = [] ∧ msgOf (s.sramRead (h2dSlot s.mbx.h2dHead) 256) = none ∧ TakesEvents s) ∧
    (∃ (s : State) (m : Msg) (h : Hist), Live s ∧ s.mcpRuns = true ∧ s.mbx.h2dAny = true ∧ 1 ≤ s.mbx.d2hFree ∧
      s.mbx.readyDue = false ∧ s.sramBad = [] ∧ s.sramSoft = [] ∧ msgOf (s.sramRead (h2dSlot s.mbx.h2dHead) 256) =
      some m ∧ m.op ≠ 3 ∧ s.mbx.sync = true ∧ List.find? (fun h => h.hseq == m.hseq) s.mbx.history = some h) ∧
    (∃ (s : State) (m : Msg), Live s ∧ s.mcpRuns = true ∧ s.mbx.h2dAny = true ∧ 1 ≤ s.mbx.d2hFree ∧ s.mbx.readyDue =
      false ∧ s.sramBad = [] ∧ s.sramSoft = [] ∧ msgOf (s.sramRead (h2dSlot s.mbx.h2dHead) 256) = some m ∧ m.op ≠ 3 ∧
      s.mbx.sync = true ∧ List.find? (fun h => h.hseq == m.hseq) s.mbx.history = none ∧ 32768 ≤ BitVec.toNat (m.hseq -
      s.mbx.nextHseq)) ∧
    (∃ (s : State) (m : Msg), Live s ∧ s.mcpRuns = true ∧ s.mbx.h2dAny = true ∧ 1 ≤ s.mbx.d2hFree ∧ s.mbx.readyDue =
      false ∧ s.sramBad = [] ∧ s.sramSoft = [] ∧ msgOf (s.sramRead (h2dSlot s.mbx.h2dHead) 256) = some m ∧ m.op ≠ 3 ∧
      s.mbx.sync = true ∧ List.find? (fun h => h.hseq == m.hseq) s.mbx.history = none ∧ m.hseq = s.mbx.nextHseq ∧ m.op
      = 2 ∧ m.payload = [] ∧ tierAdmits 2 s = true) ∧
    (∃ (s : State) (e : Ev) (r : List Ev), Live s ∧ s.mcpRuns = true ∧ s.mbx.evq = e :: r ∧ 2 ≤ s.mbx.d2hFree) ∧
    (∃ (s : State), Live s ∧ s.mbx.d2hFree < 2) ∧
    (∃ (s : State), Takes 3 s) :=
  ⟨⟨device, 0, rfl, by decide⟩,
  ⟨device, 0, rfl, by decide +kernel⟩,
  ⟨device, 1, rfl, by decide +kernel⟩,
  ⟨{ device with mbx := { device.mbx with h2dTail := 1 }, sramSoft := [] }, rfl, by decide, by decide, by decide, by
    decide, by decide, by decide, by decide +kernel, ⟨by decide, by decide⟩⟩,
  ⟨{ device with sram := (Tab.ofList 0 (h2dSlot 0) (message 0 1 0 0 0 0 [])), mbx := { device.mbx with history := [{ hseq := 0, opcode := 1, status := 0, payload := [] }], h2dTail := 1, sync := true }, sramSoft := [] },
    { op := 1, hseq := 0, payload := [] }, { hseq := 0, opcode := 1, status := 0, payload := [] }, rfl, by decide,
    by decide +kernel⟩,
  ⟨{ device with sram := (Tab.ofList 0 (h2dSlot 0) (message 0 1 0xFFFF 0 0 0 [])), mbx := { device.mbx with h2dTail := 1, sync := true }, sramSoft := [] },
    { op := 1, hseq := 0xFFFF, payload := [] }, rfl, by decide, by decide, by decide +kernel⟩,
  ⟨{ device with sram := (Tab.ofList 0 (h2dSlot 0) (message 0 2 0 0 0 0 [])), mbx := { device.mbx with h2dTail := 1, sync := true }, sramSoft := [] },
    { op := 2, hseq := 0, payload := [] }, rfl, by decide, by decide, by decide, by decide, by decide,
    by decide +kernel⟩,
  ⟨{ device with mbx := { device.mbx with evq := [{ op := 0x8001, bytes := [] }] } }, { op := 0x8001, bytes := [] },
    [], rfl, by decide +kernel⟩,
  ⟨{ device with mbx := { device.mbx with d2hTail := 62 } }, rfl, by decide⟩,
  ⟨device, ⟨by decide, by decide⟩⟩⟩

theorem witness_DmaAndCounters :
    (∃ (s : State) (c : BitVec 4), Live s ∧ s.dmaTakes = true ∧ (s.chanAt c.toNat).free = true ∧ (s.chanAt
      c.toNat).trig ≠ 0) ∧
    (∃ (s : State) (c : BitVec 4), Live s ∧ s.dmaTakes = true ∧ (s.chanAt c.toNat).free = true ∧ (s.chanAt
      c.toNat).trig = 0 ∧ s.sramBad = [] ∧ s.sramSoft = [] ∧ descOk (BitVec.toNat (s.chanAt c.toNat).head) = true ∧
      (s.descAt (BitVec.toNat (s.chanAt c.toNat).head)).protOk = true ∧ (s.descAt (BitVec.toNat (s.chanAt
      c.toNat).head)).alignOk = true ∧ s.pd 86 = true) ∧
    (∃ (s : State) (c : BitVec 4), Live s ∧ (s.chanAt c.toNat).free = false) ∧
    (∃ (s : State) (c : BitVec 4), Live s ∧ s.dmaTakes = true ∧ (s.chanAt c.toNat).st = DmaSt.armed ∧ (s.chanAt
      c.toNat).desc = none ∧ s.sramBad = [] ∧ s.sramSoft = []) ∧
    (∃ (s : State) (c : BitVec 4), Live s ∧ s.dmaAwake = true ∧ (s.chanAt c.toNat).trig ≠ 0 ∧ (s.chanAt c.toNat).st =
      DmaSt.running ∧ (s.chanAt c.toNat).pending = true) ∧
    (∃ (s : State) (c : BitVec 4), Live s ∧ s.dmaAwake = true ∧ (s.chanAt c.toNat).trig ≠ 0 ∧ (s.chanAt c.toNat).st =
      DmaSt.running ∧ (s.chanAt c.toNat).pending = false) ∧
    (∃ (s : State) (c : BitVec 4) (d : Desc), Live s ∧ s.dmaAwake = true ∧ (s.chanAt c.toNat).st = DmaSt.running ∧
      (s.chanAt c.toNat).desc = some d ∧ d.mode = 2 ∧ s.sramBad = [] ∧ s.sramSoft = [] ∧ d.wb = false ∧ (s.chanAt
      c.toNat).moved = 0 ∧ s.dmaOthers c.toNat = [] ∧ s.dmaDiffer d 0 = some 0) ∧
    (∃ (s : State) (c : BitVec 4) (d : Desc), Live s ∧ s.dmaAwake = true ∧ (s.chanAt c.toNat).st = DmaSt.running ∧
      (s.chanAt c.toNat).desc = some d ∧ d.mode = 1 ∧ d.n = 4 ∧ d.wb = false ∧ d.dstFix = false ∧ s.sramBad = [] ∧
      s.sramSoft = [] ∧ d.protOk = true ∧ (s.chanAt c.toNat).moved = 0 ∧ s.dmaOthers c.toNat = [] ∧ (s.chanAt
      c.toNat).trig = 0 ∧ s.triggered 2 c.toNat = [] ∧ (∀ (k : Nat),   winToSram (BitVec.toNat (s.chanAt c.toNat).last
      + 16) ≤ k →     k < winToSram (BitVec.toNat (s.chanAt c.toNat).last + 16) + 4 →       (k < winToSram d.to_ ∨
      winToSram d.to_ + 4 ≤ k) ∧ s.sramByte k = 1)) ∧
    (∃ (s : State) (c : BitVec 4) (d : Desc) (e : Desc) (k : Nat), Live s ∧ s.dmaAwake = true ∧ (s.chanAt c.toNat).st
      = DmaSt.running ∧ (s.chanAt c.toNat).desc = some d ∧ d.mode = 2 ∧ s.sramBad = [] ∧ s.sramSoft = [] ∧ d.wb =
      false ∧ (s.chanAt c.toNat).moved = 0 ∧ s.dmaDiffer d 0 = some 0 ∧ s.dmaOthers c.toNat = [k] ∧ (s.chanAt k).desc
      = some e ∧ e.mode = 1 ∧ (s.chanAt k).moved = 0) ∧
    (∃ (s : State) (c : BitVec 4), Live s ∧ s.dmaAwake = true ∧ (s.chanAt c.toNat).st = DmaSt.cmd ∧ (s.chanAt
      c.toNat).xfer = none) ∧
    (∃ (s : State) (c : BitVec 4) (x : Xfer) (e : Exec), Live s ∧ s.dmaAwake = true ∧ (s.chanAt c.toNat).st =
      DmaSt.cmd ∧ (s.chanAt c.toNat).xfer = some x ∧ s.mbx.exec = some e ∧ e.ch = c.toNat ∧ e.hseq = none) ∧
    (∃ (s : State) (k : BitVec 3), Live s ∧ s.dmaTakes = true) ∧
    (∃ (s : State) (k : BitVec 3), Live s ∧ s.dmaAwake = true ∧ (s.timerAt k.toNat).run = true ∧ s.triggered 1 k.toNat
      = [] ∧ (∀ (p : Nat × Cnt), p ∈ s.dma.cnts → p.snd.source ≠ 113)) ∧
    (∃ (s : State) (c : W16) (src : W16) (i : W16) (f : W16) (n : Nat), Takes 3841 s ∧ BitVec.toNat c < 4096 ∧
      BitVec.toNat f ≤ 1 ∧ sourceSize (BitVec.toNat src) = some n ∧ BitVec.toNat i < n ∧ (BitVec.toNat c % 2 = 1 → f =
      0 ∧ (s.cntAt (BitVec.toNat c - 1)).chain = false)) ∧
    (∃ (s : State) (c : W16) (src : W16) (i : W16) (n : Nat), Takes 3841 s ∧ BitVec.toNat c < 4096 ∧ BitVec.toNat c %
      2 = 1 ∧ sourceSize (BitVec.toNat src) = some n ∧ BitVec.toNat i < n ∧ (s.cntAt (BitVec.toNat c - 1)).chain =
      true) ∧
    (∃ (s : State) (k : Byte) (c : W16) (ms : W16), Takes 3842 s ∧ (k = 0 ∧ BitVec.toNat c < 1024 ∨ k = 1 ∧
      BitVec.toNat c < 16) ∧ BitVec.toNat ms ≤ 1000) ∧
    (∃ (s : State) (k : Byte) (c : W16) (w : Window), Takes 3843 s ∧ (k = 0 ∧ BitVec.toNat c < 1024 ∨ k = 1 ∧
      BitVec.toNat c < 16) ∧ s.winAt (winIndex (BitVec.toNat k) (BitVec.toNat c)) = w) ∧
    (∃ (s : State) (c : BitVec 12) (v : W32) (b : Bool), Live s ∧ s.dmaTakes = true ∧ (s.carriesInto c.toNat = false ∨
      b = false ∧ (s.cntAt c.toNat).source ≠ 112)) ∧
    (∃ (s : State) (c : BitVec 12) (v : W32), Live s ∧ s.dmaTakes = true ∧ s.carriesInto c.toNat = true) ∧
    (∃ (s : State) (c : BitVec 12), Live s ∧ s.dmaAwake = true ∧ (s.cntAt c.toNat).val = BitVec.allOnes 32 ∧ (s.cntAt
      c.toNat).source ≠ 0 ∧ (s.cntAt c.toNat).chain = false) ∧
    (∃ (s : State) (k : BitVec 1) (c : BitVec 10), Live s ∧ s.dmaAwake = true ∧ (s.winAt (winIndex k.toNat
      c.toNat)).ms = 0) ∧
    (∃ (s : State) (k : BitVec 1) (c : BitVec 10), Live s ∧ s.dmaAwake = true ∧ (s.winAt (winIndex k.toNat
      c.toNat)).ms ≠ 0 ∧ TakesEvents s ∧ (s.winAt (winIndex k.toNat c.toNat)).notify = true) ∧
    (∃ (s : State) (lane : Byte) (d : Byte) (a : W32), Takes 268 s ∧ BitVec.toNat lane < 16 ∧ BitVec.toNat d < 16 ∧
      s.rxOn (BitVec.toNat lane) = true ∧ bufOk a 65536 = true ∧ (s.chanAt (BitVec.toNat d)).free = true) ∧
    (∃ (s : State) (lane : Byte) (d : Byte) (a : W32), Takes 268 s ∧ BitVec.toNat lane < 16 ∧ BitVec.toNat d < 16 ∧
      s.rxOn (BitVec.toNat lane) = true ∧ bufOk a 65536 = true ∧ (s.chanAt (BitVec.toNat d)).free = false) :=
  ⟨⟨{ device with dma := { device.dma with chans := [(0, { trig := 1 })] } }, 0, rfl, by decide +kernel⟩,
  ⟨{ device with dma := { device.dma with chans := [(15, { head := 0x108000, trig := 0 })] }, sram := (Tab.ofList 0 (winToSram 0x108000) (le32 0 ++ le32 0x100000 ++ le32 0x13FFFC ++ le32 4)), sramSoft := [] },
    15, rfl, by decide +kernel⟩,
  ⟨{ device with dma := { device.dma with chans := [(15, { st := DmaSt.running })] } }, 15, rfl, by decide⟩,
  ⟨{ device with dma := { device.dma with chans := [(0, { st := DmaSt.armed, desc := none })] }, sramSoft := [] }, 0,
    rfl, by decide +kernel⟩,
  ⟨{ device with dma := { device.dma with chans := [(0, { trig := 1, st := DmaSt.running, pending := true })] } }, 0,
    rfl, by decide +kernel⟩,
  ⟨{ device with dma := { device.dma with chans := [(0, { trig := 1, st := DmaSt.running, pending := false })] } }, 0,
    rfl, by decide +kernel⟩,
  ⟨{ device with dma := { device.dma with chans := [(15, { st := .running, desc := some { ctrl := 2, src := 0x108000, dst := 0x108010, len := 4 } })] }, sram := [(winToSram 0x108000, 1)], sramSoft := [] },
    15, { ctrl := 2, src := 0x108000, dst := 0x108010, len := 4 }, rfl, by decide, by decide, rfl, by decide +kernel⟩,
  ⟨{ device with dma := { device.dma with chans := [(15, { st := .running, desc := some { ctrl := 1, src := 0, dst := 0x108010, len := 4 }, last := 0x108100 })] }, sram := [(0x8110, 1), (0x8111, 1), (0x8112, 1), (0x8113, 1)], sramSoft := [] },
    15, { ctrl := 1, src := 0, dst := 0x108010, len := 4 }, rfl, by decide, by decide, rfl, by decide, by decide, by
    decide, by decide, by decide, by decide, by decide, by decide, by decide, by decide, by decide, fun k h1 h2 =>
    ⟨Or.inr (Nat.le_trans (by decide) h1), four_ones (a := 0x8110) h1 h2⟩⟩,
  ⟨{ device with dma := { device.dma with chans := [(0, { st := .running, desc := some { ctrl := 1, src := 0, dst := 0x109000, len := 4 } }), (15, { st := .running, desc := some { ctrl := 2, src := 0x108000, dst := 0x108010, len := 4 } })] }, sram := [(winToSram 0x108000, 1)], sramSoft := [] },
    15, { ctrl := 2, src := 0x108000, dst := 0x108010, len := 4 }, { ctrl := 1, src := 0, dst := 0x109000, len := 4 },
    0, rfl, by decide +kernel, by decide +kernel, rfl, by decide +kernel, by decide +kernel, by decide +kernel,
    by decide +kernel, by decide +kernel, by decide +kernel, by decide +kernel, rfl, by decide +kernel⟩,
  ⟨{ device with dma := { device.dma with chans := [(0, { st := DmaSt.cmd, xfer := none })] } }, 0, rfl,
    by decide +kernel⟩,
  ⟨{ device with dma := { device.dma with chans := [(15, { st := .cmd, xfer := some { src := .capture 15, addr := 0x108000, n := 65536 } })] }, mbx := { device.mbx with exec := some { op := 0x010A, ch := 15, payload := [] } } },
    15, { src := .capture 15, addr := 0x108000, n := 65536 }, { op := 0x010A, ch := 15, payload := [] }, rfl, by
    decide, by decide, rfl, rfl, by decide +kernel⟩,
  ⟨device, 0, rfl, by decide⟩,
  ⟨{ device with dma := { device.dma with timers := [(0, { run := true })] } }, 0, rfl, by decide +kernel⟩,
  ⟨device, 4095, 0x60, 191, 0, 192, ⟨by decide, by decide⟩, by decide +kernel⟩,
  ⟨{ device with dma := { device.dma with cnts := [(4094, { chain := true })] } }, 4095, 0x60, 191, 192, ⟨by decide,
    by decide⟩, by decide +kernel⟩,
  ⟨device, 1, 15, 1000, ⟨by decide, by decide⟩, Or.inr (by decide), by decide⟩,
  ⟨{ device with dma := { device.dma with wins := [(1039, { ms := 1 })] } }, 1, 15, { ms := 1 }, ⟨by decide, by
    decide⟩, Or.inr (by decide), by decide⟩,
  ⟨device, 0, 0, false, rfl, by decide +kernel⟩,
  ⟨{ device with dma := { device.dma with cnts := [(4094, { chain := true, val := 1 })] } }, 4095, 0, rfl,
    by decide +kernel⟩,
  ⟨{ device with dma := { device.dma with cnts := [(0, { val := BitVec.allOnes 32, source := 1, chain := false })] } },
    0, rfl, by decide +kernel⟩,
  ⟨device, 1, 0, rfl, by decide +kernel⟩,
  ⟨{ device with dma := { device.dma with wins := [(1039, { ms := 1, notify := true })] } }, 1, 15, rfl, by decide, by
    decide, ⟨by decide, by decide⟩, by decide⟩,
  ⟨device, 15, 15, 1081344, ⟨by decide, by decide⟩, by decide +kernel⟩,
  ⟨{ device with dma := { device.dma with chans := [(15, { st := .running })] } }, 15, 15, 1081344, ⟨by decide, by
    decide⟩, by decide +kernel⟩⟩

theorem witness_StepRunsFront :
    ∃ (s : State), s.pending = [] :=
  ⟨{ device with pending := [] }, by decide⟩

theorem witness_ResetState :
    (∃ (l : Nat), l < 16) ∧
    (∃ (i : Nat), i < 32) ∧
    (∃ (i : Nat), i < 64) :=
  ⟨⟨15, by decide⟩,
  ⟨31, by decide⟩,
  ⟨63, by decide⟩⟩

theorem witness_InReset :
    ∃ (c : Instr) (s : State), s.sys.inReset = true :=
  ⟨Instr.resetNFall, { device with sys := { device.sys with inReset := true } }, by decide⟩

theorem witness_StepsKeepMemories :
    (∃ (s : State) (t : State), step s = Host.Outcome.next t ∧ s.memWf = true) ∧
    (∃ (s : State) (t : State), step s = Host.Outcome.next t ∧ s.InBounds) :=
  ⟨⟨device, (nextOf (step device)), rfl, by decide +kernel⟩,
  ⟨device, (nextOf (step device)), rfl, ⟨by decide, by decide, fun _ e => by cases e⟩⟩⟩

theorem witness_CrumbCheckWord :
    (∃ (m : CrumbMem) (i : Nat) (k : Nat), k < 256) ∧
    (∃ (m : CrumbMem) (i : Nat) (b : Bytes), List.length b = 256) ∧
    (∃ (m : CrumbMem) (i : Nat), m.rejected.contains i = false) :=
  ⟨⟨{}, 0, 255, by decide⟩,
  ⟨{}, 0, (List.replicate 256 0), by decide⟩,
  ⟨{}, 0, by decide⟩⟩

theorem witness_CounterWraps :
    (∃ (s : State) (i : Nat) (n : Nat) (k : Nat), n < 2 ^ 32 ∧ (s.cntAt i).chain = false ∧ k ≠ i) ∧
    (∃ (s : State) (i : Nat) (n : Nat) (k : Nat), n < 2 ^ 32 ∧ (s.cntAt i).chain = true ∧ k ≠ i ∧ k ≠ i + 1) ∧
    (∃ (s : State) (c : BitVec 12), Live s ∧ s.dmaAwake = true ∧ (s.cntAt c.toNat).val = BitVec.allOnes 32 ∧ (s.cntAt
      c.toNat).source ≠ 0) :=
  ⟨⟨{ device with dma := { device.dma with cnts := [(0, { chain := false })] } }, 0, 4294967295, 2, by decide +kernel⟩,
  ⟨{ device with dma := { device.dma with cnts := [(2, { chain := true })] } }, 2, 4294967295, 4, by decide +kernel⟩,
  ⟨{ device with dma := { device.dma with cnts := [(0, { val := BitVec.allOnes 32, source := 1 })] } }, 0, rfl,
    by decide +kernel⟩⟩

end Sys2Proof.Tests
end

section
/-! Every command, and with it every step, keeps the memories, the bounds, the RS counters and the queue behind it. -/

namespace Sys2Proof.Machine

section
variable {w v u : Prop} {q : List Instr} {s : State}

@[simp] theorem trained_mems (l : Nat) (s : State) : (trained l s).mems = s.mems := by
  unfold trained
  simp

theorem wakeOwed_keeps {t : State} (e : wakeOwed s = some t) (h : Keeps w v u q s.mems) : Keeps w v u q t.mems := by
  unfold wakeOwed at e
  split at e
  · cases e
    exact wakeStart_keeps _ _ _ _ _ h
  · split at e
    · cases e
      exact wakeStart_keeps _ _ _ _ _ h
    · cases e

/-! ### Pins and supplies -/

theorem resetNFall_keeps (h : Keeps w v u q s.mems) : NextKeeps w v u q (execResetNFall s) :=
  next_keeps (by simp [h])

theorem resetNRise_keeps (addr : BitVec 6) (boot : BitVec 2) (h : Keeps w v u q s.mems) :
    NextKeeps w v u q (execResetNRise addr boot s) := by
  unfold execResetNRise
  split
  · exact still_keeps h
  · split
    · exact next_keeps h
    · exact next_keeps (resetLeave_keeps _ _ _ h)

theorem vddAonPowerOnReset_keeps (h : Keeps w v u q s.mems) : NextKeeps w v u q (execVddAonPowerOnReset s) :=
  next_keeps (by simp [h])

theorem vddAonRestart_keeps (addr : BitVec 6) (boot : BitVec 2) (met : Bool) (h : Keeps w v u q s.mems) :
    NextKeeps w v u q (execVddAonRestart addr boot met s) := by
  unfold execVddAonRestart
  dsimp only
  split
  · exact still_keeps h
  · split
    · exact next_keeps h
    · split
      · exact next_keeps (resetLeave_keeps _ _ _ h)
      · exact next_keeps h

theorem holdNFall_keeps (h : Keeps w v u q s.mems) : NextKeeps w v u q (execHoldNFall s) :=
  next_keeps (by simp [h])

theorem holdNRise_keeps (h : Keeps w v u q s.mems) : NextKeeps w v u q (execHoldNRise s) :=
  next_keeps (by simp [h])

theorem faultInputAssert_keeps (f : BitVec 1) (p : FaultSeen) (h : Keeps w v u q s.mems) :
    NextKeeps w v u q (execFaultInputAssert f p s) := by
  apply pinEvent_keeps h
  · intro k
    simp [k]
  · intro k
    simp [k]

theorem biasFaultDetect_keeps (out cause : Byte) (h : Keeps w v u q s.mems) :
    NextKeeps w v u q (execBiasFaultDetect out cause s) := by
  unfold execBiasFaultDetect
  exact pinEvent_keeps h (fun k => by simp [k]) (fun k => by simp [k])

theorem paraxResync_keeps (h : Keeps w v u q s.mems) : NextKeeps w v u q (execParaxResync s) := by
  unfold execParaxResync
  split
  · exact parax_keeps (resyncSeq_keeps _ _ h) (fun _ _ _ _ _ k => by simp [k])
  · exact still_keeps h

/-! ### Events -/

theorem qualityPeriodEnd_keeps (l : BitVec 4) (m : QualityMeas) (h : Keeps w v u q s.mems) :
    NextKeeps w v u q (execQualityPeriodEnd l m s) := by
  apply eventIf_keeps h
  intro k
  dsimp only
  rw [State.rxMod_mems, answerFeedback_mems]
  refine keeps_if (fun _ => stretchPeriod_keeps _ _ _ _ ?_) (fun _ => ?_) <;> simp [k]

theorem snapshotWriteDone_keeps (l : BitVec 4) (h : Keeps w v u q s.mems) :
    NextKeeps w v u q (execSnapshotWriteDone l s) := by
  apply eventIf_keeps h
  intro k
  dsimp only
  refine keeps_if (fun _ => by simp [k]) (fun _ => ?_)
  split <;> simp [k]

theorem txMultiframeBoundary_keeps (f : BitVec 1) (h : Keeps w v u q s.mems) :
    NextKeeps w v u q (execTxMultiframeBoundary f s) := by
  apply eventIf_keeps h
  intro k
  have sent : Keeps w v u q (forEach (lanesOf f.toNat) txBoundary
      (s.faceMod f.toNat (fun x => { x with mf := x.mf + 1, trace := x.traceP.getD x.trace, traceP := none }))).mems :=
    forEach_keeps (fun _ _ => txBoundary_keeps _ _) (by simpa using k)
  simpa using sent

theorem stretchTableSwitch_keeps (l : BitVec 4) (transmit : Bool) (h : Keeps w v u q s.mems) :
    NextKeeps w v u q (execStretchTableSwitch l transmit s) := by
  unfold execStretchTableSwitch
  dsimp only
  split
  · apply eventIf_keeps h
    intro k
    split <;> simp [k]
  · apply eventIf_keeps h
    intro k
    split <;> simp [k]

theorem modeReqReceive_keeps (f : BitVec 1) (src : W16) (p : Bytes) (h : Keeps w v u q s.mems) :
    NextKeeps w v u q (execModeReqReceive f src p s) := by
  apply eventIf_keeps h
  intro k
  split
  · split <;> simp [k]
  · simp [k]

theorem modeCancelReceive_keeps (f : BitVec 1) (src : W16) (p : Bytes) (h : Keeps w v u q s.mems) :
    NextKeeps w v u q (execModeCancelReceive f src p s) := by
  apply eventIf_keeps h
  intro k
  dsimp only
  split
  · exact k
  · split <;> simp [k]

theorem tierReqReceive_keeps (f : BitVec 1) (src : W16) (p : Bytes) (h : Keeps w v u q s.mems) :
    NextKeeps w v u q (execTierReqReceive f src p s) := by
  apply eventIf_keeps h
  intro k
  dsimp only
  split
  · split <;> simp [k]
  · simp [k]

theorem filterOutputSample_keeps (i) (newConfig : Bool) (h : Keeps w v u q s.mems) :
    NextKeeps w v u q (execFilterOutputSample i newConfig s) := by
  apply event_keeps h
  intro k
  dsimp only
  refine keeps_if (fun _ => ?_) (fun _ => ?_)
  · split
    · exact k
    · split <;> simp [k]
  · split <;> simp [k]

theorem calRunPartEnd_keeps (kind) (r) (h : Keeps w v u q s.mems) : NextKeeps w v u q (execCalRunPartEnd kind r s) := by
  apply eventIf_keeps h
  intro k
  split
  · exact k
  · split <;> simp [k]

theorem calStrobeFreezeEnd_keeps (h : Keeps w v u q s.mems) : NextKeeps w v u q (execCalStrobeFreezeEnd s) := by
  apply eventIf_keeps h
  intro k
  dsimp only
  split
  · exact k
  · exact forEach_keeps (fun _ _ => choosePath_keeps _ _) (by simpa using k)

theorem toffeeWatchTick_keeps (codes) (h : Keeps w v u q s.mems) : NextKeeps w v u q (execToffeeWatchTick codes s) := by
  apply eventIf_keeps h
  intro k
  split
  next t e =>
    split at e
    · exact wakeOwed_keeps e k
    · cases e
  next => simp [k]

theorem timerTick_keeps (t : BitVec 3) (h : Keeps w v u q s.mems) : NextKeeps w v u q (execTimerTick t s) := by
  apply eventIf_keeps h
  intro k
  exact forEach_keeps (fun _ _ => dmaTrigger_keeps _ _) (by simpa using k)

/-- Every command keeps the memories canonical, the bounds, the RS counters and the queue behind it. -/
theorem exec_keeps (c : Instr) (h : Keeps w v u q s.mems) : NextKeeps w v u q (exec c s) := by
  cases c
  case sysIdentity | sysStatus | tierSet | tierReply | fwLoadBegin | fwLoadSeg | fwLoadEnd | laneConfig | laneStart |
    laneStop | laneStatus | laneQuality | laneAdapt | laneCoefRead | laneCoefWrite | laneCoefCopy | laneEchoSearch |
    laneCaptureArm | laneCaptureFetch | txConfig | txEnable | txSquelch | txFirSet | txPdWrite | txPdRead | txPdTrain
    | txSwing | txSkew | txStatus | testGen | testCheck | testCheckRead | loopbackSet | stretchConfig | stretchEnter |
    stretchExit | stretchReload | stretchStatus | stretchTableRead | stretchTableWrite | stretchSnrRead | stretchReply
    | fecConfig | fecCountersRead | frameStatus | frameIdExpect | frameTraceSet | frameGccSend | frameGccRead |
    calWrite | calRead | calCopy | calCommit | calCancel | calStatusCalendar | calRouteRead | clientSet | clientGet |
    clientStatus | clientCountersRead | throughStatus | streamConfig | streamProfileSet | streamProfileGet | streamAdd
    | streamDelete | streamBulkLoad | streamRead | streamWrite | streamFind | streamTakeAny | streamRekey |
    streamCountersRead | streamLedList | streamEngineStatus | hostConfig | hostPortConfig | hostLaneEq |
    hostPortStatus | hostLoopbackSet | hostCountersRead | icingConfig | icingStatus | icingNeighbours | icingPin |
    icingLaneMap | icingLevelQuery | icingMsgSend | icingMsgRead | icingWakeSend | icingCountersRead |
    loopTemplateApply | loopWrite | loopRead | loopMode | loopTarget | loopStatus | loopTestStart | loopTestFetch |
    loopEngineStatus | biasConfig | biasEnable | biasDisable | biasCode | biasSafe | biasRelease | biasStatus |
    monScanConfig | monRefbuf | monFilterSet | monFilterGet | monFilterSync | monRead | monStatus | calRun | calApply
    | calDiscard | calStatusCalibration | calLoad | calStore | calImageWrite | calImageExport | pwrEnter |
    pwrWatchConfig | pwrLanePark | pwrLaneUnpark | pwrStatus | pwrWakeRecord | cntAssign | cntWindowConfig |
    cntWindowRead =>
    -- a Parax command: `cmd…_keeps` of Laws/Keeps
    apply parax_keeps h
    intro _ _ _ _ _ k
    simp [k]
  case vddCoreRetentionLoss | rsynLock | rsynLoss | tier0Reached | flashImageLoaded | firmwareStart |
    mcpWatchdogExpiry | mcpException | spiRead | spiWrite | spiReservedOp | spiHeaderCrcFail | sramWindowRead |
    sramWindowWrite | mbxDoorbell | mbxD2hHeadWrite | eventWrite | pwrCtrlWake | pwrCtrlRecClr | pwrCtrlFioPin |
    pwrCtrlHoldEn | qrySelWrite | qryResult | signalDetectAssert | signalDetectDeassert | agcWindowEnd | adaptUpdate |
    echoGroupRelocate | ffeAdaptDone | echoSearchPassEnd | echoPlacementDone | mlsdTrainDone | precodeTrialTimeout |
    alignmentFound | mfLock | warmCrumbCheckDone | warmMseVerifyDone | seededAdaptDone | acqStateTimeout |
    retryBackoffEnd | lockLossDeclare | lockLossCauseSettle | rxMultiframeBoundary | captureTrigger | captureComplete
    | patternLockChange | lineFarSlip | txQualityPeriodEnd | txDomainStartupDone | pdFbReqReceive | pdFeedbackTimeout
    | probeMeasureDone | segmentPartnerTimeout | tableAckReceive | tableNakReceive | tableAckTimeout |
    countdownWaitTimeout | countdownStart | countdownDetect | modeAckTimeout | overheadHeaderReceive |
    gccMessageReceive | calendarSwitch | joinGuardEnd | receiveSlotRoute | addFrameArrive | regenBlockStart |
    regenSlip | addStreamFrame | dropStreamFrame | streamMsSweep | streamResetTimerExpiry | streamWakeSweepDone |
    ledPeriodEnd | streamScrub | streamTableClearDone | hostFrameReceive | hostPortAligned | hostRemoteFault |
    hostPortLinkLoss | hostFaultClear | icingAgcWindow | icingDetectWindow | icingCapture | icingHeaderDecode |
    icingFrameEnd | neighbourTimeout | discoveryPeriod | reportPeriod | levelQueryReceive | levelReportReceive |
    genMsgReceive | genAckReceive | wakeReceive | icingBurstStart | icingBackoffEnd | icingBurstEnd | icingBurstAbort
    | icingTxUnavailable | handoverForce | autoSwapDue | loopErrLimitFault | loopStaleFault | loopMissRunFault |
    lockinPeriodEnd | biasTick | rangeHizIntervalEnd | madcConversion | filterSettled | crossFadeEnd |
    handshakeStepAnswer | handshakeTimeout | handshakeRestartDone | sleepEntered | holdReached | wakeRsynLocked |
    wakeDomainsUp | watchCompareTrip | watchWakeAfter | neighbourLimitEval | fifoWander | tierAckTimeout |
    tierRateSwitch | tierAwaitEnd | tierTurnEnd | dmaStart | dmaAbort | dmaTrigger | dmaFenceRead |
    dmaCommandTransferDone | timerStart | cntValWrite | counterWrap | counterWindowEnd | receiveMapBlock |
    addSlotBlock | hostLaneEqfUpdate | icingAvgLevelUpdate =>
    -- an event whose operation Laws/Mems or Laws/Keeps names
    apply eventIf_keeps h
    intro k
    simp [k]
  case spiBroadcastWrite | gctlSpiStatErrorsRead | gctlEccCorrRead | gctlTimeLoRead | qryResRead | controlFrame =>
    apply event_keeps h
    intro k
    simp [k]
  -- events that branch on what the state holds
  case pdFbReceive | modeAckReceive | icingReqResendTimeout | hostReplyTimeout | modeSwitchBoundary |
    dropFrameComplete | bulkLoadComplete | hostFrameTransmit | icingSearchDetect | tierAckReceive | genMsgRetryTimeout
    | calStrobeCommit | calApplyStrobe | nvmStoreComplete | dmaDescriptorComplete =>
    apply eventIf_keeps h
    intro k
    split <;> simp [k]
  case timingLock | bitTableReceive | discoveryReceive | tierLaneTurnStart =>
    apply eventIf_keeps h
    intro k
    dsimp only
    split <;> simp [k]
  -- the rest, each by its own lemma
  case mbxCommandTake => exact eventIf_keeps h (commandTake_keeps s)
  case resetNFall => exact resetNFall_keeps h
  case resetNRise => exact resetNRise_keeps _ _ h
  case vddAonPowerOnReset => exact vddAonPowerOnReset_keeps h
  case vddAonRestart => exact vddAonRestart_keeps _ _ _ h
  case paraxResync => exact paraxResync_keeps h
  case qualityPeriodEnd => exact qualityPeriodEnd_keeps _ _ h
  case snapshotWriteDone => exact snapshotWriteDone_keeps _ h
  case txMultiframeBoundary => exact txMultiframeBoundary_keeps _ h
  case faultInputAssert => exact faultInputAssert_keeps _ _ h
  case stretchTableSwitch => exact stretchTableSwitch_keeps _ _ h
  case modeReqReceive => exact modeReqReceive_keeps _ _ _ h
  case modeCancelReceive => exact modeCancelReceive_keeps _ _ _ h
  case tierReqReceive => exact tierReqReceive_keeps _ _ _ h
  case biasFaultDetect => exact biasFaultDetect_keeps _ _ h
  case filterOutputSample => exact filterOutputSample_keeps _ _ h
  case calRunPartEnd => exact calRunPartEnd_keeps _ _ h
  case calStrobeFreezeEnd => exact calStrobeFreezeEnd_keeps h
  case holdNFall => exact holdNFall_keeps h
  case holdNRise => exact holdNRise_keeps h
  case toffeeWatchTick => exact toffeeWatchTick_keeps _ h
  case timerTick => exact timerTick_keeps _ h

end

/-- Canonical memories, said of the memories alone. -/
theorem State.memWf_iff (s : State) : s.memWf = true ↔ Memory.wf s.sram = true ∧ s.bank.wf = true ∧ s.calMem.wf = true
    ∧ s.cliMem.wf = true ∧ Memory.wf s.cal.nvm = true := by
  simp only [State.memWf, Bool.and_eq_true, and_assoc]

/-- A state keeps what holds of it. -/
theorem keeps_self (s : State) : Keeps (s.memWf = true) s.InBounds (countsAgree s.framer) s.pending s.mems :=
  ⟨s.memWf_iff.mp, rfl, id, id⟩

/-- One step keeps the memories, the bounds and the RS counters, and leaves the queue behind the command it took. -/
theorem step_keeps (s : State) : NextKeeps (s.memWf = true) s.InBounds (countsAgree s.framer) s.pending.tail (step s) := by
  unfold step
  cases e : s.pending with
  | nil =>
    refine next_keeps ?_
    rw [idleTick_mems, List.tail_nil, ← e]
    exact keeps_self s
  | cons c rest => exact exec_keeps c (keeps_self { s with pending := rest })

/-- Settles O58: every command keeps the memories canonical and the bounds, whatever the queue behind it (`exec_keeps`),
and a step is a command on the queue's rest, or one LPO count, which touches none of them. -/
theorem stepsKeepMemories : Obligations.StepsKeepMemories := by
  intro s t e
  obtain ⟨wf, queue, bounds, -⟩ := step_keeps s t e
  exact ⟨queue, fun h => t.memWf_iff.mpr (wf h), bounds⟩

end Sys2Proof.Machine
end

section
/-! The check word of a crumb (R20), and the neighbour limits (R18, R19). -/

namespace Sys2Proof.Machine

/-- A fold that looks at no element of a range is a repetition. -/
theorem foldl_range_const {α : Type} (f : α → α) (n : Nat) (a : α) : (List.range n).foldl (fun x _ => f x) a = Nat.repeat f n a := by
  induction n with
  | zero => rfl
  | succ n ih => rw [List.range_succ, List.foldl_append, ih]; rfl

/-- A byte enters the CRC-16 at its upper half, and eight shifts follow (R20). -/
theorem crc16Byte_eq_repeat (c : W16) (b : Byte) :
    crc16Byte c b = Nat.repeat (fun a : W16 => if a.getLsbD 15 then (a <<< 1) ^^^ 0x1021#16 else a <<< 1) 8
      (c ^^^ (b.setWidth 16 <<< 8)) := foldl_range_const _ 8 _

theorem crc16_append_byte (l : Bytes) (b : Byte) : crc16 (l ++ [b]) = crc16Byte (crc16 l) b := by
  simp [crc16, crc16From]

/-- A crumb that is not rejected is good exactly when its check word agrees. -/
theorem CrumbMem.ok_iff (m : CrumbMem) {i : Nat} (h : m.rejected.contains i = false) :
    m.ok i = true ↔ m.check i = crc16 (m.read i) := by
  rw [CrumbMem.ok, h, Bool.not_false, Bool.true_and, decide_eq_true_iff, eq_comm]

/-- Settles O59: the CRC-16 goes byte by byte, and a whole-crumb write puts it beside the bytes. -/
theorem crumbCheckWord : Obligations.CrumbCheckWord := by
  refine ⟨rfl, fun l b => ?_, by decide +kernel, fun m i => ⟨m.read_length i, fun k hk => ?_⟩, fun m i b h => ?_,
    fun m i h => m.ok_iff h⟩
  · rw [crc16_append_byte, crc16Byte_eq_repeat]
  · exact Tab.read_getD 0 0 m.bytes (256 * i) 256 hk
  · exact ⟨m.read_write i b h, m.check_write i b h, m.ok_write i b h⟩

/-! ### Bits of a mask that a list of regions sets -/

theorem bitOf_or {w : Nat} (a b : BitVec w) (i : Nat) : bitOf (a ||| b) i = (bitOf a i || bitOf b i) := BitVec.getLsbD_or

/-- A bit that is set reads 1. -/
theorem bitOf_setBit_self {w : Nat} (v : BitVec w) {i : Nat} (h : i < w) : bitOf (setBit v i true) i = true := by
  simp [bitOf, setBit, h]

/-- Setting a bit clears none. -/
theorem bitOf_setBit_mono {w : Nat} (v : BitVec w) (i : Nat) {j : Nat} (h : bitOf v j = true) : bitOf (setBit v i true) j = true := by
  rw [setBit, if_pos rfl, bitOf_or, h, Bool.true_or]

theorem bitOf_foldl_setBit_mono {w : Nat} (l : List Nat) {v : BitVec w} {j : Nat} (h : bitOf v j = true) :
    bitOf (l.foldl (fun m r => setBit m r true) v) j = true := by
  induction l generalizing v with
  | nil => exact h
  | cons r l ih => exact ih (bitOf_setBit_mono v r h)

/-- Setting the bits of a list sets each of them. -/
theorem bitOf_foldl_setBit {w : Nat} {l : List Nat} {r : Nat} (v : BitVec w) (hr : r ∈ l) (hw : r < w) :
    bitOf (l.foldl (fun m r => setBit m r true) v) r = true := by
  induction l generalizing v with
  | nil => cases hr
  | cons a l ih =>
    rcases List.mem_cons.mp hr with rfl | hr
    · exact bitOf_foldl_setBit_mono l (bitOf_setBit_self v hw)
    · exact ih _ hr

theorem bitOf_faceBits {rs : List Nat} {r : Nat} (hr : r ∈ rs) (h : r < 16) : bitOf (faceBits rs) r = true :=
  bitOf_foldl_setBit _ (List.mem_filter.mpr ⟨hr, decide_eq_true h⟩) h

/-! ### The crossing FIFOs -/

theorem Tab.mem_put {α : Type} (t : Tab α) (i : Nat) (v : α) : (i, v) ∈ Tab.put t i v := by
  induction t with
  | nil => exact List.mem_singleton_self _
  | cons p t ih =>
    unfold Tab.put
    split
    · exact List.mem_cons_self
    · exact List.mem_cons_of_mem _ ih

/-- A FIFO at its limit of 3 entries wanders. -/
theorem mem_wandering (k : Skew) (r : Nat) : r ∈ ({ k with fifo := Tab.set 0 k.fifo r 3 } : Skew).wandering := by
  have m : (r, 3) ∈ Tab.set 0 k.fifo r 3 := Tab.mem_put _ r 3
  exact List.mem_map.mpr ⟨(r, 3), List.mem_filter.mpr ⟨m, rfl⟩, rfl⟩

theorem raiseSkew_skew (s : State) : (raiseSkew s).skew = s.skew := raise_skew _ _ s

/-- TILE_SKEW changes the mailbox alone. -/
theorem raiseSkew_only (s : State) (k : Skew) (m : Mbx) : { raiseSkew s with skew := k, mbx := m } = { s with skew := k, mbx := m } := by
  rw [raiseSkew, raise_eq]

/-- What a wander of 3 entries makes of the skew status. -/
theorem wanderTo_three_skew (r : Nat) (s : State) :
    (wanderTo r 3 s).skew = { ({ s.skew with fifo := Tab.set 0 s.skew.fifo r 3 } : Skew).latch with active := true } := by
  unfold wanderTo
  simp only [Nat.le_refl, if_true]
  split
  · rfl
  · exact raiseSkew_skew _

theorem wanderTo_three_only (r : Nat) (s : State) (k : Skew) (m : Mbx) :
    { wanderTo r 3 s with skew := k, mbx := m } = { s with skew := k, mbx := m } := by
  unfold wanderTo
  simp only [Nat.le_refl, if_true]
  split
  · rfl
  · exact raiseSkew_only _ k m

/-- A wander of 3 entries latches PHASE and the bit of the lane. -/
theorem wanderTo_three_latches {r : Nat} (s : State) (h : r < 16) :
    (wanderTo r 3 s).skew.phase = true ∧ bitOf (wanderTo r 3 s).skew.lanes r = true := by
  have m := mem_wandering s.skew r
  rw [wanderTo_three_skew]
  constructor
  · simp [Skew.latch, Skew.livePhase, List.ne_nil_of_mem m]
  · simp [Skew.latch, Skew.liveLanes, bitOf_or, bitOf_faceBits m h]

/-- What a slip makes of the skew status. -/
theorem fifoSlip_skew (r : Nat) (s : State) : (fifoSlip r s).skew = { (wanderTo r 3 s).skew with
    fifo := Tab.set 0 (wanderTo r 3 s).skew.fifo r 0, cleanEvals := 0, active := true
    errLanes := (wanderTo r 3 s).skew.errLanes ||| slipLanes r, errTx := (wanderTo r 3 s).skew.errTx ||| slipLanes r
    errQuads := (wanderTo r 3 s).skew.errQuads ||| slipQuads r } := raiseSkew_skew _

theorem fifoSlip_only (r : Nat) (s : State) (k : Skew) (m : Mbx) :
    { fifoSlip r s with skew := k, mbx := m } = { s with skew := k, mbx := m } :=
  (raiseSkew_only _ k m).trans (wanderTo_three_only r s k m)

/-- A slip of a lane's FIFO errors what crosses it. -/
theorem bitOf_slipLanes {r : Nat} (h : r < 16) : bitOf (slipLanes r) r = true := by
  rw [slipLanes, if_neg (by omega)]
  exact bitOf_faceBits (List.mem_singleton_self r) h

/-! ### The evaluation -/

/-- An evaluation latches what it finds (R18). -/
theorem neighbourEval_latches (s : State) : (neighbourEval s).skew.temp = (s.skew.temp || !(s.hotPairs tempSet).isEmpty)
    ∧ (neighbourEval s).skew.supply = (s.skew.supply || !(s.supplyPairs 25).isEmpty)
    ∧ (neighbourEval s).skew.phase = (s.skew.phase || !s.skew.wandering.isEmpty) := by
  unfold neighbourEval
  dsimp only
  split
  · rw [raiseSkew_skew]
    exact ⟨rfl, rfl, rfl⟩
  · exact ⟨rfl, rfl, rfl⟩

theorem neighbourEval_only (s : State) (k : Skew) (m : Mbx) :
    { neighbourEval s with skew := k, mbx := m } = { s with skew := k, mbx := m } := by
  unfold neighbourEval
  dsimp only
  split
  · exact raiseSkew_only _ k m
  · rfl

theorem exec_fifoWander (r : Byte) (w : BitVec 3) (s : State) :
    exec (.fifoWander r w) s = eventIf (s.crossing r.toNat && decide (w.toNat ≤ 4))
      (fun s => if w.toNat = 4 then fifoSlip r.toNat s else wanderTo r.toNat w.toNat s) s := rfl

/-- FIFO_WANDER of up to 3 entries on a FIFO that runs. -/
theorem exists_fifoWander {s : State} {r : Byte} {w : BitVec 3} {P : State → Prop} (hl : Live s) (hc : s.crossing r.toNat = true)
    (hw : w.toNat < 4) (hP : P (wanderTo r.toNat w.toNat s)) : ∃ t, Completes (.fifoWander r w) s t ∧ P t := by
  apply exists_eventIf (exec_fifoWander r _ s) hl
  · simp [hc, Nat.le_of_lt hw]
  · simpa [Nat.ne_of_lt hw] using hP

theorem exists_fifoSlip {s : State} {r : Byte} {P : State → Prop} (hl : Live s) (hc : s.crossing r.toNat = true)
    (hP : P (fifoSlip r.toNat s)) : ∃ t, Completes (.fifoWander r 4) s t ∧ P t := by
  apply exists_eventIf (exec_fifoWander r _ s) hl
  · simp [hc]
  · simpa using hP

/-- Settles O1: the evaluation and a FIFO at its limit latch what they find, a slip centres the FIFO and errors what
crosses, and each changes the skew status, and queues TILE_SKEW, alone. -/
theorem neighbourLimits : Obligations.NeighbourLimits := by
  intro s hl hlock
  refine ⟨fun hcore => ?_, fun r w hc hw => ?_, fun r hc hr => ?_, fun r hc hr => ?_⟩
  · obtain ⟨temp, supply, phase⟩ := neighbourEval_latches s
    exact exists_eventIf rfl hl (by simp [hlock, hcore]) ⟨temp, supply, phase, neighbourEval_only s _ _⟩
  · have small : wanderTo r.toNat w.toNat s = { s with skew := { s.skew with fifo := Tab.set 0 s.skew.fifo r.toNat w.toNat } } :=
      if_neg (by omega)
    refine exists_fifoWander hl hc (by omega) ?_
    rw [small]
    exact ⟨Tab.get_set_self _ _ _ _, rfl, rfl, rfl⟩
  · obtain ⟨phase, lane⟩ := wanderTo_three_latches s hr
    have fifo : Tab.get 0 (wanderTo r.toNat 3 s).skew.fifo r.toNat = 3 := by
      rw [wanderTo_three_skew]
      exact Tab.get_set_self 0 s.skew.fifo r.toNat 3
    exact exists_fifoWander hl hc (by decide) ⟨fifo, phase, lane, wanderTo_three_only _ s _ _⟩
  · obtain ⟨phase, lane⟩ := wanderTo_three_latches s hr
    refine exists_fifoSlip hl hc ⟨?_, ?_, ?_, ?_, fifoSlip_only _ s _ _⟩
    · rw [fifoSlip_skew]
      exact Tab.get_set_self 0 _ r.toNat 0
    · rw [fifoSlip_skew]
      exact phase
    · rw [fifoSlip_skew]
    · rw [fifoSlip_skew]
      dsimp only
      rw [bitOf_or, bitOf_slipLanes hr, Bool.or_true]

end Sys2Proof.Machine
end

section
/-! Byte strings: fields of strings put together from parts of one length, and bytes put into a string. -/

namespace Sys2Proof.Machine

theorem slice_length (b : Bytes) (off n : Nat) : (slice b off n).length = n := by
  simp only [slice, List.length_append, List.length_replicate, List.length_take]
  omega

/-- A field that the string covers is what stands there. -/
theorem slice_of_le {b : Bytes} {off n : Nat} (h : off + n ≤ b.length) : slice b off n = (b.drop off).take n := by
  have e : n - ((b.drop off).take n).length = 0 := by
    rw [List.length_take, List.length_drop]
    omega
  rw [slice, e, List.replicate_zero, List.append_nil]

/-- A field within the first of two strings. -/
theorem slice_append_left {a b : Bytes} {off n : Nat} (h : off + n ≤ a.length) : slice (a ++ b) off n = slice a off n := by
  rw [slice_of_le h, slice_of_le (by rw [List.length_append]; omega), List.drop_append_of_le_length (by omega),
    List.take_append_of_le_length (by rw [List.length_drop]; omega)]

/-- A field within the second of two strings. -/
theorem slice_append_right (a b : Bytes) (off n : Nat) : slice (a ++ b) (a.length + off) n = slice b off n := by
  rw [slice, List.drop_append, List.drop_of_length_le (Nat.le_add_right _ _), List.nil_append, Nat.add_sub_cancel_left, slice]

/-- Part `i` of a string of parts that have one length. -/
theorem slice_flatMap {α : Type} {f : α → Bytes} {k : Nat} (hk : ∀ a, (f a).length = k) (l : List α) {i : Nat} (hi : i < l.length)
    {off n : Nat} (h : off + n ≤ k) : slice (l.flatMap f) (k * i + off) n = slice (f l[i]) off n := by
  induction l generalizing i with
  | nil => cases hi
  | cons a l ih =>
    rw [List.flatMap_cons]
    cases i with
    | zero =>
      rw [Nat.mul_zero, Nat.zero_add, slice_append_left (by rw [hk]; exact h)]
      rfl
    | succ i =>
      have e : k * (i + 1) + off = (f a).length + (k * i + off) := by rw [hk, Nat.mul_succ]; omega
      rw [e, slice_append_right, ih (Nat.lt_of_succ_lt_succ hi)]
      rfl

theorem length_flatMap_of_const {α : Type} {f : α → Bytes} {k : Nat} (hk : ∀ a, (f a).length = k) (l : List α) :
    (l.flatMap f).length = k * l.length := by
  induction l with
  | nil => rfl
  | cons a l ih => rw [List.flatMap_cons, List.length_append, hk, ih, List.length_cons, Nat.mul_succ, Nat.add_comm]

/-- Bytes put within a string leave its length. -/
theorem putAt_length {b v : Bytes} {off : Nat} (h : off + v.length ≤ b.length) : (putAt b off v).length = b.length := by
  simp only [putAt, List.length_append, List.length_take, List.length_drop]
  omega

@[simp] theorem leN_length (n v : Nat) : (leN n v).length = n := by
  induction n generalizing v with
  | zero => rfl
  | succ n ih => simp [leN, ih]

end Sys2Proof.Machine
end

section
/-! The bank commands (R52): crumbs of a lane's bank written in order, and what reads back. -/

namespace Sys2Proof.Machine

/-! ### Crumbs -/

/-- A write of one crumb leaves whether another is good. -/
theorem CrumbMem.ok_write_ne (m : CrumbMem) {i j : Nat} (b : Bytes) (h : j ≠ i) : (m.write i b).ok j = m.ok j := by
  have r : (m.write i b).rejected.contains j = m.rejected.contains j := by
    simp [CrumbMem.write, h]
  rw [CrumbMem.ok, CrumbMem.ok, r, m.read_write_ne b h, m.check_write_ne b h]

theorem bankCrumb_ne (l : Nat) {c d : Nat} (h : c ≠ d) : bankCrumb l c ≠ bankCrumb l d := by
  unfold bankCrumb
  omega

@[simp] theorem bankRead_length (s : State) (l c : Nat) : (s.bankRead l c).length = 256 := s.bank.read_length _

theorem bankWrite_only (l c : Nat) (b : Bytes) (s : State) (m : CrumbMem) : { bankWrite l c b s with bank := m } = { s with bank := m } :=
  rfl

theorem bankWrite_bankRead_self (l c : Nat) (s : State) {b : Bytes} (h : b.length = 256) :
    (bankWrite l c b s).bankRead l c = b := s.bank.read_write _ b h

theorem bankWrite_bankRead_ne (l : Nat) {c d : Nat} (b : Bytes) (s : State) (h : d ≠ c) :
    (bankWrite l c b s).bankRead l d = s.bankRead l d := s.bank.read_write_ne b (bankCrumb_ne l h)

theorem bankWrite_ok_self (l c : Nat) (s : State) {b : Bytes} (h : b.length = 256) :
    (bankWrite l c b s).bank.ok (bankCrumb l c) = true := s.bank.ok_write _ b h

theorem bankWrite_ok_ne (l : Nat) {c d : Nat} (b : Bytes) (s : State) (h : d ≠ c) :
    (bankWrite l c b s).bank.ok (bankCrumb l d) = s.bank.ok (bankCrumb l d) := s.bank.ok_write_ne b (bankCrumb_ne l h)

/-! ### A run of crumbs -/

/-- The crumbs `first` to `first + n - 1` of a lane's bank, written in order. -/
def bankWriteRun (l first : Nat) (g : Nat → Bytes) (n : Nat) (s : State) : State :=
  forEach (List.range n) (fun i t => bankWrite l (first + i) (g i) t) s

variable {l first n : Nat} {g : Nat → Bytes} {s : State}

theorem bankWriteRun_succ : bankWriteRun l first g (n + 1) s = bankWrite l (first + n) (g n) (bankWriteRun l first g n s) := by
  unfold bankWriteRun forEach
  rw [List.range_succ, List.foldl_append]
  rfl

/-- A run of crumbs changes the banks alone. -/
theorem bankWriteRun_only (b : CrumbMem) : { bankWriteRun l first g n s with bank := b } = { s with bank := b } := by
  induction n with
  | zero => rfl
  | succ n ih => rw [bankWriteRun_succ]; exact ih

theorem bankWriteRun_bankRead_outside {c : Nat} (h : c < first ∨ first + n ≤ c) :
    (bankWriteRun l first g n s).bankRead l c = s.bankRead l c := by
  induction n with
  | zero => rfl
  | succ n ih => rw [bankWriteRun_succ, bankWrite_bankRead_ne l _ _ (by omega), ih (by omega)]

/-- Each crumb of a run reads back, and is good. -/
theorem bankWriteRun_inside (hg : ∀ i, (g i).length = 256) {i : Nat} (hi : i < n) :
    (bankWriteRun l first g n s).bankRead l (first + i) = g i
      ∧ (bankWriteRun l first g n s).bank.ok (bankCrumb l (first + i)) = true := by
  induction n with
  | zero => cases hi
  | succ n ih =>
    rw [bankWriteRun_succ]
    by_cases e : i = n
    · subst e
      exact ⟨bankWrite_bankRead_self l _ _ (hg i), bankWrite_ok_self l _ _ (hg i)⟩
    · obtain ⟨read, good⟩ := ih (by omega)
      exact ⟨by rw [bankWrite_bankRead_ne l _ _ (by omega), read], by rw [bankWrite_ok_ne l _ _ (by omega), good]⟩

/-- The header takes new fields after a run: it is good, and so is every crumb of the run. -/
theorem bankWriteRun_header {h : Bytes} (hg : ∀ i, (g i).length = 256) (hh : h.length = 256) {i : Nat} (hi : i < n) :
    (bankWrite l 0 h (bankWriteRun l first g n s)).bank.ok (bankCrumb l (first + i)) = true
      ∧ (first + i ≠ 0 → (bankWrite l 0 h (bankWriteRun l first g n s)).bankRead l (first + i) = g i) := by
  obtain ⟨read, good⟩ := bankWriteRun_inside (l := l) (first := first) (s := s) hg hi
  by_cases e : first + i = 0
  · rw [e]
    exact ⟨bankWrite_ok_self l 0 _ hh, fun k => absurd rfl k⟩
  · exact ⟨by rw [bankWrite_ok_ne l _ _ e, good], fun _ => by rw [bankWrite_bankRead_ne l _ _ e, read]⟩

end Sys2Proof.Machine
end

section
/-! Settles the statement on the bank commands. -/

namespace Sys2Proof.Machine

/-- With a buffer, a response is its fixed part, and its DATA go to management SRAM (R403). -/
theorem respond_buf {buf : W32} (fixed data : Bytes) (s : State) (h : buf ≠ 0) :
    respond buf fixed data s = (s.sramWrite (winToSram buf.toNat) data, .ok, fixed) := if_neg h

theorem respond_inline (fixed data : Bytes) (s : State) : respond 0 fixed data s = (s, .ok, fixed ++ data) := if_pos rfl

theorem respRange_buf {buf : W32} {fixed n : Nat} (h : buf ≠ 0) (ok : bufOk buf n = true) : respRange buf fixed n = true :=
  (if_neg h).trans ok

theorem bufRange_of_ok {buf : W32} {n : Nat} (ok : bufOk buf n = true) : bufRange buf n = true := by
  rw [bufRange, ok, Bool.or_true]

theorem bufForm_buf {buf : W32} (fields n : Nat) (h : buf ≠ 0) : bufForm buf fields n 0 = none :=
  (if_neg h).trans (if_neg (fun k => k rfl))

/-- With no word in error, DATA at a buffer are what management SRAM holds there. -/
theorem bufData_buf {buf : W32} (n : Nat) (data : Bytes) {s : State} (h : buf ≠ 0) (hb : s.sramBad = []) :
    bufData buf n data s = s.sramRead (winToSram buf.toNat) n := (if_neg h).trans (mcpRead_eq s _ n hb)

theorem bufRead_eq (buf : W32) (n : Nat) {s : State} (hb : s.sramBad = []) (hs : s.sramSoft = []) : s.bufRead buf n = s := by
  unfold State.bufRead
  split
  · rfl
  · exact afterRead_eq s _ n hb hs

theorem laneOk_of_lt {lane : Byte} (h : lane.toNat < 16) : laneOk lane = true := decide_eq_true h

theorem crumbsOk_of_le {first count : Byte} (h1 : 1 ≤ count.toNat) (h : first.toNat + count.toNat ≤ 32) :
    crumbsOk first count = true := by
  simp [crumbsOk, within, h1, h]
  omega

theorem rxOn_mod {s : State} {lane : Byte} (h : lane.toNat < 16) (hr : s.rxOn lane.toNat = true) : s.rxOn (lane.toNat % 16) = true := by
  rwa [Nat.mod_eq_of_lt h]

/-! ### LANE_COEF_READ -/

/-- What LANE_COEF_READ gives of crumb `c`: its bytes and its check word. -/
def crumbRecord (s : State) (l c : Nat) : Bytes := s.bankRead l c ++ le16 (s.bank.check (bankCrumb l c))

@[simp] theorem crumbRecord_length (s : State) (l c : Nat) : (crumbRecord s l c).length = 258 := by
  simp [crumbRecord, le16]

/-- The records of a run of crumbs. -/
def crumbRecords (s : State) (l first n : Nat) : Bytes := ((List.range n).map (first + ·)).flatMap (crumbRecord s l)

theorem crumbRecords_length (s : State) (l first n : Nat) : (crumbRecords s l first n).length = 258 * n := by
  simp [crumbRecords, length_flatMap_of_const (crumbRecord_length s l)]

/-- Each record holds its crumb and, after it, the check word. -/
theorem crumbRecords_slice (s : State) (l first : Nat) {n c : Nat} (h : c < n) :
    slice (crumbRecords s l first n) (258 * c) 256 = s.bankRead l (first + c)
      ∧ slice (crumbRecords s l first n) (258 * c + 256) 2 = le16 (s.bank.check (bankCrumb l (first + c))) := by
  have part {off k : Nat} (hk : off + k ≤ 258) :
      slice (crumbRecords s l first n) (258 * c + off) k = slice (crumbRecord s l (first + c)) off k := by
    rw [crumbRecords, slice_flatMap (crumbRecord_length s l) _ (by simpa using h) hk]
    simp
  constructor
  · rw [← Nat.add_zero (258 * c), part (by omega), crumbRecord, slice_append_left (by simp), slice_full _ (by simp)]
  · have e := slice_append_right (s.bankRead l (first + c)) (le16 (s.bank.check (bankCrumb l (first + c)))) 0 2
    rw [bankRead_length] at e
    rw [part (by omega), crumbRecord, e, slice_full _ (by simp [le16])]

theorem laneCoefRead_answers {s : State} {lane first count : Byte} {buf : W32} (hl : lane.toNat < 16)
    (hr : s.rxOn lane.toNat = true) (ht : Takes 0x0107 s) (h1 : 1 ≤ count.toNat) (h32 : first.toNat + count.toNat ≤ 32)
    (hb : bufOk buf (258 * count.toNat) = true) (h0 : buf ≠ 0) :
    Answers (.laneCoefRead lane first count buf) 0x0107 .ok []
      s (s.sramWrite (winToSram buf.toNat) (crumbRecords s lane.toNat first.toNat count.toNat)) :=
  answers_of_run (k := cmdLaneCoefRead lane first count buf) rfl ht rfl rfl (rxOn_mod hl hr)
    (by simp [cmdLaneCoefRead, laneOk_of_lt hl, crumbsOk_of_le h1 h32, respRange_buf h0 hb])
    (respond_buf [] _ s h0)

/-! ### LANE_COEF_WRITE -/

/-- What the run of LANE_COEF_WRITE leaves when it is let through: the crumbs in order, then the header's fields. -/
def coefWritten (l first n : Nat) (d : Bytes) (s : State) : State :=
  let s1 := bankWriteRun l first (fun i => slice d (256 * i) 256) n s
  bankWrite l 0 (putAt (s1.bankRead l 0) 5 [1, 0, 0]) s1

theorem putAt_header_length {b v : Bytes} (hb : b.length = 256) (hv : v.length = 3) : (putAt b 5 v).length = 256 := by
  rw [putAt_length (by omega), hb]

theorem coefWritten_only (l first n : Nat) (d : Bytes) (s : State) : { coefWritten l first n d s with bank := s.bank } = s :=
  (bankWrite_only _ _ _ _ _).trans (bankWriteRun_only s.bank)

theorem coefWritten_inside (l first : Nat) {n : Nat} (d : Bytes) (s : State) {i : Nat} (hi : i < n) :
    (coefWritten l first n d s).bank.ok (bankCrumb l (first + i)) = true
      ∧ (first + i ≠ 0 → (coefWritten l first n d s).bankRead l (first + i) = slice d (256 * i) 256) :=
  bankWriteRun_header (fun _ => slice_length _ _ _) (putAt_header_length (bankRead_length _ _ _) rfl) hi

theorem coefWritten_header (l first n : Nat) (d : Bytes) (s : State) : (coefWritten l first n d s).bankRead l 0
    = putAt ((bankWriteRun l first (fun i => slice d (256 * i) 256) n s).bankRead l 0) 5 [1, 0, 0] :=
  bankWrite_bankRead_self l 0 _ (putAt_header_length (bankRead_length _ _ _) rfl)

/-- The three FREEZE bits allow every crumb (R52). -/
theorem freeze_seven_allows (f need : BitVec 3) (h : f = 7) : f &&& need = need := by
  subst h
  revert need
  decide

theorem laneCoefWrite_answers {s : State} {lane first count : Byte} {buf : W32} (hl : lane.toNat < 16)
    (hr : s.rxOn lane.toNat = true) (ht : Takes 0x0108 s) (hb : s.sramBad = []) (hs : s.sramSoft = []) (h1 : 1 ≤ count.toNat)
    (h32 : first.toNat + count.toNat ≤ 32) (hok : bufOk buf (256 * count.toNat) = true) (h0 : buf ≠ 0)
    (hst : (s.rxAt lane.toNat).st = .off ∨ (s.rxAt lane.toNat).freeze = 7)
    (hc : first = 0 ∨ s.bank.ok (bankCrumb lane.toNat 0) = true) :
    Answers (.laneCoefWrite lane first count buf []) 0x0108 .ok [] s
      (coefWritten lane.toNat first.toNat count.toNat (s.sramRead (winToSram buf.toNat) (256 * count.toNat)) s) := by
  refine answers_of_run (k := cmdLaneCoefWrite lane first count buf []) rfl ht rfl (bufForm_buf _ _ h0) (rxOn_mod hl hr)
    (by simp [cmdLaneCoefWrite, laneOk_of_lt hl, crumbsOk_of_le h1 h32, bufRange_of_ok hok]) ?_
  unfold cmdLaneCoefWrite
  dsimp only
  rw [if_neg (fun ⟨off, frozen⟩ => hst.elim off (fun f => frozen (freeze_seven_allows _ _ f))),
    if_neg (fun ⟨first0, bad⟩ => hc.elim first0 bad), bufData_buf _ _ h0 hb, bufRead_eq _ _ hb hs]
  rfl

theorem laneCoefWrite_crumb {s : State} {lane first count : Byte} {buf : W32} (hl : lane.toNat < 16)
    (hr : s.rxOn lane.toNat = true) (ht : Takes 0x0108 s) (h1 : 1 ≤ count.toNat) (h32 : first.toNat + count.toNat ≤ 32)
    (hok : bufOk buf (256 * count.toNat) = true) (h0 : buf ≠ 0) (hst : (s.rxAt lane.toNat).st = .off) (hf : first ≠ 0)
    (hc : s.bank.ok (bankCrumb lane.toNat 0) = false) :
    Answers (.laneCoefWrite lane first count buf []) 0x0108 .crumb [] s s := by
  refine answers_of_run (k := cmdLaneCoefWrite lane first count buf []) rfl ht rfl (bufForm_buf _ _ h0) (rxOn_mod hl hr)
    (by simp [cmdLaneCoefWrite, laneOk_of_lt hl, crumbsOk_of_le h1 h32, bufRange_of_ok hok]) ?_
  unfold cmdLaneCoefWrite
  dsimp only
  rw [if_neg (fun h => h.1 hst), if_pos ⟨hf, by simp [hc]⟩]
  rfl

/-! ### LANE_COEF_COPY -/

/-- What LANE_COEF_COPY leaves when it is let through. -/
def coefCopied (a b : Nat) (s : State) : State :=
  bankWrite b 0 (putAt (s.bankRead a 0) 5 ([2] ++ leN 2 a)) (bankWriteRun b 1 (fun i => s.bankRead a (1 + i)) 3 s)

theorem bankWriteRun_three (b : Nat) (f : Nat → Bytes) (s : State) :
    bankWriteRun b 1 (fun i => f (1 + i)) 3 s = forEach [1, 2, 3] (fun c t => bankWrite b c (f c) t) s := rfl

theorem laneCoefCopy_ready {s : State} {src dst : Byte} (ha : src.toNat < 16) (hb : dst.toNat < 16)
    (hsrc : s.rxOn src.toNat = true) (hdst : s.rxOn dst.toNat = true) : (cmdLaneCoefCopy src dst s).ready = true := by
  simp [cmdLaneCoefCopy, rxOn_mod ha hsrc, rxOn_mod hb hdst]

theorem laneCoefCopy_range {s : State} {src dst : Byte} (ha : src.toNat < 16) (hb : dst.toNat < 16) :
    (cmdLaneCoefCopy src dst s).range = true := by
  simp [cmdLaneCoefCopy, laneOk_of_lt ha, laneOk_of_lt hb]

theorem laneCoefCopy_answers {s : State} {src dst : Byte} (ha : src.toNat < 16) (hb : dst.toNat < 16)
    (hsrc : s.rxOn src.toNat = true) (hdst : s.rxOn dst.toNat = true) (ht : Takes 0x0109 s)
    (hst : (s.rxAt dst.toNat).st = .off) (hgood : s.badBank src.toNat [0, 1, 2, 3] = []) :
    Answers (.laneCoefCopy src dst) 0x0109 .ok [] s (coefCopied src.toNat dst.toNat s) := by
  refine answers_of_run (k := cmdLaneCoefCopy src dst) rfl ht rfl rfl (laneCoefCopy_ready ha hb hsrc hdst)
    (laneCoefCopy_range ha hb) ?_
  unfold cmdLaneCoefCopy
  dsimp only
  rw [if_neg (fun h => h hst), if_neg (by simp [hgood]), coefCopied, bankWriteRun_three]
  rfl

theorem leN_two_lane {lane : Byte} : leN 2 lane.toNat = [lane, 0] := by
  have e : lane.toNat / 256 = 0 := Nat.div_eq_of_lt lane.isLt
  simp [leN, e]

/-- Settles O9: a run of crumbs is written in order, each with its check word (`bankWriteRun_inside`), and the header takes
its fields last. -/
theorem laneBankCommands : Obligations.LaneBankCommands := by
  intro s lane hl hr
  refine ⟨fun first count buf ht h1 h32 hb h0 => ?_, fun first count buf ht h1 h32 h0 => ?_,
    fun first count buf ht hb hs h1 h32 hok h0 hst hc => ?_, fun first count buf ht h1 h32 hok h0 hst hf hc => ?_,
    fun dst hd hrd ht hst hgood => ?_, fun dst hd hrd ht hst => ?_⟩
  · have len := crumbRecords_length s lane.toNat first.toNat count.toNat
    have back := sramRead_write s (winToSram buf.toNat) (crumbRecords s lane.toNat first.toNat count.toNat)
    have only := sramWrite_only s (winToSram buf.toNat) (crumbRecords s lane.toNat first.toNat count.toNat)
    rw [len] at back only
    refine ⟨_, laneCoefRead_answers hl hr ht h1 h32 hb h0, rfl, only, fun c hc => ?_⟩
    rw [back]
    exact crumbRecords_slice s lane.toNat first.toNat hc
  · refine answers_of_range (k := cmdLaneCoefRead lane first count buf) rfl ht rfl (rxOn_mod hl hr) ?_
    have long : decide (0 + 258 * count.toNat ≤ 240) = false := decide_eq_false (by omega)
    subst h0
    simp only [cmdLaneCoefRead, respRange, if_true, long, Bool.and_false]
  · refine ⟨_, laneCoefWrite_answers hl hr ht hb hs h1 h32 hok h0 hst hc, fun i hi => (coefWritten_inside _ _ _ s hi).1,
      fun i hi => (coefWritten_inside _ _ _ s hi).2, fun hf => ?_, fun hf => ?_, coefWritten_only _ _ _ _ s⟩
    · subst hf
      obtain ⟨read, -⟩ := bankWriteRun_inside (l := lane.toNat) (first := 0) (s := s)
        (g := fun i => slice (s.sramRead (winToSram buf.toNat) (256 * count.toNat)) (256 * i) 256)
        (fun _ => slice_length _ _ _) (Nat.lt_of_lt_of_le Nat.zero_lt_one h1)
      rw [coefWritten_header]
      exact congrArg (fun b => putAt b 5 [1, 0, 0]) read
    · have pos : 0 < first.toNat := Nat.pos_of_ne_zero (fun h => hf (BitVec.eq_of_toNat_eq h))
      rw [coefWritten_header, bankWriteRun_bankRead_outside (Or.inl pos)]
  · exact laneCoefWrite_crumb hl hr ht h1 h32 hok h0 hst hf hc
  · have hg (i : Nat) : (s.bankRead lane.toNat (1 + i)).length = 256 := bankRead_length _ _ _
    have hh := putAt_header_length (bankRead_length s lane.toNat 0) (v := [2, lane, 0]) rfl
    have e : coefCopied lane.toNat dst.toNat s = bankWrite dst.toNat 0 (putAt (s.bankRead lane.toNat 0) 5 [2, lane, 0])
        (bankWriteRun dst.toNat 1 (fun i => s.bankRead lane.toNat (1 + i)) 3 s) := by
      rw [coefCopied, leN_two_lane]
      rfl
    refine ⟨_, laneCoefCopy_answers hl hd hr hrd ht hst hgood, ?_⟩
    rw [e]
    refine ⟨fun c hc => ?_, fun c h1 hc => ?_, bankWrite_bankRead_self _ _ _ hh,
      (bankWrite_only _ _ _ _ _).trans (bankWriteRun_only s.bank)⟩
    · by_cases c0 : c = 0
      · subst c0
        exact bankWrite_ok_self _ _ _ hh
      · obtain ⟨i, rfl⟩ := Nat.exists_eq_add_of_le (Nat.one_le_iff_ne_zero.mpr c0)
        exact (bankWriteRun_header hg hh (by omega)).1
    · obtain ⟨i, rfl⟩ := Nat.exists_eq_add_of_le h1
      exact (bankWriteRun_header hg hh (by omega)).2 (by omega)
  · refine answers_of_run (k := cmdLaneCoefCopy lane dst) rfl ht rfl rfl (laneCoefCopy_ready hl hd hr hrd)
      (laneCoefCopy_range hl hd) ?_
    unfold cmdLaneCoefCopy
    dsimp only
    rw [if_pos hst]
    rfl

end Sys2Proof.Machine
end

section
/-! Fields of a string after bytes were put into it, and the calendar copies (R152 to R157). -/

namespace Sys2Proof.Machine

/-! ### Bytes put into a string -/

theorem take_length_of_le {b : Bytes} {off : Nat} (h : off ≤ b.length) : (b.take off).length = off := by
  rw [List.length_take, Nat.min_eq_left h]

/-- A field of the rest of a string. -/
theorem slice_drop (b : Bytes) (k off n : Nat) : slice (b.drop k) off n = slice b (k + off) n := by
  rw [slice, slice, List.drop_drop]

/-- Bytes put into a string stand there. -/
theorem slice_putAt_self {b v : Bytes} {off : Nat} (h : off + v.length ≤ b.length) : slice (putAt b off v) off v.length = v := by
  have e := slice_append_right (b.take off) (v ++ b.drop (off + v.length)) 0 v.length
  rw [take_length_of_le (by omega), Nat.add_zero] at e
  rw [putAt, List.append_assoc, e, slice_append_left (by omega), slice_full _ rfl]

/-- A field before or after the bytes put stays. -/
theorem slice_putAt_outside {b v : Bytes} {off o n : Nat} (h : off + v.length ≤ b.length) (ho : o + n ≤ off ∨ off + v.length ≤ o) :
    slice (putAt b off v) o n = slice b o n := by
  have len := take_length_of_le (b := b) (off := off) (by omega)
  rw [putAt, List.append_assoc]
  rcases ho with ho | ho
  · rw [slice_append_left (by omega)]
    have e := slice_append_left (a := b.take off) (b := b.drop off) (off := o) (n := n) (by omega)
    rw [List.take_append_drop] at e
    exact e.symm
  · obtain ⟨r, rfl⟩ := Nat.exists_eq_add_of_le ho
    have e1 := slice_append_right (b.take off) (v ++ b.drop (off + v.length)) (v.length + r) n
    have e2 := slice_append_right v (b.drop (off + v.length)) r n
    rw [len] at e1
    rw [Nat.add_assoc, e1, e2, slice_drop, Nat.add_assoc]

/-- A field read from a table is a field of what is read around it. -/
theorem Tab.read_eq_slice (m : Memory) (i k : Nat) {off n : Nat} (h : off + n ≤ k) :
    Tab.read 0 m (i + off) n = slice (Tab.read 0 m i k) off n := by
  rw [slice_of_le (by rw [Tab.read_length]; exact h)]
  apply List.ext_getElem
  · rw [Tab.read_length, List.length_take, List.length_drop, Tab.read_length]
    omega
  · intro j h1 h2
    have hj : j < n := by rwa [Tab.read_length] at h1
    have e := Tab.read_getD (0 : Byte) 0 m (i + off) n hj
    have f := Tab.read_getD (0 : Byte) 0 m i k (j := off + j) (by omega)
    rw [getD_of_lt h1] at e
    rw [getD_of_lt (by rw [Tab.read_length]; omega)] at f
    rw [e, List.getElem_take, List.getElem_drop, f, Nat.add_assoc]

/-! ### Entries of a calendar -/

/-- Entry `i` of a crumb of a calendar. -/
def entryOf (b : Bytes) (i : Nat) : W32 := BitVec.ofNat 32 (ofLe (slice b (4 * i) 4))

theorem calEntry_eq (s : State) (c f n : Nat) : s.calEntry c f n = entryOf (s.calMem.read (calCrumb c f (n / 64))) (n % 64) := by
  rw [State.calEntry, Tab.read_eq_slice _ _ 256 (by omega)]
  rfl

theorem entryOf_putAt_self {b e : Bytes} {i : Nat} (hb : b.length = 256) (he : e.length = 4) (hi : i < 64) :
    entryOf (putAt b (4 * i) e) i = BitVec.ofNat 32 (ofLe e) := by
  have h := slice_putAt_self (b := b) (v := e) (off := 4 * i) (by omega)
  rw [he] at h
  rw [entryOf, h]

theorem entryOf_putAt_ne {b e : Bytes} {i j : Nat} (hb : b.length = 256) (he : e.length = 4) (hi : i < 64) (hj : j ≠ i) :
    entryOf (putAt b (4 * i) e) j = entryOf b j := by
  rw [entryOf, entryOf, slice_putAt_outside (by omega) (by omega)]

/-- The crumbs of the copies, faces and lanes are distinct. -/
theorem calCrumb_inj {c f k c' f' k' : Nat} (hf : f < 2) (hk : k < 8) (hf' : f' < 2) (hk' : k' < 8)
    (h : calCrumb c f k = calCrumb c' f' k') : c = c' ∧ f = f' ∧ k = k' := by
  unfold calCrumb at h
  omega

theorem otherCopy_ne (a : BitVec 1) : (otherCopy a).toNat ≠ a.toNat := by
  revert a
  decide

theorem eq_or_eq_otherCopy {c : Nat} (a : BitVec 1) (h : c < 2) : c = a.toNat ∨ c = (otherCopy a).toNat := by
  have two : ∀ x : BitVec 1, ∀ c < 2, c = x.toNat ∨ c = (otherCopy x).toNat := by decide
  exact two a c h

theorem calOn_mod {s : State} {f : Nat} (h : f < 2) (hc : s.calOn f = true) : s.calOn (f % 2) = true := by
  rwa [Nat.mod_eq_of_lt h]

theorem faceOk_of_lt {face : Byte} (h : face.toNat < 2) : faceOk face = true := decide_eq_true h

/-! ### CAL_WRITE -/

/-- One entry written into a copy: its crumb rewritten whole. -/
def calPut (c f n : Nat) (e : Bytes) (s : State) : State :=
  { s with calMem := s.calMem.write (calCrumb c f (n / 64)) (putAt (s.calMem.read (calCrumb c f (n / 64))) (4 * (n % 64)) e) }

theorem calWrites_single (c f : Nat) {n : Nat} (e : Bytes) (s : State) (h : n < 512) : calWrites c f [(n, e)] s = calPut c f n e s := by
  have one : ∀ k < 8, (List.range 8).filter (fun j => k == j) = [k] := by decide
  have crumbs : (List.range 8).filter (fun k => [(n, e)].any (fun w => w.1 / 64 == k)) = [n / 64] := by
    simpa only [List.any_cons, List.any_nil, Bool.or_false] using one (n / 64) (by omega)
  rw [calWrites, crumbs]
  simp [forEach, calPut, calPatched]

theorem calPairs_single {n : Nat} {e : Bytes} (h : n < 512) (he : e.length = 4) : calPairs 1 (leN 2 n ++ e) = [(n, e)] := by
  have key : leAt (leN 2 n ++ e) 0 2 = n := by
    rw [leAt, slice_append_left (by simp only [leN_length, Nat.zero_add, Nat.le_refl]), slice_full _ (leN_length 2 n)]
    simp [leN, ofLe]
    omega
  have value := slice_append_right (leN 2 n) e 0 4
  rw [leN_length, slice_full e he] at value
  simp [calPairs, key, value]

/-- The entry put reads back, its crumb is good, and no other entry changes. -/
theorem calPut_entries {c f n : Nat} {e : Bytes} (s : State) (hf : f < 2) (hn : n < 512) (he : e.length = 4) :
    (calPut c f n e s).calEntry c f n = BitVec.ofNat 32 (ofLe e)
      ∧ (calPut c f n e s).calMem.ok (calCrumb c f (n / 64)) = true
      ∧ ∀ c' g m, g < 2 → m < 512 → (c', g, m) ≠ (c, f, n) → (calPut c f n e s).calEntry c' g m = s.calEntry c' g m := by
  have old := s.calMem.read_length (calCrumb c f (n / 64))
  have len : (putAt (s.calMem.read (calCrumb c f (n / 64))) (4 * (n % 64)) e).length = 256 := by rw [putAt_length (by omega), old]
  refine ⟨?_, s.calMem.ok_write _ _ len, fun c' g m hg hm ne => ?_⟩
  · rw [calEntry_eq, calPut, s.calMem.read_write _ _ len, entryOf_putAt_self old he (by omega)]
  · rw [calEntry_eq, calEntry_eq, calPut]
    by_cases same : calCrumb c' g (m / 64) = calCrumb c f (n / 64)
    · obtain ⟨rfl, rfl, k⟩ := calCrumb_inj hg (by omega) hf (by omega) same
      have slot : m % 64 ≠ n % 64 := fun e => ne (by rw [show m = n by omega])
      rw [same, s.calMem.read_write _ _ len, entryOf_putAt_ne old he (by omega) slot]
    · rw [s.calMem.read_write_ne _ same]

theorem calWrite_answers {s : State} {face : Byte} {n : Nat} {e : Bytes} (hf : face.toNat < 2) (hc : s.calOn face.toNat = true)
    (ht : Takes 0x0501 s) (hn : n < 512) (he : e.length = 4) (hp : (s.faceAt face.toNat).pending = none) :
    Answers (.calWrite face 1 0 (leN 2 n ++ e)) 0x0501 .ok [] s
      (calPut (otherCopy (s.faceAt face.toNat).active).toNat face.toNat n e s) := by
  have pairs : calPairs (1 : W16).toNat (bufData 0 (6 * (1 : W16).toNat) (leN 2 n ++ e) s) = [(n, e)] := calPairs_single hn he
  refine answers_of_run (k := cmdCalWrite face 1 0 (leN 2 n ++ e)) rfl ht rfl ?_ (calOn_mod hf hc) ?_ ?_
  · simp [cmdCalWrite, bufForm, he]
  · unfold cmdCalWrite
    dsimp only
    rw [pairs, faceOk_of_lt hf, List.all_cons, decide_eq_true hn]
    rfl
  · unfold cmdCalWrite
    dsimp only
    rw [hp, pairs, calWrites_single _ _ _ _ hn]
    rfl

/-! ### CAL_COPY -/

/-- The first `n` crumbs of copy `a` of a face copied into copy `b`. -/
def calCopied (a b f n : Nat) (s : State) : State :=
  forEach (List.range n) (fun k t => { t with calMem := t.calMem.write (calCrumb b f k) (t.calMem.read (calCrumb a f k)) }) s

theorem calCopied_succ (a b f n : Nat) (s : State) : calCopied a b f (n + 1) s = { calCopied a b f n s with
    calMem := (calCopied a b f n s).calMem.write (calCrumb b f n) ((calCopied a b f n s).calMem.read (calCrumb a f n)) } := by
  unfold calCopied forEach
  rw [List.range_succ, List.foldl_append]
  rfl

theorem calCopied_only (a b f n : Nat) (s : State) (m : CrumbMem) : { calCopied a b f n s with calMem := m } = { s with calMem := m } := by
  induction n with
  | zero => rfl
  | succ n ih => rw [calCopied_succ]; exact ih

/-- A copy leaves every crumb but those it writes. -/
theorem calCopied_read_other {a b f n j : Nat} (s : State) (h : ∀ k < n, j ≠ calCrumb b f k) :
    (calCopied a b f n s).calMem.read j = s.calMem.read j := by
  induction n with
  | zero => rfl
  | succ n ih =>
    rw [calCopied_succ]
    dsimp only
    rw [CrumbMem.read_write_ne _ _ (h n (Nat.lt_succ_self n)), ih (fun k hk => h k (by omega))]

/-- A crumb copied reads as its source. -/
theorem calCopied_read {a b f n k : Nat} (s : State) (hf : f < 2) (hab : a ≠ b) (hn : n ≤ 8) (hk : k < n) :
    (calCopied a b f n s).calMem.read (calCrumb b f k) = s.calMem.read (calCrumb a f k) := by
  have source (n k : Nat) (hn : n ≤ 8) (hk : k < 8) : (calCopied a b f n s).calMem.read (calCrumb a f k) = s.calMem.read (calCrumb a f k) :=
    calCopied_read_other s (fun i hi e => hab (calCrumb_inj hf hk hf (by omega) e).1)
  induction n with
  | zero => cases hk
  | succ n ih =>
    rw [calCopied_succ]
    dsimp only
    by_cases e : k = n
    · subst e
      rw [CrumbMem.read_write _ _ _ (CrumbMem.read_length _ _), source k k (by omega) (by omega)]
    · have ne : calCrumb b f k ≠ calCrumb b f n := fun h => e (calCrumb_inj hf (by omega) hf (by omega) h).2.2
      rw [CrumbMem.read_write_ne _ _ ne, ih (by omega) (by omega)]

/-- After CAL_COPY both copies of the face read as its ACTIVE one, and the other face as before. -/
theorem calCopied_entries {f : Nat} (x : BitVec 1) (s : State) (hf : f < 2) {c m : Nat} (hc : c < 2) (hm : m < 512) :
    (calCopied x.toNat (otherCopy x).toNat f 8 s).calEntry c f m = s.calEntry x.toNat f m
      ∧ (calCopied x.toNat (otherCopy x).toNat f 8 s).calEntry c (1 - f) m = s.calEntry c (1 - f) m := by
  have ne := (otherCopy_ne x).symm
  simp only [calEntry_eq]
  constructor
  · rcases eq_or_eq_otherCopy x hc with rfl | rfl
    · rw [calCopied_read_other s (fun k hk e => ne (calCrumb_inj hf (by omega) hf hk e).1)]
    · rw [calCopied_read s hf ne (Nat.le_refl 8) (by omega)]
  · rw [calCopied_read_other s (fun k hk e => absurd (calCrumb_inj (by omega) (by omega) hf hk e).2.1 (by omega))]

theorem calCopy_answers {s : State} {face : Byte} (hf : face.toNat < 2) (hc : s.calOn face.toNat = true) (ht : Takes 0x0503 s)
    (hp : (s.faceAt face.toNat).pending = none) : Answers (.calCopy face) 0x0503 .ok [] s
      (calCopied (s.faceAt face.toNat).active.toNat (otherCopy (s.faceAt face.toNat).active).toNat face.toNat 8 s) := by
  refine answers_of_run (k := cmdCalCopy face) rfl ht rfl rfl (calOn_mod hf hc) (faceOk_of_lt hf) ?_
  unfold cmdCalCopy
  dsimp only
  rw [hp]
  rfl

theorem calCopy_busy {s : State} {face : Byte} (hf : face.toNat < 2) (hc : s.calOn face.toNat = true) (ht : Takes 0x0503 s)
    (hp : (s.faceAt face.toNat).pending ≠ none) : Answers (.calCopy face) 0x0503 .busy [] s s := by
  refine answers_of_run (k := cmdCalCopy face) rfl ht rfl rfl (calOn_mod hf hc) (faceOk_of_lt hf) ?_
  unfold cmdCalCopy
  dsimp only
  rw [if_pos (Option.isSome_iff_ne_none.mpr hp)]
  rfl

/-! ### CAL_CANCEL -/

theorem calCancel_answers {s : State} {face : Byte} {b : Nat} (hf : face.toNat < 2) (hc : s.calOn face.toNat = true)
    (ht : Takes 0x0505 s) (hp : (s.faceAt face.toNat).pending = some b) (hb : (s.faceAt face.toNat).mf + 2 < b) :
    Answers (.calCancel face) 0x0505 .ok [] s (s.faceMod face.toNat (fun x => { x with pending := none })) := by
  refine answers_of_run (k := cmdCalCancel face) rfl ht rfl rfl (calOn_mod hf hc) (faceOk_of_lt hf) ?_
  unfold cmdCalCancel
  dsimp only
  rw [hp]
  exact if_neg (by omega)

theorem calCancel_tooLate {s : State} {face : Byte} {b : Nat} (hf : face.toNat < 2) (hc : s.calOn face.toNat = true)
    (ht : Takes 0x0505 s) (hp : (s.faceAt face.toNat).pending = some b) (hb : b ≤ (s.faceAt face.toNat).mf + 2) :
    Answers (.calCancel face) 0x0505 .tooLate [] s s := by
  refine answers_of_run (k := cmdCalCancel face) rfl ht rfl rfl (calOn_mod hf hc) (faceOk_of_lt hf) ?_
  unfold cmdCalCancel
  dsimp only
  rw [hp]
  exact if_pos hb

/-! ### What is read -/

theorem respRange_inline {fixed n : Nat} (h : fixed + n ≤ 240) : respRange 0 fixed n = true := (if_pos rfl).trans (decide_eq_true h)

theorem le32_length (v : W32) : (le32 v).length = 4 := leN_length 4 _

theorem calRead_answers {s : State} {face copy : Byte} {first count : W16} (hf : face.toNat < 2) (hc : s.calOn face.toNat = true)
    (ht : Takes 0x0502 s) (h2 : copy.toNat < 2) (h60 : count.toNat ≤ 60) (h512 : first.toNat + count.toNat ≤ 512) :
    Answers (.calRead face copy first count 0) 0x0502 .ok (((List.range count.toNat).map (first.toNat + ·)).flatMap
      (fun n => le32 (s.calEntry copy.toNat face.toNat n))) s s := by
  refine answers_of_run (k := cmdCalRead face copy first count 0) rfl ht rfl rfl (calOn_mod hf hc) ?_ (respond_inline [] _ s)
  have flag : isFlag copy = true := decide_eq_true (by omega)
  unfold cmdCalRead
  dsimp only
  rw [faceOk_of_lt hf, flag, decide_eq_true h512, respRange_inline (by omega)]
  rfl

/-- What CAL_STATUS gives of one lane: its mask and the causes. -/
def laneMaskRecord (s : State) (l : Nat) : Bytes := le64 (s.maskAt l).bits ++ [laneCauses (s.maskAt l)]

theorem laneMaskRecord_length (s : State) (l : Nat) : (laneMaskRecord s l).length = 9 := by simp [laneMaskRecord, le64]

/-- What CAL_STATUS gives of a PENDING copy: its multiframe. -/
def pendingField : Option Nat → Bytes
  | some b => leN 2 (b % 256)
  | none => [0xFF, 0xFF]

theorem pendingField_length (p : Option Nat) : (pendingField p).length = 2 := by
  cases p with
  | none => rfl
  | some b => exact leN_length 2 _

/-- The fixed part of CAL_STATUS. -/
def calStatusFixed (s : State) (f : Nat) : Bytes :=
  [u8 (s.faceAt f).active.toNat] ++ pendingField (s.faceAt f).pending ++ le32 (s.faceAt f).switches
    ++ (lanesOf f).flatMap (laneMaskRecord s) ++ leN 2 (s.maskedEntries f).length ++ leN 2 (s.mismatches f).length

/-- The DATA of CAL_STATUS: the entries masked and the slots mismatched. -/
def calStatusData (s : State) (f : Nat) : Bytes :=
  (s.maskedEntries f).flatMap (fun n => leN 2 (512 * f + n) ++ [maskCauses (s.maskAt (8 * f + n / 64)) (n % 64)])
    ++ (s.mismatches f).flatMap (fun k => leN 2 k ++ leN 2 (codeClient (s.rxSlotAt k).route))

theorem cmdCalStatusCalendar_eq (face : Byte) (s : State) : cmdCalStatusCalendar face 0 s =
    { ready := s.calOn (face.toNat % 2)
      range := faceOk face && respRange 0 (calStatusFixed s face.toNat).length (calStatusData s face.toNat).length
      run := fun _ => respond 0 (calStatusFixed s face.toNat) (calStatusData s face.toNat) s } := rfl

theorem calStatusFixed_length (s : State) (f : Nat) : (calStatusFixed s f).length = 83 := by
  have masks : ((lanesOf f).flatMap (laneMaskRecord s)).length = 72 := by
    rw [length_flatMap_of_const (laneMaskRecord_length s)]
    simp [lanesOf]
  simp only [calStatusFixed, List.length_append, pendingField_length, le32_length, leN_length, masks, List.length_singleton]

theorem calStatusFixed_switches (s : State) (f : Nat) : slice (calStatusFixed s f) 3 4 = le32 (s.faceAt f).switches := by
  have before : ([u8 (s.faceAt f).active.toNat] ++ pendingField (s.faceAt f).pending).length = 3 := by
    rw [List.length_append, pendingField_length, List.length_singleton]
  have part (r : Bytes) : slice ([u8 (s.faceAt f).active.toNat] ++ pendingField (s.faceAt f).pending
      ++ (le32 (s.faceAt f).switches ++ r)) 3 4 = le32 (s.faceAt f).switches := by
    have e := slice_append_right ([u8 (s.faceAt f).active.toNat] ++ pendingField (s.faceAt f).pending)
      (le32 (s.faceAt f).switches ++ r) 0 4
    rw [before] at e
    rw [e, slice_append_left (by simp only [le32_length, Nat.zero_add, Nat.le_refl]), slice_full _ (le32_length _)]
  have whole := part ((lanesOf f).flatMap (laneMaskRecord s) ++ leN 2 (s.maskedEntries f).length ++ leN 2 (s.mismatches f).length)
  rwa [← List.append_assoc, ← List.append_assoc, ← List.append_assoc] at whole

theorem calStatusCalendar_answers {s : State} {face : Byte} (hf : face.toNat < 2) (hc : s.calOn face.toNat = true)
    (ht : Takes 0x0506 s) (hm : s.mismatches face.toNat = []) (hk : s.maskedEntries face.toNat = []) :
    Answers (.calStatusCalendar face 0) 0x0506 .ok (calStatusFixed s face.toNat) s s := by
  have data : calStatusData s face.toNat = [] := by rw [calStatusData, hm, hk]; rfl
  refine answers_of_run (k := cmdCalStatusCalendar face 0) rfl ht rfl rfl (calOn_mod hf hc) ?_ ?_
  · rw [cmdCalStatusCalendar_eq, data, calStatusFixed_length, faceOk_of_lt hf]
    rfl
  · rw [cmdCalStatusCalendar_eq, data, respond_inline, List.append_nil]

theorem calRouteRead_answers {s : State} {face : Byte} {first count : W16} (hf : face.toNat < 2) (hc : s.calOn face.toNat = true)
    (ht : Takes 0x0507 s) (h20 : count.toNat ≤ 20) (h512 : first.toNat + count.toNat ≤ 512) :
    ∃ p, Answers (.calRouteRead face first count 0) 0x0507 .ok p s s ∧ p.length = 12 * count.toNat := by
  refine ⟨_, answers_of_run (k := cmdCalRouteRead face first count 0) rfl ht rfl rfl (calOn_mod hf hc) ?_ (respond_inline [] _ s), ?_⟩
  · unfold cmdCalRouteRead
    dsimp only
    rw [faceOk_of_lt hf, decide_eq_true h512, respRange_inline (by omega)]
    rfl
  · rw [List.nil_append, length_flatMap_of_const (k := 12) (fun k => by simp [le16, le32])]
    simp

/-- Settles O22: CAL_WRITE of one entry is `calPut` and CAL_COPY `calCopied`, on the copy that is not ACTIVE; the others
cancel a PENDING copy or only read. -/
theorem calendarCopies : Obligations.CalendarCopies := by
  intro s face f hface hf hc
  subst hface
  refine ⟨fun n e ht hn he hp => ?_, fun ht hp => ?_, calCopy_busy hf hc, fun copy first count => calRead_answers hf hc,
    fun b ht hp hb => ?_, fun b => calCancel_tooLate hf hc, fun ht hm hk => ?_, fun first count => calRouteRead_answers hf hc⟩
  · obtain ⟨entry, good, others⟩ := calPut_entries (c := (otherCopy (s.faceAt face.toNat).active).toNat) s hf hn he
    exact ⟨_, calWrite_answers hf hc ht hn he hp, rfl, entry, good, fun c g m _ hg hm => others c g m hg hm⟩
  · exact ⟨_, calCopy_answers hf hc ht hp, calCopied_only _ _ _ _ s s.calMem,
      fun c m h hm => (calCopied_entries _ s hf h hm).1, fun c m h hm => (calCopied_entries _ s hf h hm).2⟩
  · exact ⟨_, calCancel_answers hf hc ht hp hb, State.faceAt_faceMod_self _ _ _, rfl⟩
  · exact ⟨_, calStatusCalendar_answers hf hc ht hm hk, calStatusFixed_length _ _, rfl, calStatusFixed_switches _ _⟩

end Sys2Proof.Machine
end

section
/-! The commands of a client and the frames it carries (R165 to R181). -/

namespace Sys2Proof.Machine

/-! ### Counting a source moves the counters and IRQ_STAT alone (R420, R425) -/

/-- The state with its DMA and counter part and its interrupt registers replaced. -/
def withCounts (d : Dma) (q : Irq) (s : State) : State := { s with dma := d, irq := q }

theorem withCounts_cntMod (d : Dma) (q : Irq) (i : Nat) (f : Cnt → Cnt) (s : State) :
    withCounts d q (s.cntMod i f) = withCounts d q s := rfl

theorem withCounts_cntOverflow (d : Dma) (q : Irq) (i : Nat) (s : State) :
    withCounts d q (cntOverflow i s) = withCounts d q s := by
  unfold cntOverflow
  dsimp only
  split <;> rfl

theorem withCounts_cntAdd (d : Dma) (q : Irq) (i n : Nat) (s : State) : withCounts d q (cntAdd i n s) = withCounts d q s := by
  unfold cntAdd
  dsimp only
  split
  · rw [withCounts_cntMod]
  · split
    · split
      · rw [withCounts_cntOverflow, withCounts_cntMod, withCounts_cntMod, withCounts_cntMod]
      · rw [withCounts_cntMod, withCounts_cntMod, withCounts_cntMod]
    · rw [withCounts_cntOverflow, withCounts_cntMod]

theorem withCounts_countSource (d : Dma) (q : Irq) (src idx n : Nat) (s : State) :
    withCounts d q (countSource src idx n s) = withCounts d q s := by
  unfold countSource
  split
  next => rfl
  next awake =>
    clear awake
    generalize s.dma.cnts.filter _ = l
    induction l generalizing s with
    | nil => rfl
    | cons p l ih => exact (ih (cntAdd p.1 n s)).trans (withCounts_cntAdd d q p.1 n s)

theorem countSource_eq (src idx n : Nat) (s : State) : countSource src idx n s =
    withCounts (countSource src idx n s).dma (countSource src idx n s).irq s :=
  withCounts_countSource _ _ src idx n s

@[simp] theorem countSource_client (src idx n : Nat) (s : State) : (countSource src idx n s).client = s.client := by rw [countSource_eq, withCounts]
@[simp] theorem countSource_txSlot (src idx n : Nat) (s : State) : (countSource src idx n s).txSlot = s.txSlot := by rw [countSource_eq, withCounts]
@[simp] theorem countSource_streams (src idx n : Nat) (s : State) : (countSource src idx n s).streams = s.streams := by rw [countSource_eq, withCounts]

theorem countWindow_eq (kind idx n : Nat) (s : State) : countWindow kind idx n s = { s with dma := (countWindow kind idx n s).dma } := by
  unfold countWindow
  dsimp only
  split <;> rfl

@[simp] theorem countWindow_client (kind idx n : Nat) (s : State) : (countWindow kind idx n s).client = s.client := by rw [countWindow_eq]
@[simp] theorem countWindow_txSlot (kind idx n : Nat) (s : State) : (countWindow kind idx n s).txSlot = s.txSlot := by rw [countWindow_eq]

/-! ### CLIENT_SET -/

section
variable {s : State} {client : W16} {c : Nat}

theorem clientSet_range {e : Bytes} (hc : client.toNat < 1024) (he : cliEntryOk e = true) : (cmdClientSet client e s).range = true := by
  simp [cmdClientSet, hc, he]

theorem clientSet_form {e : Bytes} (h : e.length = 16) : (cmdClientSet client e s).form = none := if_pos h

/-- An ACTIVE entry for a port without VLAN tags is let through to the crumb's check. -/
theorem clientSet_run {e : Bytes} (ha : cliActive e = true) (hv : (s.portAt (cliPort e)).vlan = false) :
    (cmdClientSet client e s).run () =
      if s.cliMem.rejected.contains (client.toNat / 16) || s.cliMem.ok (client.toNat / 16) then
        ok { s.clientMod client.toNat (fun k => { k with entry := e }) with
          cliMem := (s.clientMod client.toNat (fun k => { k with entry := e })).clientCrumb client.toNat }
      else deny .crumb (crumbError 2 0 (client.toNat / 16) { s with cliMem := s.cliMem.reject (client.toNat / 16) }) := by
  unfold cmdClientSet
  dsimp only
  rw [ha, hv]
  rfl

/-- The crumb of a client rewritten holds its entry and is good, where every entry in force has its 16 bytes or the stored
crumb has not been rejected (R21, R22). -/
theorem clientCrumb_entry (he : (s.clientAt c).entry.length = 16)
    (h : s.cliMem.rejected.contains (c / 16) = false ∨ ∀ k, (s.clientAt k).entry.length = 16) :
    slice ((s.clientCrumb c).read (c / 16)) (16 * (c % 16)) 16 = (s.clientAt c).entry ∧ (s.clientCrumb c).ok (c / 16) = true := by
  have place : 16 * (c / 16) + c % 16 = c := Nat.div_add_mod c 16
  unfold State.clientCrumb
  dsimp only
  split
  next rejected =>
    have all := h.resolve_left (fun clean => Bool.noConfusion (clean.symm.trans rejected))
    have len : ((List.range 16).flatMap (fun k => (s.clientAt (16 * (c / 16) + k)).entry)).length = 256 := by
      rw [length_flatMap_of_const (fun k => all _), List.length_range]
    have part := slice_flatMap (fun k => all (16 * (c / 16) + k)) (List.range 16) (i := c % 16)
      (by rw [List.length_range]; omega) (off := 0) (n := 16) (Nat.le_refl 16)
    rw [List.getElem_range, Nat.add_zero, place, slice_full _ he] at part
    exact ⟨by rw [CrumbMem.read_write _ _ _ len, part], CrumbMem.ok_write _ _ _ len⟩
  next =>
    have room : 16 * (c % 16) + (s.clientAt c).entry.length ≤ (s.cliMem.read (c / 16)).length := by
      rw [CrumbMem.read_length, he]
      omega
    have len : (putAt (s.cliMem.read (c / 16)) (16 * (c % 16)) (s.clientAt c).entry).length = 256 := by
      rw [putAt_length room, CrumbMem.read_length]
    have back := slice_putAt_self room
    rw [he] at back
    exact ⟨by rw [CrumbMem.patch, CrumbMem.read_write _ _ _ len, back], CrumbMem.ok_write _ _ _ len⟩

/-- What CLIENT_SET leaves when it is let through. -/
def clientPut (c : Nat) (e : Bytes) (s : State) : State :=
  { s.clientMod c (fun k => { k with entry := e }) with cliMem := (s.clientMod c (fun k => { k with entry := e })).clientCrumb c }

theorem clientPut_clientAt (c : Nat) (e : Bytes) (s : State) : (clientPut c e s).clientAt c = { s.clientAt c with entry := e } :=
  s.clientAt_clientMod_self c (fun k => { k with entry := e })

theorem clientPut_clientAt_ne {k : Nat} (c : Nat) (e : Bytes) (s : State) (h : k ≠ c) : (clientPut c e s).clientAt k = s.clientAt k :=
  s.clientAt_clientMod_ne (fun k => { k with entry := e }) h

theorem clientPut_crumb (c : Nat) {e : Bytes} (s : State) (he : e.length = 16)
    (h : s.cliMem.rejected.contains (c / 16) = false ∨ ∀ k, (s.clientAt k).entry.length = 16) :
    slice ((clientPut c e s).cliMem.read (c / 16)) (16 * (c % 16)) 16 = e ∧ (clientPut c e s).cliMem.ok (c / 16) = true := by
  have entry := s.clientAt_clientMod_self c (fun k => { k with entry := e })
  have all : ∀ k, ((s.clientMod c (fun k => { k with entry := e })).clientAt k).entry.length = 16 ∨ (s.clientAt k).entry.length ≠ 16 := by
    intro k
    by_cases hk : k = c
    · subst hk
      rw [entry]
      exact Or.inl he
    · rw [s.clientAt_clientMod_ne _ hk]
      exact Decidable.em _
  have crumb := clientCrumb_entry (s := s.clientMod c (fun k => { k with entry := e })) (c := c) (by rw [entry]; exact he)
    (h.imp_right (fun good k => (all k).resolve_right (fun bad => bad (good k))))
  rw [entry] at crumb
  exact crumb

theorem clientSet_answers {e : Bytes} (hc : client.toNat < 1024) (hon : s.clientsOn = true) (ht : Takes 0x0601 s)
    (hl : e.length = 16) (he : cliEntryOk e = true) (ha : cliActive e = true) (hv : (s.portAt (cliPort e)).vlan = false)
    (hm : s.cliMem.rejected.contains (client.toNat / 16) = true ∨ s.cliMem.ok (client.toNat / 16) = true) :
    Answers (.clientSet client e) 0x0601 .ok [] s (clientPut client.toNat e s) := by
  refine answers_of_run (k := cmdClientSet client e) rfl ht rfl (clientSet_form hl) hon (clientSet_range hc he) ?_
  rw [clientSet_run ha hv, if_pos (by simpa using hm)]
  rfl

theorem clientSet_crumb {e : Bytes} (hc : client.toNat < 1024) (hon : s.clientsOn = true) (ht : Takes 0x0601 s)
    (hl : e.length = 16) (he : cliEntryOk e = true) (ha : cliActive e = true) (hv : (s.portAt (cliPort e)).vlan = false)
    (hr : s.cliMem.rejected.contains (client.toNat / 16) = false) (hm : s.cliMem.ok (client.toNat / 16) = false) :
    Answers (.clientSet client e) 0x0601 .crumb [] s
      (crumbError 2 0 (client.toNat / 16) { s with cliMem := s.cliMem.reject (client.toNat / 16) }) := by
  refine answers_of_run (k := cmdClientSet client e) rfl ht rfl (clientSet_form hl) hon (clientSet_range hc he) ?_
  rw [clientSet_run ha hv, hr, hm]
  rfl

theorem clientSet_busy {e : Bytes} (hc : client.toNat < 1024) (hon : s.clientsOn = true) (ht : Takes 0x0601 s)
    (hl : e.length = 16) (he : cliEntryOk e = true) (ha : cliActive e = false) (hs : s.clientHasSlots client.toNat = true) :
    Answers (.clientSet client e) 0x0601 .busy [] s s := by
  refine answers_of_run (k := cmdClientSet client e) rfl ht rfl (clientSet_form hl) hon (clientSet_range hc he) ?_
  exact if_pos (by rw [ha, hs]; rfl)

theorem CrumbMem.mem_reject (m : CrumbMem) (i : Nat) : i ∈ (m.reject i).rejected := by
  unfold CrumbMem.reject
  split
  next h => simpa using h
  next => simp

/-- What a crumb error leaves: the crumb rejected, CRUMB_ERROR queued, the rest as it was (R22). -/
theorem clientSet_crumb_leaves (s : State) (i : Nat) :
    i ∈ (crumbError 2 0 i { s with cliMem := s.cliMem.reject i }).cliMem.rejected
      ∧ (∀ k, (crumbError 2 0 i { s with cliMem := s.cliMem.reject i }).clientAt k = s.clientAt k)
      ∧ (TakesEvents s → Queued 0x800B ([2, 0] ++ leN 2 i) (crumbError 2 0 i { s with cliMem := s.cliMem.reject i }))
      ∧ { crumbError 2 0 i { s with cliMem := s.cliMem.reject i } with cliMem := s.cliMem, mbx := s.mbx } = s := by
  refine ⟨?_, fun k => ?_, fun h => raise_queued (s := { s with cliMem := s.cliMem.reject i }) h, ?_⟩
  · rw [crumbError, raise_eq]
    exact s.cliMem.mem_reject i
  · rw [crumbError, raise_eq]
    rfl
  · rw [crumbError, raise_eq]

/-! ### The other commands -/

theorem clientGet_answers (hc : client.toNat < 1024) (hon : s.clientsOn = true) (ht : Takes 0x0602 s) :
    Answers (.clientGet client) 0x0602 .ok (slice (s.cliMem.read (client.toNat / 16)) (16 * (client.toNat % 16)) 16) s s :=
  answers_of_run (k := cmdClientGet client) rfl ht rfl rfl hon (decide_eq_true hc) rfl

theorem clientStatus_answers (hc : client.toNat < 1024) (hon : s.clientsOn = true) (ht : Takes 0x0603 s)
    (h0 : s.facePart 0 client.toNat = []) (h1 : s.facePart 1 client.toNat = []) :
    Answers (.clientStatus client 0) 0x0603 .ok [boolByte (s.clientAt client.toNat).up, 0] s s := by
  refine answers_of_run (k := cmdClientStatus client 0) rfl ht rfl rfl hon ?_ ?_
  · unfold cmdClientStatus
    dsimp only
    rw [h0, h1, decide_eq_true hc]
    rfl
  · unfold cmdClientStatus
    dsimp only
    rw [h0, h1]
    rfl

theorem clientCountersRead_answers (hc : client.toNat < 1024) (hon : s.clientsOn = true) (ht : Takes 0x0604 s) :
    ∃ p, Answers (.clientCountersRead client 1) 0x0604 .ok p s (s.clientMod client.toNat Client.cleared) ∧ p.length = 88 := by
  refine ⟨_, answers_of_run (k := cmdClientCountersRead client 1) rfl ht rfl rfl hon ?_ rfl, ?_⟩
  · simp [cmdClientCountersRead, hc, flagsOk]
  · exact length_flatMap_of_const (fun v => leN_length 8 _) _

theorem calOn_of_clientsOn (h : s.clientsOn = true) (k : Nat) : s.calOn (k / 512 % 2) = true := by
  obtain ⟨east, west⟩ := Bool.and_eq_true_iff.mp h
  rcases Nat.mod_two_eq_zero_or_one (k / 512) with e | e
  · rw [e]; exact east
  · rw [e]; exact west

theorem throughStatus_answers {slot : W16} (hon : s.clientsOn = true) (ht : Takes 0x0605 s) (hs : slot.toNat < 1024) :
    ∃ p, Answers (.throughStatus slot 1) 0x0605 .ok p s
      (s.txSlotMod slot.toNat (fun t => { t with inserted := 0, deleted := 0, aborts := 0, slips := 0 })) ∧ p.length = 34 := by
  refine ⟨_, answers_of_run (k := cmdThroughStatus slot 1) rfl ht rfl rfl (calOn_of_clientsOn hon slot.toNat) ?_ rfl, ?_⟩
  · simp [cmdThroughStatus, hs, flagsOk]
  · rw [List.length_append, length_flatMap_of_const (f := cnt32) (fun v => leN_length 8 _)]
    rfl

end

/-! ### Frames on the add side (R168 to R170) -/

theorem exists_addFrame {s : State} {c : BitVec 10} {f : Option (BitVec 1)} {st : Option (BitVec 18)} {fr : Frame} {P : State → Prop}
    (hl : Live s) (hon : s.clientsOn = true) (hP : P (addFrame c.toNat (f.map BitVec.toNat) (st.map BitVec.toNat) fr.octets s)) :
    ∃ t, Completes (.addFrameArrive c f st fr) s t ∧ P t := exists_eventIf rfl hl hon hP

theorem addFrame_oversize {f : Bytes} (c : Nat) (face st : Option Nat) (s : State) (h : f.length < 64 ∨ 10240 < f.length) :
    addFrame c face st f s = cntClient c (fun k => { k with oversize := wrapAdd k.oversize 1 }) s := if_pos h

/-- A client without a usable slot has none in the face part that takes its frames. -/
theorem placeOf_none {s : State} {c : Nat} (st : Option Nat) (f : Bytes) (h0 : s.usableSlots 0 c = []) (h1 : s.usableSlots 1 c = []) :
    s.placeOf c (s.partOf c none) st f = none := by
  have part : s.usableSlots (s.partOf c none) c = [] := by
    have face : s.partOf c none = 0 ∨ s.partOf c none = 1 := by
      simp only [State.partOf, cliHome]
      split <;> split <;> simp
    rcases face with e | e <;> rw [e]
    · exact h0
    · exact h1
  rw [State.placeOf, part]
  split
  · rfl
  · rfl

theorem addFrame_noSlot {s : State} {c : Nat} {st : Option Nat} {f : Bytes} (h1 : 64 ≤ f.length) (h2 : f.length ≤ 10240)
    (hp : s.placeOf c (s.partOf c none) st f = none) :
    addFrame c none st f s = cntClient c (fun k => { k with noSlot := wrapAdd k.noSlot 1 }) s := by
  unfold addFrame
  dsimp only
  rw [if_neg (by omega), hp]

/-- A frame that its slot takes. -/
def frameQueued (c k : Nat) (f : Bytes) (s : State) : State :=
  countWindow 0 c f.length (countSource 0x11 c f.length (countSource 0x10 c 1
    (cntClient c (fun x => { x with addFrames := wrapAdd x.addFrames 1, addOctets := wrapAdd x.addOctets f.length })
      (s.txSlotMod k (fun t => { t with queue := t.queue ++ [f] })))))

theorem addFrame_queued {s : State} {c p k : Nat} {st : Option Nat} {f : Bytes} (h1 : 64 ≤ f.length) (h2 : f.length ≤ 10240)
    (hp : s.placeOf c p st f = some k) (hq : (s.txSlotAt k).backlog + f.length + 3 ≤ cliQdepth (s.clientAt c).entry * 1024) :
    addFrame c (some p) st f s = frameQueued c k f s := by
  unfold addFrame State.partOf
  dsimp only
  rw [if_neg (by omega), hp]
  exact if_neg (by omega)

theorem frameQueued_txSlotAt (c k j : Nat) (f : Bytes) (s : State) :
    (frameQueued c k f s).txSlotAt j = (s.txSlotMod k (fun t => { t with queue := t.queue ++ [f] })).txSlotAt j := by
  simp [frameQueued, cntClient, State.txSlotAt]

theorem frameQueued_clientAt (c k : Nat) (f : Bytes) (s : State) : (frameQueued c k f s).clientAt c =
    { s.clientAt c with addFrames := wrapAdd (s.clientAt c).addFrames 1, addOctets := wrapAdd (s.clientAt c).addOctets f.length } := by
  refine Eq.trans ?_ (s.clientAt_clientMod_self c
    (fun x => { x with addFrames := wrapAdd x.addFrames 1, addOctets := wrapAdd x.addOctets f.length }))
  simp only [State.clientAt, frameQueued, cntClient, countWindow_client, countSource_client]
  rfl

/-! ### Frames at drop (R171, R175, R190) -/

theorem exec_dropFrameComplete (slot : BitVec 10) (fr : Frame) (s : State) : exec (.dropFrameComplete slot fr) s =
    eventIf ((s.dropClient slot.toNat).isSome && !(s.rxSlotAt slot.toNat).mismatch && (s.rxSlotAt slot.toNat).sync)
      (fun s => match s.dropClient slot.toNat with
        | some c =>
          if dropGood fr then enterDrop { client := c, face := slot.toNat / 512, frame := fr.octets } (dropFrame c fr s)
          else dropFrame c fr s
        | none => s) s := rfl

theorem exists_dropFrame {s : State} {slot : BitVec 10} {fr : Frame} {c : Nat} {P : State → Prop} (hl : Live s)
    (hc : s.dropClient slot.toNat = some c) (hm : (s.rxSlotAt slot.toNat).mismatch = false)
    (hs : (s.rxSlotAt slot.toNat).sync = true)
    (hP : P (if dropGood fr then enterDrop { client := c, face := slot.toNat / 512, frame := fr.octets } (dropFrame c fr s)
      else dropFrame c fr s)) : ∃ t, Completes (.dropFrameComplete slot fr) s t ∧ P t := by
  apply exists_eventIf (exec_dropFrameComplete slot fr s) hl
  · rw [hc, hm, hs]
    rfl
  · rw [hc]
    exact hP

theorem dropGood_of_errored {fr : Frame} (h : fr.errored = true) : dropGood fr = false := by simp [dropGood, h]

theorem dropFrame_errored {c : Nat} {fr : Frame} (s : State) (h : fr.errored = true) :
    dropFrame c fr s = cntClient c (fun k => { k with errored := wrapAdd k.errored 1 }) s := if_pos h

/-- A frame that passes the checks is counted (R171). -/
theorem dropFrame_good {c : Nat} {fr : Frame} (s : State) (h : dropGood fr = true) :
    dropFrame c fr s = countSource 0x13 c fr.octets.length (countSource 0x12 c 1 (cntClient c (fun k =>
      { k with dropFrames := wrapAdd k.dropFrames 1, dropOctets := wrapAdd k.dropOctets fr.octets.length }) s)) := by
  simp only [dropGood, Bool.and_eq_true, Bool.not_eq_true'] at h
  obtain ⟨⟨clean, whole⟩, good⟩ := h
  simp [dropFrame, clean, whole, good]

/-- With the engine ready and its drop queue not full, a frame joins the queue (R190). -/
theorem enterDrop_queued {s : State} (r : DropReq) (hr : s.streams.ready = true) (hq : s.streams.queueDrop.length < 512) :
    enterDrop r s = strMod (fun e => { e with queueDrop := e.queueDrop ++ [r] }) s := by
  rw [enterDrop, hr, if_neg (by simp), if_neg (by omega)]

/-! ### Octets into a receive map (R161, R174) -/

/-- Octets fed to one map and to no store. -/
def mapRun (k : Nat) (l : List Octet) (s : State) : State := forEach l (mapInto k none) s

theorem mapRun_only (k : Nat) (l : List Octet) (s : State) (x : Tab RxSlot) : { mapRun k l s with rxSlot := x } = { s with rxSlot := x } := by
  unfold mapRun forEach
  induction l generalizing s with
  | nil => rfl
  | cons o l ih => exact ih (mapInto k none o s)

theorem mapRun_rxSlotAt_ne {k j : Nat} (l : List Octet) (s : State) (h : j ≠ k) : (mapRun k l s).rxSlotAt j = s.rxSlotAt j := by
  unfold mapRun forEach
  induction l generalizing s with
  | nil => rfl
  | cons o l ih => exact (ih (mapInto k none o s)).trans (s.rxSlotAt_rxSlotMod_ne _ h)

/-- In SYNC, octets of the frame in hand only count down. -/
theorem mapInto_counts {k : Nat} {s : State} (o : Octet) (hs : (s.rxSlotAt k).sync = true) (hleft : 0 < (s.rxSlotAt k).left) :
    (mapInto k none o s).rxSlotAt k = { s.rxSlotAt k with left := (s.rxSlotAt k).left - 1 } := by
  have one : (mapOctet (s.rxSlotAt k) o).map = { s.rxSlotAt k with left := (s.rxSlotAt k).left - 1 } := by
    rw [mapOctet, if_pos hs, mapSync, if_pos hleft]
  exact (s.rxSlotAt_rxSlotMod_self k (fun _ => (mapOctet (s.rxSlotAt k) o).map)).trans one

theorem mapRun_counts {k : Nat} {s : State} (l : List Octet) (hs : (s.rxSlotAt k).sync = true) (hleft : l.length ≤ (s.rxSlotAt k).left) :
    (mapRun k l s).rxSlotAt k = { s.rxSlotAt k with left := (s.rxSlotAt k).left - l.length } := by
  induction l generalizing s with
  | nil => rfl
  | cons o l ih =>
    have one := mapInto_counts o hs (Nat.lt_of_lt_of_le (Nat.succ_pos _) hleft)
    rw [List.length_cons] at hleft
    have rest := ih (s := mapInto k none o s) (by rw [one]; exact hs) (by rw [one]; dsimp only; omega)
    rw [one] at rest
    refine Eq.trans rest ?_
    dsimp only
    rw [List.length_cons, Nat.sub_sub, Nat.add_comm]

theorem exec_receiveMapBlock (slot : BitVec 10) (os : Bytes) (errored : Bool) (s : State) : exec (.receiveMapBlock slot os errored) s =
    eventIf (s.rxOn (laneOfSlot slot.toNat)) (fun s =>
      let s1 := if s.blockErrored slot.toNat errored then s.rxSlotMod slot.toNat (fun r => { r with feErr := true }) else s
      let fed := match s1.dest slot.toNat with
        | .through _ => if (s1.rxSlotAt slot.toNat).mismatch then none else s1.feeds slot.toNat
        | _ => none
      if s1.mapRuns slot.toNat then
        forEach (os.map (·, s.blockErrored slot.toNat errored)) (mapInto slot.toNat fed) s1 else s1) s := rfl

/-- A block without errors for a slot that feeds no THROUGH entry runs the map alone, if it runs. -/
theorem receiveMapBlock_completes {s : State} {slot : BitVec 10} (os : Bytes) (hl : Live s) (hon : s.rxOn (slot.toNat / 64) = true)
    (he : s.blockErrored slot.toNat false = false) (hd : ∀ n, s.dest slot.toNat ≠ .through n) :
    Completes (.receiveMapBlock slot os false) s
      (if s.mapRuns slot.toNat then mapRun slot.toNat (os.map (·, false)) s else s) := by
  obtain ⟨t, done, rfl⟩ := exists_eventIf (P := fun t => t = if s.mapRuns slot.toNat then mapRun slot.toNat (os.map (·, false)) s else s)
    (exec_receiveMapBlock slot os false s) hl hon (by
      rw [he]
      dsimp only
      rw [if_neg Bool.false_ne_true]
      cases e : s.dest slot.toNat with
      | through n => exact absurd e (hd n)
      | client _ => rfl
      | discard => rfl)
  exact done

theorem receiveMapBlock_stays {s : State} {slot : BitVec 10} (os : Bytes) (hl : Live s) (hon : s.rxOn (slot.toNat / 64) = true)
    (he : s.blockErrored slot.toNat false = false) (hm : s.mapRuns slot.toNat = false) :
    Completes (.receiveMapBlock slot os false) s s := by
  obtain ⟨t, done, rfl⟩ := exists_eventIf (P := fun t => t = s) (exec_receiveMapBlock slot os false s) hl hon (by
    rw [he]
    dsimp only
    rw [if_neg Bool.false_ne_true, if_neg (by rw [hm]; exact Bool.false_ne_true)])
  exact done

/-! ### The clauses of the obligation -/

/-- What CLIENT_SET promises of an entry let through. -/
theorem clientSet_ok {s : State} {client : W16} {e : Bytes} (hc : client.toNat < 1024) (hon : s.clientsOn = true)
    (ht : Takes 0x0601 s) (hl : e.length = 16) (he : cliEntryOk e = true) (ha : cliActive e = true)
    (hv : (s.portAt (cliPort e)).vlan = false)
    (hm : s.cliMem.ok (client.toNat / 16) = true
      ∨ (client.toNat / 16 ∈ s.cliMem.rejected ∧ ∀ k, (s.clientAt k).entry.length = 16)) :
    Answers (.clientSet client e) 0x0601 .ok [] s (clientPut client.toNat e s)
      ∧ slice ((clientPut client.toNat e s).cliMem.read (client.toNat / 16)) (16 * (client.toNat % 16)) 16 = e
      ∧ (clientPut client.toNat e s).cliMem.ok (client.toNat / 16) = true := by
  have known : s.cliMem.rejected.contains (client.toNat / 16) = true ∨ s.cliMem.ok (client.toNat / 16) = true :=
    hm.symm.imp_left (fun h => List.elem_eq_true_of_mem h.1)
  have entries : s.cliMem.rejected.contains (client.toNat / 16) = false ∨ ∀ k, (s.clientAt k).entry.length = 16 := by
    rcases hm with good | ⟨_, all⟩
    · left
      rw [CrumbMem.ok] at good
      exact (Bool.not_eq_true' _).mp (Bool.and_eq_true_iff.mp good).1
    · exact Or.inr all
  exact ⟨clientSet_answers hc hon ht hl he ha hv known, clientPut_crumb client.toNat s hl entries⟩

/-- Settles O26: the commands of a client move its entry, its crumb and its counters, and a frame moves the counters and
the queue of the client and slot it belongs to. -/
theorem clients : Obligations.Clients := by
  refine ⟨?commands, ?frames⟩
  case commands =>
    rintro s client _ rfl hc hon
    refine ⟨?set, ?crumb, ?busy, clientGet_answers hc hon, ?status, ?counters, ?through⟩
    case set =>
      intro e ht hl he ha hv hm
      obtain ⟨answers, entry, good⟩ := clientSet_ok hc hon ht hl he ha hv hm
      exact ⟨_, answers, clientPut_clientAt _ e s, entry, good, fun k => clientPut_clientAt_ne _ e s, rfl⟩
    case crumb =>
      intro e ht hl he ha hv bad hr
      obtain ⟨rejected, same, queued, only⟩ := clientSet_crumb_leaves s (client.toNat / 16)
      exact ⟨_, clientSet_crumb hc hon ht hl he ha hv (by simpa using hr) bad, rejected, same _, queued, only⟩
    case busy => exact fun e ht hl he ha hs => clientSet_busy hc hon ht hl he ha hs
    case status => exact fun ht h0 h1 => clientStatus_answers hc hon ht h0 h1
    case counters =>
      intro ht
      obtain ⟨p, answers, len⟩ := clientCountersRead_answers hc hon ht
      exact ⟨_, p, answers, len, s.clientAt_clientMod_self _ Client.cleared, rfl⟩
    case through =>
      intro slot ht hs
      obtain ⟨p, answers, len⟩ := throughStatus_answers hon ht hs
      exact ⟨_, p, answers, len,
        s.txSlotAt_txSlotMod_self slot.toNat (fun t => { t with inserted := 0, deleted := 0, aborts := 0, slips := 0 }), rfl⟩
  case frames =>
    intro s hl
    refine ⟨?oversize, ?noSlot, ?queued, ?errored, ?good, ?discard, ?stays, ?counts⟩
    case oversize =>
      intro c fr hon hlen
      apply exists_addFrame (f := none) (st := none) hl hon
      rw [addFrame_oversize _ _ _ _ hlen]
      exact ⟨rfl, s.clientAt_clientMod_self c.toNat (fun k => { k with oversize := wrapAdd k.oversize 1 })⟩
    case noSlot =>
      intro c fr hon h1 h2 h3 h4
      apply exists_addFrame (f := none) (st := none) hl hon
      rw [Option.map_none, addFrame_noSlot h1 h2 (placeOf_none _ _ h3 h4)]
      exact ⟨rfl, s.clientAt_clientMod_self c.toNat (fun k => { k with noSlot := wrapAdd k.noSlot 1 })⟩
    case queued =>
      intro c f st fr k hon h1 h2 hp hq
      apply exists_addFrame (f := some f) (st := st) hl hon
      rw [Option.map_some, addFrame_queued h1 h2 hp hq]
      have counted := frameQueued_clientAt c.toNat k fr.octets s
      refine ⟨?_, by rw [counted], by rw [counted], fun j hj => ?_⟩
      · rw [frameQueued_txSlotAt]
        exact s.txSlotAt_txSlotMod_self k (fun t => { t with queue := t.queue ++ [fr.octets] })
      · rw [frameQueued_txSlotAt]
        exact s.txSlotAt_txSlotMod_ne _ hj
    case errored =>
      intro slot fr c hc hm hs he
      apply exists_dropFrame hl hc hm hs
      rw [dropGood_of_errored he, if_neg Bool.false_ne_true, dropFrame_errored s he]
      exact ⟨rfl, s.clientAt_clientMod_self c (fun k => { k with errored := wrapAdd k.errored 1 })⟩
    case good =>
      intro slot fr c hc hm hs hg hr hq
      apply exists_dropFrame hl hc hm hs
      rw [hg, if_pos rfl, dropFrame_good s hg, enterDrop_queued _ (by simpa [cntClient] using hr) (by simpa [cntClient] using hq)]
      refine ⟨?_, ?_⟩
      · refine Eq.trans ?_ (s.clientAt_clientMod_self c (fun k =>
          { k with dropFrames := wrapAdd k.dropFrames 1, dropOctets := wrapAdd k.dropOctets fr.octets.length }))
        simp [State.clientAt, strMod, cntClient]
      · simp [strMod, cntClient]
    case discard =>
      intro slot os hon hd he
      refine ⟨_, receiveMapBlock_completes os hl hon he (fun n => by rw [hd]; exact Dest.noConfusion), ?_⟩
      split
      · exact ⟨fun k => mapRun_rxSlotAt_ne _ s, mapRun_only _ _ s _⟩
      · exact ⟨fun k _ => rfl, rfl⟩
    case stays => exact fun slot os hon hm he => receiveMapBlock_stays os hl hon he hm
    case counts =>
      intro slot os c hon hd hm he hs hlen hleft
      have ran := receiveMapBlock_completes os hl hon he (fun n => by rw [hd]; exact Dest.noConfusion)
      have fed : (os.map (fun b => (b, false))).length = 32 := (List.length_map _).trans hlen
      have left := mapRun_counts (os.map (fun b => (b, false))) hs (by rw [fed]; exact hleft)
      rw [hm, if_pos rfl] at ran
      rw [fed] at left
      exact ⟨_, ran, left, mapRun_only _ _ s _⟩

end Sys2Proof.Machine
end

section
/-! A loss of RSYN and the coefficient banks (R48, R119, R458): a lane whose mode change waits for a snapshot exchanges
its headers when RSYN loses lock, so the banks do not keep their contents. -/

namespace Sys2Proof.Machine

/-! ### What leaves the banks alone -/

theorem bank_of_mems {s t : State} (h : t.mems = s.mems) : t.bank = s.bank := congrArg (fun m : Mems => m.2.1) h

/-- What each round leaves as it was, a run over a list leaves as it was. -/
theorem forEach_same {α β : Type} {f : α → State → State} {g : State → β} (h : ∀ a s, g (f a s) = g s) (l : List α) (s : State) :
    g (forEach l f s) = g s := by
  unfold forEach
  induction l generalizing s with
  | nil => rfl
  | cons a l ih => exact (ih (f a s)).trans (h a s)

theorem dmaIrq_bank (ch : Nat) (s : State) : (dmaIrq ch s).bank = s.bank := bank_of_mems (dmaIrq_mems ch s)

theorem xferCut_bank (ch : Nat) (s : State) : (xferCut ch s).bank = s.bank := by
  unfold xferCut
  split
  · rfl
  · exact dmaIrq_bank ch _

theorem execEnd_bank (st : Status) (s : State) : (execEnd st s).bank = s.bank := by
  unfold execEnd
  split
  · rfl
  · dsimp only
    split <;> rfl

theorem xferAnswer_bank (ch : Nat) (s : State) : (xferAnswer ch s).bank = s.bank := by
  unfold xferAnswer
  split
  · split
    · exact execEnd_bank .ok s
    · rfl
  · rfl

theorem captureDown_bank (l : Nat) (s : State) : (captureDown l s).bank = s.bank :=
  forEach_same (g := State.bank) (fun ch t => (xferAnswer_bank ch _).trans (xferCut_bank ch t)) _ s

theorem bulkRecords_bank (n a : Nat) (s : State) : (bulkRecords n a s).2.2.2.bank = s.bank := by
  induction n generalizing a s with
  | zero => rfl
  | succ n ih =>
    have one : (bulkRecord a s).2.bank = s.bank := bank_of_mems (bulkRecord_mems a s)
    unfold bulkRecords
    dsimp only
    split
    · split <;> exact (ih _ _).trans one
    · exact bank_of_mems (State.sramSeen_mems s a 64)

theorem bulkCut_bank (s : State) : (bulkCut s).bank = s.bank := by
  unfold bulkCut
  split
  · rfl
  · exact (dmaIrq_bank _ _).trans (bulkRecords_bank _ _ _)

theorem parkDue_bank (l : Nat) (s : State) : (parkDue l s).bank = s.bank := by
  unfold parkDue
  split
  · unfold parkEnd
    rw [raise_bank]
    exact (bank_of_mems (by simp)).trans (captureDown_bank l s)
  · rfl

/-! ### A lane that leaves LOCKED quietly -/

theorem checkerIdle_rx (l : Nat) (s : State) : (checkerIdle l s).rx = s.rx := by
  unfold checkerIdle
  split
  · simp
  · rfl

theorem checkerIdle_icing (l : Nat) (s : State) : (checkerIdle l s).icing = s.icing := by
  unfold checkerIdle
  split
  · simp
  · rfl

theorem stopSource_rx (k : Nat) (s : State) : (stopSource k s).rx = s.rx := by
  unfold stopSource
  split <;> rfl

theorem stopSource_icing (k : Nat) (s : State) : (stopSource k s).icing = s.icing := by
  unfold stopSource
  split <;> rfl

theorem laneUnlocked_rx (l : Nat) (s : State) : (laneUnlocked l s).rx = s.rx := by
  unfold laneUnlocked
  refine forEach_same (g := State.rx) (fun k t => ?_) _ s
  rw [State.rxSlotMod_rx, hunt, State.rxSlotMod_rx, stopSource_rx]

theorem laneUnlocked_icing (l : Nat) (s : State) : (laneUnlocked l s).icing = s.icing := by
  unfold laneUnlocked
  refine forEach_same (g := State.icing) (fun k t => ?_) _ s
  rw [State.rxSlotMod_icing, hunt, State.rxSlotMod_icing, stopSource_icing]

theorem countSource_rx_icing (src idx n : Nat) (s : State) :
    (countSource src idx n s).rx = s.rx ∧ (countSource src idx n s).icing = s.icing := by
  rw [countSource_eq, withCounts]
  exact ⟨rfl, rfl⟩

theorem fecTally_rx_icing (l : Nat) (c : FecCounts) (s : State) :
    (fecTally l c s).rx = s.rx ∧ (fecTally l c s).icing = s.icing := by
  unfold fecTally
  simp only [countSource_rx_icing]
  exact ⟨rfl, rfl⟩

/-- A lane that loses its framing keeps the mode change that waits. -/
theorem unlock_defMode (l : Nat) (s : State) : ((unlock l s).rxAt l).defMode = (s.rxAt l).defMode := by
  unfold unlock
  split
  · dsimp only
    rw [State.rxAt, laneUnlocked_rx]
    refine (congrArg Rx.defMode (State.rxAt_rxMod_self _ l _)).trans ?_
    simp only [State.rxAt, State.framerMod_rx, fecTally_rx_icing]
  · rfl

theorem unlock_icing (l : Nat) (s : State) : (unlock l s).icing = s.icing := by
  unfold unlock
  split
  · simp only [laneUnlocked_icing, State.rxMod_icing, State.framerMod_icing, fecTally_rx_icing]
  · rfl

theorem leaveQuietly_st (l : Nat) (st : RxSt) (s : State) : ((leaveQuietly l st s).rxAt l).st = st := by
  unfold leaveQuietly rxEnter
  rw [State.rxAt_rxMod_self]

/-- A lane that owes no feedback keeps the mode change that waits. -/
theorem leaveQuietly_defMode {l : Nat} {s : State} (st : RxSt) (h : (s.icingAt (faceOf l)).fbOwed = []) :
    ((leaveQuietly l st s).rxAt l).defMode = (s.rxAt l).defMode := by
  have owed : ((unlock l s).icingAt (faceOf l)).fbOwed = [] := by rw [State.icingAt, unlock_icing]; exact h
  unfold leaveQuietly rxEnter feedbackLost
  dsimp only
  rw [State.rxAt_rxMod_self, owed]
  exact unlock_defMode l s

/-! ### The exchange of headers -/

/-- A mode change of a lane in OFF exchanges the headers and writes nothing else of the banks (R119). -/
theorem rxMode_off_bank {l : Nat} {m : Bool} {s : State} (h : (s.rxAt l).st = .off) :
    (rxMode l m s).bank = (exchangeHeaders l s).bank := by
  unfold rxMode
  dsimp only
  rw [h]
  rfl

theorem rxModeDue_off_bank {l : Nat} {m : Bool} {s : State} (h : (s.rxAt l).st = .off) (hm : (s.rxAt l).defMode = some m) :
    (rxModeDue l s).bank = (exchangeHeaders l s).bank := by
  unfold rxModeDue
  rw [hm]
  exact rxMode_off_bank (by rw [State.rxAt_rxMod_self]; exact h)

theorem rxModeDue_none {l : Nat} {s : State} (hm : (s.rxAt l).defMode = none) : rxModeDue l s = s := by
  unfold rxModeDue
  rw [hm]

/-- The headers of a lane lie in crumbs 0 and 8 of its own bank. -/
theorem exchangeHeaders_read_ne {l k : Nat} (c : Nat) (s : State) (h0 : bankCrumb k c ≠ bankCrumb l 0)
    (h8 : bankCrumb k c ≠ bankCrumb l 8) : (exchangeHeaders l s).bankRead k c = s.bankRead k c :=
  (CrumbMem.read_store_ne _ _ h0).trans (CrumbMem.read_store_ne _ _ h8)

/-- Crumb 8 takes the header of crumb 0. -/
theorem exchangeHeaders_header (l : Nat) (s : State) :
    slice ((exchangeHeaders l s).bankRead l 8) 32 32 = slice (s.bankRead l 0) 0 32 := by
  have header : (slice (s.bankRead l 0) 0 32).length = 32 := slice_length _ _ _
  have room : 32 + (slice (s.bankRead l 0) 0 32).length ≤ (s.bankRead l 8).length := by
    rw [header, State.bankRead, CrumbMem.read_length]
    omega
  have apart : bankCrumb l 8 ≠ bankCrumb l 0 := by unfold bankCrumb; omega
  have stored : (exchangeHeaders l s).bankRead l 8 = putAt (s.bankRead l 8) 32 (slice (s.bankRead l 0) 0 32) :=
    (CrumbMem.read_store_ne _ _ apart).trans
      (CrumbMem.read_store _ _ _ ((putAt_length room).trans (CrumbMem.read_length _ _)))
  have back := slice_putAt_self room
  rw [header] at back
  rw [stored, back]

/-! ### The lanes at a loss of RSYN -/

/-- What a loss of RSYN does to one lane (R458). -/
def laneLost (l : Nat) (s : State) : State := rxPowerDown l (txClockLost l (lossDropped l (laneOff l (parkDue l s))))

/-- A lane that has left LOCKED for OFF, before a mode change that waits is made. -/
def quietOff (l : Nat) (s : State) : State := leaveQuietly l .off (checkerIdle l s)

theorem quietOff_bank (l : Nat) (s : State) : (quietOff l s).bank = s.bank :=
  bank_of_mems ((leaveQuietly_mems l .off _).trans (checkerIdle_mems l s))

theorem quietOff_defMode {l : Nat} {s : State} (h : (s.icingAt (faceOf l)).fbOwed = []) :
    ((quietOff l s).rxAt l).defMode = (s.rxAt l).defMode := by
  unfold quietOff
  rw [leaveQuietly_defMode .off (by rw [State.icingAt, checkerIdle_icing]; exact h), State.rxAt, checkerIdle_rx]
  rfl

theorem laneOff_bank {l : Nat} {s : State} (h : (s.rxAt l).st ≠ .parked) :
    (laneOff l s).bank = (rxModeDue l (quietOff l s)).bank := by
  unfold laneOff
  rw [if_neg h, State.rxMod_bank, quietOff]

theorem laneLost_bank (l : Nat) (s : State) : (laneLost l s).bank = (laneOff l (parkDue l s)).bank :=
  bank_of_mems ((rxPowerDown_mems l _).trans ((txClockLost_mems l _).trans (lossDropped_mems l _)))

/-- A lane that stops writes nothing of the banks but its own headers. -/
theorem laneLost_read_ne {l k : Nat} (c : Nat) (s : State) (h0 : bankCrumb k c ≠ bankCrumb l 0)
    (h8 : bankCrumb k c ≠ bankCrumb l 8) : (laneLost l s).bankRead k c = s.bankRead k c := by
  have off : (laneOff l (parkDue l s)).bankRead k c = (parkDue l s).bankRead k c := by
    generalize parkDue l s = p
    by_cases hp : (p.rxAt l).st = .parked
    · rw [laneOff, if_pos hp]
    · rw [State.bankRead, laneOff_bank hp]
      cases hm : ((quietOff l p).rxAt l).defMode with
      | none => rw [rxModeDue_none hm, quietOff_bank, State.bankRead]
      | some m =>
        rw [rxModeDue_off_bank (s := quietOff l p) (leaveQuietly_st l .off _) hm, State.bankRead, ← quietOff_bank l p]
        exact exchangeHeaders_read_ne c _ h0 h8
  calc (laneLost l s).bankRead k c
      _ = (laneOff l (parkDue l s)).bankRead k c := congrArg (fun m => m.read (bankCrumb k c)) (laneLost_bank l s)
      _ = (parkDue l s).bankRead k c := off
      _ = s.bankRead k c := congrArg (fun m => m.read (bankCrumb k c)) (parkDue_bank l s)

theorem forEach_cons {α : Type} (a : α) (l : List α) (f : α → State → State) (s : State) :
    forEach (a :: l) f s = forEach l f (f a s) := rfl

/-- The loss of other lanes leaves a lane's bank as it is. -/
theorem forEach_laneLost_read {k c : Nat} (hc : c < 32) (ls : List Nat) (hk : k ∉ ls) (s : State) :
    (forEach ls laneLost s).bankRead k c = s.bankRead k c := by
  induction ls generalizing s with
  | nil => rfl
  | cons l ls ih =>
    have apart := List.ne_of_not_mem_cons hk
    rw [forEach_cons, ih (List.not_mem_of_not_mem_cons hk)]
    apply laneLost_read_ne
    · unfold bankCrumb
      omega
    · unfold bankCrumb
      omega

/-- A lane whose mode change waits exchanges its headers as it goes to OFF (R48, R119). -/
theorem laneLost_header {l : Nat} {m : Bool} {s : State} (hp : ((parkDue l s).rxAt l).st ≠ .parked)
    (hm : ((parkDue l s).rxAt l).defMode = some m) (ho : ((parkDue l s).icingAt (faceOf l)).fbOwed = []) :
    slice ((laneLost l s).bankRead l 8) 32 32 = slice (s.bankRead l 0) 0 32 := by
  have bank : (laneLost l s).bank = (exchangeHeaders l (quietOff l (parkDue l s))).bank :=
    (laneLost_bank l s).trans ((laneOff_bank hp).trans
      (rxModeDue_off_bank (leaveQuietly_st l .off _) ((quietOff_defMode ho).trans hm)))
  have before : (quietOff l (parkDue l s)).bank = s.bank := (quietOff_bank l _).trans (parkDue_bank l s)
  rw [State.bankRead, bank, ← State.bankRead, exchangeHeaders_header, State.bankRead, before, State.bankRead]

/-- Once the lanes have stopped: loops, outputs, host ports and transfers from capture memories stop. -/
def blocksLost (s : State) : State :=
  forEach allLanes captureDown (forEach (List.range 16) portStop
    (forEach s.outs (fun n t => t.biasMod n Bias.toHiz) (forEach s.loops loopOff s)))

theorem blocksLost_bank (s : State) : (blocksLost s).bank = s.bank := by
  refine (forEach_same (g := State.bank) captureDown_bank _ _).trans (bank_of_mems ?_)
  rw [forEach_mems (fun a s => by simp), forEach_mems (fun a s => by simp), forEach_mems (fun a s => by simp)]

theorem rsynLost_mems (s : State) :
    (rsynLost s).mems = (bulkCut (blocksLost (forEach allLanes laneLost (negotiationsEnd s)))).mems := by
  unfold rsynLost
  dsimp only
  simp only [↓ite_mems, ↓raise_mems, ↓setTier_mems, ↓State.mems_mk, ↓State.mems_fold, ↓State.setPd_mems, ↓madcPower_mems,
    ↓icingStop_mems, ↓framesLost_mems, ite_self]
  rfl

/-- After the lanes a loss of RSYN leaves the banks alone. -/
theorem rsynLost_bank (s : State) : (rsynLost s).bank = (forEach allLanes laneLost (negotiationsEnd s)).bank :=
  (bank_of_mems (rsynLost_mems s)).trans ((bulkCut_bank _).trans (blocksLost_bank _))

/-- A loss of RSYN writes the header of crumb 0 of lane 0 into crumb 8 when the lane's mode change waits. -/
theorem rsynLost_header {m : Bool} {s : State} (hp : ((parkDue 0 (negotiationsEnd s)).rxAt 0).st ≠ .parked)
    (hm : ((parkDue 0 (negotiationsEnd s)).rxAt 0).defMode = some m)
    (ho : ((parkDue 0 (negotiationsEnd s)).icingAt (faceOf 0)).fbOwed = []) :
    slice ((rsynLost s).bankRead 0 8) 32 32 = slice (s.bankRead 0 0) 0 32 := by
  have order : allLanes = 0 :: (List.range 15).map (· + 1) := rfl
  have lanes : (forEach allLanes laneLost (negotiationsEnd s)).bankRead 0 8 = (laneLost 0 (negotiationsEnd s)).bankRead 0 8 := by
    rw [order, forEach_cons, forEach_laneLost_read (by omega) _ (by decide)]
  calc slice ((rsynLost s).bankRead 0 8) 32 32
      _ = slice ((forEach allLanes laneLost (negotiationsEnd s)).bankRead 0 8) 32 32 :=
        congrArg (fun b : CrumbMem => slice (b.read (bankCrumb 0 8)) 32 32) (rsynLost_bank s)
      _ = slice ((negotiationsEnd s).bankRead 0 0) 0 32 := by rw [lanes, laneLost_header hp hm ho]
      _ = slice (s.bankRead 0 0) 0 32 :=
        congrArg (fun b : CrumbMem => slice (b.read (bankCrumb 0 0)) 0 32) (bank_of_mems (negotiationsEnd_mems s))

/-! ### The state that refutes the statement -/

/-- RSYN has lock at Tier 1, and lane 0 is in LOCKED in PAM4 while a snapshot is written; a hand-over to Stretch mode waits
for the end of that write (R48). Crumb 0 of the lane holds a header. -/
def modeChangeWaits : State :=
  { sys := { rsynLock := true, tier0 := true, tier := 1, fwRun := true, fwEver := true }
    pwr := { cur := 1 }
    mbx := { mode := .fw }
    rx := [(0, { st := .locked, snapBusy := true, defMode := some true })]
    bank := ({} : CrumbMem).write 0 (0x5A :: List.replicate 255 0) }

theorem modeChangeWaits_parkDue : (parkDue 0 (negotiationsEnd modeChangeWaits)).rxAt 0 = modeChangeWaits.rxAt 0
    ∧ ((parkDue 0 (negotiationsEnd modeChangeWaits)).icingAt 0).fbOwed = [] := by
  decide +kernel

theorem modeChangeWaits_headers :
    slice (modeChangeWaits.bankRead 0 8) 32 32 ≠ slice (modeChangeWaits.bankRead 0 0) 0 32 := by decide +kernel

/-- Refutes O50: with `modeChangeWaits` a loss of RSYN exchanges the headers of lane 0, so that its bank does not keep its
contents; the mode change that waited for a snapshot is made as the lane goes to OFF (R48, R119 against R458). -/
theorem not_bringUp : ¬ Obligations.BringUp := by
  unfold Obligations.BringUp
  intro h
  obtain ⟨-, -, -, -, -, -, -, loss, -⟩ := h modeChangeWaits
  obtain ⟨t, done, -, -, -, -, -, -, -, bank, -⟩ := loss rfl rfl rfl
  have left : rsynLost modeChangeWaits = t := by injection done
  obtain ⟨rx, owed⟩ := modeChangeWaits_parkDue
  have moved := rsynLost_header (s := modeChangeWaits) (m := true) (by rw [rx]; decide) (by rw [rx]; rfl) owed
  rw [State.bankRead, left, bank] at moved
  exact modeChangeWaits_headers moved

end Sys2Proof.Machine
end

section
/-! The counters of R145: the RS counters of every lane agree after every command. -/

namespace Sys2Proof.Machine

/-- What `exec_keeps` says of the framers is what the statements say of each lane (R145). -/
theorem countsAgree_iff (s : State) : countsAgree s.framer ↔ ∀ l, RsCountsAgree l s := Iff.rfl

/-- A lane that has counted nothing agrees. -/
theorem rsCountsAgree_reset (l : Nat) : RsCountsAgree l State.reset := rfl

/-- A command that completes leaves RS counters that agree where they agreed. -/
theorem completes_rsCountsAgree {c : Instr} {s t : State} (agree : ∀ k, RsCountsAgree k s) (done : Completes c s t) :
    ∀ k, RsCountsAgree k t := by
  obtain ⟨-, -, -, counts⟩ := exec_keeps c (keeps_self s) t done
  exact (countsAgree_iff t).mp (counts ((countsAgree_iff s).mpr agree))

/-- Settles O20: the counters agree at reset, and every command keeps them (`exec_keeps`), a received multiframe and
FEC_COUNTERS_READ among them. -/
theorem rsCountersAgree : Obligations.RsCountersAgree :=
  ⟨rsCountsAgree_reset, fun _ _ _ _ _ _ _ => completes_rsCountsAgree, fun _ _ _ _ => completes_rsCountsAgree,
    fun _ _ _ => completes_rsCountsAgree⟩

end Sys2Proof.Machine
end

section
/-! The commands of a lane framer and the overhead it receives (R133 to R139, R145, R146). -/

namespace Sys2Proof.Machine

section
variable {s : State} {lane : Byte}

/-! ### FEC_CONFIG and FEC_COUNTERS_READ (R145, R146) -/

theorem fecConfig_answers {y : Byte} {c : W16} (hl : lane.toNat < 16) (ht : Takes 0x0401 s) (h1 : 1 ≤ y.toNat)
    (h15 : y.toNat ≤ 15) (hc : c ≠ 0) :
    Answers (.fecConfig lane y c) 0x0401 .ok [] s
      (s.framerMod lane.toNat (fun f => { f with degSym := y, degCount := c })) :=
  answers_of_run (k := cmdFecConfig lane y c) rfl ht rfl rfl rfl
    (by simpa [cmdFecConfig, laneOk_of_lt hl, within, h1, h15] using hc) rfl

/-- FEC_COUNTERS_READ answers all counters, and clears them with CLEAR. -/
theorem fecCountersRead_answers {flags : Byte} (hl : lane.toNat < 16) (ht : Takes 0x0402 s) (hf : flagsOk 1 flags = true) :
    Answers (.fecCountersRead lane flags) 0x0402 .ok ((s.framerAt lane.toNat).cnt.list.flatMap le64) s
      (if clearFlag flags then s.framerMod lane.toNat (fun f => { f with cnt := {} }) else s) :=
  answers_of_run (k := cmdFecCountersRead lane flags) rfl ht rfl rfl rfl
    (by simp [cmdFecCountersRead, laneOk_of_lt hl, hf]) rfl

/-! ### FRAME_STATUS (R138) -/

/-- The byte after the first of two strings is the first of the second. -/
theorem byteAt_append_cons (a b : Bytes) (x : Byte) : byteAt (a ++ x :: b) a.length = x := by
  simp [byteAt]

/-- What FRAME_STATUS answers of a framer: lock, the latest header, ID mismatch, its age, and FE of each slot. -/
def Framer.statusBytes (f : Framer) : Bytes :=
  [boolByte f.lock] ++ slice (f.header.getD []) 0 32 ++ [boolByte f.mismatch] ++ leN 2 (min 65535 f.age)
    ++ Tab.read 0 f.slotFe 0 64

theorem Framer.statusBytes_length (f : Framer) : f.statusBytes.length = 100 := by
  simp [Framer.statusBytes, slice_length, Tab.read_length]

theorem Framer.statusBytes_mismatch (f : Framer) : byteAt f.statusBytes 33 = boolByte f.mismatch := by
  have before : ([boolByte f.lock] ++ slice (f.header.getD []) 0 32).length = 33 := by
    rw [List.length_append, slice_length]
    rfl
  rw [Framer.statusBytes, List.append_assoc, List.append_assoc, ← before]
  exact byteAt_append_cons _ _ _

theorem frameStatus_answers (hl : lane.toNat < 16) (ht : Takes 0x0403 s) :
    Answers (.frameStatus lane) 0x0403 .ok (s.framerAt lane.toNat).statusBytes s s :=
  answers_of_run (k := cmdFrameStatus lane) rfl ht rfl rfl rfl (laneOk_of_lt hl) rfl

/-! ### FRAME_ID_EXPECT (R139) -/

/-- A framer that expects a sender from now on. -/
def Framer.expecting (mode : Byte) (sender : W16 × Byte) (f : Framer) : Framer :=
  { f with
    idMode := mode, idExpect := some sender
    missRun := if f.idMode = 0 then 0 else f.missRun, matchRun := if f.idMode = 0 then 0 else f.matchRun
    mismatch := f.mismatch && mode != 0 }

/-- A new expectation without mode OFF keeps a mismatch. -/
theorem Framer.expecting_mismatch {mode : Byte} (sender : W16 × Byte) (f : Framer) (h : mode ≠ 0) :
    (f.expecting mode sender).mismatch = f.mismatch :=
  (congrArg (f.mismatch && ·) (bne_iff_ne.mpr h)).trans (Bool.and_true _)

theorem frameIdExpect_range {mode l : Byte} (n : W16) (hl : lane.toNat < 16) (hm : mode.toNat ≤ 2) (h : l.toNat < 16) :
    (cmdFrameIdExpect lane mode 0 n l s).range = true := by
  simp [cmdFrameIdExpect, laneOk_of_lt hl, laneOk_of_lt h, hm, flagsOk]

theorem frameIdExpect_answers_on {mode l : Byte} {n : W16} (hl : lane.toNat < 16) (ht : Takes 0x0404 s) (hm : mode.toNat ≤ 2)
    (h : l.toNat < 16) (h0 : mode ≠ 0) :
    Answers (.frameIdExpect lane mode 0 n l) 0x0404 .ok [] s (s.framerMod lane.toNat (Framer.expecting mode (n, l))) :=
  answers_of_run (k := cmdFrameIdExpect lane mode 0 n l) rfl ht rfl rfl rfl (frameIdExpect_range n hl hm h)
    (congrArg ok (if_neg (fun off => h0 off.1)))

/-- Mode OFF ends a mismatch at once, with an event. -/
theorem frameIdExpect_answers_off {l : Byte} {n : W16} (hl : lane.toNat < 16) (ht : Takes 0x0404 s) (h : l.toNat < 16)
    (hx : (s.framerAt lane.toNat).mismatch = true) :
    ∃ p, Answers (.frameIdExpect lane 0 0 n l) 0x0404 .ok [] s
      (raise 0x8403 p (s.framerMod lane.toNat (Framer.expecting 0 (n, l)))) :=
  ⟨_, answers_of_run (k := cmdFrameIdExpect lane 0 0 n l) rfl ht rfl rfl rfl
    (frameIdExpect_range n hl (Nat.zero_le 2) h) (congrArg ok (if_pos ⟨rfl, hx⟩))⟩

/-! ### FRAME_TRACE_SET (R134) -/

theorem frameTraceSet_answers {face : Byte} {tr : Bytes} (hf : face.toNat < 2) (ht : Takes 0x0405 s) (hl : tr.length = 16) :
    Answers (.frameTraceSet face tr) 0x0405 .ok [] s (s.faceMod face.toNat (fun x => { x with traceP := some tr })) :=
  answers_of_run (k := cmdFrameTraceSet face tr) rfl ht rfl (if_pos hl) rfl (decide_eq_true hf) rfl

/-! ### The general channel's commands (R137) -/

theorem txOn_mod (hl : lane.toNat < 16) (hon : s.txOn lane.toNat = true) : s.txOn (lane.toNat % 16) = true := by
  rwa [Nat.mod_eq_of_lt hl]

/-- A message that fits, for a lane in DATA, is let through to the queue's check. -/
theorem frameGccSend_answers {n : Byte} {d : Bytes} {st : Status} {t : State} (hl : lane.toNat < 16) (ht : Takes 0x0406 s)
    (hon : s.txOn lane.toNat = true) (hd : (s.txAt lane.toNat).st = .data) (hlen : d.length = n.toNat)
    (hfit : n.toNat + 4 ≤ gccLen (s.txS lane.toNat))
    (hq : (if 16 ≤ (s.framerAt lane.toNat).gccTx.length then deny .full s
      else ok (s.framerMod lane.toNat (fun f => { f with gccTx := f.gccTx ++ [{ data := d }] }))) = (t, st, [])) :
    Answers (.frameGccSend lane n d) 0x0406 st [] s t :=
  answers_of_run (k := cmdFrameGccSend lane n d) rfl ht rfl (if_pos hlen) (txOn_mod hl hon)
    (by simp [cmdFrameGccSend, laneOk_of_lt hl, hfit]) ((if_neg (fun other => other hd)).trans hq)

/-- An update of one framer and a write of management SRAM change the framers and the management SRAM alone. -/
theorem sramWrite_framerMod_only (a : Nat) (b : Bytes) (l : Nat) (g : Framer → Framer) (s : State) :
    { (s.framerMod l g).sramWrite a b with
      framer := s.framer, sram := s.sram, sramBad := s.sramBad, sramSoft := s.sramSoft } = s := by
  unfold State.sramWrite State.framerMod
  rfl

theorem sramWrite_framerMod_sramOnly (a : Nat) (b : Bytes) (l : Nat) (g : Framer → Framer) (s : State) :
    SramOnly a b.length s ((s.framerMod l g).sramWrite a b) := sramWrite_only (s.framerMod l g) a b

theorem sramWrite_framerMod_framerAt (a : Nat) (b : Bytes) (l : Nat) (g : Framer → Framer) (s : State) :
    ((s.framerMod l g).sramWrite a b).framerAt l = g (s.framerAt l) :=
  (State.framerAt_sramWrite _ l a b).trans (s.framerAt_framerMod_self l g)

/-- The messages that FRAME_GCC_READ answers. -/
def Framer.gccRead (max : Byte) (f : Framer) : Bytes := (f.gccRx.take (min 16 max.toNat)).flatMap gccBytes

theorem frameGccRead_answers {max : Byte} {buf : W32} (hl : lane.toNat < 16) (ht : Takes 0x0407 s) (h0 : buf ≠ 0)
    (hb : bufOk buf ((s.framerAt lane.toNat).gccRead max).length = true) :
    Answers (.frameGccRead lane max buf) 0x0407 .ok [u8 ((s.framerAt lane.toNat).gccRx.take (min 16 max.toNat)).length] s
      ((s.framerMod lane.toNat (fun f => { f with gccRx := f.gccRx.drop (min 16 max.toNat) })).sramWrite
        (winToSram buf.toNat) ((s.framerAt lane.toNat).gccRead max)) :=
  answers_of_run (k := cmdFrameGccRead lane max buf) rfl ht rfl rfl rfl
    (Bool.and_eq_true_iff.mpr ⟨laneOk_of_lt hl, respRange_buf h0 hb⟩) (respond_buf _ _ _ h0)

end

/-! ### Overhead headers received (R138, R139, R255) -/

section
variable {s : State} {l : Nat}

theorem idCheck_off (node : W16) (lid : Nat) (h : (s.framerAt l).idMode = 0) : idCheck l node lid s = s := if_pos h

theorem mapFromHeader_noFar (node : W16) (lid : Nat) (h : (s.icingAt (faceOf l)).far = 0) : mapFromHeader l node lid s = s :=
  if_neg (fun known => known.1 h)

/-- A framer that takes the fields of a header of its own FMT. -/
def Framer.taking (h : Bytes) (f : Framer) : Framer :=
  { f with header := some (slice h 4 32), age := 0, feRx := byteAt h 12, fmtRun := 0 }

/-- The first header, with nothing expected and no far node known, sets the framer's fields alone. -/
theorem takeHeader_first {h : Bytes} (hid : (s.framerAt l).idMode = 0) (hfmt : byteAt h 5 = s.ownFmt l)
    (hh : (s.framerAt l).header = none) (hfar : (s.icingAt (faceOf l)).far = 0) :
    takeHeader l h s = s.framerMod l (Framer.taking h) := by
  have taken : (s.framerMod l (Framer.taking h)).framerAt l = (s.framerAt l).taking h := s.framerAt_framerMod_self l _
  unfold takeHeader
  dsimp only
  rw [if_pos hfmt, hh, Option.isSome_none, Bool.false_and, if_neg Bool.false_ne_true]
  refine (congrArg (mapFromHeader l _ _) (idCheck_off _ _ ?_)).trans (mapFromHeader_noFar _ _ hfar)
  exact (congrArg Framer.idMode taken).trans hid

end

theorem exec_overheadHeaderReceive (l : BitVec 4) (h : Bytes) (good : Bool) (s : State) :
    exec (.overheadHeaderReceive l h good) s = eventIf (s.framerAt l.toNat).lock (fun s =>
      if headerValid h good then
        if 4 ≤ ((takeHeader l.toNat h s).framerAt l.toNat).fmtRun then declareLoss l.toNat 2 (takeHeader l.toNat h s)
        else takeHeader l.toNat h s
      else fecCount l.toNat (fun k => { k with ohFail := wrapAdd k.ohFail 1 }) s) s := rfl

/-- A header with a bad codeword is not valid. -/
theorem headerValid_badCodeword (h : Bytes) : headerValid h false = false := rfl

/-! ### Messages received on the general channel (R137, R138) -/

/-- What a lane does with a valid section of the general channel. -/
def gccTaken (l : Nat) (x : Bytes) (s : State) : State :=
  let f := s.framerAt l
  let n := min (byteAt x 0).toNat (x.length - 4)
  if n = 0 then s
  else if 64 ≤ f.gccRx.length then fecCount l (fun k => { k with gccOver := wrapAdd k.gccOver 1 }) s
  else
    let m : Gcc := { mfc := byteAt (f.header.getD []) 0 + BitVec.ofNat 8 f.age, seq := byteAt x 1, data := slice x 2 n }
    let s1 := s.framerMod l (fun f => { f with gccRx := f.gccRx ++ [m] })
    if f.gccRx.isEmpty then raise 0x8405 [u8 l] s1 else s1

theorem exec_gccMessageReceive (l : BitVec 4) (x : Bytes) (good : Bool) (s : State) :
    exec (.gccMessageReceive l x good) s = eventIf (s.framerAt l.toNat).lock (fun s =>
      if !gccValid x good then fecCount l.toNat (fun k => { k with ohFail := wrapAdd k.ohFail 1 }) s
      else gccTaken l.toNat x s) s := rfl

theorem exists_gccTaken {s : State} {l : BitVec 4} {x : Bytes} {P : State → Prop} (hl : Live s)
    (hlock : (s.framerAt l.toNat).lock = true) (hx : gccValid x true = true) (hP : P (gccTaken l.toNat x s)) :
    ∃ t, Completes (.gccMessageReceive l x true) s t ∧ P t := by
  apply exists_eventIf (exec_gccMessageReceive l x true s) hl hlock
  rw [hx]
  exact hP

section
variable {s : State} {l : Nat} {x : Bytes}

theorem byteAt_pos (h : byteAt x 0 ≠ 0) : 0 < (byteAt x 0).toNat :=
  Nat.pos_of_ne_zero (fun zero => h (BitVec.eq_of_toNat_eq zero))

/-- The first message that waits is announced. -/
theorem gccTaken_first (h0 : byteAt x 0 ≠ 0) (hlen : (byteAt x 0).toNat + 4 ≤ x.length)
    (hq : (s.framerAt l).gccRx = []) : gccTaken l x s = raise 0x8405 [u8 l] (s.framerMod l (fun f =>
      { f with gccRx := f.gccRx ++ [⟨byteAt ((s.framerAt l).header.getD []) 0 + BitVec.ofNat 8 (s.framerAt l).age, byteAt x 1,
        slice x 2 (byteAt x 0).toNat⟩] })) := by
  have pos := byteAt_pos h0
  have whole : min (byteAt x 0).toNat (x.length - 4) = (byteAt x 0).toNat := Nat.min_eq_left (by omega)
  unfold gccTaken
  dsimp only
  rw [whole, if_neg (by omega), hq, if_neg (by decide)]
  rfl

/-- A message for a full queue is discarded and counted. -/
theorem gccTaken_full (h0 : byteAt x 0 ≠ 0) (hlen : 4 < x.length) (hq : 64 ≤ (s.framerAt l).gccRx.length) :
    gccTaken l x s = fecCount l (fun k => { k with gccOver := wrapAdd k.gccOver 1 }) s := by
  have pos := byteAt_pos h0
  unfold gccTaken
  dsimp only
  rw [if_neg (by omega), if_pos hq]

end

/-! ### The clauses of the obligation -/

theorem fecCount_framerAt (l : Nat) (g : FecCnt → FecCnt) (s : State) :
    (fecCount l g s).framerAt l = { s.framerAt l with cnt := g (s.framerAt l).cnt } := s.framerAt_framerMod_self l _

/-- An update of one framer, and an event with it, leave everything but the framers and the mailbox. -/
theorem raise_framerMod_only (op : Nat) (p : Bytes) (l : Nat) (g : Framer → Framer) (s : State) :
    { raise op p (s.framerMod l g) with framer := s.framer, mbx := s.mbx } = s := by
  rw [raise_eq]
  rfl

theorem raise_framerMod_framerAt (op : Nat) (p : Bytes) (l : Nat) (g : Framer → Framer) (s : State) :
    (raise op p (s.framerMod l g)).framerAt l = g (s.framerAt l) := by
  rw [State.framerAt_raise, State.framerAt_framerMod_self]

/-- Settles O21: each command of the framer answers from it or updates it (`…_answers`), the first header is
`Framer.taking`, and a valid message is `gccTaken`. -/
theorem framerRows : Obligations.FramerRows := by
  refine ⟨?commands, ?received⟩
  case commands =>
    rintro s lane _ hl rfl
    refine ⟨?config, ?clear, ?counters, ?status, ?expect, ?off, ?trace, ?send, ?full, ?read⟩
    case config => exact fun y c ht h1 h15 hc => ⟨_, fecConfig_answers hl ht h1 h15 hc, s.framerAt_framerMod_self _ _, rfl⟩
    case clear => exact fun ht => ⟨_, fecCountersRead_answers hl ht rfl, s.framerAt_framerMod_self _ _, rfl⟩
    case counters => exact fun ht => fecCountersRead_answers hl ht rfl
    case status =>
      exact fun ht => ⟨_, frameStatus_answers hl ht, Framer.statusBytes_length _, rfl, Framer.statusBytes_mismatch _⟩
    case expect =>
      intro mode n l ht hm h h0
      refine ⟨_, frameIdExpect_answers_on hl ht hm h h0, ?_⟩
      rw [State.framerAt_framerMod_self]
      exact ⟨rfl, rfl, Framer.expecting_mismatch _ _ h0, rfl⟩
    case off =>
      intro n l ht h hx
      obtain ⟨p, answers⟩ := frameIdExpect_answers_off hl ht h hx
      refine ⟨_, answers, ?_, raise_framerMod_only _ p _ _ s⟩
      rw [raise_framerMod_framerAt]
      exact Bool.and_false _
    case trace => exact fun face tr hf ht h16 => ⟨_, frameTraceSet_answers hf ht h16, s.faceAt_faceMod_self _ _, rfl⟩
    case send =>
      intro n d ht hon hd hlen hfit hq
      exact ⟨_, frameGccSend_answers hl ht hon hd hlen hfit (if_neg (Nat.not_le.mpr hq)), s.framerAt_framerMod_self _ _, rfl⟩
    case full =>
      intro n d ht hon hd hlen hfit hq
      exact frameGccSend_answers hl ht hon hd hlen hfit (if_pos hq)
    case read =>
      intro max buf ht h0 hb
      exact ⟨_, frameGccRead_answers hl ht h0 hb,
        sramWrite_framerMod_framerAt _ _ _ _ s, sramWrite_framerMod_only _ _ _ _ s, sramWrite_framerMod_sramOnly _ _ _ _ s⟩
  case received =>
    rintro s l _ hl rfl hlock
    refine ⟨?header, ?invalid, ?message, ?discarded⟩
    case header =>
      intro h hv hid hfmt hh hfar
      have taken : (s.framerMod l.toNat (Framer.taking h)).framerAt l.toNat = (s.framerAt l.toNat).taking h :=
        s.framerAt_framerMod_self _ _
      apply exists_eventIf (exec_overheadHeaderReceive l h true s) hl hlock
      rw [if_pos hv, takeHeader_first hid hfmt hh hfar, if_neg (by rw [taken]; exact Nat.not_succ_le_zero 3), taken]
      exact ⟨rfl, rfl, rfl, rfl⟩
    case invalid =>
      intro h
      apply exists_eventIf (exec_overheadHeaderReceive l h false s) hl hlock
      rw [headerValid_badCodeword, if_neg Bool.false_ne_true]
      exact ⟨fecCount_framerAt _ _ s, rfl⟩
    case message =>
      intro x hx h0 hlen hq
      apply exists_gccTaken hl hlock hx
      rw [gccTaken_first h0 hlen hq, raise_framerMod_framerAt, hq]
      exact ⟨rfl, fun takes => raise_queued takes, raise_framerMod_only _ _ _ _ s⟩
    case discarded =>
      intro x hx h0 hlen hq
      apply exists_gccTaken hl hlock hx
      rw [gccTaken_full h0 hlen hq]
      exact ⟨fecCount_framerAt _ _ s, rfl⟩

end Sys2Proof.Machine
end

section
/-! The blocks of ADD and THROUGH slots, and the slip of a store (R172 to R179). -/

namespace Sys2Proof.Machine

/-! ### Octets sent in a row -/

theorem sendOctets_length (step : TxSlot → Byte × TxSlot) (n : Nat) (t : TxSlot) : (sendOctets step n t).1.length = n := by
  induction n generalizing t with
  | zero => rfl
  | succ n ih => exact congrArg (· + 1) (ih (step t).2)

/-- What each octet leaves as it was, a run of octets leaves as it was. -/
theorem sendOctets_same {β : Type} {step : TxSlot → Byte × TxSlot} {g : TxSlot → β} (h : ∀ t, g (step t).2 = g t) (n : Nat)
    (t : TxSlot) : g (sendOctets step n t).2 = g t := by
  induction n generalizing t with
  | zero => rfl
  | succ n ih => exact (ih (step t).2).trans (h t)

/-- An octet of an ADD slot leaves the blocks sent before it. -/
theorem addOctet_blocks (t : TxSlot) : (addOctet t).2.blocks = t.blocks := by
  unfold addOctet
  split
  · rfl
  · split
    · rfl
    · split
      · rfl
      · split <;> rfl

/-- With nothing being sent and nothing queued, an ADD slot sends fondant (R173). -/
theorem addOctet_idle {t : TxSlot} (hs : t.sending = []) (hq : t.queue = []) : addOctet t = (0, { t with owed := t.owed - 1 }) := by
  rw [addOctet, hs, hq]

theorem sendOctets_addOctet_idle (n : Nat) {t : TxSlot} (hs : t.sending = []) (hq : t.queue = []) :
    (sendOctets addOctet n t).1 = List.replicate n 0 := by
  induction n generalizing t with
  | zero => rfl
  | succ n ih =>
    rw [sendOctets, addOctet_idle hs hq, List.replicate_succ]
    exact congrArg (List.cons 0) (ih hs hq)

/-! ### Blocks leave a slot (R18, R125) -/

/-- A block that has been made takes its place in the multiframe. -/
def TxSlot.blockPlaced (errored : Bool) (t : TxSlot) : TxSlot := { t with blocks := t.blocks ++ [t.block], blockErr := errored }

theorem blockSent_txSlotAt_self (k : Nat) (g : TxSlot → TxSlot) (s : State) : (blockSent k (s.txSlotMod k g)).txSlotAt k =
    (g (s.txSlotAt k)).blockPlaced (bitOf s.skew.errTx (k / 64)) := by
  rw [blockSent, State.txSlotAt_txSlotMod_self, State.txSlotAt_txSlotMod_self]
  rfl

theorem blockSent_only (k : Nat) (g : TxSlot → TxSlot) (s : State) : { blockSent k (s.txSlotMod k g) with txSlot := s.txSlot } = s := rfl

theorem blockSent_txSlotAt_ne {j k : Nat} (g : TxSlot → TxSlot) (s : State) (h : j ≠ k) :
    (blockSent k (s.txSlotMod k g)).txSlotAt j = s.txSlotAt j := by
  rw [blockSent, State.txSlotAt_txSlotMod_ne _ _ h, State.txSlotAt_txSlotMod_ne _ _ h]

section
variable {s : State} {slot kind : Nat}

theorem sendsBlock_of_entry (hd : s.framesData (slot / 64) = true) (hs : slot % 64 < s.txS (slot / 64))
    (hk : entKind (s.slotEntry slot) = kind) (hb : (s.txSlotAt slot).blocks.length < 320) : s.sendsBlock slot kind = true := by
  simp [State.sendsBlock, laneOfSlot, blocksPerSlot, hd, hs, hk, hb]

theorem sendsBlock_noData (hd : s.framesData (slot / 64) = false) : s.sendsBlock slot kind = false := by
  simp [State.sendsBlock, laneOfSlot, hd]

end

/-- The next block of an ADD slot. -/
def addBlock (t : TxSlot) : TxSlot := { (sendOctets addOctet 32 t).2 with block := (sendOctets addOctet 32 t).1 }

theorem addBlock_blocks (t : TxSlot) : (addBlock t).blocks = t.blocks := sendOctets_same (g := TxSlot.blocks) addOctet_blocks 32 t

theorem addBlock_block_length (t : TxSlot) : (addBlock t).block.length = 32 := sendOctets_length addOctet 32 t

theorem addBlock_idle {t : TxSlot} (hs : t.sending = []) (hq : t.queue = []) : (addBlock t).block = List.replicate 32 0 :=
  sendOctets_addOctet_idle 32 hs hq

theorem exec_addSlotBlock (slot : BitVec 10) (s : State) : exec (.addSlotBlock slot) s =
    eventIf (s.sendsBlock slot.toNat 2) (fun s => blockSent slot.toNat (s.txSlotMod slot.toNat addBlock)) s := rfl

/-! ### One adjustment in a block (R177) -/

/-- The adjustments that a regenerator has counted: deletions and insertions. -/
def TxSlot.adjustments (t : TxSlot) : W32 × W32 := (t.deleted, t.inserted)

theorem frameSent_adjustments (b : Byte) (t : TxSlot) : (frameSent b t).adjustments = t.adjustments := by
  unfold frameSent
  dsimp only
  split
  · split <;> rfl
  · rfl

theorem abortStep_adjustments (t : TxSlot) : (abortStep t).2.adjustments = t.adjustments := by
  refine (frameSent_adjustments _ _).trans ?_
  split
  · rfl
  · split <;> rfl

theorem abortNow_adjustments (t : TxSlot) : (abortNow t).2.adjustments = t.adjustments := frameSent_adjustments _ _

/-- An octet that a THROUGH slot sends adjusts nothing. -/
theorem throughOctet_adjustments (t : TxSlot) : (throughOctet t).2.adjustments = t.adjustments := by
  unfold throughOctet
  split
  · split
    · rfl
    · split
      · rfl
      · split <;> rfl
  · split
    · exact abortStep_adjustments t
    · split
      · exact abortNow_adjustments _
      · split
        · exact abortNow_adjustments _
        · split
          · exact abortNow_adjustments _
          · exact frameSent_adjustments _ _

theorem regenOctets_length (n adj : Nat) (t : TxSlot) : (regenOctets n adj t).1.length = n := by
  induction n generalizing adj t with
  | zero => rfl
  | succ n ih =>
    unfold regenOctets
    dsimp only
    split
    · exact congrArg (· + 1) (ih _ _)
    · split
      · exact congrArg (· + 1) (ih _ _)
      · exact congrArg (· + 1) (ih _ _)

/-- `a` are the adjustments of `t`, with at most the one that `adj` asks for made. -/
def Adjusted (adj : Nat) (t : TxSlot) (a : W32 × W32) : Prop :=
  a = t.adjustments ∨ (adj = 1 ∧ a = (wrapAdd t.deleted 1, t.inserted)) ∨ (adj = 2 ∧ a = (t.deleted, wrapAdd t.inserted 1))

theorem adjusted_zero {t : TxSlot} {a : W32 × W32} (h : Adjusted 0 t a) : a = t.adjustments := by
  rcases h with same | ⟨made, -⟩ | ⟨made, -⟩
  · exact same
  · cases made
  · cases made

/-- What is adjusted depends on the counts alone. -/
theorem adjusted_congr {adj : Nat} {t u : TxSlot} {a : W32 × W32} (h : u.adjustments = t.adjustments) (hu : Adjusted adj u a) :
    Adjusted adj t a := by
  obtain ⟨deleted, inserted⟩ := Prod.mk.inj h
  unfold Adjusted at *
  rwa [h, deleted, inserted] at hu

theorem regenOctets_adjusted (n adj : Nat) (t : TxSlot) : Adjusted adj t (regenOctets n adj t).2.adjustments := by
  induction n generalizing adj t with
  | zero => exact Or.inl rfl
  | succ n ih =>
    unfold regenOctets
    dsimp only
    split
    next deletes => exact Or.inr (Or.inl ⟨deletes.1, (adjusted_zero (ih 0 _)).trans (throughOctet_adjustments _)⟩)
    next =>
      split
      next inserts => exact Or.inr (Or.inr ⟨inserts.1, adjusted_zero (ih 0 _)⟩)
      next => exact adjusted_congr (throughOctet_adjustments t) (ih adj _)

theorem regenAdj_deletes {fill : Nat} (h : regenAdj fill = 1) : 40 < fill := by
  unfold regenAdj at h
  split at h
  · assumption
  · split at h <;> cases h

theorem regenAdj_inserts {fill : Nat} (h : regenAdj fill = 2) : fill < 24 := by
  unfold regenAdj at h
  split at h
  · cases h
  · split at h
    · assumption
    · cases h

/-- The store as a block finds it: it starts at FILL 32 (R177). -/
def TxSlot.storeStarted (t : TxSlot) : TxSlot := { t with started := t.started || (decide (32 ≤ t.fill) && t.frameLeft == 0) }

/-- The adjustment that a block may make: none before the store has started. -/
def TxSlot.blockAdj (t : TxSlot) : Nat := if t.storeStarted.started then regenAdj t.fill else 0

theorem blockAdj_deletes {t : TxSlot} (h : t.blockAdj = 1) : 40 < t.fill := by
  unfold TxSlot.blockAdj at h
  split at h
  · exact regenAdj_deletes h
  · cases h

theorem blockAdj_inserts {t : TxSlot} (h : t.blockAdj = 2) : t.fill < 24 := by
  unfold TxSlot.blockAdj at h
  split at h
  · exact regenAdj_inserts h
  · cases h

theorem regenBlock_eq (t : TxSlot) : regenBlock t =
    { (regenOctets 32 t.blockAdj t.storeStarted).2 with block := (regenOctets 32 t.blockAdj t.storeStarted).1 } := rfl

theorem regenBlock_block_length (t : TxSlot) : (regenBlock t).block.length = 32 := by
  rw [regenBlock_eq]
  exact regenOctets_length 32 _ _

theorem regenBlock_adjusted (t : TxSlot) : Adjusted t.blockAdj t (regenBlock t).adjustments := by
  rw [regenBlock_eq]
  exact adjusted_congr (u := t.storeStarted) rfl (regenOctets_adjusted 32 _ _)

/-- A block deletes only above FILL 40 and inserts only below FILL 24, and never both (R177). -/
theorem regenBlock_adjusts (t : TxSlot) : ((regenBlock t).deleted = t.deleted ∧ (regenBlock t).inserted = t.inserted)
    ∨ ((regenBlock t).deleted = wrapAdd t.deleted 1 ∧ (regenBlock t).inserted = t.inserted ∧ 40 < t.fill)
    ∨ ((regenBlock t).deleted = t.deleted ∧ (regenBlock t).inserted = wrapAdd t.inserted 1 ∧ t.fill < 24) := by
  rcases regenBlock_adjusted t with same | ⟨adj, made⟩ | ⟨adj, made⟩
  · exact Or.inl (Prod.mk.inj same)
  · obtain ⟨deleted, inserted⟩ := Prod.mk.inj made
    exact Or.inr (Or.inl ⟨deleted, inserted, blockAdj_deletes adj⟩)
  · obtain ⟨deleted, inserted⟩ := Prod.mk.inj made
    exact Or.inr (Or.inr ⟨deleted, inserted, blockAdj_inserts adj⟩)

theorem exec_regenBlockStart (slot : BitVec 10) (s : State) : exec (.regenBlockStart slot) s =
    eventIf (s.sendsBlock slot.toNat 3) (fun s =>
      countSource 0x21 slot.toNat ((regenBlock (s.txSlotAt slot.toNat)).deleted - (s.txSlotAt slot.toNat).deleted).toNat
        (countSource 0x20 slot.toNat ((regenBlock (s.txSlotAt slot.toNat)).inserted - (s.txSlotAt slot.toNat).inserted).toNat
          (blockSent slot.toNat (s.txSlotMod slot.toNat (fun _ => regenBlock (s.txSlotAt slot.toNat)))))) s := rfl

@[simp] theorem countSource_txSlotAt (src idx n k : Nat) (s : State) : (countSource src idx n s).txSlotAt k = s.txSlotAt k := by
  rw [State.txSlotAt, countSource_txSlot, State.txSlotAt]

/-- A lane that frames no data sends no block of its slots (R144). -/
theorem slotBlock_noData {s : State} {slot : BitVec 10} {kind : Nat} (hl : Live s) (hd : s.framesData (slot.toNat / 64) = false) :
    Completes (if kind = 2 then .addSlotBlock slot else .regenBlockStart slot) s s := by
  have stays (g : Bool) (f : State → State) (h : g = false) : eventIf g f s = .next s := by
    rw [eventIf, hl, h]
    rfl
  unfold Completes
  split
  · rw [exec_addSlotBlock, stays _ _ (sendsBlock_noData hd)]
  · rw [exec_regenBlockStart, stays _ _ (sendsBlock_noData hd)]

/-! ### A slip (R179) -/

theorem discardFrame_length (n : Nat) (l : List Octet) : (discardFrame n l).1.length ≤ l.length := by
  induction n generalizing l with
  | zero => exact Nat.le_refl _
  | succ n ih =>
    cases l with
    | nil => exact Nat.le_refl _
    | cons x r =>
      rw [discardFrame]
      split
      · exact Nat.le_succ _
      · exact Nat.le_trans (ih r) (Nat.le_succ _)

/-- A frame takes at least the octet it begins with. -/
theorem discardFrame_length_cons (n : Nat) (x : Octet) (r : List Octet) : (discardFrame (n + 1) (x :: r)).1.length ≤ r.length := by
  rw [discardFrame]
  split
  · exact Nat.le_refl _
  · exact discardFrame_length n r

/-- Where octets of a frame are still to come, the store is empty. -/
theorem discardFrame_short {n : Nat} {l : List Octet} (h : (discardFrame n l).2 ≠ 0) : (discardFrame n l).1 = [] := by
  induction n generalizing l with
  | zero => exact absurd rfl h
  | succ n ih =>
    cases l with
    | nil => rfl
    | cons x r =>
      rw [discardFrame] at h ⊢
      split
      next cut => rw [if_pos cut] at h; exact absurd rfl h
      next cut => rw [if_neg cut] at h; exact ih h

/-- With an octet discarded at least in each round, no more rounds than octets are needed. -/
theorem discardTo32_length (fuel : Nat) {l : List Octet} (h : l.length ≤ fuel) : (discardTo32 fuel l).1.length ≤ 32 := by
  induction fuel generalizing l with
  | zero => exact Nat.le_trans h (Nat.zero_le 32)
  | succ fuel ih =>
    unfold discardTo32
    split
    next small => exact small
    next large =>
      cases l with
      | nil => exact absurd (Nat.zero_le 32) large
      | cons x r =>
        have less : r.length ≤ fuel := Nat.le_of_succ_le_succ h
        split
        next n _ =>
          dsimp only
          split
          · rw [Nat.add_comm 3 n]
            exact ih (Nat.le_trans (discardFrame_length_cons (n + 2) x r) less)
          next short =>
            rw [discardFrame_short short]
            exact Nat.zero_le 32
        next => exact ih less

theorem fill32_store_length (t : TxSlot) : t.fill32.store.length = 32 := by
  have most := discardTo32_length t.store.length (Nat.le_refl _)
  simp only [TxSlot.fill32, List.length_append, List.length_replicate]
  omega

theorem slipSlot_slips (t : TxSlot) : (slipSlot t).slips = wrapAdd t.slips 1 := by
  unfold slipSlot
  dsimp only
  split <;> rfl

theorem slipSlot_sinceSlip (t : TxSlot) : (slipSlot t).sinceSlip = t.sinceSlip := by
  unfold slipSlot
  dsimp only
  split <;> rfl

/-- Between frames a slip sets the store to 32 octets at once. -/
theorem slipSlot_between {t : TxSlot} (h : t.frameLeft = 0) : (slipSlot t).store.length = 32 := by
  rw [slipSlot, if_pos h]
  exact fill32_store_length _

/-- A slip of slot `k` and its report, at most once in 1,024 multiframes. -/
def slipReported (k : Nat) (s : State) : State :=
  if 1024 ≤ ((s.txSlotMod k slipSlot).txSlotAt k).sinceSlip then
    raise 0x8604 (leN 2 k) ((s.txSlotMod k slipSlot).txSlotMod k (fun t => { t with sinceSlip := 0 }))
  else s.txSlotMod k slipSlot

theorem exec_regenSlip (slot : BitVec 10) (s : State) : exec (.regenSlip slot) s =
    eventIf (decide (entKind (s.slotEntry slot.toNat) = 3) && (s.txSlotAt slot.toNat).mustSlip) (slipReported slot.toNat) s := rfl

/-- The slot after a slip, but for the multiframes since the last report. -/
theorem slipReported_txSlotAt (k : Nat) (s : State) :
    ∃ n, (slipReported k s).txSlotAt k = { slipSlot (s.txSlotAt k) with sinceSlip := n } := by
  unfold slipReported
  split
  · exact ⟨0, by simp⟩
  · exact ⟨(slipSlot (s.txSlotAt k)).sinceSlip, s.txSlotAt_txSlotMod_self k slipSlot⟩

theorem slipReported_queued {k : Nat} {s : State} (h : 1024 ≤ (s.txSlotAt k).sinceSlip) (ht : TakesEvents s) :
    Queued 0x8604 (leN 2 k) (slipReported k s) := by
  rw [slipReported, if_pos (by rwa [State.txSlotAt_txSlotMod_self, slipSlot_sinceSlip])]
  exact raise_queued ht

theorem slipReported_only (k : Nat) (s : State) : { slipReported k s with txSlot := s.txSlot, mbx := s.mbx } = s := by
  unfold slipReported
  split
  · rw [raise_eq]
    rfl
  · rfl

/-- Settles O27: a block is 32 octets sent in a row, with at most one adjustment among them (`regenOctets_adjusted`); a slip
discards and fills until 32 octets are left (`discardTo32_length`). -/
theorem slotBlocks : Obligations.SlotBlocks := by
  refine ⟨?add, fun u => ⟨regenBlock_block_length u, regenBlock_adjusts u⟩, fun s slot kind hl hd _ => slotBlock_noData hl hd,
    ?through, ?slip⟩
  case add =>
    intro s slot hl hd hs hk hb
    apply exists_eventIf (exec_addSlotBlock slot s) hl (sendsBlock_of_entry hd hs hk hb)
    rw [blockSent_txSlotAt_self]
    refine ⟨?_, addBlock_block_length _, addBlock_idle, fun k => blockSent_txSlotAt_ne _ s, blockSent_only _ _ s⟩
    rw [TxSlot.blockPlaced, addBlock_blocks]
  case through =>
    intro s slot hl hd hs hk hb
    apply exists_eventIf (exec_regenBlockStart slot s) hl (sendsBlock_of_entry hd hs hk hb)
    simp only [countSource_txSlotAt]
    exact ⟨blockSent_txSlotAt_self _ _ s, fun k => blockSent_txSlotAt_ne _ s⟩
  case slip =>
    intro s slot hl hk hm
    obtain ⟨n, slipped⟩ := slipReported_txSlotAt slot.toNat s
    apply exists_eventIf (exec_regenSlip slot s) hl (by rw [hk, hm]; rfl)
    rw [slipped]
    exact ⟨slipSlot_slips _, slipSlot_between, slipReported_queued, slipReported_only _ s⟩

end Sys2Proof.Machine
end

section
/-! The checks of a commit (R151, R155): what an OK says of the copy that becomes PENDING. -/

namespace Sys2Proof.Machine

/-! ### Lists without repetition -/

theorem length_eraseDups_le {α : Type} [DecidableEq α] : ∀ l : List α, l.eraseDups.length ≤ l.length
  | [] => Nat.le_of_eq (congrArg List.length List.eraseDups_nil)
  | a :: l => by
    rw [List.eraseDups_cons]
    exact Nat.succ_le_succ (Nat.le_trans (length_eraseDups_le _) (List.length_filter_le _ l))
termination_by l => l.length
decreasing_by exact Nat.lt_succ_of_le (List.length_filter_le _ l)

/-- A list that loses nothing with its repetitions has none. -/
theorem nodup_of_length_eraseDups {α : Type} [DecidableEq α] {l : List α} (h : l.eraseDups.length = l.length) : l.Nodup := by
  induction l with
  | nil => exact List.nodup_nil
  | cons a l ih =>
    rw [List.eraseDups_cons, List.length_cons, List.length_cons, Nat.succ_inj] at h
    have erased := length_eraseDups_le (l.filter (fun b => !b == a))
    have kept := List.length_filter_le (fun b => !b == a) l
    have all := List.length_filter_eq_length_iff.mp (Nat.le_antisymm kept (h ▸ erased))
    rw [List.filter_eq_self.mpr all] at h
    have fresh : a ∉ l := fun mem => by simpa using all a mem
    exact List.nodup_cons.mpr ⟨fresh, ih h⟩

/-! ### What the checks say of the entries -/

section
variable {s : State} {c f n : Nat}

theorem calEntry_mem (h : n < 512) : s.calEntry c f n ∈ s.copyEntries c f := List.mem_map_of_mem (List.mem_range.mpr h)

/-- No bad crumb among the eight of a copy (R155 check 1). -/
theorem calCrumb_ok_of_badCalCrumbs (h : s.badCalCrumbs c f = []) {k : Nat} (hk : k < 8) : s.calMem.ok (calCrumb c f k) = true := by
  have good := List.filter_eq_nil_iff.mp h (calCrumb c f k) (List.mem_map_of_mem (List.mem_range.mpr hk))
  simpa using good

theorem entReserved_of_any (h : (s.copyEntries c f).any entReserved = false) (hn : n < 512) :
    entReserved (s.calEntry c f n) = false :=
  Bool.eq_false_iff.mpr (List.any_eq_false.mp h _ (calEntry_mem hn))

/-- THROUGH entries of which no two name one source are one entry where they name one source (R155 check 3). -/
theorem eq_of_entSource {m : Nat} (h : (((s.copyEntries c f).filter (fun e => entKind e == 3)).map entSource).Nodup) (hn : n < 512)
    (hm : m < 512) (kn : entKind (s.calEntry c f n) = 3) (km : entKind (s.calEntry c f m) = 3)
    (same : entSource (s.calEntry c f n) = entSource (s.calEntry c f m)) : n = m := by
  rw [List.Nodup, State.copyEntries, List.pairwise_map, List.pairwise_filter, List.pairwise_map] at h
  have apart {i j : Nat} (hij : i < j) (hj : j < 512) (ki : entKind (s.calEntry c f i) = 3) (kj : entKind (s.calEntry c f j) = 3) :
      entSource (s.calEntry c f i) ≠ entSource (s.calEntry c f j) := by
    have len : (List.range 512).length = 512 := List.length_range
    have pair := List.pairwise_iff_getElem.mp h i j (len.symm ▸ Nat.lt_trans hij hj) (len.symm ▸ hj) hij
    rw [List.getElem_range, List.getElem_range] at pair
    exact pair (beq_iff_eq.mpr ki) (beq_iff_eq.mpr kj)
  rcases Nat.lt_trichotomy n m with before | equal | after
  · exact absurd same (apart before hm kn km)
  · exact equal
  · exact absurd same.symm (apart after hn km kn)

/-- The client of an ADD entry is one of those that checks 4 and 5 of R155 go through. -/
theorem entClient_mem_adds (hn : n < 512) (kn : entKind (s.calEntry c f n) = 2) :
    entClient (s.calEntry c f n) ∈ (((s.copyEntries c f).filter (fun e => entKind e == 2)).map entClient).eraseDups :=
  List.mem_eraseDups.mpr (List.mem_map_of_mem (List.mem_filter.mpr ⟨calEntry_mem hn, beq_iff_eq.mpr kn⟩))

theorem otherFaceCount_eq (g k : Nat) : s.otherFaceCount g k =
    max (addCount k (s.copyEntries (s.faceAt g).active.toNat g))
      (if (s.faceAt g).pending = none then 0 else addCount k (s.copyEntries (otherCopy (s.faceAt g).active).toNat g)) := by
  unfold State.otherFaceCount
  dsimp only
  cases (s.faceAt g).pending with
  | none => simp
  | some b => simp

end

/-! ### The outcome of the checks -/

/-- The five checks of R155 hold of copy `c` of face `f`. -/
structure CommitPasses (s : State) (c f : Nat) : Prop where
  crumbs : ∀ k < 8, s.calMem.ok (calCrumb c f k) = true
  reserved : ∀ n < 512, entReserved (s.calEntry c f n) = false
  sources : ∀ n m, n < 512 → m < 512 → entKind (s.calEntry c f n) = 3 → entKind (s.calEntry c f m) = 3 →
    entSource (s.calEntry c f n) = entSource (s.calEntry c f m) → n = m
  active : ∀ n < 512, entKind (s.calEntry c f n) = 2 → cliActive (s.clientAt (entClient (s.calEntry c f n))).entry = true
  slots : ∀ n < 512, entKind (s.calEntry c f n) = 2 →
    addCount (entClient (s.calEntry c f n)) (s.copyEntries c f) + s.otherFaceCount (1 - f) (entClient (s.calEntry c f n)) ≤ 64

/-- A commit with no failed check passes all five. -/
theorem commitPasses_of_none {s : State} {f : Nat} (h : commitCheck f s = none) :
    CommitPasses s (otherCopy (s.faceAt f).active).toNat f := by
  unfold commitCheck at h
  dsimp only at h
  split at h
  · cases h
  next crumbs =>
    split at h
    · cases h
    next reserved =>
      split at h
      · cases h
      next sources =>
        split at h
        · cases h
        next active =>
          split at h
          · cases h
          next slots =>
            have distinct := nodup_of_length_eraseDups (Decidable.not_not.mp sources)
            refine ⟨fun k => calCrumb_ok_of_badCalCrumbs (by simpa using crumbs),
              fun n => entReserved_of_any (Bool.eq_false_iff.mpr reserved), fun n m => eq_of_entSource distinct,
              fun n hn kn => ?_, fun n hn kn => ?_⟩
            · have up := List.any_eq_false.mp (Bool.eq_false_iff.mpr active) _ (entClient_mem_adds hn kn)
              simpa using up
            · have few := List.any_eq_false.mp (Bool.eq_false_iff.mpr slots) _ (entClient_mem_adds hn kn)
              simpa using few

/-- A check that fails has a status of its own. -/
theorem commitCheck_ne_ok (f : Nat) (s : State) : commitCheck f s ≠ some .ok := by
  intro h
  unfold commitCheck at h
  dsimp only at h
  split at h
  · cases h
  · split at h
    · cases h
    · split at h
      · cases h
      · split at h
        · cases h
        · split at h <;> cases h

/-! ### CAL_COMMIT, case by case -/

section
variable {s : State} {face flags mfc : Byte}

/-- The multiframe that a commit of the face answers (R156). -/
def commitMf (f : Nat) (flags mfc : Byte) (s : State) : Nat :=
  switchAt (s.faceAt f).mf (if bitOf flags 0 then some mfc.toNat else none)

/-- What a commit that passes leaves: the copy is PENDING for its multiframe (R156). -/
def committed (f b : Nat) (s : State) : State := s.faceMod f (fun x => { x with pending := some b })

theorem calCommit_run_busy (hp : (s.faceAt face.toNat).pending ≠ none) : (cmdCalCommit face flags mfc s).run () = deny .busy s :=
  if_pos (Option.isSome_iff_ne_none.mpr hp)

theorem calCommit_run_passes (hp : (s.faceAt face.toNat).pending = none) (hc : commitCheck face.toNat s = none) :
    (cmdCalCommit face flags mfc s).run () =
      okWith [u8 (commitMf face.toNat flags mfc s), u8 (otherCopy (s.faceAt face.toNat).active).toNat]
        (committed face.toNat (commitMf face.toNat flags mfc s) s) := by
  unfold cmdCalCommit
  dsimp only
  rw [hp, hc]
  rfl

/-- The crumbs that a failed commit rejects: the bad ones, where they are why it fails (R22). -/
def rejectedBy (st : Status) (f : Nat) (s : State) : List Nat :=
  if st = .crumb then s.badCalCrumbs (otherCopy (s.faceAt f).active).toNat f else []

theorem calCommit_run_fails {st : Status} (hp : (s.faceAt face.toNat).pending = none) (hc : commitCheck face.toNat s = some st) :
    (cmdCalCommit face flags mfc s).run () = deny st (raise 0x8502 [face, st.code]
      (forEach (rejectedBy st face.toNat s) (fun i t => crumbError 1 face.toNat i { t with calMem := t.calMem.reject i }) s)) := by
  unfold cmdCalCommit
  dsimp only
  rw [hp, hc]
  rfl

/-- A commit that answers OK found no switch pending and no check failed. -/
theorem calCommit_run_ok (h : ((cmdCalCommit face flags mfc s).run ()).2.1 = .ok) :
    (s.faceAt face.toNat).pending = none ∧ commitCheck face.toNat s = none := by
  by_cases hp : (s.faceAt face.toNat).pending = none
  · cases hc : commitCheck face.toNat s with
    | none => exact ⟨hp, rfl⟩
    | some st =>
      rw [calCommit_run_fails hp hc] at h
      have failed : st = .ok := h
      exact absurd (failed ▸ hc) (commitCheck_ne_ok _ s)
  · rw [calCommit_run_busy hp] at h
    cases h

end

/-! ### A command that answers OK -/

theorem Status.eq_ok_of_code {st : Status} (h : st.code = Status.ok.code) : st = .ok := by
  cases st with
  | ok => rfl
  | _ => exact absurd h (by decide)

/-- A command of good form that answers OK was let through by every check of R404. -/
theorem reply_of_ok {op : Nat} {k : Cmd} {s : State} (hf : k.form = none) (h : (k.reply op s).2.1 = .ok) :
    k.reply op s = k.run () := by
  unfold Cmd.reply at *
  rw [hf] at *
  dsimp only at *
  split at h
  · cases h
  next ready =>
    split at h
    · cases h
    next range => rw [if_neg ready, if_neg range]

/-- A Parax command without a transfer that completes with OK leaves what its run leaves. -/
theorem ran_of_completes_ok {c : Instr} {op : Nat} {s t : State} {k : State → Cmd} (hx : exec c s = parax op k s)
    (hm : s.mcpRuns = true) (hw : (k s).waits = false) (hf : (k s).form = none) (done : Completes c s t)
    (hst : t.resp.status = Status.ok.code) : t = Reply.record op ((k s).run ()) ∧ ((k s).run ()).2.1 = .ok := by
  have answered : (k s).execute op s = Reply.record op ((k s).reply op s) := by
    rw [Cmd.execute, Cmd.pends, hw]
    rfl
  unfold Completes at done
  rw [hx, parax, if_pos hm, answered] at done
  injection done with left
  subst left
  have ok : ((k s).reply op s).2.1 = .ok := Status.eq_ok_of_code hst
  have ran := reply_of_ok hf ok
  exact ⟨congrArg (Reply.record op) ran, ran ▸ ok⟩

/-- Settles O23: CAL_COMMIT answers OK on its one way past `commitCheck`, and no failed check is all five passed
(`commitPasses_of_none`). -/
theorem commitChecks : Obligations.CommitChecks := by
  intro s t face flags mfc hf hm done hst
  obtain ⟨left, ok⟩ := ran_of_completes_ok (k := cmdCalCommit face flags mfc) rfl hm rfl rfl done hst
  obtain ⟨hp, hc⟩ := calCommit_run_ok ok
  rw [calCommit_run_passes hp hc] at left
  have after : t.faceAt face.toNat = { s.faceAt face.toNat with pending := some (commitMf face.toNat flags mfc s) } := by
    rw [left]
    exact s.faceAt_faceMod_self face.toNat (fun x => { x with pending := some (commitMf face.toNat flags mfc s) })
  obtain ⟨crumbs, reserved, sources, active, slots⟩ := commitPasses_of_none hc
  dsimp only
  refine ⟨hp, by rw [after]; exact Option.some_ne_none _, by rw [after], crumbs, reserved, sources, fun n hn kn => ⟨active n hn kn, ?_⟩⟩
  rw [← otherFaceCount_eq]
  exact slots n hn kn

end Sys2Proof.Machine
end

section
/-! The multiframe of a commit, the switch of a face and the end of a join guard (R155, R156, R159, R168). -/

namespace Sys2Proof.Machine

/-! ### The switch multiframe (R156) -/

/-- With AT_MFC the switch is at the first multiframe with that count that starts no earlier than m + 3. -/
theorem switchAt_least (m : Nat) {x : Nat} (hx : x < 256) : m + 3 ≤ switchAt m (some x) ∧ switchAt m (some x) % 256 = x
    ∧ ∀ b, m + 3 ≤ b → b % 256 = x → switchAt m (some x) ≤ b := by
  unfold switchAt
  dsimp only
  refine ⟨Nat.le_add_right _ _, by omega, fun b hb hbx => by omega⟩

/-! ### CAL_COMMIT -/

section
variable {s : State} {face : Byte}

theorem calCommit_answers {mfc : Byte} (hf : face.toNat < 2) (hon : s.calOn face.toNat = true) (ht : Takes 0x0504 s)
    (hp : (s.faceAt face.toNat).pending = none) (hc : commitCheck face.toNat s = none) :
    Answers (.calCommit face 0 mfc) 0x0504 .ok
      [u8 ((s.faceAt face.toNat).mf + 3), u8 (otherCopy (s.faceAt face.toNat).active).toNat] s
      (committed face.toNat ((s.faceAt face.toNat).mf + 3) s) :=
  answers_of_run (k := cmdCalCommit face 0 mfc) rfl ht rfl rfl (calOn_mod hf hon)
    (Bool.and_eq_true_iff.mpr ⟨faceOk_of_lt hf, rfl⟩) (calCommit_run_passes hp hc)

theorem calCommit_refuses {mfc : Byte} {st : Status} (hf : face.toNat < 2) (hon : s.calOn face.toNat = true) (ht : Takes 0x0504 s)
    (hp : (s.faceAt face.toNat).pending = none) (hc : commitCheck face.toNat s = some st) (hst : st ≠ .crumb) :
    Answers (.calCommit face 0 mfc) 0x0504 st [] s (raise 0x8502 [face, st.code] s) := by
  refine answers_of_run (k := cmdCalCommit face 0 mfc) rfl ht rfl rfl (calOn_mod hf hon)
    (Bool.and_eq_true_iff.mpr ⟨faceOk_of_lt hf, rfl⟩) ?_
  rw [calCommit_run_fails hp hc, rejectedBy, if_neg hst]
  rfl

end

/-! ### What slots that change source move -/

/-- The state with its clients and its mailbox replaced. -/
def withClients (c : Tab Client) (m : Mbx) (s : State) : State := { s with client := c, mbx := m }

theorem withClients_raise (c : Tab Client) (m : Mbx) (op : Nat) (p : Bytes) (s : State) :
    withClients c m (raise op p s) = withClients c m s := by
  rw [raise_eq]
  rfl

theorem withClients_refreshClient (c : Tab Client) (m : Mbx) (k : Nat) (s : State) :
    withClients c m (refreshClient k s) = withClients c m s := by
  unfold refreshClient
  dsimp only
  split
  · rfl
  · rw [withClients_raise]
    rfl

/-- The state with its transmit slots, clients, framers and mailbox cleared: what is left when slots change source. -/
def clearedOfSlots (s : State) : State := { withClients [] {} s with txSlot := [], framer := [] }

theorem clearedOfSlots_congr {s t : State} (h : withClients [] {} t = withClients [] {} s) : clearedOfSlots t = clearedOfSlots s :=
  congrArg (fun x : State => { x with txSlot := [], framer := [] }) h

theorem clearedOfSlots_txSlotMod (k : Nat) (f : TxSlot → TxSlot) (s : State) : clearedOfSlots (s.txSlotMod k f) = clearedOfSlots s := rfl
theorem clearedOfSlots_clientMod (k : Nat) (f : Client → Client) (s : State) : clearedOfSlots (s.clientMod k f) = clearedOfSlots s := rfl
theorem clearedOfSlots_framerMod (l : Nat) (f : Framer → Framer) (s : State) : clearedOfSlots (s.framerMod l f) = clearedOfSlots s := rfl
theorem clearedOfSlots_faceAt (s : State) (f : Nat) : (clearedOfSlots s).faceAt f = s.faceAt f := rfl
theorem clearedOfSlots_maskAt (s : State) (l : Nat) : (clearedOfSlots s).maskAt l = s.maskAt l := rfl
theorem clearedOfSlots_calMem (s : State) : (clearedOfSlots s).calMem = s.calMem := rfl

theorem clearedOfSlots_slotEnd (k : Nat) (e0 e1 : W32) (s : State) : clearedOfSlots (slotEnd k e0 e1 s) = clearedOfSlots s := by
  unfold slotEnd
  split
  · rw [flushQueue, clearedOfSlots_clientMod, clearedOfSlots_txSlotMod]
  · split
    · rw [clearedOfSlots_txSlotMod]
    · rfl

theorem clearedOfSlots_slotChange (k : Nat) (e0 e1 : W32) (s : State) : clearedOfSlots (slotChange k e0 e1 s) = clearedOfSlots s := by
  unfold slotChange
  dsimp only
  split
  · rfl
  · split
    · rw [clearedOfSlots_txSlotMod, clearedOfSlots_txSlotMod, clearedOfSlots_slotEnd]
    · split
      · rw [clearedOfSlots_txSlotMod, clearedOfSlots_txSlotMod, clearedOfSlots_slotEnd]
      · rw [clearedOfSlots_txSlotMod, clearedOfSlots_slotEnd]

/-- Slots that change source move slots, clients, framers and the mailbox alone. -/
theorem clearedOfSlots_resource (s0 : State) (ls : List Nat) (s : State) : clearedOfSlots (resource s0 ls s) = clearedOfSlots s := by
  unfold resource
  dsimp only
  rw [forEach_same (g := clearedOfSlots) (fun c t => clearedOfSlots_congr (withClients_refreshClient _ _ c t)),
    forEach_same (g := clearedOfSlots) (fun l t => clearedOfSlots_framerMod l _ t),
    forEach_same (g := clearedOfSlots) (fun _ _ => clearedOfSlots_slotChange _ _ _ _)]

/-! ### The masks at a switch (R159) -/

/-- The mask of a lane at a switch. -/
def maskSwitched (l : Nat) (s : State) : State := s.maskMod l (maskAfterSwitch s l)

theorem maskSwitched_maskAt_ne {l k : Nat} (s : State) (h : k ≠ l) : (maskSwitched l s).maskAt k = s.maskAt k :=
  s.maskAt_maskMod_ne _ h

/-- A mask changed leaves what other masks change to. -/
theorem maskAfterSwitch_maskSwitched (l k : Nat) (s : State) : maskAfterSwitch (maskSwitched l s) k = maskAfterSwitch s k := rfl

/-- The masks of a list of lanes at a switch. -/
def masksSwitched (ls : List Nat) (s : State) : State := forEach ls maskSwitched s

theorem masksSwitched_face (ls : List Nat) (s : State) : (masksSwitched ls s).face = s.face :=
  forEach_same (f := maskSwitched) (g := State.face) (fun _ _ => rfl) ls s

theorem masksSwitched_calMem (ls : List Nat) (s : State) : (masksSwitched ls s).calMem = s.calMem :=
  forEach_same (f := maskSwitched) (g := State.calMem) (fun _ _ => rfl) ls s

theorem masksSwitched_maskAt_ne {ls : List Nat} {l : Nat} (s : State) (h : l ∉ ls) : (masksSwitched ls s).maskAt l = s.maskAt l := by
  induction ls generalizing s with
  | nil => rfl
  | cons a ls ih =>
    exact (ih _ (List.not_mem_of_not_mem_cons h)).trans (maskSwitched_maskAt_ne s (List.ne_of_not_mem_cons h))

theorem masksSwitched_maskAt {ls : List Nat} {l : Nat} (s : State) (hd : ls.Nodup) (h : l ∈ ls) :
    (masksSwitched ls s).maskAt l = maskAfterSwitch s l (s.maskAt l) := by
  induction ls generalizing s with
  | nil => cases h
  | cons a ls ih =>
    obtain ⟨fresh, rest⟩ := List.nodup_cons.mp hd
    rcases List.mem_cons.mp h with rfl | later
    · exact (masksSwitched_maskAt_ne _ fresh).trans (s.maskAt_maskMod_self _ _)
    · have ne : l ≠ a := fun e => fresh (e ▸ later)
      refine (ih _ rest later).trans ?_
      rw [maskSwitched_maskAt_ne s ne, maskAfterSwitch_maskSwitched]

theorem lanesOf_nodup (f : Nat) : (lanesOf f).Nodup :=
  List.Pairwise.map (8 * f + ·) (fun _ _ ne same => ne (Nat.add_left_cancel same)) List.nodup_range

theorem mem_lanesOf {f l : Nat} : l ∈ lanesOf f ↔ l / 8 = f := by
  simp only [lanesOf, List.mem_map, List.mem_range]
  constructor
  · rintro ⟨k, hk, rfl⟩
    omega
  · exact fun h => ⟨l % 8, by omega, by omega⟩

/-- LANE_DOWN clears exactly on lanes in DATA. -/
theorem maskAfterSwitch_down (s : State) (l : Nat) (m : LaneMask) :
    (maskAfterSwitch s l m).down = if (s.txAt l).st = .data then 0 else m.down := by
  simp [maskAfterSwitch, LaneMask.afterSwitch]

/-! ### The switch (R156) -/

/-- A face whose PENDING copy becomes ACTIVE. -/
def Face.switched (x : Face) : Face :=
  { x with active := otherCopy x.active, pending := none, switches := x.switches + 1, crumbFail := 0 }

/-- The state at a switch before its slots act on it. -/
def copySwitched (f : Nat) (s : State) : State := (masksSwitched (lanesOf f) s).faceMod f Face.switched

theorem calSwitch_eq (f : Nat) (s : State) : calSwitch f s =
    raise 0x8501 [u8 f, u8 (s.faceAt f).mf, u8 (otherCopy (s.faceAt f).active).toNat] (resource s (lanesOf f) (copySwitched f s)) := rfl

theorem clearedOfSlots_calSwitch (f : Nat) (s : State) : clearedOfSlots (calSwitch f s) = clearedOfSlots (copySwitched f s) := by
  rw [calSwitch_eq, clearedOfSlots_congr (withClients_raise _ _ _ _ _), clearedOfSlots_resource]

theorem calSwitch_faceAt (f : Nat) (s : State) : (calSwitch f s).faceAt f = (s.faceAt f).switched := by
  rw [← clearedOfSlots_faceAt, clearedOfSlots_calSwitch, clearedOfSlots_faceAt, copySwitched, State.faceAt_faceMod_self,
    State.faceAt, masksSwitched_face, State.faceAt]

theorem calSwitch_calMem (f : Nat) (s : State) : (calSwitch f s).calMem = s.calMem := by
  rw [← clearedOfSlots_calMem, clearedOfSlots_calSwitch, clearedOfSlots_calMem, copySwitched, State.faceMod_calMem,
    masksSwitched_calMem]

theorem calSwitch_maskAt (f l : Nat) (s : State) : (calSwitch f s).maskAt l = (masksSwitched (lanesOf f) s).maskAt l := by
  rw [← clearedOfSlots_maskAt, clearedOfSlots_calSwitch, clearedOfSlots_maskAt, copySwitched, State.maskAt_faceMod]

theorem calSwitch_down {f l : Nat} (s : State) (h : l / 8 = f) :
    ((calSwitch f s).maskAt l).down = if (s.txAt l).st = .data then 0 else (s.maskAt l).down := by
  rw [calSwitch_maskAt, masksSwitched_maskAt s (lanesOf_nodup f) (mem_lanesOf.mpr h), maskAfterSwitch_down]

theorem calSwitch_maskAt_ne {f l : Nat} (s : State) (h : l / 8 ≠ f) : (calSwitch f s).maskAt l = s.maskAt l := by
  rw [calSwitch_maskAt, masksSwitched_maskAt_ne s (fun m => h (mem_lanesOf.mp m))]

theorem exists_calendarSwitch {s : State} {face : BitVec 1} {b : Nat} {P : State → Prop} (hl : Live s)
    (hon : s.calOn face.toNat = true) (hp : (s.faceAt face.toNat).pending = some b) (hb : b ≤ (s.faceAt face.toNat).mf)
    (hP : P (calSwitch face.toNat s)) : ∃ t, Completes (.calendarSwitch face) s t ∧ P t := by
  refine exists_eventIf rfl hl ?_ hP
  rw [hon, hp, Bool.true_and]
  exact decide_eq_true hb

/-! ### The end of a join guard (R168) -/

/-- A slot joins no longer. -/
def slotJoined (k : Nat) (s : State) : State := s.txSlotMod k (fun x => { x with joinEnd := none })

/-- The slots of a list join no longer. -/
def joinEnded (ks : List Nat) (s : State) : State := forEach ks slotJoined s

theorem joinEnded_only (ks : List Nat) (s : State) (x : Tab TxSlot) : { joinEnded ks s with txSlot := x } = { s with txSlot := x } :=
  forEach_same (f := slotJoined) (g := fun t : State => { t with txSlot := x }) (fun _ _ => rfl) ks s

theorem joinEnded_txSlotAt_ne {ks : List Nat} {k : Nat} (s : State) (h : k ∉ ks) : (joinEnded ks s).txSlotAt k = s.txSlotAt k := by
  induction ks generalizing s with
  | nil => rfl
  | cons a ks ih =>
    exact (ih _ (List.not_mem_of_not_mem_cons h)).trans (s.txSlotAt_txSlotMod_ne _ (List.ne_of_not_mem_cons h))

theorem joinEnded_joinEnd {ks : List Nat} {k : Nat} (s : State) (h : k ∈ ks) : ((joinEnded ks s).txSlotAt k).joinEnd = none := by
  induction ks generalizing s with
  | nil => cases h
  | cons a ks ih =>
    by_cases later : k ∈ ks
    · exact ih _ later
    · obtain rfl := (List.mem_cons.mp h).resolve_right later
      have first := joinEnded_txSlotAt_ne (slotJoined k s) later
      rw [slotJoined, State.txSlotAt_txSlotMod_self] at first
      exact congrArg TxSlot.joinEnd first

/-- What the end of a join guard leaves: the slots joined, CLIENT_SLOT_JOIN queued, and the client's state up to date. -/
def joinGuardEnded (f c : Nat) (s : State) : State :=
  refreshClient c (raise 0x8603 (leN 2 c ++ [u8 f, u8 (s.faceAt f).mf, u8 (s.joined f c).length]) (joinEnded (s.joined f c) s))

theorem withClients_joinGuardEnded (m : Mbx) (cs : Tab Client) (f c : Nat) (s : State) :
    withClients cs m (joinGuardEnded f c s) = withClients cs m (joinEnded (s.joined f c) s) := by
  rw [joinGuardEnded, withClients_refreshClient, withClients_raise]

theorem joinGuardEnded_txSlotAt (f c k : Nat) (s : State) :
    (joinGuardEnded f c s).txSlotAt k = (joinEnded (s.joined f c) s).txSlotAt k := by
  have same (t : State) : (withClients [] {} t).txSlotAt k = t.txSlotAt k := rfl
  rw [← same, withClients_joinGuardEnded, same]

theorem joinGuardEnded_only (f c : Nat) (s : State) :
    { joinGuardEnded f c s with txSlot := s.txSlot, client := s.client, mbx := s.mbx } = s := by
  have clients (t : State) : { t with txSlot := s.txSlot, client := s.client, mbx := s.mbx } =
      { withClients s.client s.mbx t with txSlot := s.txSlot } := rfl
  have slots (t : State) : { withClients s.client s.mbx t with txSlot := s.txSlot } =
      withClients s.client s.mbx { t with txSlot := s.txSlot } := rfl
  rw [clients, withClients_joinGuardEnded, slots, joinEnded_only]
  rfl

theorem exec_joinGuardEnd (face : BitVec 1) (client : BitVec 10) (s : State) : exec (.joinGuardEnd face client) s =
    eventIf (s.calOn face.toNat && !(s.joined face.toNat client.toNat).isEmpty)
      (fun t => refreshClient client.toNat (raise 0x8603 (leN 2 client.toNat ++ [u8 face.toNat, u8 (t.faceAt face.toNat).mf,
        u8 (s.joined face.toNat client.toNat).length]) (joinEnded (s.joined face.toNat client.toNat) t))) s := rfl

theorem exists_joinGuardEnd {s : State} {face : BitVec 1} {client : BitVec 10} {P : State → Prop} (hl : Live s)
    (hon : s.calOn face.toNat = true) (hj : s.joined face.toNat client.toNat ≠ [])
    (hP : P (joinGuardEnded face.toNat client.toNat s)) : ∃ t, Completes (.joinGuardEnd face client) s t ∧ P t := by
  refine exists_eventIf (exec_joinGuardEnd face client s) hl ?_ hP
  rw [hon, Bool.true_and, Bool.not_eq_true', List.isEmpty_eq_false_iff]
  exact hj

/-- Settles O24: a commit runs into its one outcome, the switch acts on the face and the masks before the slots
(`clearedOfSlots_calSwitch`), and a join guard's end acts on the slots that joined. -/
theorem commitAndSwitch : Obligations.CommitAndSwitch := by
  refine ⟨⟨fun m => rfl, fun m x => switchAt_least m⟩, ?_⟩
  intro s fb face f hfb hface hon
  have two : f < 2 := hfb ▸ fb.isLt
  refine ⟨?passes, ?fails, ?switch, ?join⟩
  case passes =>
    subst hface
    exact fun mfc ht hp hc => ⟨_, calCommit_answers two hon ht hp hc, s.faceAt_faceMod_self _ _, rfl⟩
  case fails =>
    subst hface
    exact fun mfc st ht hp hc hst => ⟨_, calCommit_refuses two hon ht hp hc hst, raise_only_mbx _ _ s, fun h => raise_queued h⟩
  case switch =>
    subst hfb
    intro b hl hp hb
    apply exists_calendarSwitch hl hon hp hb
    rw [calSwitch_faceAt]
    exact ⟨rfl, rfl, rfl, calSwitch_calMem _ s, fun l h data => by rw [calSwitch_down s h, if_pos data],
      fun l h idle => by rw [calSwitch_down s h, if_neg idle], fun l => calSwitch_maskAt_ne s⟩
  case join =>
    subst hfb
    intro client hl hj
    apply exists_joinGuardEnd hl hon hj
    simp only [joinGuardEnded_txSlotAt]
    exact ⟨fun k => joinEnded_joinEnd s, fun k => joinEnded_txSlotAt_ne s, joinGuardEnded_only _ _ s⟩

end Sys2Proof.Machine
end

section
/-! Receive routing: the entry of a slot and the route of the next multiframe (R161 to R163). -/

namespace Sys2Proof.Machine

/-! ### What a slot entry makes of a receive slot -/

/-- The receive map of a slot goes to HUNT (R174). -/
def RxSlot.hunting (r : RxSlot) : RxSlot := { r with sync := false, left := 0, hdr := [], held := [] }

/-- The slot is routed by `code`; a change of route hunts (R174). -/
def RxSlot.rerouted (code : W16) (r : RxSlot) : RxSlot := if r.route = code then r else { r with route := code }.hunting

/-- One more multiframe has gone by since the last CAL_ROUTE_DISAGREE. -/
def RxSlot.aged (r : RxSlot) : RxSlot := { r with sinceEv := min 1024 (r.sinceEv + 1) }

/-- A disagreement counts and hunts; `sinceEv` starts again when it is reported (R163). -/
def RxSlot.disagreed (r : RxSlot) : RxSlot :=
  let h := { r with disagree := wrapAdd r.disagree 1 }.hunting
  if 1024 ≤ h.sinceEv then { h with sinceEv := 0 } else h

/-- The code that a valid entry gives for the multiframe it came in is the one that routed it, or none has (R142, R163). -/
def RxSlot.agrees (e : Bytes) (r : RxSlot) : Bool := decide (w16Be e 0 = r.route) || !r.routed

/-- A valid entry: NXT2 is kept, and ACT compared (R161, R163). -/
def RxSlot.entryKept (e : Bytes) (r : RxSlot) : RxSlot :=
  let k := { r.aged with nxt2 := some (w16Be e 4) }
  if r.agrees e then k else k.disagreed

/-- The code that routes the next multiframe when the entry is invalid (R161). -/
def RxSlot.fallback (r : RxSlot) : W16 := r.nxt2.getD (if r.routed then r.route else 0)

section
variable (r : RxSlot) (code : W16)

theorem rerouted_route : (r.rerouted code).route = code := by
  unfold RxSlot.rerouted
  split
  · assumption
  · rfl

theorem rerouted_nxt2 : (r.rerouted code).nxt2 = r.nxt2 := by
  unfold RxSlot.rerouted
  split <;> rfl

theorem rerouted_disagree : (r.rerouted code).disagree = r.disagree := by
  unfold RxSlot.rerouted
  split <;> rfl

theorem rerouted_sync (h : r.sync = false) : (r.rerouted code).sync = false := by
  unfold RxSlot.rerouted
  split
  · exact h
  · rfl

theorem disagreed_nxt2 : r.disagreed.nxt2 = r.nxt2 := by
  unfold RxSlot.disagreed
  dsimp only
  split <;> rfl

theorem disagreed_disagree : r.disagreed.disagree = wrapAdd r.disagree 1 := by
  unfold RxSlot.disagreed
  dsimp only
  split <;> rfl

theorem disagreed_sync : r.disagreed.sync = false := by
  unfold RxSlot.disagreed
  dsimp only
  split <;> rfl

end

theorem entryKept_nxt2 (e : Bytes) (r : RxSlot) : (r.entryKept e).nxt2 = some (w16Be e 4) := by
  unfold RxSlot.entryKept
  dsimp only
  split
  · rfl
  · exact disagreed_nxt2 _

theorem entryKept_agrees {e : Bytes} {r : RxSlot} (h : w16Be e 0 = r.route ∨ r.routed = false) :
    (r.entryKept e).disagree = r.disagree := by
  rw [RxSlot.entryKept, if_pos (by simpa [RxSlot.agrees] using h)]
  rfl

theorem entryKept_disagrees {e : Bytes} {r : RxSlot} (ne : w16Be e 0 ≠ r.route) (h : r.routed = true) :
    (r.entryKept e).disagree = wrapAdd r.disagree 1 ∧ (r.entryKept e).sync = false := by
  rw [RxSlot.entryKept, if_neg (by simp [RxSlot.agrees, ne, h])]
  exact ⟨disagreed_disagree _, disagreed_sync _⟩

/-! ### The state, slot by slot -/

section
variable {k j : Nat} (s : State)

@[simp] theorem stopSource_rxSlotAt (k j : Nat) : (stopSource k s).rxSlotAt j = s.rxSlotAt j := by
  unfold stopSource
  split <;> rfl

@[simp] theorem startSource_rxSlotAt (k j : Nat) : (startSource k s).rxSlotAt j = s.rxSlotAt j := by
  unfold startSource
  split <;> rfl

@[simp] theorem hunt_rxSlotAt_self (k : Nat) : (hunt k s).rxSlotAt k = (s.rxSlotAt k).hunting := s.rxSlotAt_rxSlotMod_self k _

theorem hunt_rxSlotAt_ne (h : j ≠ k) : (hunt k s).rxSlotAt j = s.rxSlotAt j := s.rxSlotAt_rxSlotMod_ne _ h

theorem routeTo_rxSlotAt_self (k : Nat) (code : W16) : (routeTo k code s).rxSlotAt k = (s.rxSlotAt k).rerouted code := by
  unfold routeTo RxSlot.rerouted
  split
  · rfl
  · simp

theorem routeTo_rxSlotAt_ne (code : W16) (h : j ≠ k) : (routeTo k code s).rxSlotAt j = s.rxSlotAt j := by
  unfold routeTo
  split
  · rfl
  · rw [hunt_rxSlotAt_ne _ h, State.rxSlotAt_rxSlotMod_ne _ _ h, stopSource_rxSlotAt]

/-- A disagreement, and its report at most once in 1,024 multiframes (R163). -/
def disagreedAt (k : Nat) (s : State) : State :=
  let h := hunt k ((stopSource k s).rxSlotMod k (fun r => { r with disagree := wrapAdd r.disagree 1 }))
  if 1024 ≤ (h.rxSlotAt k).sinceEv then raise 0x8504 (leN 2 k) (h.rxSlotMod k (fun r => { r with sinceEv := 0 })) else h

theorem disagreedAt_rxSlotAt_self (k : Nat) : (disagreedAt k s).rxSlotAt k = (s.rxSlotAt k).disagreed := by
  have hunted : (hunt k ((stopSource k s).rxSlotMod k (fun r => { r with disagree := wrapAdd r.disagree 1 }))).rxSlotAt k =
      { s.rxSlotAt k with disagree := wrapAdd (s.rxSlotAt k).disagree 1 }.hunting := by simp
  unfold disagreedAt RxSlot.disagreed
  dsimp only
  rw [hunted]
  split
  · rw [State.rxSlotAt_raise, State.rxSlotAt_rxSlotMod_self, hunted]
  · exact hunted

theorem disagreedAt_rxSlotAt_ne (h : j ≠ k) : (disagreedAt k s).rxSlotAt j = s.rxSlotAt j := by
  unfold disagreedAt
  dsimp only
  split
  · rw [State.rxSlotAt_raise, State.rxSlotAt_rxSlotMod_ne _ _ h, hunt_rxSlotAt_ne _ h, State.rxSlotAt_rxSlotMod_ne _ _ h,
      stopSource_rxSlotAt]
  · rw [hunt_rxSlotAt_ne _ h, State.rxSlotAt_rxSlotMod_ne _ _ h, stopSource_rxSlotAt]

/-- The state after a valid entry has been kept: NXT2 and SLOT_FE (R135, R161). -/
def entryNoted (k : Nat) (e : Bytes) (s : State) : State :=
  ((s.rxSlotMod k RxSlot.aged).framerMod (laneOfSlot k)
    (fun f => { f with slotFe := Tab.set 0 f.slotFe (k % 64) (byteAt e 6) })).rxSlotMod k (fun r => { r with nxt2 := some (w16Be e 4) })

theorem entryNoted_rxSlotAt_self (k : Nat) (e : Bytes) :
    (entryNoted k e s).rxSlotAt k = { (s.rxSlotAt k).aged with nxt2 := some (w16Be e 4) } := by simp [entryNoted]

theorem entryNoted_rxSlotAt_ne (e : Bytes) (h : j ≠ k) : (entryNoted k e s).rxSlotAt j = s.rxSlotAt j := by simp [entryNoted, h]

theorem slotRoute_valid (k : Nat) (e : Bytes) : slotRoute k e true s =
    routeTo k (w16Be e 2) (if (s.rxSlotAt k).agrees e then entryNoted k e s else disagreedAt k (entryNoted k e s)) := rfl

theorem slotRoute_valid_rxSlotAt_self (k : Nat) (e : Bytes) :
    (slotRoute k e true s).rxSlotAt k = ((s.rxSlotAt k).entryKept e).rerouted (w16Be e 2) := by
  rw [slotRoute_valid, routeTo_rxSlotAt_self]
  congr 1
  unfold RxSlot.entryKept
  dsimp only
  split
  · exact entryNoted_rxSlotAt_self s k e
  · rw [disagreedAt_rxSlotAt_self, entryNoted_rxSlotAt_self]

theorem slotRoute_valid_rxSlotAt_ne (e : Bytes) (h : j ≠ k) : (slotRoute k e true s).rxSlotAt j = s.rxSlotAt j := by
  rw [slotRoute_valid, routeTo_rxSlotAt_ne _ _ h]
  split
  · exact entryNoted_rxSlotAt_ne s e h
  · rw [disagreedAt_rxSlotAt_ne _ h, entryNoted_rxSlotAt_ne s e h]

/-- The state after an invalid entry: no NXT2 is kept, and the failure counts (R138, R161). -/
def entryLost (k : Nat) (s : State) : State :=
  (fecCount (laneOfSlot k) (fun c => { c with ohFail := wrapAdd c.ohFail 1 }) (s.rxSlotMod k RxSlot.aged)).rxSlotMod k
    (fun r => { r with nxt2 := none })

theorem entryLost_rxSlotAt_self (k : Nat) : (entryLost k s).rxSlotAt k = { (s.rxSlotAt k).aged with nxt2 := none } := by
  simp [entryLost, fecCount]

theorem slotRoute_invalid (k : Nat) (e : Bytes) : slotRoute k e false s = routeTo k (s.rxSlotAt k).fallback (entryLost k s) := rfl

theorem slotRoute_invalid_rxSlotAt_self (k : Nat) (e : Bytes) : (slotRoute k e false s).rxSlotAt k =
    { (s.rxSlotAt k).aged with nxt2 := none }.rerouted (s.rxSlotAt k).fallback := by
  rw [slotRoute_invalid, routeTo_rxSlotAt_self, entryLost_rxSlotAt_self]

/-! ### The mismatch (R162) -/

/-- The state with its slots and its mailbox cleared: what is left when a mismatch is evaluated. -/
def clearedOfMaps (s : State) : State := { s with rxSlot := [], txSlot := [], mbx := {} }

theorem clearedOfMaps_rxSlotMod (k : Nat) (f : RxSlot → RxSlot) : clearedOfMaps (s.rxSlotMod k f) = clearedOfMaps s := rfl
theorem clearedOfMaps_raise (op : Nat) (p : Bytes) : clearedOfMaps (raise op p s) = clearedOfMaps s := by rw [raise_eq]; rfl

theorem clearedOfMaps_startSource (k : Nat) : clearedOfMaps (startSource k s) = clearedOfMaps s := by
  unfold startSource
  split <;> rfl

theorem clearedOfMaps_stopSource (k : Nat) : clearedOfMaps (stopSource k s) = clearedOfMaps s := by
  unfold stopSource
  split <;> rfl

theorem clearedOfMaps_evalMismatch (k : Nat) : clearedOfMaps (evalMismatch k s) = clearedOfMaps s := by
  unfold evalMismatch
  dsimp only
  split
  · rfl
  · split
    · rw [clearedOfMaps_raise, clearedOfMaps_rxSlotMod, clearedOfMaps_stopSource]
    · rw [clearedOfMaps_rxSlotMod, clearedOfMaps_startSource]

/-- A mismatch looks at the route of its slot, the calendar, the clients and the lane. -/
theorem cidMismatch_congr {s t : State} (h : clearedOfMaps t = clearedOfMaps s) (route : (t.rxSlotAt k).route = (s.rxSlotAt k).route) :
    t.cidMismatch k = s.cidMismatch k := by
  have read {β : Type} (g : State → β) (clear : ∀ u, g (clearedOfMaps u) = g u) : g t = g s := by rw [← clear t, h, clear s]
  have lane : t.rxS = s.rxS := read State.rxS (fun _ => rfl)
  have through : t.throughOf = s.throughOf := read State.throughOf (fun _ => rfl)
  have entry : t.activeEntry = s.activeEntry := read State.activeEntry (fun _ => rfl)
  have drop : t.dropLive = s.dropLive := read State.dropLive (fun _ => rfl)
  unfold State.cidMismatch
  rw [route, lane, through, entry, drop]

theorem evalMismatch_rxSlotAt_self (k : Nat) : (evalMismatch k s).rxSlotAt k = { s.rxSlotAt k with mismatch := s.cidMismatch k } := by
  unfold evalMismatch
  dsimp only
  split
  next same => rw [same]
  next => split <;> simp

theorem evalMismatch_rxSlotAt_ne (h : j ≠ k) : (evalMismatch k s).rxSlotAt j = s.rxSlotAt j := by
  unfold evalMismatch
  dsimp only
  split
  · rfl
  · split <;> simp [h]

theorem evalMismatch_cidMismatch (k : Nat) : (evalMismatch k s).cidMismatch k = s.cidMismatch k := by
  have route : ((evalMismatch k s).rxSlotAt k).route = (s.rxSlotAt k).route := by rw [evalMismatch_rxSlotAt_self]
  exact cidMismatch_congr (clearedOfMaps_evalMismatch s k) route

/-! ### RECEIVE_SLOT_ROUTE -/

/-- What a slot entry leaves: the slot routed, and its mismatch up to date. -/
def slotRouted (k : Nat) (e : Bytes) (valid : Bool) (s : State) : State :=
  evalMismatch k ((slotRoute k e valid s).rxSlotMod k (fun r => { r with routed := true }))

theorem slotRouted_rxSlotAt_self (k : Nat) (e : Bytes) (valid : Bool) : (slotRouted k e valid s).rxSlotAt k =
    { (slotRoute k e valid s).rxSlotAt k with routed := true, mismatch := (slotRouted k e valid s).cidMismatch k } := by
  rw [slotRouted, evalMismatch_cidMismatch, evalMismatch_rxSlotAt_self, State.rxSlotAt_rxSlotMod_self]

theorem slotRouted_valid_rxSlotAt_ne (e : Bytes) (h : j ≠ k) : (slotRouted k e true s).rxSlotAt j = s.rxSlotAt j := by
  rw [slotRouted, evalMismatch_rxSlotAt_ne _ h, State.rxSlotAt_rxSlotMod_ne _ _ h, slotRoute_valid_rxSlotAt_ne _ _ h]

end

theorem exec_receiveSlotRoute (slot : BitVec 10) (e : Bytes) (good : Bool) (s : State) : exec (.receiveSlotRoute slot e good) s =
    eventIf (s.rxOn (slot.toNat / 64) && (s.framerAt (slot.toNat / 64)).lock)
      (slotRouted slot.toNat e (entryValid (slot.toNat % 64) e good)) s := rfl

theorem entryValid_badCodeword (k : Nat) (e : Bytes) : entryValid k e false = false := rfl

theorem exists_receiveSlotRoute {s : State} {slot : BitVec 10} {e : Bytes} {good : Bool} {P : State → Prop} (hl : Live s)
    (hon : s.rxOn (slot.toNat / 64) = true) (hlock : (s.framerAt (slot.toNat / 64)).lock = true)
    (hP : P (slotRouted slot.toNat e (entryValid (slot.toNat % 64) e good) s)) :
    ∃ t, Completes (.receiveSlotRoute slot e good) s t ∧ P t :=
  exists_eventIf (exec_receiveSlotRoute slot e good s) hl (Bool.and_eq_true_iff.mpr ⟨hon, hlock⟩) hP

/-- Settles O25: a valid entry is kept and reroutes, an invalid one falls back to the NXT2 kept (`slotRoute_valid_rxSlotAt_self`,
`slotRoute_invalid_rxSlotAt_self`); the mismatch is evaluated after either. -/
theorem receiveRouting : Obligations.ReceiveRouting := by
  intro s slot e hl hon hlock
  refine ⟨fun valid => ?valid, ?invalid⟩
  case valid =>
    apply exists_receiveSlotRoute hl hon hlock
    rw [valid]
    have after := slotRouted_rxSlotAt_self s slot.toNat e true
    rw [slotRoute_valid_rxSlotAt_self] at after
    refine ⟨?_, ?_, ?_, ?_, fun ne routed => ?_, fun agrees => ?_, fun k => slotRouted_valid_rxSlotAt_ne s e⟩
    · rw [after]
      exact rerouted_route _ _
    · rw [after]
      exact (rerouted_nxt2 _ _).trans (entryKept_nxt2 e _)
    · exact congrArg RxSlot.mismatch after
    · rw [after]
    · obtain ⟨counted, hunts⟩ := entryKept_disagrees ne routed
      rw [after]
      exact ⟨(rerouted_disagree _ _).trans counted, rerouted_sync _ _ hunts⟩
    · rw [after]
      exact (rerouted_disagree _ _).trans (entryKept_agrees agrees)
  case invalid =>
    apply exists_receiveSlotRoute hl hon hlock
    rw [entryValid_badCodeword, slotRouted_rxSlotAt_self, slotRoute_invalid_rxSlotAt_self]
    exact ⟨rerouted_route _ _, rerouted_nxt2 _ _, rerouted_disagree _ _⟩

end Sys2Proof.Machine
end

section
/-! The states of a host port and the frames it passes (R216 to R219, R223, R224, R226, R228, R232). -/

namespace Sys2Proof.Machine

/-! ### The lanes of a port and its state (R217, R218) -/

section
variable (p : Nat) (mask : Byte) (on : Bool) (st : PortSt) (aligned : Bool) (s : State)

/-- What a change of a host lane leaves as it was, the locks of a port leave as it was. -/
theorem locksTo_same {β : Type} {g : State → β} (h : ∀ k f t, g (State.hlaneMod t k f) = g t) : g (locksTo p mask on s) = g s :=
  forEach_same (fun _ _ => h _ _ _) _ s

theorem locksTo_only (x : Tab HLane) : { locksTo p mask on s with hlane := x } = { s with hlane := x } :=
  locksTo_same p mask on s (g := fun t => { t with hlane := x }) (fun _ _ _ => rfl)

theorem locksTo_portAt (q : Nat) : (locksTo p mask on s).portAt q = s.portAt q :=
  locksTo_same p mask on s (g := fun t => t.portAt q) (fun _ _ _ => rfl)

theorem locksTo_mbx : (locksTo p mask on s).mbx = s.mbx := locksTo_same p mask on s (fun _ _ _ => rfl)

/-- The record of a port that enters a state, without the report of it. -/
def portEntered : State := s.portMod p (fun x => { x with st := st, aligned := aligned })

/-- A port enters a state and reports no more than that. -/
theorem enterPort_cases : enterPort p st aligned s = portEntered p st aligned s ∨
    ∃ op payload, enterPort p st aligned s = raise op payload (portEntered p st aligned s) := by
  unfold enterPort
  dsimp only
  split
  · exact .inl rfl
  · split
    · exact .inr ⟨_, _, rfl⟩
    · split
      · exact .inr ⟨_, _, rfl⟩
      · exact .inl rfl

theorem enterPort_portAt : (enterPort p st aligned s).portAt p = { s.portAt p with st := st, aligned := aligned } := by
  obtain quiet | ⟨op, payload, told⟩ := enterPort_cases p st aligned s
  · rw [quiet]
    exact State.portAt_portMod_self s p _
  · rw [told, State.portAt, raise_port]
    exact State.portAt_portMod_self s p _

theorem enterPort_only (x : Tab Port) (m : Mbx) :
    { enterPort p st aligned s with port := x, mbx := m } = { s with port := x, mbx := m } := by
  obtain quiet | ⟨op, payload, told⟩ := enterPort_cases p st aligned s
  · rw [quiet]
    rfl
  · rw [told, raise_eq]
    rfl

theorem enterPort_up (h : (s.portAt p).st ≠ .up) :
    enterPort p .up aligned s = raise 0x8801 [u8 p] (portEntered p .up aligned s) := by
  unfold enterPort
  dsimp only
  rw [if_neg h, if_pos rfl]
  rfl

theorem enterPort_down (was : (s.portAt p).st = .up) (h : st ≠ .up) :
    enterPort p st aligned s = raise 0x8802 [u8 p, st.code] (portEntered p st aligned s) := by
  unfold enterPort
  dsimp only
  rw [was, if_neg h.symm, if_neg h, if_pos rfl]
  rfl

/-- A port enters a state as lanes of it are acquired or lost. -/
def portMoved : State := enterPort p st aligned (locksTo p mask on s)

theorem portMoved_portAt : (portMoved p mask on st aligned s).portAt p = { s.portAt p with st := st, aligned := aligned } := by
  rw [portMoved, enterPort_portAt, locksTo_portAt]

theorem portMoved_only : { portMoved p mask on st aligned s with port := s.port, hlane := s.hlane, mbx := s.mbx } = s := by
  have entered := enterPort_only p st aligned (locksTo p mask on s) s.port s.mbx
  have locked := locksTo_only p mask on s s.hlane
  calc { portMoved p mask on st aligned s with port := s.port, hlane := s.hlane, mbx := s.mbx }
      _ = { locksTo p mask on s with port := s.port, hlane := s.hlane, mbx := s.mbx } :=
        congrArg (fun t : State => { t with hlane := s.hlane }) entered
      _ = s := congrArg (fun t : State => { t with port := s.port, mbx := s.mbx }) locked

theorem portMoved_up (h : (s.portAt p).st ≠ .up) (ht : TakesEvents s) :
    Queued 0x8801 [u8 p] (portMoved p mask on .up aligned s) := by
  rw [portMoved, enterPort_up _ _ _ (by rwa [locksTo_portAt])]
  refine raise_queued ?_
  unfold TakesEvents portEntered
  rwa [State.portMod_mbx, locksTo_mbx]

theorem portMoved_down (was : (s.portAt p).st = .up) (h : st ≠ .up) (ht : TakesEvents s) :
    Queued 0x8802 [u8 p, st.code] (portMoved p mask on st aligned s) := by
  rw [portMoved, enterPort_down _ _ _ _ (by rwa [locksTo_portAt]) h]
  refine raise_queued ?_
  unfold TakesEvents portEntered
  rwa [State.portMod_mbx, locksTo_mbx]

end

/-! ### A frame from the host is counted (R230, R420, R426) -/

/-- A port that has counted a received frame of `n` octets. -/
def Port.received (n : Nat) (x : Port) : Port := { x with rxFrames := wrapAdd x.rxFrames 1, rxOctets := wrapAdd x.rxOctets n }

/-- The state after a received frame of `n` octets is counted, ahead of its checks (log entry 55). -/
def frameCounted (p n : Nat) (s : State) : State :=
  countWindow 1 p n (countSource 0x31 p n (countSource 0x30 p 1 (portCount p (Port.received n) s)))

/-- What a received frame leaves after its count: the checks of R223 in order. -/
def frameChecked (p : Nat) (errored vlan : Bool) (f : Bytes) (s : State) : State :=
  if errored then portCount p (fun x => { x with rxErrored := wrapAdd x.rxErrored 1 }) s
  else if !fcsGood f then portCount p (fun x => { x with fcsErr := wrapAdd x.fcsErr 1 }) s
  else if !(if vlan then within 64 10240 f.length else within 72 10248 f.length) then
    portCount p (fun x => { x with lenErr := wrapAdd x.lenErr 1 }) s
  else if vlan then receiveVlan p f s else receiveTagged p f s

theorem exec_hostFrameReceive (port : BitVec 4) (fr : Frame) (s : State) : exec (.hostFrameReceive port fr) s =
    eventIf (s.portLive port.toNat && (s.portAt port.toNat).st.receives) (fun s => frameChecked port.toNat
      (fr.errored || bitOf s.skew.errQuads (port.toNat / 2)) (s.portAt port.toNat).vlan fr.octets
      (frameCounted port.toNat fr.octets.length s)) s := rfl

/-- Counting a frame moves the counters of its port, the performance counters and IRQ_STAT. -/
theorem frameCounted_eq (p n : Nat) (s : State) : frameCounted p n s =
    withCounts (frameCounted p n s).dma (frameCounted p n s).irq
      (s.portMod p (Port.received n)) := by
  unfold frameCounted portCount
  rw [countWindow_eq, countSource_eq 0x31, countSource_eq 0x30]
  rfl

section
variable (p n : Nat) (s : State)

theorem frameCounted_portAt : (frameCounted p n s).portAt p = (s.portAt p).received n := by
  rw [frameCounted_eq]
  exact State.portAt_portMod_self s p _

theorem frameCounted_streams : (frameCounted p n s).streams = s.streams := by rw [frameCounted_eq]; rfl
theorem frameCounted_txSlot : (frameCounted p n s).txSlot = s.txSlot := by rw [frameCounted_eq]; rfl
theorem frameCounted_etype : (frameCounted p n s).etype = s.etype := by rw [frameCounted_eq]; rfl
theorem frameCounted_clientAt (c : Nat) : (frameCounted p n s).clientAt c = s.clientAt c := by rw [frameCounted_eq]; rfl
theorem frameCounted_mustWait (x : Nat) : (frameCounted p n s).mustWait x = s.mustWait x := by rw [frameCounted_eq]; rfl

end

/-! ### The checks of a frame from the host (R223) -/

/-- No region is in the multiframe of a slip (R18). -/
theorem bitOf_errQuads_zero {s : State} (h : s.skew.errQuads = 0) (q : Nat) : bitOf s.skew.errQuads q = false := by
  rw [h]
  exact BitVec.getLsbD_zero

theorem frameChecked_fcsErr {f : Bytes} (p : Nat) (vlan : Bool) (s : State) (h : fcsGood f = false) :
    frameChecked p false vlan f s = portCount p (fun x => { x with fcsErr := wrapAdd x.fcsErr 1 }) s := by
  rw [frameChecked, h]
  rfl

/-- A good frame of the host-tag lengths goes on to its tag. -/
theorem frameChecked_tagged {f : Bytes} (p : Nat) (s : State) (good : fcsGood f = true) (h1 : 72 ≤ f.length)
    (h2 : f.length ≤ 10248) : frameChecked p false false f s = receiveTagged p f s := by
  have size : within 72 10248 f.length = true := by rw [within, decide_eq_true h1, decide_eq_true h2, Bool.true_and]
  unfold frameChecked
  rw [if_neg Bool.false_ne_true, good, if_neg Bool.false_ne_true, if_neg Bool.false_ne_true, size]
  rfl

theorem receiveTagged_missing {f : Bytes} (p : Nat) {s : State} (h : slice f 12 2 ≠ beN 2 s.etype.toNat) :
    receiveTagged p f s = portCount p (fun x => { x with tagMissing := wrapAdd x.tagMissing 1 }) s := if_pos h

/-- What a frame with this host tag asks of the add path (R221, R223 step 6). -/
def taggedReq (f : Bytes) : AddReq :=
  { client := ofBe (slice f 14 6) / 2 ^ 30 % 1024, idType := ofBe (slice f 14 6) / 2 ^ 46
    ident := ofBe (slice f 14 6) % 2 ^ 18, frame := withoutHtag f }

theorem receiveTagged_enters {f : Bytes} (p : Nat) {s : State} (tag : slice f 12 2 = beN 2 s.etype.toNat)
    (ok : htagOk (ofBe (slice f 14 6)) = true) (active : cliActive (s.clientAt (taggedReq f).client).entry = true) :
    receiveTagged p f s = enterAdd (taggedReq f) s := by
  have active' : cliActive (s.clientAt (ofBe (slice f 14 6) / 2 ^ 30 % 1024)).entry = true := active
  unfold receiveTagged
  dsimp only
  rw [if_neg (not_not_intro tag), ok, active']
  rfl

/-- A request that waits for a lookup with places left, or behind its stream, joins the queue (R190, R204). -/
theorem enterAdd_queued {r : AddReq} {s : State} (ready : s.streams.ready = true)
    (waits : r.idType = 1 → s.mustWait r.ident = true)
    (room : r.idType ≠ 1 → s.streams.queueAdd.countP (fun q => q.idType != 1) < 512) :
    enterAdd r s = strMod (fun e => { e with queueAdd := e.queueAdd ++ [r] }) s := by
  have later : (!s.streams.ready || (r.idType == 1 && !s.mustWait r.ident)) = false := by
    rw [ready]
    by_cases h : r.idType = 1
    · rw [waits h, Bool.not_true, Bool.and_false, Bool.false_or]
    · rw [beq_eq_false_iff_ne.mpr h, Bool.false_and, Bool.not_true, Bool.false_or]
  have place : ¬(r.idType ≠ 1 ∧ 512 ≤ s.streams.queueAdd.countP (fun q => q.idType != 1)) :=
    fun ⟨h, full⟩ => Nat.not_le.mpr (room h) full
  unfold enterAdd
  dsimp only
  rw [if_neg (ne_true_of_eq_false later), if_neg place]

/-! ### The events -/

section
variable {s : State} {p : BitVec 4}

theorem exists_hostFrameReceive {fr : Frame} {P : State → Prop} (hl : Live s) (live : s.portLive p.toNat = true)
    (takes : (s.portAt p.toNat).st.receives = true) (slips : s.skew.errQuads = 0)
    (hP : P (frameChecked p.toNat fr.errored (s.portAt p.toNat).vlan fr.octets (frameCounted p.toNat fr.octets.length s))) :
    ∃ t, Completes (.hostFrameReceive p fr) s t ∧ P t := by
  refine exists_eventIf (exec_hostFrameReceive p fr s) hl (by rw [live, takes]; rfl) ?_
  rwa [bitOf_errQuads_zero slips, Bool.or_false]

/-- A frame that fails a check moves the counter of that check beside those of every frame. -/
theorem exists_hostFrameReceive_fails {fr : Frame} {g : Port → Port} (hl : Live s) (live : s.portLive p.toNat = true)
    (takes : (s.portAt p.toNat).st.receives = true) (slips : s.skew.errQuads = 0)
    (fails : frameChecked p.toNat fr.errored (s.portAt p.toNat).vlan fr.octets (frameCounted p.toNat fr.octets.length s) =
      portCount p.toNat g (frameCounted p.toNat fr.octets.length s)) :
    ∃ t, Completes (.hostFrameReceive p fr) s t ∧ t.portAt p.toNat = g ((s.portAt p.toNat).received fr.octets.length)
      ∧ t.streams = s.streams ∧ t.txSlot = s.txSlot := by
  refine exists_hostFrameReceive hl live takes slips ?_
  rw [fails, portCount, State.portAt_portMod_self, frameCounted_portAt, State.portMod_streams, State.portMod_txSlot,
    frameCounted_streams, frameCounted_txSlot]
  exact ⟨rfl, rfl, rfl⟩

theorem exists_hostFrameReceive_enters {f : Bytes} (hl : Live s) (live : s.portLive p.toNat = true)
    (takes : (s.portAt p.toNat).st.receives = true) (slips : s.skew.errQuads = 0) (vlan : (s.portAt p.toNat).vlan = false)
    (good : fcsGood f = true) (h1 : 72 ≤ f.length) (h2 : f.length ≤ 10248) (tag : slice f 12 2 = beN 2 s.etype.toNat)
    (ok : htagOk (ofBe (slice f 14 6)) = true) (active : cliActive (s.clientAt (taggedReq f).client).entry = true)
    (ready : s.streams.ready = true) (waits : (taggedReq f).idType = 1 → s.mustWait (taggedReq f).ident = true)
    (room : (taggedReq f).idType ≠ 1 → s.streams.queueAdd.countP (fun q => q.idType != 1) < 512) :
    ∃ t, Completes (.hostFrameReceive p { octets := f }) s t
      ∧ t.streams.queueAdd = s.streams.queueAdd ++ [taggedReq f] ∧ t.txSlot = s.txSlot := by
  refine exists_hostFrameReceive hl live takes slips ?_
  rw [vlan, frameChecked_tagged _ _ good h1 h2,
    receiveTagged_enters _ (by rwa [frameCounted_etype]) ok (by rwa [frameCounted_clientAt]),
    enterAdd_queued (by rwa [frameCounted_streams]) (by rwa [frameCounted_mustWait]) (by rwa [frameCounted_streams])]
  rw [strMod, frameCounted_streams, frameCounted_txSlot]
  exact ⟨rfl, rfl⟩

/-- The state after the front of an egress buffer has been sent (R224, R226). -/
def hostFrameSent (p : Nat) (e : Egress) (r : List Egress) (s : State) : State :=
  countSource 0x33 p (s.hostFrame p e).length (countSource 0x32 p 1 (portCount p (fun x =>
    { x with egress := r, sent := s.hostFrame p e, sentErr := bitOf s.skew.errQuads (p / 2)
             txFrames := wrapAdd x.txFrames 1, txOctets := wrapAdd x.txOctets (s.hostFrame p e).length }) s))

theorem countSource_portAt (src idx n : Nat) (s : State) (q : Nat) : (countSource src idx n s).portAt q = s.portAt q := by
  rw [countSource_eq]
  rfl

theorem hostFrameSent_portAt (p : Nat) (e : Egress) (r : List Egress) (s : State) : (hostFrameSent p e r s).portAt p =
    { s.portAt p with
      egress := r, sent := s.hostFrame p e, sentErr := bitOf s.skew.errQuads (p / 2)
      txFrames := wrapAdd (s.portAt p).txFrames 1, txOctets := wrapAdd (s.portAt p).txOctets (s.hostFrame p e).length } := by
  rw [hostFrameSent, countSource_portAt, countSource_portAt]
  exact State.portAt_portMod_self s p _

theorem hostFrameTransmit_completes {e : Egress} {r : List Egress} (hl : Live s) (live : s.portLive p.toNat = true)
    (up : (s.portAt p.toNat).st = .up) (front : (s.portAt p.toNat).egress = e :: r) :
    Completes (.hostFrameTransmit p) s (hostFrameSent p.toNat e r s) := by
  have running : s.sys.inReset = false := hl
  have sends : (s.portLive p.toNat && decide ((s.portAt p.toNat).st = .up) && !(s.portAt p.toNat).egress.isEmpty) = true := by
    rw [live, up, front]
    rfl
  show execHostFrameTransmit p s = .next _
  unfold execHostFrameTransmit eventIf
  dsimp only
  rw [running, if_neg Bool.false_ne_true, if_pos sends, front]
  rfl

/-- A host lane that has taken a measurement and the counts of its FEC (R216, R232). -/
def HLane.measured (q : HostMeas) (fec : List Nat) (h : HLane) : HLane :=
  { h with
    lock := q.lock
    eqf := eqfOf q.eye
    ctleNow := if h.ctle.isSome then h.ctleNow else BitVec.ofNat 8 (min 36 q.ctle.toNat)
    ffe := if h.freeze then h.ffe else (q.ffe ++ List.replicate 32 0).take 32
    rsCw := wrapAdd h.rsCw (fec.getD 0 0), rsCorr := wrapAdd h.rsCorr (fec.getD 1 0)
    rsUncorr := wrapAdd h.rsUncorr (fec.getD 2 0), rsSym := wrapAdd h.rsSym (fec.getD 3 0) }

theorem HLane.measured_peaking (q : HostMeas) (fec : List Nat) {h : HLane} (fixed : h.ctle ≠ none) :
    (h.measured q fec).peaking = h.peaking := by
  obtain ⟨v, hv⟩ := Option.ne_none_iff_exists'.mp fixed
  unfold HLane.peaking HLane.measured
  dsimp only
  rw [hv]
  rfl

theorem exec_hostLaneEqfUpdate (h : BitVec 5) (q : HostMeas) (fec : List Nat) (s : State) : exec (.hostLaneEqfUpdate h q fec) s =
    eventIf (s.quadOn (h.toNat / 4)) (fun s => s.hlaneMod h.toNat (HLane.measured q fec)) s := rfl

end

/-- Settles O34: a port event is `portMoved`, with its report where the port enters or leaves UP; a frame from the host is
counted, and then either fails one check of `frameChecked` or joins the add path (`enterAdd_queued`). -/
theorem hostPorts : Obligations.HostPorts := by
  refine ⟨fun s p hl live => ⟨fun st => ?aligned, fun st => ?remoteFault, fun lost lf st => ?linkLoss,
      fun st al => ?faultClear, fun h q a b c d on => ?eqf⟩,
    fun s p x hl live hx slips => ?frames⟩
  case aligned =>
    refine exists_eventIf (c := .hostPortAligned p) (f := portMoved p.toNat 0xFF true .up true) rfl hl (by rw [live, st]; rfl) ?_
    refine ⟨?_, portMoved_up _ _ _ _ s (by rw [st]; decide), portMoved_only _ _ _ _ _ s⟩
    rw [portMoved_portAt]
  case remoteFault =>
    refine exists_eventIf (c := .hostRemoteFault p) (f := portMoved p.toNat 0xFF true .remoteFault true) rfl hl
      (by rw [live, st]; rfl) ?_
    refine ⟨?_, portMoved_down _ _ _ .remoteFault _ s st (by decide), portMoved_only _ _ _ _ _ s⟩
    rw [portMoved_portAt]
  case linkLoss =>
    refine exists_eventIf (c := .hostPortLinkLoss { port := p, lanes := lost, localFault := lf })
      (f := portMoved p.toNat lost false .acquire (lf && lost == 0)) rfl hl (by rw [live, st]; rfl) ?_
    refine ⟨?_, ?_, portMoved_down _ _ _ .acquire _ s st (by decide), portMoved_only _ _ _ _ _ s⟩
    · rw [portMoved_portAt]
    · rw [portMoved_portAt]
  case faultClear =>
    have below : (s.portAt p.toNat).st ≠ .up := by rw [st]; decide
    refine exists_eventIf (c := .hostFaultClear p) rfl hl (by rw [live, st, al]; rfl) ?_
    refine ⟨?_, fun ht => ?_, enterPort_only _ _ _ s s.port s.mbx⟩
    · rw [enterPort_portAt]
    · rw [enterPort_up _ _ _ below]
      exact raise_queued ht
  case eqf =>
    refine exists_eventIf (exec_hostLaneEqfUpdate h q [a, b, c, d] s) hl on ?_
    rw [State.hlaneAt_hlaneMod_self]
    exact ⟨rfl, rfl, rfl, fun frozen => if_pos frozen, HLane.measured_peaking q _, rfl, rfl, rfl, rfl, rfl⟩
  case frames =>
    subst hx
    refine ⟨fun f takes => ?errored, fun f takes bad => ?fcs, fun f takes vlan good h1 h2 tag => ?untagged,
      fun f takes vlan good h1 h2 tag ok active ready empty byKey => ?entered,
      fun f takes vlan good h1 h2 tag ok active ready byIndex behind => ?waiting, fun e r up front => ?sent⟩
    case errored =>
      obtain ⟨t, done, port, kept⟩ := exists_hostFrameReceive_fails (fr := { octets := f, errored := true }) hl live takes
        slips (if_pos rfl)
      exact ⟨t, done, congrArg Port.rxErrored port, congrArg Port.rxFrames port, kept⟩
    case fcs =>
      obtain ⟨t, done, port, kept⟩ := exists_hostFrameReceive_fails (fr := { octets := f }) hl live takes slips
        (frameChecked_fcsErr _ _ _ bad)
      exact ⟨t, done, congrArg Port.fcsErr port, congrArg Port.rxOctets port, kept⟩
    case untagged =>
      obtain ⟨t, done, port, kept⟩ := exists_hostFrameReceive_fails (fr := { octets := f }) hl live takes slips (by
        rw [vlan, frameChecked_tagged _ _ good h1 h2, receiveTagged_missing _ (by rwa [frameCounted_etype])])
      exact ⟨t, done, congrArg Port.tagMissing port, kept⟩
    case entered =>
      have found := exists_hostFrameReceive_enters hl live takes slips vlan good h1 h2 tag ok active ready
        (fun h => absurd h byKey) (fun _ => by rw [empty]; decide)
      rwa [empty] at found
    case waiting =>
      have found := exists_hostFrameReceive_enters hl live takes slips vlan good h1 h2 tag ok active ready
        (fun _ => behind) (fun h => absurd byIndex h)
      rwa [taggedReq, byIndex] at found
    case sent =>
      refine ⟨_, hostFrameTransmit_completes hl live up front, ?_⟩
      rw [hostFrameSent_portAt]
      exact ⟨rfl, rfl, rfl, rfl⟩

end Sys2Proof.Machine
end

section
/-! A host port whose width is none of R213, and its lanes (R213, R217): a port gives up its lanes through a mask of eight
bits, so a ninth lane keeps its lock. -/

namespace Sys2Proof.Machine

/-- The MCP runs at Tier 1, and port 0 is in ACQUIRE with nine lanes, the ninth of them acquired. R213 has no such width, and
no command sets it. -/
def nineLanes : State :=
  { sys := { rsynLock := true, tier0 := true, tier := 1, fwRun := true, fwEver := true }
    pwr := { cur := 1 }
    mbx := { mode := .fw }
    port := [(0, { st := .acquire, width := 9 })]
    hlane := [(8, { lock := true })] }

/-- Port 0 is disabled at width 1, without tag and inversion. -/
def nineLanesDisabled : State := (cmdHostPortConfig 0 0 1 0 0 0 nineLanes).execute 0x0802 nineLanes

theorem nineLanes_takes : Takes 0x0802 nineLanes := ⟨by decide, by decide⟩

theorem nineLanes_disabled : exec (.hostPortConfig 0 0 1 0 0 0) nineLanes = .next nineLanesDisabled := by
  obtain ⟨runs, -⟩ := nineLanes_takes
  have passed : parax 0x0802 (cmdHostPortConfig 0 0 1 0 0 0) nineLanes = .next nineLanesDisabled := by
    rw [parax, if_pos runs, nineLanesDisabled]
  exact passed

theorem nineLanesDisabled_lock : (nineLanesDisabled.hlaneAt 8).lock = true := by decide +kernel

/-- Refutes O33: the clause on disabling a port has no premise on the width that the port had, and with `nineLanes` the ninth
lane keeps its lock; with the widths of R213 the mask covers every lane. -/
theorem not_hostCommands : ¬ Obligations.HostCommands := by
  unfold Obligations.HostCommands
  intro h
  obtain ⟨-, -, -, disabling, -⟩ := h nineLanes 0 0 rfl (by decide)
  obtain ⟨t, answered, -, -, lost, -⟩ :=
    disabling 1 0 0 0 nineLanes_takes (by decide) (by decide) (by decide) (by decide) (by decide)
  have left : { t with resp := { opcode := 0x0802, status := Status.ok.code, payload := [] } } = nineLanesDisabled := by
    unfold Answers at answered
    rw [nineLanes_disabled] at answered
    injection answered with same
    exact same.symm
  have ninth : (t.hlaneAt 8).lock = false := lost (by decide) 8 (by decide)
  have kept : (t.hlaneAt 8).lock = true := (congrArg (fun u : State => (u.hlaneAt 8).lock) left).trans nineLanesDisabled_lock
  rw [ninth] at kept
  exact Bool.false_ne_true kept

end Sys2Proof.Machine
end
